-- ==== Sys2Proof/Word.lean ====
section
/-! DEFINITION. The words of the machine and the plain data that commands carry as operands. -/

namespace Sys2Proof

/-- A register word (R589). -/
abbrev Word := BitVec 32

/-- A byte. -/
abbrev Byte := BitVec 8

/-- A mailbox word, a general register of a take, a word of a Drift table (R26, R37, R46). -/
abbrev DWord := BitVec 64

/-- A path by which registers are read, with its own latches (R592): the Director, the management
BAR of a partition, I3C, JTAG. -/
inductive Path where
  | director
  | bar (p : Fin 48)
  | i3c
  | jtag
  deriving DecidableEq, Repr

/-- The two byte-wide paths of R28. -/
inductive BytePath where
  | i3c
  | jtag
  deriving DecidableEq, Repr

/-- A configuration-space register of a function that a host writes. The spec gives no capability
layout, so a write names the register beside its offset (log entry 8). `other` is a register whose value
the device only keeps. -/
inductive CfgReg where
  | command | busNumbers | memWindow | prefWindow | prefBaseHi | prefLimitHi
  | bar (i : Fin 2) | bridgeCtl
  /-- The PCI Express capability; a control register stands with its status in one dword. -/
  | pcieCap | devCap | devCtl | linkCap | linkCtl | slotCap | slotCtl | devCap2 | linkCap2
  | pmCap | pmcsr
  /-- L1 PM Substates Capabilities and Control 1. -/
  | l1ssCap | aspmSub
  /-- Device Capabilities 3 and Device Control 3. -/
  | devCap3 | flitL0p
  | acs | acsVector
  /-- DPC Capability and Control, and DPC Status. -/
  | dpcCtl | dpcStat
  | secPcie
  /-- AER: uncorrectable status, mask and severity, correctable status and mask. -/
  | aerStat | aerMask | aerSev | aerCor | aerCorMask
  /-- Subsystem identifiers of a bridge, and the words of the Device Serial Number. -/
  | ssid | serial (i : Fin 2)
  | other
  /-- The low or the high word of emulated BAR pair `j` of the function of binding `b` (R322). -/
  | vfBar (b : Fin 4096) (j : Fin 2) (hi : Bool)
  deriving DecidableEq, Repr

end Sys2Proof
end

