-- ==== Sys2Proof/Packet.lean ====
section
/-! DEFINITION. What arrives at and leaves the links: TLPs, fabric packets and their payloads, and
short packets (R224 to R230, R334, R339, R438). Fields are plain numbers; `WellFormed` bounds them. -/

namespace Sys2Proof

/-- The kinds of TLP that the FM9192 tells apart. -/
inductive TlpKind where
  | memRd | memRdLock | memWr | atomic | io | cfgRd | cfgWr | cpl
  /-- A message routed to the root complex: errors, interrupts, power management (R316). -/
  | msgUp
  /-- A message broadcast from the root complex. -/
  | msgDown
  /-- A message routed by identifier. -/
  | msgId
  /-- The Unlock message (R207). -/
  | unlock
  /-- Assert_INTx or Deassert_INTx from a device: the pin, and whether it asserts (R197). -/
  | intx (pin : Fin 4) (on : Bool)
  deriving DecidableEq, Repr

/-- A TLP as the transaction layer holds it (R334). `span` is the number of bytes from the first to the
last that a request addresses, and the `addr` of a configuration request is its byte offset in configuration space; `hdr` counts its header and prefix bytes; `cid` is the completer of a
completion, or the target of an identifier-routed TLP; `status` the completion status. -/
structure Tlp where
  kind : TlpKind
  addr : Nat := 0
  span : Nat := 0
  hdr : Nat := 16
  tc : Nat := 0
  req : Nat := 0
  tag : Nat := 0
  cid : Nat := 0
  ep : Bool := false
  translated : Bool := false
  status : Nat := 0
  data : List Byte := []
  /-- The PASID of a slice's request (R384, R473). -/
  pasid : Option Nat := none
  /-- The operation of an AtomicOp: 0 FetchAdd, 1 Swap, 2 CAS (R416). -/
  aop : Nat := 0
  deriving DecidableEq, Repr

/-- Length in bytes (R363). -/
def Tlp.length (t : Tlp) : Nat := t.hdr + t.data.length

/-- Is it a posted request? -/
def Tlp.posted (t : Tlp) : Bool :=
  match t.kind with
  | .memWr | .msgUp | .msgDown | .msgId | .unlock | .intx .. => true
  | _ => false

/-- Is it a completion? -/
def Tlp.isCpl (t : Tlp) : Bool := t.kind == .cpl

/-- Is it a non-posted request? -/
def Tlp.nonPosted (t : Tlp) : Bool := !t.posted && !t.isCpl

/-- The domain word of a tunnelled TLP (R334); PAD follows from the length. -/
structure Dom where
  domain : Nat
  part : Nat
  lock : Bool := false
  cont : Bool := false
  deriving DecidableEq, Repr

/-- The FME header (R438). -/
structure FmeHdr where
  pt : Nat
  /-- The packet belongs to a WRITE_IMM: R438 and R439 name no field that tells (log entry 40). -/
  imm : Bool := false
  /-- The TSE of an RRESP or ARESP (R443), for which R439 names no field (log entry 41). -/
  tse : Nat := 0
  lastp : Bool := false
  cont : Bool := false
  high : Bool := false
  aop : Nat := 0
  domain : Nat := 0
  rkey : Nat := 0
  off : Nat := 0
  tq : Nat := 0
  mid : Nat := 0
  sfme : Nat := 0
  pidx : Nat := 0
  arg : Nat := 0
  deriving DecidableEq, Repr

/-- The payload of a fabric packet. -/
inductive PBody where
  /-- A TLP packet, or the FIRST of a pair with the data it carries (R334, R335). -/
  | tlp (d : Dom) (t : Tlp)
  /-- The REST of a pair (R335). -/
  | tlpRest (d : Dom) (data : List Byte)
  /-- An FME packet (R438). -/
  | fme (h : FmeHdr) (data : List Byte)
  /-- An MGMT packet (R339): OP, END, PORT, ASSERT and the words. -/
  | mgmt (op : Nat) (fin : Bool) (port : Nat) (assert : Bool) (ws : List DWord)
  deriving DecidableEq, Repr

/-- A fabric packet (R224). -/
structure Packet where
  type : Nat
  vc : Nat
  dnode : Nat
  dport : Nat := 0
  snode : Nat
  sport : Nat := 0
  seq : Nat := 0
  ack : Nat := 0
  ackv : Bool := true
  colour : Nat := 0
  poison : Bool := false
  len : Nat
  flowhash : Nat := 0
  ts : Nat := 0
  path : Nat := 0
  body : PBody
  deriving DecidableEq, Repr

/-- One sample of the inputs of a Slot Power Controller (R490): VIN_A, VIN_B and VOUT_SNS in steps of 4 mV, the
shunt in steps of 12.5 µV, GATE - SRC of feeds A and B in steps of 60 mV, and whether PRSNT_N is low. -/
structure SpcSample where
  vinA : Fin 4096
  vinB : Fin 4096
  vout : Fin 4096
  shunt : BitVec 13
  gsA : Fin 256
  gsB : Fin 256
  prsnt : Bool
  deriving DecidableEq, Repr

/-- A deferrable item (R526): the re-adaptation of a lane, the Drift scrub of the present 1 GiB segment, the oldest
statistics sweep. -/
inductive DeferItem where
  | readapt (n : Fin 24) (l : Fin 9)
  | scrub
  | sweep
  deriving DecidableEq, Repr

/-- Where the Drift scrub finds an uncorrectable error (R564): a block of the VOQ pool, an entry of the region key
table, a queue context, a slot of the slate log, word `i` of the inbound FIFO of a mailbox. -/
inductive DriftUe where
  | pool (block : Nat)
  | key (idx : Fin 1048576)
  | queue (q : Fin 65536)
  | slate (slot : Fin 1048576)
  | mail (m : Fin 64) (i : Nat)
  deriving DecidableEq, Repr

/-- An SPDM request that is signed or measured (R551, R552): CHALLENGE with its slot, summary type (1 TCB, 2 all) and
nonce; GET_MEASUREMENTS with its index (0 the count, 255 all), whether it asks for a signature, its slot and nonce. -/
inductive SpdmReq where
  | challenge (slot : Fin 16) (sum : Fin 256) (nonce : BitVec 256)
  | measure (index : Fin 256) (sign : Bool) (slot : Fin 16) (nonce : BitVec 256)
  deriving DecidableEq, Repr

/-- An SPDM response (R551, R552). Error codes are those of DSP0274. -/
inductive SpdmReply where
  /-- VERSION: one entry. -/
  | version (v : Nat)
  /-- CAPABILITIES: CTExponent, DataTransferSize and MaxSPDMmsgSize; the flags are CERT, CHAL, MEAS with signatures, MEAS_FRESH. -/
  | capabilities (ctExp size : Nat)
  /-- ALGORITHMS: whether ML-DSA-65 and SHA3-384 are selected; measurement specification DMTF. -/
  | algorithms (mldsa sha3 : Bool)
  | digests (slot0 : BitVec 384)
  | certificate (portion : List Byte) (remainder : Nat)
  | challengeAuth (chain : BitVec 384) (summary : Option (BitVec 384)) (sig : BitVec 26472)
  | measurements (count : Nat) (blocks : List (Nat × List Byte)) (sig : Option (BitVec 26472))
  | error (code : Nat)
  deriving DecidableEq, Repr

/-- A Lane Margining command (R180): a step to the right or left of the eye's centre, or up or down; or the report of the
parameters. -/
inductive MarginCmd where
  | step (voltage positive : Bool) (offset : Fin 64)
  | report
  deriving DecidableEq, Repr

/-- What begins a partition reset at an upstream port (R203): PERST_N low, a Hot Reset, DL_Down. -/
inductive ResetBy where
  | perst | hot | down
  deriving DecidableEq, Repr

/-- The straps as sampled (R114). -/
structure Straps where
  spiq : Bool
  i3ca : Fin 8
  test : Bool
  deriving DecidableEq, Repr

/-- How a packet stands when the receiver has read it (R219, R222, R227, R239). With a CRC error or a payload byte marked
bad, `begun` tells that the station has begun to forward the packet in cut-through. -/
inductive Reception where
  | good | stomped
  | crcBad (begun : Bool)
  | framingLost | groupBad
  deriving DecidableEq, Repr

/-- What the check of a cell says when it is read from storage (R271, R564): good, corrected, or an
uncorrectable error in its payload or in its header, with the array index that GLB_ERR_LOG shows. -/
inductive CellErr where
  | none | corrected
  | payload (loc : Nat)
  | header (loc : Nat)
  deriving DecidableEq, Repr

/-- The body of a short packet (R230). -/
inductive ShortBody where
  | ack (nes : Nat) (nak : Bool)
  | credit (half : Nat) (cum : List Nat)
  | retrainReq (op tw sel node : Nat)
  | retrainAck (op tw sel node : Nat)
  | width (node stn port w nes : Nat) (init : Bool)
  | timeSync (ph tag psync : Bool) (time turn : Nat)
  | wire (dnode dport wire : Nat) (level : Bool) (wcnt : Nat)
  | lockReq (dnode dport snode sport part ltag op : Nat)
  | lockGnt (dnode dport snode sport ltag res : Nat)
  | pfn0 (ftag dnode part req hi cause : Nat)
  | pfn1 (ftag dnode lo : Nat)
  deriving DecidableEq, Repr

/-- A short packet: its bypass sequence number and BACK (R229). -/
structure Short where
  bseq : Nat
  back : Nat
  body : ShortBody
  deriving DecidableEq, Repr

/-- BSEQ, BACK and BOUND of a received short packet, and the slot of the reserved position in which it came (R223, R229). -/
structure ShortHdr where
  bseq : Nat
  back : Nat
  slot : Fin 2 := 1
  bound : Nat := 0x1FF
  deriving DecidableEq, Repr

/-- Flow-control types of PCI Express. -/
inductive FcType where
  | posted | nonPosted | cpl
  deriving DecidableEq, Repr

end Sys2Proof
end

