-- ==== Sys2Proof/Syntax.lean ====
section
/-! DEFINITION. The commands of the block: one constructor for each row of the table of operations
and events (spec/opcode_table.json), in the table's order, with the row's operands. A command that
names an event of the device's surroundings carries what comes from outside (a word, a packet, a
measurement); a command that names an instruction of Tylyn carries nothing, since its fields stand in
the word at the program counter of the executing take (R38). -/

namespace Sys2Proof

/-- A command (one row of the table each). -/
inductive Instr where
  /-- IN_WORD (R26): A write to a mailbox's IN_WORD port adds one word to the open take, or discards
      it under the drop rules. -/
  | inWord (p : Fin 48) (m : Fin 64) (full : Bool) (d : DWord)
  /-- IN_LAST (R31): A write to IN_LAST adds one word carrying the end mark, closing the packet or
      ending a discard run. -/
  | inLast (p : Fin 48) (m : Fin 64) (full : Bool) (d : DWord)
  /-- MAILBOX_BYTE (R28): A byte arrives on the I3C or JTAG path and joins a partial word; a byte at
      another port discards the partial word. -/
  | mailboxByte (path : BytePath) (m : Fin 64) (last : Bool) (b : Byte)
  /-- OUT_WORD (R29): A read of OUT_WORD removes and returns the oldest outbound word and updates
      LASTPOP and the counts. -/
  | outWord (path : Path) (m : Fin 64) (full : Bool)
  /-- TAKE_SELECT (R36): The free Director selects the next whole packet by round robin over
      mailboxes with outbound room and begins the take. -/
  | takeSelect (ue : Bool)
  /-- NOP (R39): Instruction NOP does nothing. -/
  | nop
  /-- ADD (R39): Instruction ADD writes Ga + Gb modulo 2^64 to Gd. -/
  | add
  /-- SUB (R39): Instruction SUB writes Ga − Gb to Gd. -/
  | sub
  /-- AND (R39): Instruction AND writes Ga and Gb to Gd. -/
  | and
  /-- OR (R39): Instruction OR writes Ga or Gb to Gd. -/
  | or
  /-- XOR (R39): Instruction XOR writes Ga xor Gb to Gd. -/
  | xor
  /-- SHL (R39): Instruction SHL shifts Ga left by Gb[5:0]. -/
  | shl
  /-- SHR (R39): Instruction SHR shifts Ga right by Gb[5:0] with zeros in. -/
  | shr
  /-- SAR (R39): Instruction SAR shifts Ga right by Gb[5:0] with the sign in. -/
  | sar
  /-- MUL (R39): Instruction MUL writes the low 64 bits of Ga × Gb. -/
  | mul
  /-- ADDI (R39): Instruction ADDI adds the sign-extended immediate to Ga. -/
  | addi
  /-- ANDI (R39): Instruction ANDI ands Ga with the zero-extended immediate. -/
  | andi
  /-- ORI (R39): Instruction ORI ors Ga with the zero-extended immediate. -/
  | ori
  /-- XORI (R39): Instruction XORI xors Ga with the zero-extended immediate. -/
  | xori
  /-- SHLI (R39): Instruction SHLI shifts Ga left by imm16[5:0]. -/
  | shli
  /-- SHRI (R39): Instruction SHRI shifts Ga right by imm16[5:0] with zeros in. -/
  | shri
  /-- LDI_LO (R39): Instruction LDI.LO loads a 16-bit immediate into Gd, clearing the upper bits
      when k = 0. -/
  | ldiLo
  /-- LDI_HI (R39): Instruction LDI.HI loads a 16-bit immediate into the upper half of Gd. -/
  | ldiHi
  /-- RDREG (R45): Instruction RDREG reads a register of the Active Set, the journalled Shadow Set
      or the live value, after decode and protection checks. -/
  | rdreg
  /-- WRREG (R50): Instruction WRREG journals a write to the Shadow Set, or ends the take ADDRESS,
      PROTECT or SEALED. -/
  | wrreg
  /-- WRLIVE (R52): Instruction WRLIVE writes a live or W1C register at once after protection and
      budget checks; it is also the step for live writes to registers with no row of their own. -/
  | wrlive
  /-- TBLR (R46): Instruction TBLR reads one word of a Drift table entry after protection and range
      checks. -/
  | tblr
  /-- TBLW (R46): Instruction TBLW writes one word of the region key table or a queue context at
      once, after the checks of R46. -/
  | tblw
  /-- BR (R40): Instruction BR adds a signed offset to the program counter. -/
  | br
  /-- BRC (R41): Instruction BRC branches when its condition on Ga and Gb holds. -/
  | brc
  /-- CALL (R40): Instruction CALL pushes PC + 1 and branches. -/
  | call
  /-- RET (R40): Instruction RET pops the return stack into PC. -/
  | ret
  /-- HALT (R62): Instruction HALT commits the journal and ends the take with status OK and results
      G1 to Gn. -/
  | halt
  /-- NOW (R47): Instruction NOW writes fabric time to Gd. -/
  | now
  /-- WAITT (R47): Instruction WAITT waits until fabric time reaches Ga, or ends TIMEOUT when Ga is
      too far ahead. -/
  | waitt
  /-- WAITT_ELAPSE (R47): Fabric time reaches the target of a waiting WAITT and the take resumes. -/
  | waittElapse
  /-- WAITCUE (R48): Instruction WAITCUE begins waiting for the next pulse on a cue line, subject to
      line ownership. -/
  | waitcue
  /-- WAITCUE_TIMEOUT (R48): The timeout of a waiting WAITCUE expires and Gd is set to 0. -/
  | waitcueTimeout
  /-- FIRECUE (R49): Instruction FIRECUE emits one pulse on a cue line it may use. -/
  | firecue
  /-- CUT (R70): Instruction CUT checks conditions, commits the journal and swaps the sets now,
      starting the cut long operation. -/
  | cut
  /-- CUTAT (R54): Instruction CUTAT commits the journal and schedules a swap at fabric time Ga,
      sealing the Shadow Set. -/
  | cutat
  /-- ABORT (R63): Instruction ABORT with C = 0 ends the take ABORTED. -/
  | abort
  /-- ABORT_CANCEL (R53): Instruction ABORT with C = 1 cancels a pending CUTAT and clears CUTPEND.
      -/
  | abortCancel
  /-- NOTE (R52): Instruction NOTE appends a NOTE entry with Ga and a tag to the slate log. -/
  | note
  /-- TAKE_LIMIT_EXPIRE (R61): A take reaches 2 ms of counted execution and ends TIMEOUT. -/
  | takeLimitExpire
  /-- LONGOP_OVERRUN (R57): A long operation passes 2 ms; BUSY clears and the take ends OVERRUN. -/
  | longopOverrun
  /-- LOCKSTEP_MISMATCH (R66): The sequencers disagree; they restart from the last checkpoint, or
      the take ends LOCKSTEP on a second mismatch. -/
  | lockstepMismatch
  /-- CONFIG_WRITE_ARRIVAL (R194): A host configuration write arrives and is held in the ingress
      buffer under non-posted credits. -/
  | configWriteArrival (q : Fin 48) (fn : Fin 34) (r : CfgReg) (off : Fin 1024) (be : Fin 16) (data : Word) (req tag : Nat)
  /-- CONFIG_WRITE_SERVE (R193): The Director serves a held configuration write as an internal take
      with one live write and completes it. -/
  | configWriteServe
  /-- CUTAT_FIRE (R76): Local fabric time reaches a pending CUTAT's time; the conditions are checked
      again and the swap begins. -/
  | cutatFire
  /-- CUT_COPY_DONE (R73): The copy of the new Active Set into the Shadow Set completes, the cut
      ends and BUSY clears. -/
  | cutCopyDone
  /-- CHECKPOINT_IDLE_TIMER (R85): 10 s pass after an uncovered chained entry and a CHECKPOINT entry
      is appended. -/
  | checkpointIdleTimer
  /-- CHECKPOINT_SIGN_DONE (R85): The signature of a checkpoint is written into its reserved slots
      and SIGNING clears. -/
  | checkpointSignDone
  /-- SLATE_RD_WRITE (R87): A WRLIVE to GLB_SLATE_RD advances RD only within RD to HEAD, otherwise
      sets RDREJ. -/
  | slateRdWrite
  /-- RAIL_OUT_OF_RANGE (R128): A supply rail leaves its range while COLD_RST_N is high and the
      device enters cold reset by itself. -/
  | railOutOfRange (off : Bool)
  /-- RAIL_RECOVERY_ELAPSE (R128): A rail has been back in range for 2 ms and the self-imposed cold
      reset ends. -/
  | railRecoveryElapse (x : Straps)
  /-- COLD_RST_ASSERT (R127): COLD_RST_N falls; gates go off, PG low, PERST_N high impedance, SPI
      released. -/
  | coldRstAssert
  /-- COLD_RST_RELEASE (R135): COLD_RST_N rises; straps are sampled and the full boot sequence
      begins. -/
  | coldRstRelease (x : Straps)
  /-- WARM_RST_ASSERT (R131): WARM_RST_N held low starts a warm reset: admission stops, the take
      ends, a CUTAT is cancelled and a checkpoint is appended. -/
  | warmRstAssert
  /-- WARM_RESET_STATE (R131): Once signing and OTP commands are idle, the warm reset resets state
      and empties every mailbox. -/
  | warmResetState
  /-- WARM_RST_RELEASE (R131): WARM_RST_N rises again and boot restarts at step 4. -/
  | warmRstRelease
  /-- RSTCMD_WARM (R132): A WRLIVE of GLB_RSTCMD with OP = WARM retires and starts a warm reset. -/
  | rstcmdWarm
  /-- RSTCMD_STATION (R133): A WRLIVE of GLB_RSTCMD with OP = STATION is accepted or rejected and
      begins waiting for the station to empty. -/
  | rstcmdStation
  /-- STATION_RESET_DONE (R133): The emptied station completes its reset and SBUSY clears. -/
  | stationResetDone
  /-- BOOT_STEP_DONE (R135): A boot step completes or fails and the boot ROM proceeds to the next
      step, to copy B, or to failure. -/
  | bootStepDone (ok : Bool) (left used : Fin 65536) (img : Option (List Byte))
  /-- THERMTRIP (R117): An on-die sensor reaches 125 °C; THERMTRIP_N latches low and every gate and
      PG goes off. -/
  | thermtrip
  /-- AVS_VOLTAGE_WRITE (R121): The FM9192 writes a new VCORE value to the regulator over AVSBus. -/
  | avsVoltageWrite
  /-- AVS_READBACK (R122): VCORE is read back after a write; a mismatch retries up to three times
      and then raises AVS_FAIL. -/
  | avsReadback (ok : Bool) (mv : Fin 4096)
  /-- DRAIN_HOLD_WRITE (R147): A WRLIVE of GLB_DRAINCTL sets or clears HOLD, withholding or
      releasing admission. -/
  | drainHoldWrite
  /-- DRAIN_LATE (R148): HOLD has been 1 for LIMIT ms without DRAINED and DRAIN_LATE is raised once.
      -/
  | drainLate
  /-- LANE_ENERGY_DETECT (R163): A lane in DETECT sees signal energy for 10 µs and moves to CDR. -/
  | laneEnergyDetect (n : Fin 24) (l : Fin 9)
  /-- LANE_CDR_LOCK (R163): A lane's receiver locks to its partner and moves to ALIGN. -/
  | laneCdrLock (n : Fin 24) (l : Fin 9)
  /-- COMMA_RECEIVE (R156): An Alignment Comma is received and checked, driving alignment, polarity,
      lane identity, spare requests, coefficient requests and RXREADY. -/
  | commaReceive (n : Fin 24) (l : Fin 9) (sync inv : Bool) (id : Word) (fill ser : Nat)
  /-- EQ_CONVERGE (R163): Equalisation converges with a clean error run, the record is written and
      the lane moves to DESKEW. -/
  | eqConverge (n : Fin 24) (l : Fin 9) (ctle : Fin 16) (temp droop : Byte) (taps : List Int := [])
  /-- DESKEW_DONE (R159): All lanes of a port lie within 9.0 ns and the lanes move to READY. -/
  | deskewDone (n : Fin 24) (f : Fin 2) (skews : List Nat)
  /-- LANE_TIMER_EXPIRE (R164): A bring-up state timer expires; the lane and its port return to
      DETECT. -/
  | laneTimerExpire (n : Fin 24) (l : Fin 9)
  /-- TRAIN_RETRY_TIMER (R164): After TRAIN_FAIL, a port retries bring-up from DETECT every 100 ms.
      -/
  | trainRetryTimer (n : Fin 24) (f : Fin 2)
  /-- FILLER_RECEIVE (R161): A Filler Block arrives and is deleted when the elastic buffer is over
      80 symbols. -/
  | fillerReceive (n : Fin 24) (f : Fin 2) (fill : Nat)
  /-- ELASTIC_OVERRUN (R162): The elastic buffer overruns, symbols are lost and ELASTIC_ERR is
      raised. -/
  | elasticOverrun (n : Fin 24) (f : Fin 2)
  /-- LANE_FAILURE (R173): A lane in ACTIVE, or the spare, fails a criterion; LANE_FAIL is raised
      and the spare state machine acts. `ls` are the lanes found failing in one evaluation (R178). -/
  | laneFailure (n : Fin 24) (ls : List (Fin 9))
  /-- READAPT_DUE (R169): Temperature, droop or a tap bound drifts from a lane's record and DUE is
      set with LANE_DRIFT. -/
  | readaptDue (n : Fin 24) (l : Fin 9) (temp droop : Byte) (taps : List Int)
  /-- READAPT_COMPLETE (R171): A re-adaptation's EQ search ends; the lane returns to its receiver or
      is marked failed. -/
  | readaptComplete (n : Fin 24) (pass : Bool) (ctle : Fin 16) (temp droop : Byte) (taps : List Int := [])
  /-- RESTORE_COMPLETE (R178): A release's re-adaptation ends; the lane returns from the spare or
      stays on it. -/
  | restoreComplete (n : Fin 24) (pass : Bool) (ctle : Fin 16) (temp droop : Byte) (taps : List Int := [])
  /-- SPARE_CMD_READAPT (R179): A WRLIVE of SPARE_CMD with OP = READAPT makes a lane due, or is
      refused. -/
  | spareCmdReadapt
  /-- SPARE_CMD_RELEASE (R179): A WRLIVE of SPARE_CMD with OP = RELEASE starts restoring the held
      lane, or is refused. -/
  | spareCmdRelease
  /-- MARGIN_GO (R181): A write of MARGIN_CTL with GO = 1 starts a margin sweep in M5, or is
      refused. -/
  | marginGo
  /-- MARGIN_DONE (R181): A margin sweep completes its dwell and DONE sets. -/
  | marginDone (n : Fin 24) (errors : Nat)
  /-- LANE_MARGINING_COMMAND (R180): A PCI Express Lane Margining at the Receiver command is carried
      out on the monitor sampler. -/
  | laneMarginingCommand (n : Fin 24) (l : Fin 8) (cmd : MarginCmd) (errors samples : Nat)
  /-- PCIE_LANE_FAILURE (R208): A lane of a PCI Express port in L0 fails and the port goes through
      Recovery to a reduced width. -/
  | pcieLaneFailure (n : Fin 24) (p : Fin 4) (l : Fin 16)
  /-- PCIE_RECOVERY_RETURN (R210): A degraded PCI Express port returns to L0, sets DEGRADED and
      replays unacknowledged TLPs. -/
  | pcieRecoveryReturn (n : Fin 24) (p : Fin 4) (replay : Bool)
  /-- PCIE_RECOVERY_LIMIT (R210): A port not back in L0 within 2 ms goes down as Surprise Down. -/
  | pcieRecoveryLimit (n : Fin 24) (p : Fin 4)
  /-- LINK_CMD_RETRAIN (R212): A WRLIVE of LINK_CMD with OP = RETRAIN starts a retrain long
      operation, or is refused. -/
  | linkCmdRetrain
  /-- LINK_CMD_WIDTH (R211): A WRLIVE of LINK_CMD with OP = WIDTH starts a width change long
      operation, or is refused. -/
  | linkCmdWidth
  /-- LINK_CMD_END (R212): A retrain or width change reaches L0, UP or TRAIN, the long operation
      ends and BUSY clears. -/
  | linkCmdEnd (n : Fin 24) (p : Fin 4) (pass : Fin 65536)
  /-- L1_IDLE_EXPIRE (R199): An upstream port idle for L1IDLE µs with permits initiates ASPM L1. -/
  | l1IdleExpire (n : Fin 24) (p : Fin 4) (clk : Bool)
  /-- L0P_IDLE_EXPIRE (R199): A flit-mode port idle for L0PIDLE µs requests L0p at half its width.
      -/
  | l0pIdleExpire (n : Fin 24) (p : Fin 4)
  /-- L0P_RETURN (R199): More than 25 % of full capacity is queued and the port returns to full
      width. -/
  | l0pReturn (n : Fin 24) (p : Fin 4)
  /-- ATTN_BUTTON (R201): ATTN_N goes low and Attention Button Pressed is set on the hot-plug slot.
      -/
  | attnButton (n : Fin 24)
  /-- PARTITION_RESET (R203): PERST_N, Hot Reset or DL_Down at an upstream port resets the partition
      and its downstream slots, queues, channels and regions. -/
  | partitionReset (q : Fin 48) (cause : ResetBy)
  /-- PARTITION_RESET_RELEASE (R203): The upstream link is up and 100 ms have passed; PERST_N of the
      partition's slots is released. -/
  | partitionResetRelease (q : Fin 48)
  /-- DPC_TRIGGER (R206): A downstream port's DPC triggers; the link is disabled and requests to it
      are completed or discarded. -/
  | dpcTrigger (n : Fin 24) (p : Fin 4) (fatal : Bool)
  /-- TLP_RECEIVE (R317): A TLP arriving at a PCI Express port is classified, routed, window-
      checked, policed and queued as cells. -/
  | tlpReceive (n : Fin 24) (p : Fin 4) (t : Tlp)
  /-- HELD_TLP_REDECIDE (R373): A held red TLP is decided again once its buckets hold L bytes, and
      leaves with a non-red colour. -/
  | heldTlpRedecide (n : Fin 24) (p : Fin 4)
  /-- UNLOCK_MESSAGE (R207): An Unlock message releases a locked egress port. -/
  | unlockMessage (n : Fin 24) (p : Fin 4)
  /-- PCIE_FC_UPDATE (R367): A flow-control credit update arrives and stand-aside requests leave in
      order as credit permits. -/
  | pcieFcUpdate (n : Fin 24) (p : Fin 4) (ty : FcType) (hdr data : Nat)
  /-- MCTP_MESSAGE (R198): An MCTP message arrives at the management function; control messages are
      served and other types dropped. -/
  | mctpMessage (p : Fin 48) (ty : Fin 128)
  /-- FABRIC_PACKET_RECEIVE (R239): A framed fabric packet arrives and is accepted, discarded as
      duplicate, or NAKed, then forwarded or terminated. -/
  | fabricPacketReceive (n : Fin 24) (f : Fin 2) (rx : Reception) (pkt : Packet)
  /-- ACK_RECEIVE (R237): An ACK short packet frees acknowledged packets from the replay buffer. -/
  | ackReceive (n : Fin 24) (f : Fin 2) (h : ShortHdr) (nes : Nat)
  /-- NAK_RECEIVE (R241): An ACK with NAK = 1 makes the sender replay from the named sequence
      number. -/
  | nakReceive (n : Fin 24) (f : Fin 2) (h : ShortHdr) (nes : Nat) (err : CellErr)
  /-- CREDIT_RECEIVE (R234): A CREDIT short packet updates the cumulative VC credits of one half. -/
  | creditReceive (n : Fin 24) (f : Fin 2) (h : ShortHdr) (half : Fin 2) (c0 c1 c2 c3 : Nat)
  /-- RETRAIN_REQ_RECEIVE (R242): A RETRAIN_REQ arrives; the end acknowledges and pauses, or
      resolves a collision by node identifier. -/
  | retrainReqReceive (n : Fin 24) (f : Fin 2) (h : ShortHdr) (op : Fin 2) (tw : Fin 8) (sel : Fin 2) (node : Nat)
  /-- RETRAIN_ACK_RECEIVE (R242): A RETRAIN_ACK arrives in REQ and the end stops data and enters
      PAUSE. -/
  | retrainAckReceive (n : Fin 24) (f : Fin 2) (h : ShortHdr) (op : Fin 2) (tw : Fin 8) (sel : Fin 2) (node : Nat)
  /-- WIDTH_RECEIVE (R243): A WIDTH short packet is checked against the declared partner and takes
      the port to UP, applying INIT. -/
  | widthReceive (n : Fin 24) (f : Fin 2) (h : ShortHdr) (node stn port w nes : Nat) (ini : Bool)
  /-- TIME_SYNC_REQUEST_RECEIVE (R250): A TIME_SYNC request arrives and is answered with its arrival
      and turnaround times. -/
  | timeSyncRequestReceive (n : Fin 24) (f : Fin 2) (h : ShortHdr) (tag : Bool) (time : Nat)
  /-- TIME_SYNC_RESPONSE_RECEIVE (R251): A TIME_SYNC response gives offset and delay, and the
      follower steps or slews its time. -/
  | timeSyncResponseReceive (n : Fin 24) (f : Fin 2) (h : ShortHdr) (tag psync : Bool) (time turn : Nat)
  /-- WIRE_RECEIVE (R351): A WIRE short packet updates a sink wire's level when its WCNT is
      acceptable. -/
  | wireReceive (n : Fin 24) (f : Fin 2) (h : ShortHdr) (dnode wire : Nat) (level : Bool) (wcnt : Nat)
  /-- LOCK_REQ_RECEIVE (R347): A LOCK_REQ arrives at the far edge, which grants, refuses, releases
      or repeats its answer. -/
  | lockReqReceive (n : Fin 24) (f : Fin 2) (h : ShortHdr) (dnode dport snode sport part ltag op : Nat)
  /-- LOCK_GNT_RECEIVE (R347): A LOCK_GNT arrives at the originating edge, which sends the locked
      sequence, backs off or ends it. -/
  | lockGntReceive (n : Fin 24) (f : Fin 2) (h : ShortHdr) (dnode dport snode sport ltag res : Nat)
  /-- PFN_RECEIVE (R345): A paired Posted-Failure Notice is logged at the originating edge with an
      AER error and an event ring entry. -/
  | pfnReceive (n : Fin 24) (f : Fin 2) (h : ShortHdr) (seg : ShortBody)
  /-- RESERVED_POSITION_SEND (R232): A reserved unit position is sent with the rotation item and the
      highest waiting short packet. -/
  | reservedPositionSend (n : Fin 24) (f : Fin 2)
  /-- REPLAY_TIMER_EXPIRE (R241): The replay timer expires and the sender replays from the oldest
      unacknowledged packet, raising FL_REPLAY after RPLMAX. -/
  | replayTimerExpire (n : Fin 24) (f : Fin 2) (err : CellErr)
  /-- BYPASS_REPLAY_EXPIRE (R231): BACK has not advanced for BTIME and the sender resends all
      outstanding sequenced short packets. -/
  | bypassReplayExpire (n : Fin 24) (f : Fin 2) (err : CellErr := .none)
  /-- RETRAIN_REQ_TIMEOUT (R242): RQTIME passes in REQ without RETRAIN_ACK and the port goes to
      TRAIN. -/
  | retrainReqTimeout (n : Fin 24) (f : Fin 2)
  /-- PAUSE_TIMEOUT (R242): 10 µs pass in PAUSE without completing the retrain and the port goes to
      TRAIN. -/
  | pauseTimeout (n : Fin 24) (f : Fin 2)
  /-- TIME_SYNC_PERIOD (R249): The exchange period elapses and the follower sends a TIME_SYNC
      request, clearing SYNC after eight misses. -/
  | timeSyncPeriod
  /-- FT_SET_WRITE (R249): A write of GLB_FT_SET_HI loads fabric time at once or at the next PPS
      edge. -/
  | ftSetWrite
  /-- PPS_IN_EDGE (R249): A rising edge of PPS_IN loads or slews a source's time toward the whole
      second. -/
  | ppsInEdge
  /-- PPS_OUT_SECOND (R107): Fabric time reaches a whole second and PPS_OUT gives a 1 µs pulse. -/
  | ppsOutSecond
  /-- FT_NOW_LO_READ (R255): A read of GLB_FT_NOW_LO returns the low time and latches the high word
      for the path. -/
  | ftNowLoRead (path : Path) (full : Bool)
  /-- HIGH_WORD_READ (R592): A read of a latched high word returns the latched value once and clears
      the latch. -/
  | highWordRead (path : Path) (a : Fin 13631488) (full : Bool)
  /-- CELL_OFFER (R265): An ingress station offers the next cell of a list to the first ready plane,
      spending a slot credit. -/
  | cellOffer (n : Fin 24) (k : Fin 2) (err : CellErr)
  /-- CELL_CAPTURE (R264): The egress captures and checks a cell, acknowledges it, and its
      resequencer releases cells in CSN order to the queues. -/
  | cellCapture (n : Fin 24) (x : Fin 96) (k : Fin 2) (ecc : Fin 10)
  /-- CELL_ACK_RECEIVE (R263): A cell acknowledgement reaches the ingress, which frees the cell and
      its unit's half-cells when last. -/
  | cellAckReceive (n : Fin 24) (x : Fin 96) (k : Fin 2)
  /-- SLOT_CREDIT_RETURN (R294): The egress returns a slot credit to the ingress station. -/
  | slotCreditReturn (n e : Fin 24)
  /-- PLANE_ACK_TIMEOUT (R269): A cell is unacknowledged for 150 ns and the station declares a fault
      on that plane. -/
  | planeAckTimeout (n : Fin 24)
  /-- PLANE_ERROR_REPORT (R269): The egress reports an uncorrectable cell error and the ingress
      declares a plane fault. -/
  | planeErrorReport (n : Fin 24) (k : Fin 2)
  /-- EGRESS_SELECT (R365): An egress port selects the next unit by class-7 priority and deficit
      round robin and begins sending it. -/
  | egressSelect (n : Fin 24) (p : Fin 4) (err : CellErr)
  /-- EGRESS_UNDERRUN (R276): A fabric egress reaches a cell not yet present, fills with zeros and
      stomps the packet. -/
  | egressUnderrun (n : Fin 24) (f : Fin 2)
  /-- STOMP_RESEND (R276): All cells of a stomped packet are present and the egress sends it again
      with a new seq. -/
  | stompResend (n : Fin 24) (f : Fin 2)
  /-- CORE_CMD_TEST (R277): GLB_CORE_CMD with OP = TEST runs self-test on an out-of-service plane,
      or is refused. -/
  | coreCmdTest
  /-- CORE_CMD_RESTORE (R277): GLB_CORE_CMD with OP = RESTORE tests a plane and returns it to
      service on a pass, or is refused. -/
  | coreCmdRestore
  /-- CORE_CMD_REMOVE (R277): GLB_CORE_CMD with OP = REMOVE stops offering cells to a plane, or is
      refused. -/
  | coreCmdRemove
  /-- PLANE_TEST_DONE (R277): A plane self-test ends; a pass under RESTORE raises PLANE_RESTORED, a
      failure sets cause 3. -/
  | planeTestDone (pass : Bool)
  /-- PLANE_REMOVE_DONE (R277): Offered cells are acknowledged and the removed plane is marked out
      of service. -/
  | planeRemoveDone
  /-- CORE_SPEED_SAMPLE (R281): Every 1 µs the longest stage time is measured and CORE_SLOW raised
      when it exceeds T_MAX. -/
  | coreSpeedSample (ths : Fin 1024)
  /-- SPILL_WRITE_DONE (R296): A Drift block write completes and its segment returns to the store.
      -/
  | spillWriteDone (n : Fin 24) (p : Fin 4) (g : Fin 49) (q : Fin 8)
  /-- REFILL_START (R297): A spilled queue's head falls below 96 cells with a free segment and the
      oldest block is read. -/
  | refillStart (n : Fin 24) (p : Fin 4) (g : Fin 49) (q : Fin 8)
  /-- REFILL_DONE (R297): A block read completes into a head segment in block order and the block is
      freed. -/
  | refillDone (n : Fin 24) (p : Fin 4) (g : Fin 49) (q : Fin 8) (errs : List CellErr) (next : Bool)
  /-- MGMT_IN_RECEIVE (R340): An MGMT IN packet places its words in the matching remote-manager
      mailbox. -/
  | mgmtInReceive
  /-- MGMT_OUT_RECEIVE (R340): An MGMT OUT packet is placed in GLB_MRX with its header word. -/
  | mgmtOutReceive
  /-- MGMT_PRESET_RECEIVE (R338): An MGMT PRESET packet asserts or releases reset on an exported
      port when its snode matches. -/
  | mgmtPresetReceive
  /-- MGMT_OUT_SEND (R340): An outbound packet of a remote-manager mailbox is sent to its node as
      OUT packets. -/
  | mgmtOutSend (k : Fin 4)
  /-- MTX_HI_WRITE (R341): A write of GLB_MTX_HI appends a word to the remote send buffer, or sets
      OVF when full. -/
  | mtxHiWrite
  /-- MTX_SEND (R341): A write of GLB_MTX_CTL with SEND = 1 sends the buffer as one IN packet and
      empties it. -/
  | mtxSend
  /-- MRX_LO_READ (R358): A read of GLB_MRX_LO removes the oldest received word and latches its high
      half. -/
  | mrxLoRead (path : Path) (full : Bool)
  /-- LOCK_BACKOFF_EXPIRE (R349): A refused originating edge's backoff elapses and it sends a new
      LOCK_REQ. -/
  | lockBackoffExpire
  /-- LOCK_HOLD_EXPIRE (R349): A far edge has held a lock for LHOLD ms and releases it itself. -/
  | lockHoldExpire (x : Fin 96)
  /-- WIRE_SAMPLE (R350): A source wire is sampled every 100 ns and a stable change sends WIRE. -/
  | wireSample (w : Fin 256) (pin : Bool)
  /-- WIRE_REFRESH (R350): The refresh interval elapses and the present wire level is sent again. -/
  | wireRefresh (w : Fin 256)
  /-- MOVEHOLD_EXPIRE (R355): MOVEHOLD passes after a withdrawal or rejoin and held pinned packets
      may leave. -/
  | moveholdExpire (n : Fin 24) (f : Fin 2)
  /-- RT_REJOIN (R355): A write of GLB_RT_REJOIN with GO = 1 returns a withdrawn UP port to routing,
      or sets REJ. -/
  | rtRejoin
  /-- REGION_REGISTER (R387): A write of GLB_RGN_CMD with GO = 1 tests and registers a region,
      returning a key or a refusal code. -/
  | regionRegister
  /-- KEYREV_FREE (R401): A WRLIVE of GLB_KEYREV with OP = FREE starts revocation that frees the
      entry. -/
  | keyrevFree
  /-- KEYREV_REKEY (R401): A WRLIVE of GLB_KEYREV with OP = REKEY starts revocation that keeps the
      region under a new key. -/
  | keyrevRekey
  /-- KEYREV_COMPLETE (R402): A revoking entry's admitted count reaches zero; GEN advances and the
      revocation completes. -/
  | keyrevComplete (k : Fin 1048576)
  /-- PURGE_COMPLETE (R404): The last purged entry becomes FREE, PURGE clears and KEYREV_DONE is
      raised. -/
  | purgeComplete (p : Fin 48)
  /-- KEY_CACHE_FILL (R393): A key cache miss read completes from the Drift store and waiting
      lookups proceed. -/
  | keyCacheFill (idx : Fin 1048576) (bad : Bool)
  /-- QDB_WRITE (R413): A WRLIVE of GLB_QDB rings a queue's doorbell with a new producer index, or
      is refused. -/
  | qdbWrite
  /-- QNDB_WRITE (R414): A WRLIVE of GLB_QNDB sets a queue's notification consumer index, or is
      refused. -/
  | qndbWrite
  /-- QCMD_START (R411): GLB_QCMD with OP = START activates a queue, or is refused with a code. -/
  | qcmdStart
  /-- QCMD_STOP (R412): GLB_QCMD with OP = STOP moves an active queue to STOPPING. -/
  | qcmdStop
  /-- QCMD_FREE (R412): GLB_QCMD with OP = FREE returns a stopped or errored queue to FREE. -/
  | qcmdFree
  /-- DESC_START (R418): An FME starts a queue's next descriptor, fetching it and checking its local
      region. -/
  | descStart (e : Fin 48)
  /-- DESC_END (R421): A descriptor ends with a status; records, CCNT, cues and queue state follow.
      -/
  | descEnd (q : Fin 65536) (n : Word)
  /-- WAIT_TIMEOUT (R429): A WAIT's TIMEOUT passes without its condition and it ends WAITTIME. -/
  | waitTimeout (q : Fin 65536) (n : Word)
  /-- NOTIFY_FULL_TIMEOUT (R422): A notification held for a full ring 1 ms is given up and the
      message ends NFULL. -/
  | notifyFullTimeout (n : Fin 24) (snode sfme mid : Nat)
  /-- EVR_CI_WRITE (R432): A WRLIVE of an event ring's CI is applied when within range. -/
  | evrCiWrite
  /-- HOST_COMPLETION (R616): A completion for a request the FM9192 made of a host arrives,
      succeeding, poisoned or failing the access. -/
  | hostCompletion (id : Nat) (ok ep : Bool) (data : List Byte)
  /-- HOST_COMPLETION_TIMEOUT (R616): A non-posted host request gets no completion within its
      timeout and fails. -/
  | hostCompletionTimeout (id : Nat)
  /-- FME_PACKET_SEND (R447): An FME sends a request packet or copy on the next path when its
      destination window allows. -/
  | fmePacketSend (e : Fin 48)
  /-- FME_WREQ_RECEIVE (R445): A WREQ reaches its serving FME, which checks, writes, reassembles and
      acknowledges it. -/
  | fmeWreqReceive (e : Fin 48)
  /-- FME_RREQ_RECEIVE (R621): An RREQ is checked and the target reads host memory and answers with
      RRESP or NAK. -/
  | fmeRreqReceive (e : Fin 48)
  /-- FME_AREQ_RECEIVE (R445): An AREQ takes a reassembly entry, performs the AtomicOp once and
      answers ARESP. -/
  | fmeAreqReceive (e : Fin 48)
  /-- FME_RRESP_RECEIVE (R443): An RRESP answers a read packet at the initiator, which writes the
      data locally. -/
  | fmeRrespReceive (e : Fin 48)
  /-- FME_ARESP_RECEIVE (R443): An ARESP answers an atomic at the initiator, which writes the old
      value. -/
  | fmeArespReceive (e : Fin 48)
  /-- FME_ACK_RECEIVE (R443): An ACK answers a packet, gives an RTT sample, or carries a message
      result. -/
  | fmeAckReceive (e : Fin 48)
  /-- FME_NAK_RECEIVE (R442): A NAK ends the descriptor with its code or schedules a resend and may
      halve the window. -/
  | fmeNakReceive (e : Fin 48)
  /-- FME_RTO_EXPIRE (R443): RTO passes without an answer and the initiator sends a copy on the next
      path. -/
  | fmeRtoExpire (e : Fin 48) (mid pidx : Nat)
  /-- FME_MESSAGE_TIMEOUT (R444): A message's 2 ms timer expires and the descriptor ends TIMEOUT. -/
  | fmeMessageTimeout (e : Fin 48) (mid : Nat)
  /-- NAKWAIT_EXPIRE (R442): NAKWAIT passes after a transient NAK and the packet is resent. -/
  | nakwaitExpire (e : Fin 48) (mid pidx : Nat)
  /-- REASM_TIMEOUT (R445): An open reassembly entry reaches 2 ms and MSGFAIL is written to the
      owner's ring. -/
  | reasmTimeout (n : Fin 24) (snode sfme mid : Nat)
  /-- REASM_HELD_EXPIRE (R445): A held reassembly entry sees no copy for 2 × RTO and becomes FREE.
      -/
  | reasmHeldExpire (n : Fin 24) (snode sfme mid : Nat)
  /-- DEST_CONTEXT_RELEASE (R446): A destination context idle for 1 ms is released. -/
  | destContextRelease (e : Fin 48) (node : Fin 4096)
  /-- CC_ROUND_END (R448): A congestion round ends and the window increases when no excess delay was
      seen. -/
  | ccRoundEnd (e : Fin 48) (node : Fin 4096)
  /-- PACING_WAIT_END (R447): The pacing gap for a window below 4,128 B elapses and the next packet
      may be sent. -/
  | pacingWaitEnd (e : Fin 48) (node : Fin 4096)
  /-- CH_PI_WRITE (R456): A WRLIVE of CH_PI sets a DMA channel's producer index, or sets CMDREJ. -/
  | chPiWrite
  /-- CH_START (R463): CH_CMD with OP = START runs an idle channel or resumes a paused one, or is
      refused. -/
  | chStart
  /-- CH_PAUSE (R463): CH_CMD with OP = PAUSE takes the channel off the mover at the next beat
      boundary. -/
  | chPause
  /-- CH_ABORT (R463): CH_CMD with OP = ABORT discards staged data, ends the descriptor BAD ABORTED
      and idles the channel. -/
  | chAbort
  /-- DMA_DESC_START (R463): A running channel starts its next descriptor, or waits in WAITGO for a
      gated one. -/
  | dmaDescStart (c : Fin 64)
  /-- DMA_BEAT (R460): The data mover selects a channel by priority and moves one beat of
      destination data. -/
  | dmaBeat
  /-- DMA_DESC_END (R461): A DMA descriptor ends OK or BAD; counts, marks, cue and CI follow. -/
  | dmaDescEnd (c : Fin 64)
  /-- CUE_PULSE_DELIVER (R466): A waiting pulse is delivered on a cue line to every listening sink,
      or a pulse is lost when 64 wait. -/
  | cuePulseDeliver (l : Fin 256)
  /-- CUE_TIMER_ARM (R469): A write of word 0 of a cue timer arms it in the named mode. -/
  | cueTimerArm
  /-- CUE_TIMER_FIRE (R469): A cue timer's period or time arrives and it pulses its line. -/
  | cueTimerFire (t : Fin 16)
  /-- SLICE_LULL (R477): GLB_SLICECMD with OP = LULL starts the slice lull long operation, or is
      refused. -/
  | sliceLull
  /-- SLICE_RESUME (R479): GLB_SLICECMD with OP = RESUME makes a lulled slice ACTIVE and restarts
      its lulled channels. -/
  | sliceResume
  /-- SLICE_RESET (R481): GLB_SLICECMD with OP = RESET frees the slice's queues, clears its channels
      and purges its regions. -/
  | sliceReset
  /-- SLICE_FLUSH (R484): GLB_SLICECMD with OP = FLUSH writes the slice's log cache lines and
      toggles LOGSEL. -/
  | sliceFlush
  /-- SLICE_LULL_REACHED (R478): Every quiescence condition holds and the slice enters LULL. -/
  | sliceLullReached (t : Fin 4096)
  /-- SLICE_RESET_DONE (R481): A slice RESET's work completes and RESETTING clears. -/
  | sliceResetDone (t : Fin 4096)
  /-- SLICE_FLUSH_DONE (R484): The last flushed log line leaves the host port, FLUSHING clears and
      the cue pulses. -/
  | sliceFlushDone (t : Fin 4096)
  /-- SPC_ENABLE (R493): SPC_CMD with OP = ENABLE is tested, submitted to the Forecaster and starts
      the slot in QUAL. -/
  | spcEnable
  /-- SPC_DISABLE (R497): SPC_CMD with OP = DISABLE turns the slot off, lowering PERST_N first from
      ON. -/
  | spcDisable
  /-- SPC_TESTOPEN (R511): SPC_CMD with OP = TESTOPEN opens the TEST capture window. -/
  | spcTestopen
  /-- SPC_TESTCLOSE (R511): SPC_CMD with OP = TESTCLOSE closes the TEST capture window. -/
  | spcTestclose
  /-- SPC_FEEDSEL (R502): SPC_CMD with OP = FEEDSEL moves the slot in ON to the named feed. -/
  | spcFeedsel
  /-- SPC_EVALUATION_STEP (R492): Each 1 µs the SPC samples its inputs and acts on presence, feeds,
      protection, commands, gates and power-good in order. -/
  | spcEvaluationStep (n : Fin 24) (m : SpcSample)
  /-- SPC_PRESENCE_CHANGE (R508): PRSNT_N holds a new level for 100 steps; a removal turns the slot
      off. -/
  | spcPresenceChange (n : Fin 24) (here : Bool)
  /-- SPC_FEED_VALID (R498): A feed has stayed within range for QUAL ms and becomes valid. -/
  | spcFeedValid (n : Fin 24) (k : Fin 2)
  /-- SPC_FEED_INVALID (R498): A feed is out of range for 2 steps and becomes invalid, starting a
      switchover or FEEDLOSS. -/
  | spcFeedInvalid (n : Fin 24) (k : Fin 2)
  /-- SPC_FAST_TRIP (R504): In MODE 1 the comparator crosses FASTTHR and the gate pull-down begins
      within 1 µs. -/
  | spcFastTrip (n : Fin 24) (m : SpcSample)
  /-- SPC_CURVE_TRIP (R503): A curve counter reaches its TLIM and the SPC trips with cause CURVE. -/
  | spcCurveTrip (n : Fin 24) (k : Fin 8) (m : SpcSample)
  /-- SPC_REVERSE_TRIP (R505): Reverse current persists for 2 steps and the SPC trips into LOCKOUT.
      -/
  | spcReverseTrip (n : Fin 24) (m : SpcSample)
  /-- SPC_RAMP_TIMEOUT (R495): RAMPMAX passes without the gate fully on and the SPC trips with cause
      RAMP. -/
  | spcRampTimeout (n : Fin 24)
  /-- SPC_GATE_FULLY_ON (R495): The gate is fully on and the SPC enters ON, completing a ramp or
      switchover. -/
  | spcGateFullyOn (n : Fin 24)
  /-- SPC_PG_ASSERT (R496): PGCNT reaches PGDLY × 100 and power-good rises. -/
  | spcPgAssert (n : Fin 24)
  /-- SPC_PERST_RELEASE (R497): PERSTDLY passes after power-good rose and PERST_N of the slot rises.
      -/
  | spcPerstRelease (n : Fin 24)
  /-- SPC_DISABLE_WAIT_END (R497): 100 µs after PERST_N fell on DISABLE, power-good falls and both
      gates turn off. -/
  | spcDisableWaitEnd (n : Fin 24)
  /-- SPC_OFF_CONFIRM (R499): The old gate is confirmed off during a switchover and the 2 µs dead
      time begins. -/
  | spcOffConfirm (n : Fin 24)
  /-- SPC_DEAD_TIME_END (R499): The dead time ends and the new feed's gate drive begins. -/
  | spcDeadTimeEnd (n : Fin 24)
  /-- SPC_VOUT_LOW (R500): VOUT is below VOUTMIN for 2 steps and power-good falls. -/
  | spcVoutLow (n : Fin 24)
  /-- SPC_RETRY_WAIT_END (R506): T_w elapses in RETRYWAIT; RETRIES advances and the slot ramps
      again. -/
  | spcRetryWaitEnd (n : Fin 24)
  /-- SPC_AUTORET (R502): The preferred feed has been valid for 1 s while another is used and the
      slot moves back. -/
  | spcAutoret (n : Fin 24)
  /-- SPC_RETRIES_RESET (R507): Power-good has held 10 s without a trip and RETRIES returns to 0. -/
  | spcRetriesReset (n : Fin 24)
  /-- SPC_CAP_WINDOW_CLOSE (R511): A START or RECOVERY capture window closes 250 ms after power-good
      rose. -/
  | spcCapWindowClose (n : Fin 24)
  /-- SPC_METER_UPDATE (R510): Every 1,000 steps the SPC's mean meters are updated. -/
  | spcMeterUpdate (n : Fin 24)
  /-- SPC_E_LO_READ (R510): A read of SPC_E_LO returns the low energy and latches SPC_E_HI. -/
  | spcELoRead (path : Path) (n : Fin 24) (full : Bool)
  /-- FCST_RAIL_SAMPLE (R516): Every 1 µs each rail is sampled and its energy accrued. -/
  | fcstRailSample (p0 p1 p2 p3 p4 p5 : Fin 4194304)
  /-- FCST_RAIL_LO_READ (R516): A read of word 0 of FCST_RAIL returns the low word and latches the
      high word. -/
  | fcstRailLoRead (path : Path) (r : Fin 6) (full : Bool)
  /-- FCST_WINDOW_END (R517): A 10 ms window ends; budgets are checked against measured energy and
      events raised. -/
  | fcstWindowEnd
  /-- FCST_SWEEP (R518): The statistics sweep charges each partition's account for a window. -/
  | fcstSweep
  /-- FCST_EVALUATE (R523): Every 100 µs the Forecaster evaluates pressure and steps the planning
      level down or up. -/
  | fcstEvaluate (hot : Fin 512)
  /-- FCST_VCORE_STEP (R524): At level 3, or when THS is high, the Forecaster writes one 10 mV VCORE
      change when R121 permits. -/
  | fcstVcoreStep
  /-- DEFER_LIMIT_EXPIRE (R526): A deferred item reaches its limit and runs whatever the level. -/
  | deferLimitExpire (k : DeferItem)
  /-- PROT_DISABLE (R543): A WRLIVE clearing PROT_CTL.EN disables the slots for later checks. -/
  | protDisable
  /-- PROT_ENABLE (R544): A WRLIVE with EN = 1 and FENCE = 1 re-enables slots once every checking
      point holds them, or sets CMDREJ without FENCE. -/
  | protEnable
  /-- PROT_LOCK (R542): A WRLIVE setting LOCK with EN and FENCE freezes PROT_CTL and PROT_SLOT until
      reset. -/
  | protLock
  /-- OTP_PROGKEY (R546): SEC_OTP_CMD with OP = PROGKEY programs a blank key slot's hash, or is
      refused. -/
  | otpProgkey
  /-- OTP_REVOKE (R546): SEC_OTP_CMD with OP = REVOKE blows a slot's revoke fuse, or is refused. -/
  | otpRevoke
  /-- OTP_SETMIN (R546): SEC_OTP_CMD with OP = SETMIN raises the minimum version, or is refused. -/
  | otpSetmin
  /-- OTP_COMMAND_DONE (R547): OTP programming and verification end; DONE sets and SEC_OTP is
      raised. -/
  | otpCommandDone (ok : Bool)
  /-- GET_VERSION (R551): An SPDM GET_VERSION request is answered with version 1.4. -/
  | getVersion (p : Fin 48)
  /-- GET_CAPABILITIES (R551): An SPDM GET_CAPABILITIES request is answered with the supported
      capabilities. -/
  | getCapabilities (p : Fin 48)
  /-- NEGOTIATE_ALGORITHMS (R551): An SPDM NEGOTIATE_ALGORITHMS request selects ML-DSA-65 and
      SHA3-384, or errors. -/
  | negotiateAlgorithms (p : Fin 48) (mldsa sha3 : Bool)
  /-- GET_DIGESTS (R551): An SPDM GET_DIGESTS request returns the certificate chain digest of slot
      0. -/
  | getDigests (p : Fin 48)
  /-- GET_CERTIFICATE (R550): An SPDM GET_CERTIFICATE request returns the stored certificate chain.
      -/
  | getCertificate (p : Fin 48) (slot : Fin 16) (off len : Nat)
  /-- CHALLENGE (R552): An SPDM CHALLENGE is answered with a signed response and measurement summary
      hash. -/
  | challenge (p : Fin 48) (slot : Fin 16) (sum : Fin 256) (nonce : BitVec 256)
  /-- GET_MEASUREMENTS (R554): An SPDM GET_MEASUREMENTS request returns measurements of one instant,
      signed by the identity key. -/
  | getMeasurements (p : Fin 48) (index : Fin 256) (sign : Bool) (slot : Fin 16) (nonce : BitVec 256)
  /-- SPDM_UNSUPPORTED (R551): Any other SPDM request is answered with ERROR UnsupportedRequest. -/
  | spdmUnsupported (p : Fin 48)
  /-- AS_DIGEST_DONE (R553): The Active Set digest is recomputed after a cut and VALID sets. -/
  | asDigestDone
  /-- CONFIG_SCRUB (R566): Each 1 ms pass scrubs configuration storage, correcting and rewriting
      words. -/
  | configScrub (finds : List (Bool × Nat × Bool))
  /-- KEY_CACHE_SCRUB (R566): A key cache scrub pass runs every KPASS ms. -/
  | keyCacheScrub (fixed : Nat) (bad : List Nat)
  /-- DRIFT_SCRUB (R566): The Drift store scrub reads and corrects the next 512 B unit. -/
  | driftScrub (fixed : Bool) (ue : Option DriftUe)
  /-- DRIFT_ROW_SPARE (R567): A row correcting twice in a pass is copied to a spare row and DSPARE
      raised. -/
  | driftRowSpare
  /-- REFCLK_LOSS (R568): A watched reference stops or drifts off frequency and is declared lost,
      with failover when the other is valid. -/
  | refclkLoss (r : Fin 3)
  /-- REFCLK_REVALID (R568): A lost reference stays within limits for 1 ms and reads valid again. -/
  | refclkRevalid (r : Fin 3)
  /-- CLK_SELECT (R569): GLB_CLK_CMD with GO = 1 moves to the named valid reference, or sets REJ. -/
  | clkSelect
  /-- PC_CTL_WRITE (R584): A WRLIVE of PC_CTL sets the unit's RUN bits at one tick. -/
  | pcCtlWrite
  /-- PC_SNAP (R584): PC_CTL with SNAP = 1 copies the unit's counters and OVF bits into its snapshot
      registers. -/
  | pcSnap
  /-- PC_CLEAR (R584): PC_CTL with CLR = 1 zeroes the unit's counters and OVF bits. -/
  | pcClear
  /-- PC_ALL_START (R587): PC_ALL with START = 1 sets every run bit of every unit. -/
  | pcAllStart
  /-- PC_ALL_STOP (R587): PC_ALL with STOP = 1 clears every run bit of every unit. -/
  | pcAllStop
  /-- PC_ALL_SNAP (R584): PC_ALL with SNAP = 1 snapshots every unit at one tick. -/
  | pcAllSnap
  /-- PC_ALL_CLEAR (R584): PC_ALL with CLR = 1 clears every unit at one tick. -/
  | pcAllClear
  /-- PC_FIX_LO_READ (R586): A read of PC_FIX_LO returns the low fixed count and latches its high
      bits. -/
  | pcFixLoRead (path : Path) (u : Fin 74) (full : Bool)
  /-- PC_VAL_LO_READ (R586): A read of PC_VAL_LO returns the low counter value and latches its high
      bits. -/
  | pcValLoRead (path : Path) (u : Fin 74) (c : Fin 8) (full : Bool)
  /-- APERTURE_READ (R599): A direct read of an indirect window aperture returns table bytes from
      one word of one instant under the partition view. -/
  | apertureRead (path : Path) (a : Fin 3) (o : Fin 1048576) (full : Bool)
  /-- UNDEFINED_OPCODE (R39): An instruction whose opcode is not in the opcode table is executed and
      ends the take with status ILLEGAL. -/
  | undefinedOpcode
  /-- PCIE_LINK_UP (R186): A PCI Express port's LTSSM reaches L0 with its Data Link Layer active; it
      settles flit mode, advertises credits and sends Set_Slot_Power_Limit. -/
  | pcieLinkUp (n : Fin 24) (p : Fin 4) (rate : Fin 7) (width : Fin 5) (rev peer : Bool)
  /-- PCIE_LINK_DOWN (R214): The Data Link Layer of a downstream PCI Express port leaves the active
      state; PCIE_LINKDOWN is raised and outstanding shared-VF requests complete with Unsupported
      Request. -/
  | pcieLinkDown (n : Fin 24) (p : Fin 4) (surprise : Bool)
  /-- L1_REQUEST_RECEIVE (R199): A downstream port receives an ASPM L1 entry request from its link
      partner and accepts it when the enables, the permit and the Forecaster's hold allow. -/
  | l1RequestReceive (n : Fin 24) (p : Fin 4) (clk : Bool)
  /-- RESERVED_SUBTYPE (R230): A short packet of a reserved subtype arrives; it is discarded,
      counted in FL_TYPEERR and raises FL_PROTO. -/
  | reservedSubtype (n : Fin 24) (f : Fin 2) (h : ShortHdr) (sub : Fin 16)
  /-- PPSOK_EXPIRE (R252): On a source with PPSEN = 1, 1.1 s pass without a rising edge of PPS_IN,
      so PPSOK and SYNC clear. -/
  | ppsokExpire
  /-- FAILED_LANE_RETRY (R247): A failed lane of a port that came up below its configured width
      retries bring-up from DETECT every 100 ms. -/
  | failedLaneRetry (n : Fin 24) (l : Fin 8)
  /-- I3C_BROADCAST_CCC (R112): The first I3C broadcast address carrying a common command code
      switches the target interface from SMBus to MIPI I3C Basic SDR mode until the next cold reset.
      -/
  | i3cBroadcastCcc (setdasa : Option (Fin 128 × Fin 128) := none)
  deriving DecidableEq, Repr

end Sys2Proof
end

