-- ==== Sys2Proof/Decode.lean ====
section
/-! DEFINITION. Reading a command from a word. -/

namespace Sys2Proof

/-- The command that a word spells by the bits of spec/opcode_table.json. No row of the table gives a
bit (every `fields` list is empty), so no word spells a command (log entry 1). -/
def decodeTableWord (_nbits _w : Nat) : Option Instr := none

end Sys2Proof
end

