-- ==== Sys2Proof/Config.lean ====
section
/-! DEFINITION. What an implementation fixes and what the spec leaves open: constants without a body,
so that no proof can see a value of theirs (log entry 7). -/

namespace Sys2Proof.Config

/-- The first 64 bytes of SHAKE256 over a message, byte 0 in bits [7:0] (R84, R138, R553). The function itself stands
outside the spec. -/
opaque shake256 : List Byte → BitVec 512

/-- The ML-DSA-65 signature (3,309 bytes, byte 0 in bits [7:0]) that the device identity key makes over a message (R85,
R549). -/
opaque sign : List Byte → BitVec 26472

/-- Whether a signature of 3,309 bytes over a message is a valid ML-DSA-65 one under a public key of 1,952 bytes (R138):
public key, message, signature. -/
opaque verify : List Byte → List Byte → List Byte → Bool

/-- The bits that no rule gives of a dword that a configuration read of one of the FM9192's own functions returns (R192,
log entry 8). -/
opaque cfgRead : Nat → DWord

/-- Which register stands at a dword of the configuration space of a function of kind 0 upstream port, 1 management
function, 2 downstream port, beyond the standard header; none where the register there is none of these (log entry 8). -/
opaque cfgAt : Nat → Nat → Option CfgReg

/-- The Device Serial Number of every management function (R195, R550). -/
opaque serial : BitVec 64

/-- SHA3-384 (R551). -/
opaque sha384 : List Byte → BitVec 384

/-- The ML-DSA-65 signature (3,309 bytes) of an SPDM response over a nonce and the content it answers with (R551). -/
opaque spdmSign : BitVec 256 → List Byte → BitVec 26472

/-- The version of the boot ROM (R556). -/
opaque romVersion : Nat

/-- Of an error that the syndromes place at two symbols 255 apart, the part at the later-sent symbol: by the received word and
the place (R218, log entry 113). -/
opaque rsPart : List Nat → Nat → Nat

/-- KIND and descriptor of a first cell for which R259 gives none, by its CSN (log entry 93). -/
opaque cellDescr : Nat → BitVec 70

/-- The number drawn for a value that the spec does not state: one that a register field cannot hold. -/
opaque free : Nat → Nat

end Sys2Proof.Config
end

