-- ==== Sys2Proof/Machine/Tab.lean ====
section
/-! DEFINITION. Sparse tables: lists of (key, value) pairs in one canonical form (keys strictly
rising, no entry equal to what an unlisted key reads as). They hold the register sets, the Drift
tables and every numbered instance of a block. -/

namespace Sys2Proof.Machine

/-- A sparse table. The value of an unlisted key is given to the operations as `d`. -/
abbrev Tab (α : Type) := List (Nat × α)

/-- The entry listed under `k`, if there is one. -/
def Tab.find {α : Type} : Tab α → Nat → Option α
  | [], _ => none
  | (j, v) :: t, k => if j = k then some v else if k < j then none else Tab.find t k

/-- The value under `k`: the listed one, else `d`. -/
def Tab.get {α : Type} (d : α) (t : Tab α) (k : Nat) : α :=
  (Tab.find t k).getD d

/-- Lists `v` under `k`, keeping the keys strictly rising. -/
def Tab.put {α : Type} : Tab α → Nat → α → Tab α
  | [], k, v => [(k, v)]
  | (j, w) :: t, k, v =>
    if k < j then (k, v) :: (j, w) :: t
    else if k = j then (k, v) :: t
    else (j, w) :: Tab.put t k v

/-- Takes the entry of `k` away. -/
def Tab.del {α : Type} : Tab α → Nat → Tab α
  | [], _ => []
  | (j, w) :: t, k => if j = k then t else (j, w) :: Tab.del t k

/-- Writes `v` under `k` in a table whose unlisted keys read as `d`: the canonical form lists no
entry equal to `d`. -/
def Tab.set {α : Type} [DecidableEq α] (d : α) (t : Tab α) (k : Nat) (v : α) : Tab α :=
  if v = d then Tab.del t k else Tab.put t k v

/-- Every key of `t` lies above `lo`, and the keys rise strictly. -/
def Tab.risesFrom {α : Type} : Nat → Tab α → Bool
  | _, [] => true
  | lo, (j, _) :: t => decide (lo < j) && Tab.risesFrom j t

/-- The keys rise strictly. -/
def Tab.rises {α : Type} : Tab α → Bool
  | [] => true
  | (j, _) :: t => Tab.risesFrom j t

/-- The canonical form of a table whose unlisted key `k` reads as `d k`. -/
def Tab.wf {α : Type} [DecidableEq α] (d : Nat → α) (t : Tab α) : Bool :=
  Tab.rises t && t.all (fun e => decide (e.2 ≠ d e.1))

/-- Changes every listed value. -/
def Tab.mapVals {α : Type} (f : Nat → α → α) (t : Tab α) : Tab α :=
  t.map (fun e => (e.1, f e.1 e.2))

/-- The entries whose keys satisfy `q`. -/
def Tab.keep {α : Type} (q : Nat → Bool) (t : Tab α) : Tab α :=
  t.filter (fun e => q e.1)

/-- The element at place `i` of a list, else `d`. -/
def nth {α : Type} (d : α) : List α → Nat → α
  | [], _ => d
  | x :: _, 0 => x
  | _ :: l, i + 1 => nth d l i

/-- Replaces the element at place `i`. -/
def setNth {α : Type} : List α → Nat → α → List α
  | [], _, _ => []
  | _ :: l, 0, v => v :: l
  | x :: l, i + 1, v => x :: setNth l i v

/-- The first element that satisfies `q`, and the list without it. -/
def takeFirst {α : Type} (q : α → Bool) : List α → Option (α × List α)
  | [] => none
  | x :: l => if q x then some (x, l) else
      match takeFirst q l with
      | none => none
      | some (y, r) => some (y, x :: r)

/-- Does `f` to every number from 0 to `n - 1`, in rising order. -/
def forUpto {σ : Type} : Nat → (Nat → σ → σ) → σ → σ
  | 0, _, s => s
  | n + 1, f, s => f n (forUpto n f s)

/-- The least `i < n` with `q i`. -/
def firstBelow (n : Nat) (q : Nat → Bool) : Option Nat :=
  (List.range n).find? q

end Sys2Proof.Machine
end

