-- ==== Sys2Proof/Machine/EngineRecords.lean ====
section
/-! DEFINITION. The records of the engines: host requests, the region key table and its cache, queues and
descriptors, messages, destination contexts, reassembly, slices, DMA channels, cue timers (chapters 13 to 17). -/

namespace Sys2Proof.Machine

/-! ## Host requests (R384, R616) -/

/-- Why an engine made a host request, and so what its end does. `e` is the FME, `idx` the region's index, `p`
the packet served; `ep` tells that a DMA channel's `gen`-th piece of work made it. -/
inductive Work where
  /-- The read of `k` of a queue's ring entries (R418), under the number that the queue awaits. -/
  | ring (q id k : Nat)
  /-- The read of a message's segment at the initiator (R437). -/
  | source (e mid : Nat)
  /-- A write of returned data, or of an old value, at the initiator (R421). -/
  | sink (e mid : Nat)
  /-- The record of descriptor `n` of queue `q` (R426). -/
  | record (q n : Nat)
  /-- The writes of a WREQ (R442). -/
  | wreq (e idx : Nat) (p : Packet)
  /-- The read of an RREQ (R421). -/
  | rreq (e idx : Nat) (p : Packet)
  /-- The AtomicOp of an AREQ (R424). -/
  | areq (e idx : Nat) (p : Packet)
  /-- The notification record of a message (R422): station and key of its reassembly entry. -/
  | notify (e n snode sfme mid : Nat)
  /-- A DMA channel's ring read, source read, write, and mark (R457 to R462). -/
  | chFetch (c gen : Nat)
  | chRead (c gen : Nat)
  | chWrite (c gen : Nat)
  | chMark (c : Nat)
  /-- The read and the write of a log cache line's 64 B of a bitmap (R484); `bits` are the line's bits, and `fl`
  tells that a FLUSH or a Lull waits for it. -/
  | logRead (s sel line bits : Nat) (fl : Bool)
  | logWrite (s sel line : Nat) (fl : Bool)
  deriving DecidableEq, Repr

/-- How a host request ended (R616): with data, poisoned or not, or failed. A write that has left the host port
has succeeded, with no data. -/
inductive HostRes where
  | ok (data : List Byte) (ep : Bool)
  | fail
  deriving DecidableEq, Repr

/-- One TLP of a job: its address and length, the `now` at which it left, and its end. -/
structure Sub where
  addr : Nat
  len : Nat
  sent : Option Nat := none
  res : Option HostRes := none
  deriving DecidableEq, Repr

/-- A host request that an engine has made: what it is for, the partition and the slice it acts for, the host
port, its requester identifier, whether it awaits completions, its TLPs. -/
structure Job where
  work : Work
  part : Nat
  slice : Option Nat
  port : Nat
  req : Nat := 0
  posted : Bool
  subs : List Sub
  deriving DecidableEq, Repr

/-- The host side: the number of the next job, those not ended, those that have ended and whose effect follows
in the same step. -/
structure HostIo where
  next : Nat := 0
  jobs : Tab Job := []
  ready : List (Work × HostRes) := []
  deriving DecidableEq, Repr

/-! ## Regions and keys (chapter 13) -/

/-- A key revocation in progress (R401 to R403): OP, cue, the take's origin, serial and PC; whether it is late. -/
structure Rev where
  idx : Nat
  op : Nat
  cue : Nat
  cueEn : Bool
  origin : Nat
  serial : Nat
  pc : Nat
  late : Bool := false
  deriving DecidableEq, Repr

/-- What waits for an entry of the key table to be read (R393): a packet at FME `e`, or descriptor `n` of queue
`q`. -/
inductive KeyJob where
  | pkt (e : Nat) (p : Packet)
  | desc (q n : Nat)
  deriving DecidableEq, Repr

/-- The region key table and its cache: words (key 4 × index + word); entries with an uncorrectable error; the
order in which entries last became FREE (unlisted ones have been FREE since the reset); indexes held by a cache
set, the most recently used first; accesses admitted, by index; lookups that wait; revocations in progress; each
slice's regions (R389). -/
structure Keys where
  tab : Tab DWord := []
  bad : List Nat := []
  freed : Tab Nat := []
  order : Nat := 0
  cache : Tab (List Nat) := []
  held : Tab Nat := []
  wait : List (Nat × KeyJob) := []
  revs : List Rev := []
  scnt : Tab Nat := []
  deriving DecidableEq, Repr

/-! ## Queues (chapter 14) -/

/-- The states of a queue (R408). -/
inductive QState where
  | free | stopped | active | stopping | failing | error
  deriving DecidableEq, Repr

/-- A descriptor that has been started and not ended (R418): its number and words (empty after a failed fetch),
the status with which it ends once known, the index of the local region under which it is admitted, the `now`
at its start. -/
structure Desc where
  n : Nat
  ws : List DWord
  status : Option Nat := none
  lidx : Option Nat := none
  start : Nat := 0
  deriving DecidableEq, Repr

/-- A queue context (R408) and its engine state: words 0 to 3; the fields of words 8 to 11; whether STOPPING
leads to FREE; the words of a context hit by an uncorrectable error that are not rewritten yet, as a mask; ring
entries read and not started (none: the read failed), the number of the next entry to read, whether a read is
outstanding; descriptors started; those ended OK and not counted, each with its CUE bit; records on their way. -/
structure Queue where
  w : List DWord := [0, 0, 0, 0]
  st : QState := .free
  pi : Nat := 0
  ccnt : Nat := 0
  ecnt : Nat := 0
  ncnt : Nat := 0
  failIdx : Nat := 0
  failCode : Nat := 0
  nci : Nat := 0
  lastStart : Nat := 0
  toFree : Bool := false
  bad : Nat := 0
  ring : List (Option (List DWord)) := []
  reading : Option Nat := none
  descs : List Desc := []
  okd : List (Nat × Bool) := []
  ending : List Desc := []
  deriving DecidableEq, Repr

/-! ## Messages (chapter 15) -/

/-- Whose work a message carries. -/
inductive Client where
  | queue (q n : Nat)
  | dma (c : Nat)
  deriving DecidableEq, Repr

/-- The state of a tracker (R443): the packet or a copy is out; it waits after a transient NAK until a `now`; the
LASTP has been written and its result is awaited; a copy is due. -/
inductive TrackState where
  | out
  | nakWait (t : Nat)
  | pend
  | due
  deriving DecidableEq, Repr

/-- A tracker (R443): the packet's index, state, path, the ts and the `now` of its latest copy, the bytes it
counts in flight, its data and poison; `pended` tells that its copies follow an ACK with PEND = 1. -/
structure Track where
  pidx : Nat
  st : TrackState := .out
  path : Nat
  ts : Nat
  at_ : Nat
  bytes : Nat
  data : List Byte
  ep : Bool := false
  pended : Bool := false
  deriving DecidableEq, Repr

/-- A message in progress at its initiator (R437, R438): client, OP of R416, header fields, the local address,
the host port's partition and slice, the wrap of a circular source; the next PIDX to send; a segment read and not
sent; whether a segment read is outstanding; trackers; local writes outstanding; the first failure; the `now`
of the first send. -/
structure Msg where
  cl : Client
  mid : Nat
  op : Nat
  dnode : Nat
  domain : Nat
  vc : Nat
  bulk : Bool
  rkey : Nat
  roff : Nat
  len : Nat
  tq : Nat := 0
  aop : Nat := 0
  opa : Nat := 0
  opb : Nat := 0
  laddr : Nat
  part : Nat
  slice : Option Nat
  next : Nat := 0
  staged : Option (List Byte × Bool) := none
  reading : Bool := false
  tracks : List Track := []
  sinks : Nat := 0
  fail : Option Nat := none
  started : Option Nat := none
  /-- No further packet is sent: the channel was lulled or aborted (R463, R477). -/
  shut : Bool := false
  deriving DecidableEq, Repr

/-- A destination context (R446 to R448): the window; smoothed RTTs per path and of the destination; the `now`
of the round's start, whether it has decreased W, whether it has taken samples, whether one lay above TARGET;
the path next in turn and packets sent; the `now` until which pacing holds the next packet; the `now` at which
the last packet ceased to be outstanding. -/
structure Dest where
  w : Nat
  prtt : Tab Nat := []
  rtt : Option Nat := none
  round : Option Nat := none
  cut : Bool := false
  sampled : Bool := false
  above : Bool := false
  turn : Nat := 0
  count : Nat := 0
  pace : Option Nat := none
  idle : Option Nat := none
  deriving DecidableEq, Repr

/-- An FME as initiator: messages in progress, the next MID, destination contexts by node, the node served
last, the queue served last. -/
structure Engine where
  msgs : List Msg := []
  mid : Nat := 0
  dests : Tab Dest := []
  lastNode : Nat := 0
  lastQueue : Nat := 65535
  deriving DecidableEq, Repr

/-- The states of a reassembly entry (R445). -/
inductive RState where
  | open_ | notify | held
  deriving DecidableEq, Repr

/-- A reassembly entry (R445): its key; state; the `now` of the first and of the last copy; bytes written; BASE
and the PIDX values above it; packets being written; TOTAL, the immediate and TQ from the LASTP; the last copy
of the LASTP; the first failure; the answer kept in HELD; the region and offset of the first byte; the `now` since
which its notification waits for a full ring; whether its record is being written. An AREQ's entry keeps its old
value and poison. -/
structure Reasm where
  snode : Nat
  sfme : Nat
  mid : Nat
  st : RState := .open_
  since : Nat
  last : Nat
  count : Nat := 0
  base : Nat := 0
  seen : List Nat := []
  writing : List Nat := []
  total : Option Nat := none
  imm : Nat := 0
  tq : Nat := 0
  lastp : Option Packet := none
  failed : Option Nat := none
  result : Option Nat := none
  rkey : Nat
  roff : Nat
  full : Option Nat := none
  recording : Bool := false
  atomic : Bool := false
  old : Nat := 0
  oldEp : Bool := false
  deriving DecidableEq, Repr

/-! ## Slices (chapter 17) -/

/-- A slice (R476 to R484): its state (0 LULL, 1 ACTIVE, 2 LULLING); LOGSEL, FLUSHING, RESETTING, LATE, LOGBAD;
lulled channels as a mask, and those that were in WAITGO; the cue of the Lull and of the FLUSH; log lines of a
FLUSH or Lull still on their way; whether the Lull's flush has begun; whether a long operation awaits the Lull. -/
structure Slice where
  st : Nat := 0
  logsel : Bool := false
  flushing : Bool := false
  resetting : Bool := false
  late : Bool := false
  logbad : Bool := false
  lch : Nat := 0
  lwait : Nat := 0
  lullCue : Option Nat := none
  flushCue : Option Nat := none
  lines : Nat := 0
  lullFlush : Bool := false
  quiet : Bool := false
  deriving DecidableEq, Repr

/-- A line of the log cache (R484): slice, bitmap (0 A, 1 B), line of 512 pages, its bits. -/
structure LogLine where
  s : Nat
  sel : Nat
  line : Nat
  bits : Nat
  deriving DecidableEq, Repr

/-! ## DMA channels (chapter 16) -/

/-- A DMA channel besides its registers (R456 to R463): the ring entry read (none inside: the read failed) and
whether a read is outstanding; the words of the descriptor in progress; bytes staged, each chunk with its
poison; the next byte to read and to move; source reads outstanding; writes outstanding; the segment gathered for
a remote destination, its poison; whether the FME message has ended; the first failure; whether ABORT, PAUSE's
return state or a Lull stands; the number of its present piece of work; whether the channel was restarted by
RESUME with its GO already taken. -/
structure Chan where
  entry : Option (Option (List DWord)) := none
  fetching : Bool := false
  cur : Option (List DWord) := none
  badFetch : Bool := false
  stage : List (List Byte × Bool) := []
  rd : Nat := 0
  mv : Nat := 0
  reads : Nat := 0
  writes : Nat := 0
  seg : List Byte := []
  segEp : Bool := false
  msg : Option (Nat × Nat) := none
  msgDone : Bool := false
  fail : Option Nat := none
  abort : Bool := false
  fromWait : Bool := false
  lull : Bool := false
  gen : Nat := 0
  goTaken : Bool := false
  deriving DecidableEq, Repr

/-- A cue timer that is armed (R469): mode, line, restart line, its enable, period, the `now` of its next pulse
(modes 1 and 2; none after a one-shot has fired) or the fabric time of mode 3. -/
structure CueTimer where
  mode : Nat
  line : Nat
  sline : Nat
  sen : Bool
  period : Nat
  next : Option Nat
  deriving DecidableEq, Repr

/-- The engines. -/
structure Engines where
  io : HostIo := {}
  keys : Keys := {}
  qs : Tab Queue := []
  fme : Tab Engine := []
  reasm : Tab (List Reasm) := []
  slices : Tab Slice := []
  log : List LogLine := []
  ch : Tab Chan := []
  /-- The channel that moved the previous beat and the beats it has moved in succession (R460). -/
  mover : Nat × Nat := (63, 0)
  tmr : Tab CueTimer := []
  deriving DecidableEq, Repr

end Sys2Proof.Machine
end

