-- ==== Sys2Proof/Machine/PowerRecords.lean ====
section
/-! DEFINITION. The records of the Slot Power Controllers (chapter 18). -/

namespace Sys2Proof.Machine

/-- A feed of an SPC (R498): the `now` since which it has stayed in range, successive steps out of range, the `now` at
which it became valid. -/
structure Feed where
  since : Option Nat := none
  out : Nat := 0
  validAt : Nat := 0
  deriving DecidableEq, Repr

/-- A capture window (R511): open, its start, its energy in nJ. -/
structure Window where
  isOpen : Bool := false
  start : Nat := 0
  energy : Nat := 0
  deriving DecidableEq, Repr

/-- The stages of a switchover (R499): none; the old gate is pulled down; dead time until a `now`; the new gate is
driven. -/
inductive Switch where
  | none
  | pulling (dst : Nat)
  | dead (dst : Nat) (t : Nat)
  | driving
  deriving DecidableEq, Repr

/-- Sums over the steps since the last update of the means (R510). -/
structure Sums where
  n : Nat := 0
  vout : Nat := 0
  vin : Nat := 0
  vinA : Nat := 0
  vinB : Nat := 0
  i : Nat := 0
  p : Nat := 0
  deriving DecidableEq, Repr

/-- The pin PERST_N of a station (R108, R109, R127): high impedance or an input, driven low, driven high. -/
inductive Perst where
  | z | low | high
  deriving DecidableEq, Repr

/-- An SPC besides its registers: the `now` of its last step; VOUT in mV and I in mA at it; successive steps with
PRSNT_N at a new level; its feeds; successive steps of reverse current and of low VOUT; the curve counters; the `now`
at which the gate drive started, and that at which the drive of the attempt that runs started (R506); whether the gate is fully on; PGCNT; the `now` at which power-good rose; PERST_N;
the ends of the waits of a DISABLE and of a retry; the switchover; a fast trip latched; sums; nJ not yet counted in
SPC_E; the capture windows. -/
structure Spc where
  at_ : Nat := 0
  vout : Nat := 0
  cur : Int := 0
  prs : Nat := 0
  a : Feed := {}
  b : Feed := {}
  rev : Nat := 0
  low : Nat := 0
  ck : Tab Nat := []
  drive : Option Nat := none
  tryAt : Nat := 0
  full : Bool := false
  pgcnt : Nat := 0
  pgAt : Nat := 0
  perst : Perst := .z
  disAt : Option Nat := none
  retryAt : Option Nat := none
  sw : Switch := .none
  fast : Bool := false
  sums : Sums := {}
  nj : Nat := 0
  caps : Tab Window := []
  deriving DecidableEq, Repr

/-- The charges of a window that wait for its statistics sweep (R518): the `now` of the window's end, and the charge of
each partition in nJ. -/
structure Sweep where
  at_ : Nat
  charges : Tab Nat := []
  deriving DecidableEq, Repr

/-- The Forecaster besides its registers (R516 to R529): the `now` of the release of reset and of the last rail sample;
nJ not yet counted in FCST_RAIL, and nJ of the window, by rail; the device's nJ and the samples since the last
evaluation; each slot's nJ at the start of the window; cells that crossed the planes in it, by partition (48 the
managers); the sweeps that wait; the `now` of the last evaluation and since which no pressure has held; the last
hottest sensor in steps of 0.5 °C, and whether FCST_THERM has been raised for it; re-adaptations in the order in which
their DUE bits rose (station, lane, `now`). -/
structure Fcst where
  base : Nat := 0
  sampled : Nat := 0
  part : Tab Nat := []
  win : Tab Nat := []
  seg : Nat := 0
  segN : Nat := 0
  slot0 : Tab Nat := []
  cells : Tab Nat := []
  sweeps : List Sweep := []
  evalAt : Nat := 0
  calm : Option Nat := none
  hot : Nat := 0
  hotRaised : Bool := false
  due : List (Nat × Nat × Nat) := []
  deriving DecidableEq, Repr

/-- The AVSBus master (R121, R122): VCORE last written in mV, which a warm reset of FCST_VSET does not move; the `now` of
the last write; whether its read-back is awaited; retries made; a value to write again; the last value read back;
whether AVS_FAIL has ended all writes. -/
structure Avs where
  set : Nat := 720
  last : Option Nat := none
  wait : Bool := false
  retries : Nat := 0
  again : Option Nat := none
  seen : Nat := 720
  dead : Bool := false
  deriving DecidableEq, Repr

/-- The power side of the device. -/
structure Power where
  spc : Tab Spc := []
  fcst : Fcst := {}
  avs : Avs := {}
  deriving DecidableEq, Repr

end Sys2Proof.Machine
end

