-- ==== Sys2Proof/Machine/Records.lean ====
section
/-! DEFINITION. The records of the data path: lanes and spare lanes, ports, fabric links, carried units
and their cells, the ingress buffers, the egress queues and schedulers, tunnels, locks and wires. -/

namespace Sys2Proof.Machine

/-! ## Lanes (chapter 6) -/

/-- What a lane keeps besides its registers: the `now` at which it entered its state and at which its
energy began; accepted commas in succession; successive expiries in CDR, ALIGN or EQ; whether its last
comma said RXREADY; the SREQ of its last comma (none while it was not accepted); its transmitter's
coefficient magnitudes in steps of 0.01 and the preset they started from; its receiver's taps in 1/1,000 of the main cursor,
24 of the FFE and then the DFE; comma intervals in succession without more corrected symbols than EQ allows; commas missing
in succession; corrected symbols of the last intervals, the newest first (R163, R167, R173). -/
structure Lane where
  since : Nat := 0
  commas : Nat := 0
  fails : Nat := 0
  ready : Bool := false
  sreq : Option Nat := none
  txreq : Nat := 0
  good : Bool := true
  preset : Nat := 0
  cm2 : Nat := 0
  cm1 : Nat := 0
  cp1 : Nat := 0
  taps : List Int := []
  clean : Nat := 0
  missed : Nat := 0
  sers : List Nat := []
  deriving DecidableEq, Repr

/-- What a lane's training record holds besides LN_REC (R168): the equaliser state, which is the receiver's taps and the
transmitter's coefficients, and the preset that the lane started from. -/
structure LaneRec where
  preset : Nat
  cm2 : Nat
  cm1 : Nat
  cp1 : Nat
  taps : List Int
  deriving DecidableEq, Repr

/-- A margin sweep in progress (R181): where its sampler stands, and the `now` at which it started. -/
structure MarginSweep where
  lane : Nat
  voltage : Bool
  positive : Bool
  step : Nat
  eye : Nat
  dwell : Nat
  at_ : Nat
  deriving DecidableEq, Repr

/-- What the receiving end of a spare keeps (R174, R178): the SREQ it sends, whether CARRY has been
accepted, whether the lane's data is taken from the spare, whether that counts as a takeover, whether the
spare re-adapts in place, the physical lane whose re-adaptation the Forecaster has released. -/
structure Spare where
  sreq : Nat := 15
  carried : Bool := false
  taken : Bool := false
  counts : Bool := true
  inPlace : Bool := false
  adapting : Option Nat := none
  deriving DecidableEq, Repr

/-- A fabric port's bring-up (R164): successive expiries, and the `now` of the next retry once
TRAIN_FAIL has been raised: its lanes wait in DETECT for it. -/
structure Bringup where
  expiries : Nat := 0
  failed : Bool := false
  waiting : Bool := false
  at_ : Nat := 0
  deriving DecidableEq, Repr

/-! ## Fabric links (chapter 8) -/

/-- A packet held in the replay buffer, with the unit whose cells it came from. -/
structure Sent where
  pkt : Packet
  stomped : Bool := false
  deriving DecidableEq, Repr

/-- A time synchronisation response that waits for a reserved position: TAG, the arrival time t2. -/
structure TsWait where
  tag : Bool
  t2 : Nat
  deriving DecidableEq, Repr

/-- A fabric link's state (R231 to R252). -/
structure Link where
  /-- The sequence and credit state has been reset since the last UP (R243). -/
  init : Bool := true
  seq : Nat := 0
  nes : Nat := 0
  replay : List Sent := []
  inRow : Nat := 0
  /-- `now` at the restart of the replay timer. -/
  rplAt : Nat := 0
  bseq : Nat := 0
  bnes : Nat := 0
  /-- Unacknowledged sequenced short packets, oldest first. -/
  bypass : List Short := []
  /-- `now` at the last advance of BACK. -/
  bAt : Nat := 0
  /-- BSEQ of the next entry to send again. -/
  bResend : Option Nat := none
  /-- Link-level sequenced short packets that wait: RETRAIN_REQ, RETRAIN_ACK, WIDTH. -/
  ctrl : List ShortBody := []
  /-- A NAK is pending, and the value and `now` of the last one sent. -/
  nak : Bool := false
  nakSent : Option (Nat × Nat) := none
  /-- Last CUM received for each VC; none until the first CREDIT of its half. -/
  cumRx : Tab (Option Nat) := []
  sent : Tab Nat := []
  cum : Tab Nat := []
  /-- The CUM values last sent: withheld credits repeat them (R147, R273). -/
  cumAdv : Tab Nat := []
  rot : Nat := 0
  /-- The request in REQ or the prevailing one in PAUSE: OP, TWIDTH, SEL. -/
  op : Nat := 0
  tw : Nat := 0
  sel : Nat := 0
  /-- The physical lanes whose receivers are in use, in the order of their logical lanes once these are known, and those whose
  transmitters are, logical lane 0 first. -/
  use : List Nat := []
  tx : List Nat := []
  /-- The physical lanes of the port in the order of the logical lanes of its configured width, once known (R245). -/
  full : List Nat := []
  /-- OP, TWIDTH and SEL of a RETRAIN_ACK to be sent, before the port pauses (R242, R244). -/
  pausing : Option (Nat × Nat × Nat) := none
  /-- Framing is lost: the data stream is discarded until a BOUND shows where to resume (R223). -/
  lost : Bool := false
  /-- The bytes still to be sent of each packet that has been given to the data stream, in order (R220, R221). -/
  stream : List Nat := []
  /-- Unit positions of the stream before the next one after a reserved position: its UPN is this modulo 64 (R220). -/
  upn : Nat := 0
  /-- The replay that runs: the n it began from, and the bytes until it has been sent (R241). -/
  rplRun : Option (Nat × Nat) := none
  /-- An INIT of the partner has been applied since TRAIN (R243). -/
  inited : Bool := false
  /-- A WIDTH that came before CHECK: NODE, STN, PORT, NES, INIT. -/
  peer : Option (Nat × Nat × Nat × Nat × Bool) := none
  /-- `now` of the entry into the present link state. -/
  since : Nat := 0
  /-- Packets kept unclassified in the ingress cell buffer, each with the REST of its pair, oldest first (R147). -/
  held : List (Packet × Option Packet) := []
  /-- The FIRST that waits for its REST (R335, R437), and the SEG 0 that waits for SEG 1 (R344). -/
  first : Option Packet := none
  seg0 : Option ShortBody := none
  /-- SEG 1 of a notice whose SEG 0 has just been sent. -/
  seg1 : Option ShortBody := none
  /-- Time synchronisation: a request to send, responses to send, the TAG and t1 of the request sent. -/
  tsReq : Bool := false
  tsResp : List TsWait := []
  tsTag : Bool := false
  tsT1 : Option Nat := none
  deriving DecidableEq, Repr

/-- The follower's record of exchanges (R252): successive good exchanges, successive misses; on a source, whether time has
been loaded, the `now` of the last PPS edge, a load waiting for an edge. -/
structure TimeSync where
  good : Nat := 0
  misses : Nat := 0
  loaded : Bool := false
  ppsAt : Option Nat := none
  waitLoad : Option Nat := none
  /-- `now` of the last exchange period, the phase left to correct, and the ns run toward the next 1 ns of
  correction (R251). -/
  at_ : Nat := 0
  slew : Int := 0
  acc : Nat := 0
  /-- The rate at which time runs against its free-running value, in 10^-9, and what it has run toward the next 1 ns (R251). -/
  rate : Int := 0
  racc : Int := 0
  deriving DecidableEq, Repr

/-! ## Carried units (chapters 9 to 12) -/

/-- What a unit carries: a TLP of partition `part` between local ports (KIND 0); a fabric packet, with
the REST of its pair joined to it (KINDs 1 to 4); routed short packets (QUEUE 8). -/
inductive Body where
  | tlp (part colour : Nat) (t : Tlp)
  | pkt (p : Packet) (rest : Option Packet)
  | short (l : List ShortBody)
  deriving DecidableEq, Repr

/-- Which port a unit entered by, and what it gives back when its half-cells are freed. -/
inductive Origin where
  /-- A PCI Express port. -/
  | pcie (port : Nat)
  /-- A fabric port, its VC and its credit units (R235). -/
  | fabric (port vc units : Nat)
  /-- An engine of the station: the internal reserve (R292). -/
  | internal
  deriving DecidableEq, Repr

/-- What a unit in the ingress cell buffer waits for: nothing; the grant of the locked sequence of a partition
through an import (R347); a tag of its shared port's pool, with the partition, requester and tag to restore (R323). -/
inductive UWait where
  | none
  | lock (part imp : Nat)
  | tag (part req tag : Nat)
  deriving DecidableEq, Repr

/-- A carried unit in the device: ingress station, egress logical port (4 × station + port), group and
QUEUE of its queue, cell count, half-cells, cells that are poisoned, whether the ingress has freed it, a
header error in a cell, the `now` until which it is held (R355), the `now` of its first cell in its queue
(R441), whether the egress keeps it for a resend (R276). -/
structure CUnit where
  src : Nat
  origin : Origin
  dst : Nat
  group : Nat
  queue : Nat
  cells : Nat
  half : Nat
  body : Body
  pois : List Nat := []
  freed : Bool := false
  hdrBad : Bool := false
  holdUntil : Nat := 0
  entered : Nat := 0
  gone : Bool := false
  /-- A TLP of a locked sequence that came by tunnel (R346). -/
  locked : Bool := false
  /-- The host request of an engine that this internal transfer carries: 64 × job + TLP (R259). -/
  job : Option Nat := none
  /-- The DMA channel whose local write it carries (R460). -/
  chan : Option Nat := none
  wait : UWait := .none
  /-- A further copy of a broadcast, or a copy to be stomped: it gives no credit back. -/
  copy : Bool := false
  /-- The copy that cut-through has begun of a packet received with an error: it leaves stomped (R227). -/
  stomp : Bool := false
  /-- The function at which it entered its partition: partition and function (R204). -/
  entry : Option (Nat × Nat) := none
  deriving DecidableEq, Repr

/-- A cell in the core: its sequence number, its unit and its place in it, the plane that carries it, the
`now` of its offer, whether the egress has captured it. -/
structure Flying where
  csn : Nat
  uid : Nat
  idx : Nat
  plane : Nat
  at_ : Nat
  captured : Bool := false
  deriving DecidableEq, Repr

/-- A station's ingress: its lists by egress port × 16 + QUEUE, the list served last, slot credits spent
by egress station, the next CSN by egress port, the cells unacknowledged by egress port, the unit in
progress by egress port with its next cell, TLPs that wait at a PCI Express port behind a red one. -/
structure Ingress where
  lists : Tab (List Nat) := []
  last : Nat := 0
  spent : Tab Nat := []
  /-- Slots left at each egress station whose credit has not come back (R294). -/
  owed : Tab Nat := []
  csn : Tab Nat := []
  flying : Tab (List Flying) := []
  part : Tab (Nat × Nat) := []
  flow : Tab (List Tlp) := []
  /-- Internal units that wait for room in the internal reserve, oldest first (R292). -/
  outside : List Nat := []
  heldOnce : Tab Bool := []
  deriving DecidableEq, Repr

/-- A cell in a queue: its unit and its place. -/
abbrev CellRef := Nat × Nat

/-- A Drift block of a queue's middle: its cells, its index in the VOQ pool (R300), whether its write or its read is in
progress. -/
structure Block where
  cells : List CellRef
  idx : Nat := 0
  writing : Bool := false
  reading : Bool := false
  deriving DecidableEq, Repr

/-- An egress queue (R296): head segments, middle, tail segment; whether a cell of it waits because it
cannot be taken. -/
structure EQueue where
  head : List (List CellRef) := []
  mid : List Block := []
  tail : List CellRef := []
  deriving DecidableEq, Repr

/-- A resequencer (R264): the next CSN to release, the cells held, whether its next cell waits for a
queue (R305). -/
structure Reseq where
  next : Nat := 0
  held : List (Nat × CellRef) := []
  waiting : Bool := false
  deriving DecidableEq, Repr

/-- The packet an egress has begun before all its cells were there, or has stomped (R275, R276). -/
inductive Sending where
  | none
  | begun (uid group queue : Nat)
  | stomped (uid group queue : Nat)
  deriving DecidableEq, Repr

/-- A scheduler of an egress port (R365, R366): groups in turn with their class lists; deficits and
fresh marks of groups (key g) and of classes (key g × 16 + c); the group served last at class 7. -/
structure Sched where
  glist : List Nat := []
  clist : Tab (List Nat) := []
  gdef : Tab Nat := []
  gfresh : Tab Bool := []
  cdef : Tab Nat := []
  cfresh : Tab Bool := []
  last7 : Nat := 48
  deriving DecidableEq, Repr

/-- Who holds an egress port locked (R207, R347): a local ingress port, or a requester node, port and
LTAG with the `now` of the grant. -/
inductive Lock where
  | free
  | byPort (port : Nat)
  | remote (node port ltag at_ : Nat)
  deriving DecidableEq, Repr

/-- Where a TLP enters a partition: a local PCI Express port, or the bridge of import `k`. -/
inductive Entrance where
  | port (x : Nat)
  | imp (k : Nat)
  deriving DecidableEq, Repr

/-- An egress port: its resequencers by source station, its queues by group × 16 + QUEUE, its scheduler,
shaper credits in 1/8,000 B with the `now` they were brought up to, flow-control credits by type, the
stand-aside list, the packet in progress, the lock, tags of its pool in use (R323: tag, partition,
requester, tag there). -/
structure EPort where
  reseq : Tab Reseq := []
  queues : Tab EQueue := []
  sched : Sched := {}
  shp : Tab (Int × Nat) := []
  fc : Tab (Nat × Nat) := []
  aside : List (Nat × Nat) := []
  sending : Sending := .none
  lock : Lock := .free
  tags : List (Nat × Nat × Nat × Nat) := []
  deriving DecidableEq, Repr

/-- A policer's buckets in 1/256 B, as of a `now` (R371). -/
structure Bucket where
  c : Nat
  e : Nat
  at_ : Nat
  deriving DecidableEq, Repr

/-- A test of a plane in progress (R277). -/
inductive PlaneJob where
  | none
  | test (plane : Nat) (restore : Bool)
  deriving DecidableEq, Repr

/-! ## Tunnels, locks and wires (chapter 11) -/

/-- A locked sequence at its originating edge (R347): partition and import; the upstream port, and the import's node, port
and domain, as its first request was classified (R70); LTAG, refusals in succession, whether granted, whether its LOCK_REQ
has no answer yet, the `now` until which it backs off. Its requests wait as units in the ingress cell buffer. -/
structure LockSeq where
  part : Nat
  imp : Nat
  up : Nat
  node : Nat
  dport : Nat
  domain : Nat
  ltag : Nat
  refusals : Nat := 0
  granted : Bool := false
  outstanding : Bool := true
  backoff : Option Nat := none
  deriving DecidableEq, Repr

/-- The last answer of a far edge for a port: requester node, port, LTAG, RES (R347). -/
structure LockAns where
  node : Nat
  port : Nat
  ltag : Nat
  res : Nat
  deriving DecidableEq, Repr

/-- A wire (R350, R351): its level, its WCNT, the last two samples of a source, whether a sink has
received, the `now` of the last refresh. -/
structure Wire where
  level : Bool := true
  wcnt : Nat := 0
  last : Option Bool := none
  got : Bool := false
  at_ : Nat := 0
  deriving DecidableEq, Repr

/-- The fabric: routes withdrawn and rejoined (`now`), tunnels' locks, wires, buffers of remote words,
notices' tags. -/
structure Fabric where
  moved : Tab Nat := []
  locks : List LockSeq := []
  answers : Tab LockAns := []
  ltag : Nat := 0
  ftag : Nat := 0
  wires : Tab Wire := []
  mtx : List DWord := []
  /-- MGMT packets of this node that wait for the reserve of their station, oldest first (R292). -/
  mgmtOut : List Packet := []
  /-- Words of GLB_MRX; true marks the word that precedes a packet. -/
  mrx : List (DWord × Bool) := []
  /-- MGMT packets that have arrived at this node and wait, oldest first, with the origin and station of
  the ingress buffer that holds them. -/
  mgmt : List (Packet × Origin × Nat) := []
  deriving DecidableEq, Repr

/-- A PCI Express port besides its registers (R199, R208 to R212): its lanes in use, logical lane 0 first (lanes 8 to 15
of a pair are those of its upper station); the lanes that have failed since it trained; the `now` at which a lane failure
took it into Recovery; a retrain or width change in progress, with its target width code; how many times L0p has halved
its width; whether it runs with lane reversal. -/
structure PPort where
  use : List Nat := []
  rev : Bool := false
  bad : List Nat := []
  recAt : Option Nat := none
  cmd : Option (Option Nat) := none
  narrow : Nat := 0
  /-- The header and data credits that the link partner holds, and those whose return is withheld (R147), by type:
  0 posted, 1 non-posted, 2 completion. -/
  grant : Tab (Nat × Nat) := []
  kept : Tab (Nat × Nat) := []
  deriving DecidableEq, Repr

/-- A non-posted request that awaits its completion (R148): the port by which it left, or 128 plus the node to which it was
tunnelled; requester and tag; the bytes that a read still lacks. -/
structure NpReq where
  via : Nat
  req : Nat
  tag : Nat
  left : Nat
  deriving DecidableEq, Repr

/-- The bytes that the Drift store has moved since the last whole microsecond of `now`: for queue spills and refills, and
for its other clients (R313). -/
structure DriftWindow where
  queues : Nat := 0
  others : Nat := 0
  deriving DecidableEq, Repr

/-- The data path. -/
structure DataPath where
  lanes : Tab Lane := []
  spares : Tab Spare := []
  bring : Tab Bringup := []
  links : Tab Link := []
  time : TimeSync := {}
  units : Tab CUnit := []
  uid : Nat := 0
  ing : Tab Ingress := []
  eport : Tab EPort := []
  ppol : Tab Bucket := []
  spol : Tab Bucket := []
  plane : PlaneJob := .none
  /-- The plane whose removal waits for acknowledgements (R277). -/
  removal : Option Nat := none
  /-- The `now` of the request granted last at each plane output, by 2 × station + plane (R266). -/
  granted : Tab (Option Nat) := []
  /-- The queue served last by a refill read and by a spill write of each station, as 1,024 × port + queue (R304). -/
  refilled : Tab Nat := []
  spilled : Tab Nat := []
  driftArmed : Bool := true
  /-- Non-posted requests forwarded whose completion has not been delivered (R148). -/
  np : List NpReq := []
  fab : Fabric := {}
  /-- FME packets that have arrived at this node, by FME, with the port at which they came. -/
  fmeIn : Tab (List Packet) := []
  /-- Margin sweeps in progress, by station. -/
  margin : Tab MarginSweep := []
  /-- Training records, by 9 × station + lane, kept across warm and station resets (R130, R168). -/
  recs : Tab LaneRec := []
  pports : Tab PPort := []
  deriving DecidableEq, Repr

end Sys2Proof.Machine
end

