-- ==== Sys2Proof/Machine/Bits.lean ====
section
/-! DEFINITION. Bit fields, sign extension and byte order (R5, R9, R589). -/

namespace Sys2Proof.Machine

/-- A bit field of a register word: its lowest bit and its width in bits. -/
structure Fld where
  lo : Nat
  w : Nat
  deriving DecidableEq, Repr

/-- Bits [lo + w - 1 : lo] of a number. -/
def bits (x lo w : Nat) : Nat := x / 2 ^ lo % 2 ^ w

/-- Bit `i` of a number. -/
def bit (x i : Nat) : Bool := x / 2 ^ i % 2 == 1

/-- Puts `v` into bits [lo + w - 1 : lo] of `x`. -/
def setBits (x lo w v : Nat) : Nat := x - bits x lo w * 2 ^ lo + v % 2 ^ w * 2 ^ lo

/-- The value of a field of a register word. -/
def fget (v : Word) (f : Fld) : Nat := bits v.toNat f.lo f.w

/-- A register word with one field replaced. -/
def fset (v : Word) (f : Fld) (x : Nat) : Word := BitVec.ofNat 32 (setBits v.toNat f.lo f.w x)

/-- 1 for true and 0 for false. -/
def b2n (b : Bool) : Nat := if b then 1 else 0

/-- A `w`-bit number read as two's complement. -/
def signed (w x : Nat) : Int := if x < 2 ^ (w - 1) then (x : Int) else (x : Int) - 2 ^ w

/-- A number as a `w`-bit two's complement field. -/
def unsigned (w : Nat) (x : Int) : Nat := (x % (2 ^ w : Int)).toNat

/-- Ceiling of `a / b`. -/
def ceilDiv (a b : Nat) : Nat := (a + b - 1) / b

/-- The two words of a 64-bit quantity, bits [31:0] first (R589). -/
def lo32 (x : Nat) : Word := BitVec.ofNat 32 x

/-- Bits [63:32] of a 64-bit quantity (R589). -/
def hi32 (x : Nat) : Word := BitVec.ofNat 32 (x / 2 ^ 32)

/-- A 64-bit quantity from its two words (R589). -/
def join64 (lo hi : Word) : Nat := lo.toNat + hi.toNat * 2 ^ 32

/-- The bytes of a little-endian number, `n` of them. -/
def toBytes : Nat → Nat → List Byte
  | 0, _ => []
  | n + 1, x => BitVec.ofNat 8 x :: toBytes n (x / 256)

/-- The little-endian number that bytes spell. -/
def ofBytes : List Byte → Nat
  | [] => 0
  | b :: l => b.toNat + 256 * ofBytes l

end Sys2Proof.Machine
end

