-- ==== Sys2Proof/Machine/RegMap.lean ====
section
/-! DEFINITION. The register map: the address of every register word (R588, R589, R595 and the
register tables of the chapters), the fields of the field tables, and for every word its reset value
and the bits that takes may write (R9, R43, R593, R594). -/

namespace Sys2Proof.Machine

namespace Reg

/-- GLB_ID (R2). -/
def GLB_ID : Nat := 0x0
/-- GLB_PARAM_PORT (R3). -/
def GLB_PARAM_PORT : Nat := 0x8
/-- GLB_PARAM_MEM (R3). -/
def GLB_PARAM_MEM : Nat := 0xC
/-- GLB_STRAP (R115). -/
def GLB_STRAP : Nat := 0x20
/-- GLB_MODE (R143). -/
def GLB_MODE : Nat := 0x30
/-- GLB_RSTCMD (R134). -/
def GLB_RSTCMD : Nat := 0x34
/-- GLB_RSTCAUSE (R134). -/
def GLB_RSTCAUSE : Nat := 0x38
/-- GLB_BOOTSTAT (R140). -/
def GLB_BOOTSTAT : Nat := 0x3C
/-- GLB_DRAINCTL (R148). -/
def GLB_DRAINCTL : Nat := 0x40
/-- GLB_DRAINSTAT (R148). -/
def GLB_DRAINSTAT : Nat := 0x44
/-- GLB_DIRSTAT (R67). -/
def GLB_DIRSTAT : Nat := 0x100
/-- GLB_CUTTIME_LO (R67). -/
def GLB_CUTTIME_LO : Nat := 0x108
/-- GLB_CUTTIME_HI (R67). -/
def GLB_CUTTIME_HI : Nat := 0x10C
/-- GLB_TAKECNT (R67). -/
def GLB_TAKECNT : Nat := 0x110
/-- GLB_LSCNT (R67). -/
def GLB_LSCNT : Nat := 0x114
/-- GLB_RMGR (R67). -/
def GLB_RMGR (i : Nat) : Nat := 0x120 + 0x4 * i
/-- GLB_FMPART (R67). -/
def GLB_FMPART : Nat := 0x130
/-- GLB_CUTCTL (R88). -/
def GLB_CUTCTL : Nat := 0x140
/-- GLB_CUTCNT (R88). -/
def GLB_CUTCNT : Nat := 0x144
/-- GLB_SLATE_HEAD (R88). -/
def GLB_SLATE_HEAD : Nat := 0x148
/-- GLB_SLATE_RD (R88). -/
def GLB_SLATE_RD : Nat := 0x14C
/-- GLB_SLATE_CKPT (R88). -/
def GLB_SLATE_CKPT : Nat := 0x150
/-- GLB_SLATE_LOST (R88). -/
def GLB_SLATE_LOST : Nat := 0x154
/-- GLB_SLATE_STAT (R88). -/
def GLB_SLATE_STAT : Nat := 0x158
/-- GLB_SLATE_CKINT (R88). -/
def GLB_SLATE_CKINT : Nat := 0x15C
/-- GLB_PCIID (R192). -/
def GLB_PCIID : Nat := 0x180
/-- GLB_MINT_STAT (R197). -/
def GLB_MINT_STAT (i : Nat) : Nat := 0x200 + 0x8 * i
/-- GLB_MINT_EN (R197). -/
def GLB_MINT_EN (i : Nat) : Nat := 0x204 + 0x8 * i
/-- GLB_FT_CTL (R255). -/
def GLB_FT_CTL : Nat := 0x400
/-- GLB_FT_STAT (R255). -/
def GLB_FT_STAT : Nat := 0x404
/-- GLB_FT_NOW_LO (R255). -/
def GLB_FT_NOW_LO : Nat := 0x408
/-- GLB_FT_NOW_HI (R255). -/
def GLB_FT_NOW_HI : Nat := 0x40C
/-- GLB_FT_SET_LO (R255). -/
def GLB_FT_SET_LO : Nat := 0x410
/-- GLB_FT_SET_HI (R255). -/
def GLB_FT_SET_HI : Nat := 0x414
/-- GLB_FT_OFFSET (R255). -/
def GLB_FT_OFFSET : Nat := 0x418
/-- GLB_FT_DELAY (R255). -/
def GLB_FT_DELAY : Nat := 0x41C
/-- GLB_CORE_STAT (R286). -/
def GLB_CORE_STAT : Nat := 0x500
/-- GLB_CORE_CMD (R286). -/
def GLB_CORE_CMD : Nat := 0x504
/-- GLB_CORE_CFG (R286). -/
def GLB_CORE_CFG : Nat := 0x508
/-- GLB_CORE_SPEED (R286). -/
def GLB_CORE_SPEED : Nat := 0x50C
/-- GLB_CORE_NEED (R286). -/
def GLB_CORE_NEED : Nat := 0x510
/-- GLB_DRIFT_FREE (R313). -/
def GLB_DRIFT_FREE : Nat := 0x600
/-- GLB_DRIFT_LOWTHR (R313). -/
def GLB_DRIFT_LOWTHR : Nat := 0x604
/-- GLB_DRIFT_BW (R313). -/
def GLB_DRIFT_BW : Nat := 0x608
/-- GLB_NODE (R358). -/
def GLB_NODE : Nat := 0x700
/-- GLB_TUN_CFG (R358). -/
def GLB_TUN_CFG : Nat := 0x704
/-- GLB_RT_CFG (R358). -/
def GLB_RT_CFG : Nat := 0x708
/-- GLB_WIRE_CFG (R358). -/
def GLB_WIRE_CFG : Nat := 0x70C
/-- GLB_ISOCNT (R358). -/
def GLB_ISOCNT : Nat := 0x710
/-- GLB_NOROUTECNT (R358). -/
def GLB_NOROUTECNT : Nat := 0x714
/-- GLB_PFNTXCNT (R358). -/
def GLB_PFNTXCNT : Nat := 0x718
/-- GLB_PFNRXCNT (R358). -/
def GLB_PFNRXCNT : Nat := 0x71C
/-- GLB_LOSTCNT (R358). -/
def GLB_LOSTCNT : Nat := 0x720
/-- GLB_LOCKREFCNT (R358). -/
def GLB_LOCKREFCNT : Nat := 0x724
/-- GLB_WITHDRAWCNT (R358). -/
def GLB_WITHDRAWCNT : Nat := 0x728
/-- GLB_TUNERRCNT (R358). -/
def GLB_TUNERRCNT : Nat := 0x72C
/-- GLB_RT_DOWN (R358). -/
def GLB_RT_DOWN (i : Nat) : Nat := 0x730 + 0x4 * i
/-- GLB_RT_REJOIN (R358). -/
def GLB_RT_REJOIN : Nat := 0x738
/-- GLB_MTX_LO (R358). -/
def GLB_MTX_LO : Nat := 0x740
/-- GLB_MTX_HI (R358). -/
def GLB_MTX_HI : Nat := 0x744
/-- GLB_MTX_CTL (R358). -/
def GLB_MTX_CTL : Nat := 0x748
/-- GLB_MRX_LO (R358). -/
def GLB_MRX_LO : Nat := 0x750
/-- GLB_MRX_HI (R358). -/
def GLB_MRX_HI : Nat := 0x754
/-- GLB_MRX_CNT (R358). -/
def GLB_MRX_CNT : Nat := 0x758
/-- GLB_PFNLOG, word w (R358). -/
def GLB_PFNLOG (i w : Nat) : Nat := 0x800 + 0x10 * i + 4 * w
/-- GLB_TCVC (R377). -/
def GLB_TCVC : Nat := 0xC00
/-- GLB_GWT (R377). -/
def GLB_GWT (i : Nat) : Nat := 0xC10 + 0x4 * i
/-- GLB_GWT_LAST (R377). -/
def GLB_GWT_LAST : Nat := 0xC40
/-- GLB_RGN_BASE_LO (R405). -/
def GLB_RGN_BASE_LO : Nat := 0xD00
/-- GLB_RGN_BASE_HI (R405). -/
def GLB_RGN_BASE_HI : Nat := 0xD04
/-- GLB_RGN_LEN_LO (R405). -/
def GLB_RGN_LEN_LO : Nat := 0xD08
/-- GLB_RGN_LEN_HI (R405). -/
def GLB_RGN_LEN_HI : Nat := 0xD0C
/-- GLB_RGN_ATTR (R405). -/
def GLB_RGN_ATTR : Nat := 0xD10
/-- GLB_RGN_ACL (R405). -/
def GLB_RGN_ACL : Nat := 0xD14
/-- GLB_RGN_CMD (R405). -/
def GLB_RGN_CMD : Nat := 0xD18
/-- GLB_RGN_RES (R405). -/
def GLB_RGN_RES : Nat := 0xD1C
/-- GLB_RGN_STAT (R405). -/
def GLB_RGN_STAT : Nat := 0xD20
/-- GLB_KEYREV (R405). -/
def GLB_KEYREV : Nat := 0xD24
/-- GLB_KEYREV_RES (R405). -/
def GLB_KEYREV_RES : Nat := 0xD28
/-- GLB_KEYREV_STAT (R405). -/
def GLB_KEYREV_STAT : Nat := 0xD2C
/-- GLB_KCACHE_HIT (R405). -/
def GLB_KCACHE_HIT : Nat := 0xD30
/-- GLB_KCACHE_MISS (R405). -/
def GLB_KCACHE_MISS : Nat := 0xD34
/-- GLB_RGN_FREE (R405). -/
def GLB_RGN_FREE : Nat := 0xD38
/-- GLB_RGN_SSEL (R405). -/
def GLB_RGN_SSEL : Nat := 0xD3C
/-- GLB_RGN_SCNT (R405). -/
def GLB_RGN_SCNT : Nat := 0xD40
/-- GLB_RGN_PLIM, word w (R405). -/
def GLB_RGN_PLIM (i w : Nat) : Nat := 0xE00 + 0x8 * i + 4 * w
/-- GLB_RGN_PCNT (R405). -/
def GLB_RGN_PCNT (i : Nat) : Nat := 0xF80 + 0x4 * i
/-- GLB_QDB (R434). -/
def GLB_QDB : Nat := 0x1100
/-- GLB_QNDB (R434). -/
def GLB_QNDB : Nat := 0x1104
/-- GLB_QCMD (R434). -/
def GLB_QCMD : Nat := 0x1108
/-- GLB_QSTAT (R434). -/
def GLB_QSTAT : Nat := 0x110C
/-- GLB_QDBREJCNT (R434). -/
def GLB_QDBREJCNT : Nat := 0x1110
/-- GLB_QFREE (R434). -/
def GLB_QFREE : Nat := 0x1114
/-- GLB_EVR, word w (R434). -/
def GLB_EVR (i w : Nat) : Nat := 0x1200 + 0x10 * i + 4 * w
/-- GLB_QRANGE (R434). -/
def GLB_QRANGE (i : Nat) : Nat := 0x1500 + 0x4 * i
/-- GLB_FME_CFG (R449). -/
def GLB_FME_CFG : Nat := 0x1600
/-- GLB_FME_CC (R449). -/
def GLB_FME_CC : Nat := 0x1604
/-- GLB_FME_WIN (R449). -/
def GLB_FME_WIN : Nat := 0x1608
/-- GLB_SLICECMD (R486). -/
def GLB_SLICECMD : Nat := 0x1700
/-- GLB_SLICESTAT (R486). -/
def GLB_SLICESTAT : Nat := 0x1704
/-- GLB_SLICE_SEL (R486). -/
def GLB_SLICE_SEL : Nat := 0x1708
/-- GLB_SLICE_INFO (R486). -/
def GLB_SLICE_INFO : Nat := 0x170C
/-- GLB_SLICE_LCH_LO (R486). -/
def GLB_SLICE_LCH_LO : Nat := 0x1710
/-- GLB_SLICE_LCH_HI (R486). -/
def GLB_SLICE_LCH_HI : Nat := 0x1714
/-- GLB_SLICE_MISSCNT (R486). -/
def GLB_SLICE_MISSCNT : Nat := 0x1718
/-- GLB_SPC_TRIP (R514). -/
def GLB_SPC_TRIP : Nat := 0x1800
/-- GLB_SPC_FEED (R514). -/
def GLB_SPC_FEED : Nat := 0x1804
/-- GLB_EVT_PEND (R576). -/
def GLB_EVT_PEND (i : Nat) : Nat := 0x1900 + 0x4 * i
/-- GLB_EVT_MGR (R576). -/
def GLB_EVT_MGR (i : Nat) : Nat := 0x1940 + 0x4 * i
/-- GLB_EVT_CNT (R576). -/
def GLB_EVT_CNT : Nat := 0x1980
/-- GLB_EVT_COAL (R576). -/
def GLB_EVT_COAL : Nat := 0x1984
/-- GLB_EVT_LAST (R576). -/
def GLB_EVT_LAST : Nat := 0x1988
/-- GLB_ERR_STAT (R576). -/
def GLB_ERR_STAT : Nat := 0x19C0
/-- GLB_ERR_LOG, word w (R576). -/
def GLB_ERR_LOG (w : Nat) : Nat := 0x19C4 + 4 * w
/-- GLB_CLK_STAT (R576). -/
def GLB_CLK_STAT : Nat := 0x19D0
/-- GLB_CLK_CMD (R576). -/
def GLB_CLK_CMD : Nat := 0x19D4
/-- GLB_SCRUB_CFG (R576). -/
def GLB_SCRUB_CFG : Nat := 0x19E0
/-- GLB_SCRUB_DPOS (R576). -/
def GLB_SCRUB_DPOS : Nat := 0x19E4
/-- GLB_SCRUB_DCNT (R576). -/
def GLB_SCRUB_DCNT : Nat := 0x19E8
/-- GLB_CECC_CNT (R576). -/
def GLB_CECC_CNT : Nat := 0x19F0
/-- GLB_UECC_CNT (R576). -/
def GLB_UECC_CNT : Nat := 0x19F4
/-- GLB_CFG_CECCCNT (R576). -/
def GLB_CFG_CECCCNT : Nat := 0x19F8
/-- GLB_DRIFT_CECCCNT (R576). -/
def GLB_DRIFT_CECCCNT : Nat := 0x19FC
/-- GLB_DRIFT_UECCCNT (R576). -/
def GLB_DRIFT_UECCCNT : Nat := 0x1A00
/-- GLB_DRIFT_SPARE (R576). -/
def GLB_DRIFT_SPARE : Nat := 0x1A04
/-- GLB_PWIN, word w (R357). -/
def GLB_PWIN (i j w : Nat) : Nat := 0x10000 + 0x200 * i + 0x10 * j + 4 * w
/-- GLB_P2P (R357). -/
def GLB_P2P (i j : Nat) : Nat := 0x18000 + 0x80 * i + 0x4 * j
/-- GLB_EXP, word w (R357). -/
def GLB_EXP (i w : Nat) : Nat := 0x1E000 + 0x8 * i + 4 * w
/-- GLB_IMP, word w (R357). -/
def GLB_IMP (i w : Nat) : Nat := 0x1F000 + 0x8 * i + 4 * w
/-- GLB_ROUTE (R357). -/
def GLB_ROUTE (i : Nat) : Nat := 0x20000 + 0x4 * i
/-- GLB_VFB, word w (R357). -/
def GLB_VFB (i w : Nat) : Nat := 0x30000 + 0x20 * i + 4 * w
/-- GLB_WIRE (R357). -/
def GLB_WIRE (i : Nat) : Nat := 0x50000 + 0x4 * i
/-- GLB_SHP, word w (R378). -/
def GLB_SHP (i j k w : Nat) : Nat := 0x60000 + 0x200 * i + 0x80 * j + 0x8 * k + 4 * w
/-- GLB_PPOL, word w (R378). -/
def GLB_PPOL (i w : Nat) : Nat := 0x64000 + 0x20 * i + 4 * w
/-- GLB_SPOL, word w (R378). -/
def GLB_SPOL (i w : Nat) : Nat := 0x70000 + 0x20 * i + 4 * w
/-- GLB_SLICE, word w (R486). -/
def GLB_SLICE (i w : Nat) : Nat := 0xA0000 + 0x20 * i + 4 * w
/-- LINK_CTL (R213). -/
def LINK_CTL (n : Nat) : Nat := 0x101000 + 0x10000 * n
/-- LINK_CMD (R213). -/
def LINK_CMD (n : Nat) : Nat := 0x101004 + 0x10000 * n
/-- PORT_CFG (R213). -/
def PORT_CFG (n i : Nat) : Nat := 0x101100 + 0x10000 * n + 0x40 * i
/-- PORT_STAT (R213). -/
def PORT_STAT (n i : Nat) : Nat := 0x101104 + 0x10000 * n + 0x40 * i
/-- PORT_REPCNT (R213). -/
def PORT_REPCNT (n i : Nat) : Nat := 0x101108 + 0x10000 * n + 0x40 * i
/-- PORT_POISCNT (R213). -/
def PORT_POISCNT (n i : Nat) : Nat := 0x10110C + 0x10000 * n + 0x40 * i
/-- PORT_DEGCNT (R213). -/
def PORT_DEGCNT (n i : Nat) : Nat := 0x101110 + 0x10000 * n + 0x40 * i
/-- XB_CELLCNT (R287). -/
def XB_CELLCNT (n i : Nat) : Nat := 0x101800 + 0x10000 * n + 0x4 * i
/-- XB_CECCCNT (R287). -/
def XB_CECCCNT (n i : Nat) : Nat := 0x101808 + 0x10000 * n + 0x4 * i
/-- XB_RSNDCNT (R287). -/
def XB_RSNDCNT (n : Nat) : Nat := 0x101810 + 0x10000 * n
/-- XB_DUPCNT (R287). -/
def XB_DUPCNT (n : Nat) : Nat := 0x101814 + 0x10000 * n
/-- XB_UNDERCNT (R287). -/
def XB_UNDERCNT (n : Nat) : Nat := 0x101818 + 0x10000 * n
/-- BUF_CFG (R312). -/
def BUF_CFG (n : Nat) : Nat := 0x101C00 + 0x10000 * n
/-- BUF_QLIM (R312). -/
def BUF_QLIM (n : Nat) : Nat := 0x101C04 + 0x10000 * n
/-- BUF_STNLIM (R312). -/
def BUF_STNLIM (n : Nat) : Nat := 0x101C08 + 0x10000 * n
/-- BUF_PCIR (R312). -/
def BUF_PCIR (n i : Nat) : Nat := 0x101C10 + 0x10000 * n + 0x4 * i
/-- BUF_ING (R312). -/
def BUF_ING (n : Nat) : Nat := 0x101C20 + 0x10000 * n
/-- BUF_SEG (R312). -/
def BUF_SEG (n : Nat) : Nat := 0x101C24 + 0x10000 * n
/-- BUF_DRIFT (R312). -/
def BUF_DRIFT (n : Nat) : Nat := 0x101C28 + 0x10000 * n
/-- BUF_QSEL (R312). -/
def BUF_QSEL (n : Nat) : Nat := 0x101C2C + 0x10000 * n
/-- BUF_QDEPTH (R312). -/
def BUF_QDEPTH (n : Nat) : Nat := 0x101C30 + 0x10000 * n
/-- BUF_SPILLCNT (R312). -/
def BUF_SPILLCNT (n : Nat) : Nat := 0x101C34 + 0x10000 * n
/-- BUF_REFILLCNT (R312). -/
def BUF_REFILLCNT (n : Nat) : Nat := 0x101C38 + 0x10000 * n
/-- BUF_HOLDCNT (R312). -/
def BUF_HOLDCNT (n : Nat) : Nat := 0x101C3C + 0x10000 * n
/-- BUF_FMEDROPCNT (R312). -/
def BUF_FMEDROPCNT (n : Nat) : Nat := 0x101C40 + 0x10000 * n
/-- BUF_LOSSCNT (R312). -/
def BUF_LOSSCNT (n : Nat) : Nat := 0x101C44 + 0x10000 * n
/-- BUF_STAT (R312). -/
def BUF_STAT (n : Nat) : Nat := 0x101C48 + 0x10000 * n
/-- SCH_CWT (R379). -/
def SCH_CWT (n i : Nat) : Nat := 0x101E00 + 0x10000 * n + 0x4 * i
/-- SCH_OVH (R379). -/
def SCH_OVH (n : Nat) : Nat := 0x101E08 + 0x10000 * n
/-- SCH_SA (R379). -/
def SCH_SA (n : Nat) : Nat := 0x101E0C + 0x10000 * n
/-- SCH_SACNT (R379). -/
def SCH_SACNT (n : Nat) : Nat := 0x101E10 + 0x10000 * n
/-- LN_CFG (R182). -/
def LN_CFG (n i : Nat) : Nat := 0x102000 + 0x10000 * n + 0x20 * i
/-- LN_STAT (R182). -/
def LN_STAT (n i : Nat) : Nat := 0x102004 + 0x10000 * n + 0x20 * i
/-- LN_REC (R182). -/
def LN_REC (n i : Nat) : Nat := 0x102008 + 0x10000 * n + 0x20 * i
/-- LN_NOW (R182). -/
def LN_NOW (n i : Nat) : Nat := 0x10200C + 0x10000 * n + 0x20 * i
/-- LN_SERCNT (R182). -/
def LN_SERCNT (n i : Nat) : Nat := 0x102010 + 0x10000 * n + 0x20 * i
/-- LN_FAILCNT (R182). -/
def LN_FAILCNT (n i : Nat) : Nat := 0x102014 + 0x10000 * n + 0x20 * i
/-- SPARE_CTL (R182). -/
def SPARE_CTL (n : Nat) : Nat := 0x102200 + 0x10000 * n
/-- SPARE_STAT (R182). -/
def SPARE_STAT (n : Nat) : Nat := 0x102204 + 0x10000 * n
/-- SPARE_CMD (R182). -/
def SPARE_CMD (n : Nat) : Nat := 0x102208 + 0x10000 * n
/-- TAKECNT (R182). -/
def SPARE_TAKECNT (n : Nat) : Nat := 0x10220C + 0x10000 * n
/-- FILLCNT (R182). -/
def FILLCNT (n : Nat) : Nat := 0x102210 + 0x10000 * n
/-- MARGIN_CTL (R182). -/
def MARGIN_CTL (n : Nat) : Nat := 0x102220 + 0x10000 * n
/-- MARGIN_RES (R182). -/
def MARGIN_RES (n : Nat) : Nat := 0x102224 + 0x10000 * n
/-- MARGIN_ERR (R182). -/
def MARGIN_ERR (n : Nat) : Nat := 0x102228 + 0x10000 * n
/-- REASM_USE (R450). -/
def REASM_USE (n : Nat) : Nat := 0x102400 + 0x10000 * n
/-- REASM_FULLCNT (R450). -/
def REASM_FULLCNT (n : Nat) : Nat := 0x102404 + 0x10000 * n
/-- REASM_TOCNT (R450). -/
def REASM_TOCNT (n : Nat) : Nat := 0x102408 + 0x10000 * n
/-- FME_LIFECNT (R450). -/
def FME_LIFECNT (n : Nat) : Nat := 0x10240C + 0x10000 * n
/-- FME_DUPCNT (R450). -/
def FME_DUPCNT (n : Nat) : Nat := 0x102410 + 0x10000 * n
/-- FME_PAIRERR (R450). -/
def FME_PAIRERR (n : Nat) : Nat := 0x102414 + 0x10000 * n
/-- SPC_CFG (R513). -/
def SPC_CFG (n : Nat) : Nat := 0x102800 + 0x10000 * n
/-- SPC_CFGX (R513). -/
def SPC_CFGX (n : Nat) : Nat := 0x102804 + 0x10000 * n
/-- SPC_FEEDCFG (R513). -/
def SPC_FEEDCFG (n : Nat) : Nat := 0x102808 + 0x10000 * n
/-- SPC_VCFG (R513). -/
def SPC_VCFG (n : Nat) : Nat := 0x10280C + 0x10000 * n
/-- SPC_FAST (R513). -/
def SPC_FAST (n : Nat) : Nat := 0x102810 + 0x10000 * n
/-- SPC_CUE (R513). -/
def SPC_CUE (n : Nat) : Nat := 0x102814 + 0x10000 * n
/-- SPC_CMD (R513). -/
def SPC_CMD (n : Nat) : Nat := 0x102818 + 0x10000 * n
/-- SPC_STAT (R513). -/
def SPC_STAT (n : Nat) : Nat := 0x10281C + 0x10000 * n
/-- SPC_FREC, word w (R513). -/
def SPC_FREC (n w : Nat) : Nat := 0x102820 + 0x10000 * n + 4 * w
/-- SPC_TRIPCNT (R513). -/
def SPC_TRIPCNT (n : Nat) : Nat := 0x102830 + 0x10000 * n
/-- SPC_V (R513). -/
def SPC_V (n : Nat) : Nat := 0x102834 + 0x10000 * n
/-- SPC_VIN (R513). -/
def SPC_VIN (n : Nat) : Nat := 0x102838 + 0x10000 * n
/-- SPC_I (R513). -/
def SPC_I (n : Nat) : Nat := 0x10283C + 0x10000 * n
/-- SPC_P (R513). -/
def SPC_P (n : Nat) : Nat := 0x102840 + 0x10000 * n
/-- SPC_E_LO (R513). -/
def SPC_E_LO (n : Nat) : Nat := 0x102844 + 0x10000 * n
/-- SPC_E_HI (R513). -/
def SPC_E_HI (n : Nat) : Nat := 0x102848 + 0x10000 * n
/-- SPC_CAP, word w (R513). -/
def SPC_CAP (n i w : Nat) : Nat := 0x102880 + 0x10000 * n + 0x10 * i + 4 * w
/-- SPC_CURVE, word w (R513). -/
def SPC_CURVE (n i w : Nat) : Nat := 0x102900 + 0x10000 * n + 0x8 * i + 4 * w
/-- FL_CFG (R254). -/
def FL_CFG (n i : Nat) : Nat := 0x103000 + 0x10000 * n + 0x80 * i
/-- FL_STAT (R254). -/
def FL_STAT (n i : Nat) : Nat := 0x103004 + 0x10000 * n + 0x80 * i
/-- FL_SEQ (R254). -/
def FL_SEQ (n i : Nat) : Nat := 0x103008 + 0x10000 * n + 0x80 * i
/-- FL_RPL (R254). -/
def FL_RPL (n i : Nat) : Nat := 0x10300C + 0x10000 * n + 0x80 * i
/-- FL_VCLIM (R254). -/
def FL_VCLIM (n i j : Nat) : Nat := 0x103010 + 0x10000 * n + 0x80 * i + 0x4 * j
/-- FL_RPLCNT (R254). -/
def FL_RPLCNT (n i : Nat) : Nat := 0x103020 + 0x10000 * n + 0x80 * i
/-- FL_NAKCNT (R254). -/
def FL_NAKCNT (n i : Nat) : Nat := 0x103024 + 0x10000 * n + 0x80 * i
/-- FL_HCRCERR (R254). -/
def FL_HCRCERR (n i : Nat) : Nat := 0x103028 + 0x10000 * n + 0x80 * i
/-- FL_CRCERR (R254). -/
def FL_CRCERR (n i : Nat) : Nat := 0x10302C + 0x10000 * n + 0x80 * i
/-- FL_STOMPCNT (R254). -/
def FL_STOMPCNT (n i : Nat) : Nat := 0x103030 + 0x10000 * n + 0x80 * i
/-- FL_UNCORR (R254). -/
def FL_UNCORR (n i : Nat) : Nat := 0x103034 + 0x10000 * n + 0x80 * i
/-- FL_DUPCNT (R254). -/
def FL_DUPCNT (n i : Nat) : Nat := 0x103038 + 0x10000 * n + 0x80 * i
/-- FL_TYPEERR (R254). -/
def FL_TYPEERR (n i : Nat) : Nat := 0x10303C + 0x10000 * n + 0x80 * i
/-- FL_RTCNT (R254). -/
def FL_RTCNT (n i : Nat) : Nat := 0x103040 + 0x10000 * n + 0x80 * i
/-- FL_BPLCNT (R254). -/
def FL_BPLCNT (n i : Nat) : Nat := 0x103044 + 0x10000 * n + 0x80 * i
/-- FL_DISCCNT (R254). -/
def FL_DISCCNT (n i : Nat) : Nat := 0x103048 + 0x10000 * n + 0x80 * i
/-- FT_ASYM (R254). -/
def FT_ASYM (n : Nat) : Nat := 0x103100 + 0x10000 * n
/-- QACT (R435). -/
def QACT (n : Nat) : Nat := 0x400000 + 0x4000 * n
/-- OUTST (R435). -/
def OUTST (n : Nat) : Nat := 0x400004 + 0x4000 * n
/-- DESCCNT (R435). -/
def DESCCNT (n : Nat) : Nat := 0x400010 + 0x4000 * n
/-- DFAILCNT (R435). -/
def DFAILCNT (n : Nat) : Nat := 0x400014 + 0x4000 * n
/-- NOTIFYCNT (R435). -/
def NOTIFYCNT (n : Nat) : Nat := 0x400018 + 0x4000 * n
/-- NFULLCNT (R435). -/
def NFULLCNT (n : Nat) : Nat := 0x40001C + 0x4000 * n
/-- KEYERRCNT (R406). -/
def KEYERRCNT (n : Nat) : Nat := 0x400100 + 0x4000 * n
/-- KEYERRLOG, word w (R406). -/
def KEYERRLOG (n w : Nat) : Nat := 0x400104 + 0x4000 * n + 4 * w
/-- TXPKTCNT (R451). -/
def TXPKTCNT (n : Nat) : Nat := 0x400200 + 0x4000 * n
/-- RTXCNT (R451). -/
def RTXCNT (n : Nat) : Nat := 0x400204 + 0x4000 * n
/-- NAKRXCNT (R451). -/
def NAKRXCNT (n : Nat) : Nat := 0x400208 + 0x4000 * n
/-- RTOCNT (R451). -/
def RTOCNT (n : Nat) : Nat := 0x40020C + 0x4000 * n
/-- TOUTCNT (R451). -/
def TOUTCNT (n : Nat) : Nat := 0x400210 + 0x4000 * n
/-- DSTACT (R451). -/
def DSTACT (n : Nat) : Nat := 0x400214 + 0x4000 * n
/-- DSTSEL (R451). -/
def DSTSEL (n : Nat) : Nat := 0x400218 + 0x4000 * n
/-- DSTWIN (R451). -/
def DSTWIN (n : Nat) : Nat := 0x40021C + 0x4000 * n
/-- DSTRTT (R451). -/
def DSTRTT (n : Nat) : Nat := 0x400220 + 0x4000 * n
/-- CH_CFG (R470). -/
def CH_CFG (n : Nat) : Nat := 0x580000 + 0x20 * n
/-- CH_RMT (R470). -/
def CH_RMT (n : Nat) : Nat := 0x580004 + 0x20 * n
/-- CH_RING_LO (R470). -/
def CH_RING_LO (n : Nat) : Nat := 0x580008 + 0x20 * n
/-- CH_RING_HI (R470). -/
def CH_RING_HI (n : Nat) : Nat := 0x58000C + 0x20 * n
/-- CH_PI (R470). -/
def CH_PI (n : Nat) : Nat := 0x580010 + 0x20 * n
/-- CH_CMD (R470). -/
def CH_CMD (n : Nat) : Nat := 0x580014 + 0x20 * n
/-- CH_STAT (R470). -/
def CH_STAT (n : Nat) : Nat := 0x580018 + 0x20 * n
/-- CH_CNT (R470). -/
def CH_CNT (n : Nat) : Nat := 0x58001C + 0x20 * n
/-- CUE_ROUTE (R471). -/
def CUE_ROUTE (i : Nat) : Nat := 0x5C0000 + 0x4 * i
/-- CUE_CNT (R471). -/
def CUE_CNT (i : Nat) : Nat := 0x5C0400 + 0x4 * i
/-- CUE_TMR, word w (R471). -/
def CUE_TMR (i w : Nat) : Nat := 0x5C0800 + 0x10 * i + 4 * w
/-- CUE_STAT (R471). -/
def CUE_STAT : Nat := 0x5C0900
/-- CUE_LOSTCNT (R471). -/
def CUE_LOSTCNT : Nat := 0x5C0904
/-- CUE_DENYCNT (R471). -/
def CUE_DENYCNT : Nat := 0x5C0908
/-- FCST_CFG (R530). -/
def FCST_CFG : Nat := 0x680000
/-- FCST_DEV (R530). -/
def FCST_DEV : Nat := 0x680004
/-- FCST_BASE (R530). -/
def FCST_BASE : Nat := 0x680008
/-- FCST_SLOT (R530). -/
def FCST_SLOT (i : Nat) : Nat := 0x680010 + 0x4 * i
/-- FCST_PART, word w (R530). -/
def FCST_PART (i w : Nat) : Nat := 0x680080 + 0x8 * i + 4 * w
/-- FCST_STAT (R530). -/
def FCST_STAT : Nat := 0x680200
/-- FCST_CLAIM (R530). -/
def FCST_CLAIM : Nat := 0x680204
/-- FCST_VSET (R530). -/
def FCST_VSET : Nat := 0x680208
/-- FCST_RAIL, word w (R530). -/
def FCST_RAIL (i w : Nat) : Nat := 0x680210 + 0x8 * i + 4 * w
/-- FCST_RAILP (R530). -/
def FCST_RAILP (i : Nat) : Nat := 0x680240 + 0x4 * i
/-- FCST_DEVE (R530). -/
def FCST_DEVE : Nat := 0x680260
/-- FCST_PACC, word w (R530). -/
def FCST_PACC (i w : Nat) : Nat := 0x680300 + 0x8 * i + 4 * w
/-- FCST_REFCNT (R530). -/
def FCST_REFCNT : Nat := 0x680400
/-- FCST_REFLOG (R530). -/
def FCST_REFLOG : Nat := 0x680404
/-- PROT_CTL (R555). -/
def PROT_CTL : Nat := 0x6C0000
/-- PROT_STAT (R555). -/
def PROT_STAT : Nat := 0x6C0004
/-- PROT_FAULTCNT (R555). -/
def PROT_FAULTCNT : Nat := 0x6C0010
/-- PROT_FAULTLOG, word w (R555). -/
def PROT_FAULTLOG (w : Nat) : Nat := 0x6C0014 + 4 * w
/-- PROT_SLOT, word w (R555). -/
def PROT_SLOT (i w : Nat) : Nat := 0x6C1000 + 0x20 * i + 4 * w
/-- SEC_BOOT (R556). -/
def SEC_BOOT : Nat := 0x700000
/-- SEC_ROLLBACK (R556). -/
def SEC_ROLLBACK : Nat := 0x700004
/-- SEC_OTPMIN (R556). -/
def SEC_OTPMIN : Nat := 0x700008
/-- SEC_OTPKEY (R556). -/
def SEC_OTPKEY : Nat := 0x70000C
/-- SEC_REELDIG (R556). -/
def SEC_REELDIG (i : Nat) : Nat := 0x700040 + 0x4 * i
/-- SEC_ASDIG (R556). -/
def SEC_ASDIG (i : Nat) : Nat := 0x700080 + 0x4 * i
/-- SEC_ASSTAT (R556). -/
def SEC_ASSTAT : Nat := 0x7000C0
/-- SEC_OTP_ARM (R556). -/
def SEC_OTP_ARM : Nat := 0x700100
/-- SEC_OTP_CMD (R556). -/
def SEC_OTP_CMD : Nat := 0x700104
/-- SEC_OTP_STAT (R556). -/
def SEC_OTP_STAT : Nat := 0x700108
/-- SEC_OTP_DATA (R556). -/
def SEC_OTP_DATA (i : Nat) : Nat := 0x700110 + 0x4 * i
/-- SEC_MCTP_DROPCNT (R556). -/
def SEC_MCTP_DROPCNT : Nat := 0x700200
/-- SEC_SPDM_REQCNT (R556). -/
def SEC_SPDM_REQCNT : Nat := 0x700204
/-- SEC_SPDM_ERRCNT (R556). -/
def SEC_SPDM_ERRCNT : Nat := 0x700208
/-- SEC_SIGCNT (R556). -/
def SEC_SIGCNT : Nat := 0x70020C
/-- SEC_IDPUB (R556). -/
def SEC_IDPUB (i : Nat) : Nat := 0x701000 + 0x4 * i
/-- PC_CTL (R587). -/
def PC_CTL (n : Nat) : Nat := 0x780000 + 0x200 * n
/-- PC_OVF (R587). -/
def PC_OVF (n : Nat) : Nat := 0x780004 + 0x200 * n
/-- PC_FIX_LO (R587). -/
def PC_FIX_LO (n : Nat) : Nat := 0x780008 + 0x200 * n
/-- PC_FIX_HI (R587). -/
def PC_FIX_HI (n : Nat) : Nat := 0x78000C + 0x200 * n
/-- PC_FSNAP_LO (R587). -/
def PC_FSNAP_LO (n : Nat) : Nat := 0x780010 + 0x200 * n
/-- PC_FSNAP_HI (R587). -/
def PC_FSNAP_HI (n : Nat) : Nat := 0x780014 + 0x200 * n
/-- PC_ARNG, word w (R587). -/
def PC_ARNG (n i w : Nat) : Nat := 0x780020 + 0x200 * n + 0x10 * i + 4 * w
/-- PC_SEL (R587). -/
def PC_SEL (n i : Nat) : Nat := 0x780080 + 0x200 * n + 0x20 * i
/-- PC_VAL_LO (R587). -/
def PC_VAL_LO (n i : Nat) : Nat := 0x780088 + 0x200 * n + 0x20 * i
/-- PC_VAL_HI (R587). -/
def PC_VAL_HI (n i : Nat) : Nat := 0x78008C + 0x200 * n + 0x20 * i
/-- PC_SNAP_LO (R587). -/
def PC_SNAP_LO (n i : Nat) : Nat := 0x780090 + 0x200 * n + 0x20 * i
/-- PC_SNAP_HI (R587). -/
def PC_SNAP_HI (n i : Nat) : Nat := 0x780094 + 0x200 * n + 0x20 * i
/-- IN_CNT (R29). -/
def MBOX_IN_CNT (n : Nat) : Nat := 0x800020 + 0x100 * n
/-- OUT_CNT (R29). -/
def MBOX_OUT_CNT (n : Nat) : Nat := 0x800024 + 0x100 * n
/-- DROPCNT (R29). -/
def MBOX_DROPCNT (n : Nat) : Nat := 0x800028 + 0x100 * n
/-- STAT (R29). -/
def MBOX_STAT (n : Nat) : Nat := 0x80002C + 0x100 * n
/-- LASTSER (R29). -/
def MBOX_LASTSER (n : Nat) : Nat := 0x800030 + 0x100 * n
/-- IW_BASE (R598). -/
def IW_BASE (i : Nat) : Nat := 0xC00000 + 0x4 * i
/-- IW_RDCNT (R598). -/
def IW_RDCNT : Nat := 0xC00010
/-- PC_ALL (R587). -/
def PC_ALL : Nat := 0x789400

end Reg

namespace Fld

/-- GLB_ID_PART (R2). -/
def GLB_ID_PART : Fld := ⟨0, 16⟩
/-- GLB_ID_STEP (R2). -/
def GLB_ID_STEP : Fld := ⟨16, 8⟩
/-- GLB_ID_FAMILY (R2). -/
def GLB_ID_FAMILY : Fld := ⟨24, 8⟩
/-- GLB_PARAM_PORT_STATIONS (R3). -/
def GLB_PARAM_PORT_STATIONS : Fld := ⟨0, 8⟩
/-- GLB_PARAM_PORT_PORTS (R3). -/
def GLB_PARAM_PORT_PORTS : Fld := ⟨8, 8⟩
/-- GLB_PARAM_PORT_PARTS (R3). -/
def GLB_PARAM_PORT_PARTS : Fld := ⟨16, 6⟩
/-- GLB_PARAM_PORT_FMES (R3). -/
def GLB_PARAM_PORT_FMES : Fld := ⟨22, 6⟩
/-- GLB_PARAM_MEM_INBUF_LOG (R3). -/
def GLB_PARAM_MEM_INBUF_LOG : Fld := ⟨0, 4⟩
/-- GLB_PARAM_MEM_DRIFT_LOG (R3). -/
def GLB_PARAM_MEM_DRIFT_LOG : Fld := ⟨4, 4⟩
/-- GLB_PARAM_MEM_NODE_BITS (R3). -/
def GLB_PARAM_MEM_NODE_BITS : Fld := ⟨8, 4⟩
/-- GLB_PARAM_MEM_QCTX_LOG (R3). -/
def GLB_PARAM_MEM_QCTX_LOG : Fld := ⟨12, 5⟩
/-- GLB_PARAM_MEM_REGION_LOG (R3). -/
def GLB_PARAM_MEM_REGION_LOG : Fld := ⟨17, 5⟩
/-- GLB_PARAM_MEM_SLICE_LOG (R3). -/
def GLB_PARAM_MEM_SLICE_LOG : Fld := ⟨22, 4⟩
/-- MBOX_CNT_WORDS (R29). -/
def MBOX_CNT_WORDS : Fld := ⟨0, 14⟩
/-- MBOX_CNT_PKTS (R29). -/
def MBOX_CNT_PKTS : Fld := ⟨16, 13⟩
/-- MBOX_STAT_DROP_BUSY (R29). -/
def MBOX_STAT_DROP_BUSY : Fld := ⟨0, 1⟩
/-- MBOX_STAT_DROP_FULL (R29). -/
def MBOX_STAT_DROP_FULL : Fld := ⟨1, 1⟩
/-- MBOX_STAT_DROP_FRAG (R29). -/
def MBOX_STAT_DROP_FRAG : Fld := ⟨2, 1⟩
/-- MBOX_STAT_LASTPOP (R29). -/
def MBOX_STAT_LASTPOP : Fld := ⟨3, 1⟩
/-- MBOX_STAT_DISCARDING (R29). -/
def MBOX_STAT_DISCARDING : Fld := ⟨4, 1⟩
/-- GLB_DIRSTAT_BUSY (R67). -/
def GLB_DIRSTAT_BUSY : Fld := ⟨0, 1⟩
/-- GLB_DIRSTAT_RUN (R67). -/
def GLB_DIRSTAT_RUN : Fld := ⟨1, 1⟩
/-- GLB_DIRSTAT_CUTPEND (R67). -/
def GLB_DIRSTAT_CUTPEND : Fld := ⟨2, 1⟩
/-- GLB_DIRSTAT_LSFAIL (R67). -/
def GLB_DIRSTAT_LSFAIL : Fld := ⟨3, 1⟩
/-- GLB_DIRSTAT_LONGOP (R67). -/
def GLB_DIRSTAT_LONGOP : Fld := ⟨4, 3⟩
/-- GLB_DIRSTAT_ORIGIN (R67). -/
def GLB_DIRSTAT_ORIGIN : Fld := ⟨8, 6⟩
/-- GLB_DIRSTAT_PC (R67). -/
def GLB_DIRSTAT_PC : Fld := ⟨16, 13⟩
/-- GLB_RMGR_NODE (R67). -/
def GLB_RMGR_NODE : Fld := ⟨0, 12⟩
/-- GLB_RMGR_EN (R67). -/
def GLB_RMGR_EN : Fld := ⟨31, 1⟩
/-- GLB_FMPART_PART (R67). -/
def GLB_FMPART_PART : Fld := ⟨0, 6⟩
/-- GLB_CUTCTL_USERCUT (R88). -/
def GLB_CUTCTL_USERCUT : Fld := ⟨0, 1⟩
/-- GLB_SLATE_STAT_SIGNING (R88). -/
def GLB_SLATE_STAT_SIGNING : Fld := ⟨0, 1⟩
/-- GLB_SLATE_STAT_HIGH (R88). -/
def GLB_SLATE_STAT_HIGH : Fld := ⟨1, 1⟩
/-- GLB_SLATE_STAT_LOSS (R88). -/
def GLB_SLATE_STAT_LOSS : Fld := ⟨2, 1⟩
/-- GLB_SLATE_STAT_RDREJ (R88). -/
def GLB_SLATE_STAT_RDREJ : Fld := ⟨3, 1⟩
/-- GLB_SLATE_CKINT_CKLOG (R88). -/
def GLB_SLATE_CKINT_CKLOG : Fld := ⟨0, 4⟩
/-- GLB_STRAP_SPIQ (R115). -/
def GLB_STRAP_SPIQ : Fld := ⟨0, 1⟩
/-- GLB_STRAP_I3CA (R115). -/
def GLB_STRAP_I3CA : Fld := ⟨1, 3⟩
/-- GLB_STRAP_TEST (R115). -/
def GLB_STRAP_TEST : Fld := ⟨4, 1⟩
/-- GLB_RSTCMD_OP (R134). -/
def GLB_RSTCMD_OP : Fld := ⟨0, 2⟩
/-- GLB_RSTCMD_STN (R134). -/
def GLB_RSTCMD_STN : Fld := ⟨2, 5⟩
/-- GLB_RSTCMD_SBUSY (R134). -/
def GLB_RSTCMD_SBUSY : Fld := ⟨8, 1⟩
/-- GLB_RSTCMD_SREJ (R134). -/
def GLB_RSTCMD_SREJ : Fld := ⟨9, 1⟩
/-- GLB_RSTCAUSE_POWERON (R134). -/
def GLB_RSTCAUSE_POWERON : Fld := ⟨0, 1⟩
/-- GLB_RSTCAUSE_COLDPIN (R134). -/
def GLB_RSTCAUSE_COLDPIN : Fld := ⟨1, 1⟩
/-- GLB_RSTCAUSE_WARMPIN (R134). -/
def GLB_RSTCAUSE_WARMPIN : Fld := ⟨2, 1⟩
/-- GLB_RSTCAUSE_WARMTAKE (R134). -/
def GLB_RSTCAUSE_WARMTAKE : Fld := ⟨3, 1⟩
/-- GLB_RSTCAUSE_FALLBACK (R134). -/
def GLB_RSTCAUSE_FALLBACK : Fld := ⟨4, 1⟩
/-- GLB_RSTCAUSE_ORIGIN (R134). -/
def GLB_RSTCAUSE_ORIGIN : Fld := ⟨8, 6⟩
/-- GLB_BOOTSTAT_STATE (R140). -/
def GLB_BOOTSTAT_STATE : Fld := ⟨0, 2⟩
/-- GLB_BOOTSTAT_COPY (R140). -/
def GLB_BOOTSTAT_COPY : Fld := ⟨2, 1⟩
/-- GLB_BOOTSTAT_CODEA (R140). -/
def GLB_BOOTSTAT_CODEA : Fld := ⟨4, 4⟩
/-- GLB_BOOTSTAT_CODEB (R140). -/
def GLB_BOOTSTAT_CODEB : Fld := ⟨8, 4⟩
/-- GLB_BOOTSTAT_TAKEIDX (R140). -/
def GLB_BOOTSTAT_TAKEIDX : Fld := ⟨16, 16⟩
/-- GLB_MODE_MODE (R143). -/
def GLB_MODE_MODE : Fld := ⟨0, 3⟩
/-- GLB_DRAINCTL_HOLD (R148). -/
def GLB_DRAINCTL_HOLD : Fld := ⟨0, 1⟩
/-- GLB_DRAINCTL_LIMIT (R148). -/
def GLB_DRAINCTL_LIMIT : Fld := ⟨8, 8⟩
/-- GLB_DRAINSTAT_DRAINED (R148). -/
def GLB_DRAINSTAT_DRAINED : Fld := ⟨0, 1⟩
/-- GLB_DRAINSTAT_ING (R148). -/
def GLB_DRAINSTAT_ING : Fld := ⟨1, 1⟩
/-- GLB_DRAINSTAT_NP (R148). -/
def GLB_DRAINSTAT_NP : Fld := ⟨2, 1⟩
/-- GLB_DRAINSTAT_FME (R148). -/
def GLB_DRAINSTAT_FME : Fld := ⟨3, 1⟩
/-- GLB_DRAINSTAT_DMA (R148). -/
def GLB_DRAINSTAT_DMA : Fld := ⟨4, 1⟩
/-- GLB_DRAINSTAT_REPLAY (R148). -/
def GLB_DRAINSTAT_REPLAY : Fld := ⟨5, 1⟩
/-- GLB_DRAINSTAT_LOCK (R148). -/
def GLB_DRAINSTAT_LOCK : Fld := ⟨6, 1⟩
/-- GLB_DRAINSTAT_HELD (R148). -/
def GLB_DRAINSTAT_HELD : Fld := ⟨7, 1⟩
/-- LN_CFG_PREREQ (R182). -/
def LN_CFG_PREREQ : Fld := ⟨0, 2⟩
/-- LN_CFG_PRESET (R182). -/
def LN_CFG_PRESET : Fld := ⟨2, 4⟩
/-- LN_STAT_STATE (R182). -/
def LN_STAT_STATE : Fld := ⟨0, 4⟩
/-- LN_STAT_LOGICAL (R182). -/
def LN_STAT_LOGICAL : Fld := ⟨4, 4⟩
/-- LN_STAT_POLINV (R182). -/
def LN_STAT_POLINV : Fld := ⟨8, 1⟩
/-- LN_STAT_PRERX (R182). -/
def LN_STAT_PRERX : Fld := ⟨9, 1⟩
/-- LN_STAT_PRETX (R182). -/
def LN_STAT_PRETX : Fld := ⟨10, 1⟩
/-- LN_STAT_SKEW (R182). -/
def LN_STAT_SKEW : Fld := ⟨12, 10⟩
/-- LN_REC_TEMP (R182). -/
def LN_REC_TEMP : Fld := ⟨0, 8⟩
/-- LN_REC_DROOP (R182). -/
def LN_REC_DROOP : Fld := ⟨8, 8⟩
/-- LN_REC_CTLE (R182). -/
def LN_REC_CTLE : Fld := ⟨16, 4⟩
/-- LN_REC_PRESET (R182). -/
def LN_REC_PRESET : Fld := ⟨20, 4⟩
/-- LN_REC_TRAINS (R182). -/
def LN_REC_TRAINS : Fld := ⟨24, 8⟩
/-- SPARE_CTL_USE (R182). -/
def SPARE_CTL_USE : Fld := ⟨0, 1⟩
/-- SPARE_CTL_READAPT (R182). -/
def SPARE_CTL_READAPT : Fld := ⟨1, 1⟩
/-- SPARE_CTL_SERTHR (R182). -/
def SPARE_CTL_SERTHR : Fld := ⟨2, 8⟩
/-- SPARE_CTL_DTEMP (R182). -/
def SPARE_CTL_DTEMP : Fld := ⟨10, 5⟩
/-- SPARE_CTL_DDROOP (R182). -/
def SPARE_CTL_DDROOP : Fld := ⟨15, 5⟩
/-- SPARE_STAT_STATE (R182). -/
def SPARE_STAT_STATE : Fld := ⟨0, 3⟩
/-- SPARE_STAT_LANE (R182). -/
def SPARE_STAT_LANE : Fld := ⟨3, 4⟩
/-- SPARE_STAT_PLANE (R182). -/
def SPARE_STAT_PLANE : Fld := ⟨7, 4⟩
/-- SPARE_STAT_CMDREJ (R182). -/
def SPARE_STAT_CMDREJ : Fld := ⟨11, 1⟩
/-- SPARE_CMD_OP (R182). -/
def SPARE_CMD_OP : Fld := ⟨0, 2⟩
/-- SPARE_CMD_LANE (R182). -/
def SPARE_CMD_LANE : Fld := ⟨2, 4⟩
/-- FILLCNT_DEL (R182). -/
def FILLCNT_DEL : Fld := ⟨0, 16⟩
/-- FILLCNT_INS (R182). -/
def FILLCNT_INS : Fld := ⟨16, 16⟩
/-- MARGIN_CTL_LANE (R182). -/
def MARGIN_CTL_LANE : Fld := ⟨0, 4⟩
/-- MARGIN_CTL_AXIS (R182). -/
def MARGIN_CTL_AXIS : Fld := ⟨4, 1⟩
/-- MARGIN_CTL_DIR (R182). -/
def MARGIN_CTL_DIR : Fld := ⟨5, 1⟩
/-- MARGIN_CTL_STEP (R182). -/
def MARGIN_CTL_STEP : Fld := ⟨6, 6⟩
/-- MARGIN_CTL_EYE (R182). -/
def MARGIN_CTL_EYE : Fld := ⟨12, 2⟩
/-- MARGIN_CTL_DWELL (R182). -/
def MARGIN_CTL_DWELL : Fld := ⟨14, 4⟩
/-- MARGIN_CTL_GO (R182). -/
def MARGIN_CTL_GO : Fld := ⟨31, 1⟩
/-- MARGIN_RES_DONE (R182). -/
def MARGIN_RES_DONE : Fld := ⟨0, 1⟩
/-- MARGIN_RES_REFUSED (R182). -/
def MARGIN_RES_REFUSED : Fld := ⟨1, 1⟩
/-- MARGIN_RES_WRAP (R182). -/
def MARGIN_RES_WRAP : Fld := ⟨2, 1⟩
/-- GLB_PCIID_VENDOR (R192). -/
def GLB_PCIID_VENDOR : Fld := ⟨0, 16⟩
/-- GLB_PCIID_SUBSYS (R192). -/
def GLB_PCIID_SUBSYS : Fld := ⟨16, 16⟩
/-- GLB_MINT_RESULT (R197). -/
def GLB_MINT_RESULT : Fld := ⟨0, 1⟩
/-- GLB_MINT_EVENT (R197). -/
def GLB_MINT_EVENT : Fld := ⟨1, 1⟩
/-- GLB_MINT_MGR (R197). -/
def GLB_MINT_MGR : Fld := ⟨2, 1⟩
/-- LINK_CTL_KIND (R213). -/
def LINK_CTL_KIND : Fld := ⟨0, 2⟩
/-- LINK_CTL_PAIR (R213). -/
def LINK_CTL_PAIR : Fld := ⟨2, 1⟩
/-- LINK_CTL_EN (R213). -/
def LINK_CTL_EN : Fld := ⟨3, 4⟩
/-- LINK_CTL_WIDTH (R213). -/
def LINK_CTL_WIDTH : Fld := ⟨7, 3⟩
/-- LINK_CTL_FLRATE (R213). -/
def LINK_CTL_FLRATE : Fld := ⟨10, 1⟩
/-- LINK_CTL_MAXRATE (R213). -/
def LINK_CTL_MAXRATE : Fld := ⟨11, 3⟩
/-- LINK_CMD_OP (R213). -/
def LINK_CMD_OP : Fld := ⟨0, 2⟩
/-- LINK_CMD_PORT (R213). -/
def LINK_CMD_PORT : Fld := ⟨2, 2⟩
/-- LINK_CMD_TWIDTH (R213). -/
def LINK_CMD_TWIDTH : Fld := ⟨4, 3⟩
/-- PORT_CFG_ROLE (R213). -/
def PORT_CFG_ROLE : Fld := ⟨0, 1⟩
/-- PORT_CFG_PART (R213). -/
def PORT_CFG_PART : Fld := ⟨1, 6⟩
/-- PORT_CFG_HP (R213). -/
def PORT_CFG_HP : Fld := ⟨7, 1⟩
/-- PORT_CFG_L1EN (R213). -/
def PORT_CFG_L1EN : Fld := ⟨8, 1⟩
/-- PORT_CFG_L11EN (R213). -/
def PORT_CFG_L11EN : Fld := ⟨9, 1⟩
/-- PORT_CFG_L12EN (R213). -/
def PORT_CFG_L12EN : Fld := ⟨10, 1⟩
/-- PORT_CFG_L0PEN (R213). -/
def PORT_CFG_L0PEN : Fld := ⟨11, 1⟩
/-- PORT_CFG_L1IDLE (R213). -/
def PORT_CFG_L1IDLE : Fld := ⟨12, 8⟩
/-- PORT_CFG_L0PIDLE (R213). -/
def PORT_CFG_L0PIDLE : Fld := ⟨20, 8⟩
/-- PORT_STAT_LTSSM (R213). -/
def PORT_STAT_LTSSM : Fld := ⟨0, 4⟩
/-- PORT_STAT_RATE (R213). -/
def PORT_STAT_RATE : Fld := ⟨4, 3⟩
/-- PORT_STAT_LWIDTH (R213). -/
def PORT_STAT_LWIDTH : Fld := ⟨7, 3⟩
/-- PORT_STAT_REVERSED (R213). -/
def PORT_STAT_REVERSED : Fld := ⟨10, 1⟩
/-- PORT_STAT_DLUP (R213). -/
def PORT_STAT_DLUP : Fld := ⟨11, 1⟩
/-- PORT_STAT_FLIT (R213). -/
def PORT_STAT_FLIT : Fld := ⟨12, 1⟩
/-- PORT_STAT_L0P (R213). -/
def PORT_STAT_L0P : Fld := ⟨13, 1⟩
/-- PORT_STAT_SUB (R213). -/
def PORT_STAT_SUB : Fld := ⟨14, 2⟩
/-- PORT_STAT_DPC (R213). -/
def PORT_STAT_DPC : Fld := ⟨16, 1⟩
/-- PORT_STAT_LOCKED (R213). -/
def PORT_STAT_LOCKED : Fld := ⟨17, 1⟩
/-- PORT_STAT_DEGRADED (R213). -/
def PORT_STAT_DEGRADED : Fld := ⟨18, 1⟩
/-- FL_CFG_RPLTIME (R254). -/
def FL_CFG_RPLTIME : Fld := ⟨0, 8⟩
/-- FL_CFG_RPLMAX (R254). -/
def FL_CFG_RPLMAX : Fld := ⟨8, 4⟩
/-- FL_CFG_BTIME (R254). -/
def FL_CFG_BTIME : Fld := ⟨12, 8⟩
/-- FL_CFG_RQTIME (R254). -/
def FL_CFG_RQTIME : Fld := ⟨20, 8⟩
/-- FL_STAT_STATE (R254). -/
def FL_STAT_STATE : Fld := ⟨0, 3⟩
/-- FL_STAT_WIDTH (R254). -/
def FL_STAT_WIDTH : Fld := ⟨3, 3⟩
/-- FL_STAT_WITHDRAWN (R254). -/
def FL_STAT_WITHDRAWN : Fld := ⟨6, 1⟩
/-- FL_STAT_PEERBAD (R254). -/
def FL_STAT_PEERBAD : Fld := ⟨7, 1⟩
/-- FL_STAT_PNODE (R254). -/
def FL_STAT_PNODE : Fld := ⟨8, 12⟩
/-- FL_STAT_PSTN (R254). -/
def FL_STAT_PSTN : Fld := ⟨20, 5⟩
/-- FL_STAT_PPORT (R254). -/
def FL_STAT_PPORT : Fld := ⟨25, 1⟩
/-- FL_STAT_DEGRADED (R254). -/
def FL_STAT_DEGRADED : Fld := ⟨26, 1⟩
/-- FL_STAT_SEL (R254). -/
def FL_STAT_SEL : Fld := ⟨27, 1⟩
/-- FT_ASYM_ASYM (R254). -/
def FT_ASYM_ASYM : Fld := ⟨0, 16⟩
/-- GLB_FT_CTL_ROLE (R255). -/
def GLB_FT_CTL_ROLE : Fld := ⟨0, 1⟩
/-- GLB_FT_CTL_PPSEN (R255). -/
def GLB_FT_CTL_PPSEN : Fld := ⟨1, 1⟩
/-- GLB_FT_CTL_PSTN (R255). -/
def GLB_FT_CTL_PSTN : Fld := ⟨2, 5⟩
/-- GLB_FT_CTL_PPORT (R255). -/
def GLB_FT_CTL_PPORT : Fld := ⟨7, 1⟩
/-- GLB_FT_CTL_PERIOD (R255). -/
def GLB_FT_CTL_PERIOD : Fld := ⟨8, 4⟩
/-- GLB_FT_STAT_SYNC (R255). -/
def GLB_FT_STAT_SYNC : Fld := ⟨0, 1⟩
/-- GLB_FT_STAT_VALID (R255). -/
def GLB_FT_STAT_VALID : Fld := ⟨1, 1⟩
/-- GLB_FT_STAT_PPSOK (R255). -/
def GLB_FT_STAT_PPSOK : Fld := ⟨2, 1⟩
/-- GLB_FT_STAT_STEP (R255). -/
def GLB_FT_STAT_STEP : Fld := ⟨3, 1⟩
/-- GLB_CORE_STAT_AIN (R286). -/
def GLB_CORE_STAT_AIN : Fld := ⟨0, 1⟩
/-- GLB_CORE_STAT_BIN (R286). -/
def GLB_CORE_STAT_BIN : Fld := ⟨1, 1⟩
/-- GLB_CORE_STAT_ATEST (R286). -/
def GLB_CORE_STAT_ATEST : Fld := ⟨2, 1⟩
/-- GLB_CORE_STAT_BTEST (R286). -/
def GLB_CORE_STAT_BTEST : Fld := ⟨3, 1⟩
/-- GLB_CORE_STAT_ACAUSE (R286). -/
def GLB_CORE_STAT_ACAUSE : Fld := ⟨4, 2⟩
/-- GLB_CORE_STAT_BCAUSE (R286). -/
def GLB_CORE_STAT_BCAUSE : Fld := ⟨6, 2⟩
/-- GLB_CORE_STAT_ASTN (R286). -/
def GLB_CORE_STAT_ASTN : Fld := ⟨8, 5⟩
/-- GLB_CORE_STAT_BSTN (R286). -/
def GLB_CORE_STAT_BSTN : Fld := ⟨13, 5⟩
/-- GLB_CORE_STAT_SLOW (R286). -/
def GLB_CORE_STAT_SLOW : Fld := ⟨18, 1⟩
/-- GLB_CORE_STAT_DOWN (R286). -/
def GLB_CORE_STAT_DOWN : Fld := ⟨19, 1⟩
/-- GLB_CORE_STAT_CMDREJ (R286). -/
def GLB_CORE_STAT_CMDREJ : Fld := ⟨20, 1⟩
/-- GLB_CORE_CMD_OP (R286). -/
def GLB_CORE_CMD_OP : Fld := ⟨0, 2⟩
/-- GLB_CORE_CMD_PLANE (R286). -/
def GLB_CORE_CMD_PLANE : Fld := ⟨2, 1⟩
/-- GLB_CORE_CFG_TMAX (R286). -/
def GLB_CORE_CFG_TMAX : Fld := ⟨0, 10⟩
/-- GLB_CORE_SPEED_THS (R286). -/
def GLB_CORE_SPEED_THS : Fld := ⟨0, 10⟩
/-- GLB_CORE_SPEED_TLIM (R286). -/
def GLB_CORE_SPEED_TLIM : Fld := ⟨10, 10⟩
/-- GLB_CORE_NEED_NEED (R286). -/
def GLB_CORE_NEED_NEED : Fld := ⟨0, 12⟩
/-- GLB_CORE_NEED_NSTN (R286). -/
def GLB_CORE_NEED_NSTN : Fld := ⟨12, 5⟩
/-- BUF_CFG_ONDIE (R312). -/
def BUF_CFG_ONDIE : Fld := ⟨0, 4⟩
/-- BUF_CFG_SPILLTHR (R312). -/
def BUF_CFG_SPILLTHR : Fld := ⟨4, 8⟩
/-- BUF_CFG_SPILLW (R312). -/
def BUF_CFG_SPILLW : Fld := ⟨12, 4⟩
/-- BUF_CFG_FMEDROP (R312). -/
def BUF_CFG_FMEDROP : Fld := ⟨16, 1⟩
/-- BUF_ING_USED (R312). -/
def BUF_ING_USED : Fld := ⟨0, 17⟩
/-- BUF_ING_INTUSE (R312). -/
def BUF_ING_INTUSE : Fld := ⟨17, 14⟩
/-- BUF_SEG_FREE (R312). -/
def BUF_SEG_FREE : Fld := ⟨0, 9⟩
/-- BUF_SEG_SPILLQ (R312). -/
def BUF_SEG_SPILLQ : Fld := ⟨9, 11⟩
/-- BUF_QSEL_PORT (R312). -/
def BUF_QSEL_PORT : Fld := ⟨0, 2⟩
/-- BUF_QSEL_GROUP (R312). -/
def BUF_QSEL_GROUP : Fld := ⟨2, 6⟩
/-- BUF_QSEL_QUEUE (R312). -/
def BUF_QSEL_QUEUE : Fld := ⟨8, 4⟩
/-- BUF_QDEPTH_ONCELLS (R312). -/
def BUF_QDEPTH_ONCELLS : Fld := ⟨0, 8⟩
/-- BUF_QDEPTH_BLOCKS (R312). -/
def BUF_QDEPTH_BLOCKS : Fld := ⟨8, 24⟩
/-- BUF_STAT_POOL (R312). -/
def BUF_STAT_POOL : Fld := ⟨0, 1⟩
/-- BUF_STAT_QLIM (R312). -/
def BUF_STAT_QLIM : Fld := ⟨1, 1⟩
/-- BUF_STAT_STNLIM (R312). -/
def BUF_STAT_STNLIM : Fld := ⟨2, 1⟩
/-- GLB_TUN_CFG_LBACK (R358). -/
def GLB_TUN_CFG_LBACK : Fld := ⟨0, 8⟩
/-- GLB_TUN_CFG_LRETRY (R358). -/
def GLB_TUN_CFG_LRETRY : Fld := ⟨8, 4⟩
/-- GLB_TUN_CFG_LHOLD (R358). -/
def GLB_TUN_CFG_LHOLD : Fld := ⟨12, 8⟩
/-- GLB_TUN_CFG_LVC (R358). -/
def GLB_TUN_CFG_LVC : Fld := ⟨20, 3⟩
/-- GLB_TUN_CFG_MVC (R358). -/
def GLB_TUN_CFG_MVC : Fld := ⟨23, 3⟩
/-- GLB_RT_REJOIN_STN (R358). -/
def GLB_RT_REJOIN_STN : Fld := ⟨0, 5⟩
/-- GLB_RT_REJOIN_PORT (R358). -/
def GLB_RT_REJOIN_PORT : Fld := ⟨5, 1⟩
/-- GLB_RT_REJOIN_GO (R358). -/
def GLB_RT_REJOIN_GO : Fld := ⟨6, 1⟩
/-- GLB_RT_REJOIN_REJ (R358). -/
def GLB_RT_REJOIN_REJ : Fld := ⟨7, 1⟩
/-- GLB_MTX_CTL_DNODE (R358). -/
def GLB_MTX_CTL_DNODE : Fld := ⟨0, 12⟩
/-- GLB_MTX_CTL_END (R358). -/
def GLB_MTX_CTL_END : Fld := ⟨12, 1⟩
/-- GLB_MTX_CTL_SEND (R358). -/
def GLB_MTX_CTL_SEND : Fld := ⟨13, 1⟩
/-- GLB_MTX_CTL_COUNT (R358). -/
def GLB_MTX_CTL_COUNT : Fld := ⟨14, 9⟩
/-- GLB_MTX_CTL_OVF (R358). -/
def GLB_MTX_CTL_OVF : Fld := ⟨23, 1⟩
/-- GLB_KEYREV_INDEX (R405). -/
def GLB_KEYREV_INDEX : Fld := ⟨0, 20⟩
/-- GLB_KEYREV_CUE (R405). -/
def GLB_KEYREV_CUE : Fld := ⟨20, 8⟩
/-- GLB_KEYREV_CUEEN (R405). -/
def GLB_KEYREV_CUEEN : Fld := ⟨28, 1⟩
/-- GLB_KEYREV_OP (R405). -/
def GLB_KEYREV_OP : Fld := ⟨30, 2⟩
/-- GLB_KEYREV_STAT_NLATE (R405). -/
def GLB_KEYREV_STAT_NLATE : Fld := ⟨0, 4⟩
/-- GLB_KEYREV_STAT_LATE (R405). -/
def GLB_KEYREV_STAT_LATE : Fld := ⟨4, 1⟩
/-- GLB_QDB_QUEUE (R434). -/
def GLB_QDB_QUEUE : Fld := ⟨0, 16⟩
/-- GLB_QDB_VALUE (R434). -/
def GLB_QDB_VALUE : Fld := ⟨16, 16⟩
/-- GLB_QCMD_QUEUE (R434). -/
def GLB_QCMD_QUEUE : Fld := ⟨0, 16⟩
/-- GLB_QCMD_OP (R434). -/
def GLB_QCMD_OP : Fld := ⟨16, 2⟩
/-- GLB_QSTAT_CMDCODE (R434). -/
def GLB_QSTAT_CMDCODE : Fld := ⟨0, 4⟩
/-- GLB_QSTAT_DBCODE (R434). -/
def GLB_QSTAT_DBCODE : Fld := ⟨4, 2⟩
/-- GLB_FME_CFG_RTO (R449). -/
def GLB_FME_CFG_RTO : Fld := ⟨0, 6⟩
/-- GLB_FME_CFG_HOPLIFE (R449). -/
def GLB_FME_CFG_HOPLIFE : Fld := ⟨6, 5⟩
/-- GLB_FME_CFG_NPATH (R449). -/
def GLB_FME_CFG_NPATH : Fld := ⟨11, 2⟩
/-- GLB_FME_CFG_NAKWAIT (R449). -/
def GLB_FME_CFG_NAKWAIT : Fld := ⟨13, 4⟩
/-- GLB_FME_CC_TARGET (R449). -/
def GLB_FME_CC_TARGET : Fld := ⟨0, 8⟩
/-- GLB_FME_CC_AI (R449). -/
def GLB_FME_CC_AI : Fld := ⟨8, 8⟩
/-- GLB_FME_CC_DLO (R449). -/
def GLB_FME_CC_DLO : Fld := ⟨16, 4⟩
/-- GLB_FME_CC_DHI (R449). -/
def GLB_FME_CC_DHI : Fld := ⟨20, 4⟩
/-- GLB_FME_WIN_INITW (R449). -/
def GLB_FME_WIN_INITW : Fld := ⟨0, 12⟩
/-- GLB_FME_WIN_MAXW (R449). -/
def GLB_FME_WIN_MAXW : Fld := ⟨12, 12⟩
/-- CH_CFG_OKIND (R470). -/
def CH_CFG_OKIND : Fld := ⟨0, 1⟩
/-- CH_CFG_OWNER (R470). -/
def CH_CFG_OWNER : Fld := ⟨1, 12⟩
/-- CH_CFG_PRIO (R470). -/
def CH_CFG_PRIO : Fld := ⟨13, 3⟩
/-- CH_CFG_DCUE (R470). -/
def CH_CFG_DCUE : Fld := ⟨16, 8⟩
/-- CH_CFG_GCUE (R470). -/
def CH_CFG_GCUE : Fld := ⟨24, 8⟩
/-- CH_RMT_DOMAIN (R470). -/
def CH_RMT_DOMAIN : Fld := ⟨0, 16⟩
/-- CH_RMT_VC (R470). -/
def CH_RMT_VC : Fld := ⟨16, 3⟩
/-- CH_RMT_BULK (R470). -/
def CH_RMT_BULK : Fld := ⟨19, 1⟩
/-- CH_RMT_FME (R470). -/
def CH_RMT_FME : Fld := ⟨20, 6⟩
/-- CH_CMD_OP (R470). -/
def CH_CMD_OP : Fld := ⟨0, 2⟩
/-- CH_CMD_CLRGO (R470). -/
def CH_CMD_CLRGO : Fld := ⟨2, 1⟩
/-- CH_STAT_CI (R470). -/
def CH_STAT_CI : Fld := ⟨0, 16⟩
/-- CH_STAT_STATE (R470). -/
def CH_STAT_STATE : Fld := ⟨16, 2⟩
/-- CH_STAT_GOPEND (R470). -/
def CH_STAT_GOPEND : Fld := ⟨18, 8⟩
/-- CH_STAT_GOOVF (R470). -/
def CH_STAT_GOOVF : Fld := ⟨26, 1⟩
/-- CH_STAT_CMDREJ (R470). -/
def CH_STAT_CMDREJ : Fld := ⟨27, 1⟩
/-- CH_STAT_LASTBAD (R470). -/
def CH_STAT_LASTBAD : Fld := ⟨28, 4⟩
/-- CH_CNT_DONE (R470). -/
def CH_CNT_DONE : Fld := ⟨0, 20⟩
/-- CH_CNT_BAD (R470). -/
def CH_CNT_BAD : Fld := ⟨20, 12⟩
/-- GLB_SLICECMD_SLICE (R486). -/
def GLB_SLICECMD_SLICE : Fld := ⟨0, 12⟩
/-- GLB_SLICECMD_OP (R486). -/
def GLB_SLICECMD_OP : Fld := ⟨12, 3⟩
/-- GLB_SLICECMD_CUE (R486). -/
def GLB_SLICECMD_CUE : Fld := ⟨15, 8⟩
/-- GLB_SLICECMD_CUEEN (R486). -/
def GLB_SLICECMD_CUEEN : Fld := ⟨23, 1⟩
/-- GLB_SLICESTAT_CODE (R486). -/
def GLB_SLICESTAT_CODE : Fld := ⟨0, 4⟩
/-- GLB_SLICESTAT_SLICE (R486). -/
def GLB_SLICESTAT_SLICE : Fld := ⟨4, 12⟩
/-- GLB_SLICE_INFO_STATE (R486). -/
def GLB_SLICE_INFO_STATE : Fld := ⟨0, 2⟩
/-- GLB_SLICE_INFO_LOGSEL (R486). -/
def GLB_SLICE_INFO_LOGSEL : Fld := ⟨2, 1⟩
/-- GLB_SLICE_INFO_FLUSHING (R486). -/
def GLB_SLICE_INFO_FLUSHING : Fld := ⟨3, 1⟩
/-- GLB_SLICE_INFO_RESETTING (R486). -/
def GLB_SLICE_INFO_RESETTING : Fld := ⟨4, 1⟩
/-- GLB_SLICE_INFO_LATE (R486). -/
def GLB_SLICE_INFO_LATE : Fld := ⟨5, 1⟩
/-- GLB_SLICE_INFO_LOGBAD (R486). -/
def GLB_SLICE_INFO_LOGBAD : Fld := ⟨6, 1⟩
/-- GLB_SLICE_INFO_LINES (R486). -/
def GLB_SLICE_INFO_LINES : Fld := ⟨7, 11⟩
/-- SPC_CFG_FEEDPRI (R513). -/
def SPC_CFG_FEEDPRI : Fld := ⟨0, 2⟩
/-- SPC_CFG_MODE (R513). -/
def SPC_CFG_MODE : Fld := ⟨2, 1⟩
/-- SPC_CFG_AUTORET (R513). -/
def SPC_CFG_AUTORET : Fld := ⟨3, 1⟩
/-- SPC_CFG_PRSEN (R513). -/
def SPC_CFG_PRSEN : Fld := ⟨4, 1⟩
/-- SPC_CFG_SLEW (R513). -/
def SPC_CFG_SLEW : Fld := ⟨5, 8⟩
/-- SPC_CFG_RAMPMAX (R513). -/
def SPC_CFG_RAMPMAX : Fld := ⟨13, 8⟩
/-- SPC_CFG_RETRYMAX (R513). -/
def SPC_CFG_RETRYMAX : Fld := ⟨21, 7⟩
/-- SPC_CFG_PGDLY (R513). -/
def SPC_CFG_PGDLY : Fld := ⟨28, 4⟩
/-- SPC_CMD_OP (R513). -/
def SPC_CMD_OP : Fld := ⟨0, 3⟩
/-- SPC_CMD_FEED (R513). -/
def SPC_CMD_FEED : Fld := ⟨3, 1⟩
/-- SPC_CMD_LOADW (R513). -/
def SPC_CMD_LOADW : Fld := ⟨4, 12⟩
/-- SPC_STAT_STATE (R513). -/
def SPC_STAT_STATE : Fld := ⟨0, 3⟩
/-- SPC_STAT_FEED (R513). -/
def SPC_STAT_FEED : Fld := ⟨3, 1⟩
/-- SPC_STAT_AVALID (R513). -/
def SPC_STAT_AVALID : Fld := ⟨4, 1⟩
/-- SPC_STAT_BVALID (R513). -/
def SPC_STAT_BVALID : Fld := ⟨5, 1⟩
/-- SPC_STAT_PG (R513). -/
def SPC_STAT_PG : Fld := ⟨6, 1⟩
/-- SPC_STAT_PRSNT (R513). -/
def SPC_STAT_PRSNT : Fld := ⟨7, 1⟩
/-- SPC_STAT_CODE (R513). -/
def SPC_STAT_CODE : Fld := ⟨8, 4⟩
/-- SPC_STAT_RETRIES (R513). -/
def SPC_STAT_RETRIES : Fld := ⟨12, 7⟩
/-- SPC_STAT_TRIPPED (R513). -/
def SPC_STAT_TRIPPED : Fld := ⟨19, 1⟩
/-- SPC_STAT_LOADW (R513). -/
def SPC_STAT_LOADW : Fld := ⟨20, 12⟩
/-- SPC_FREC_W0_CAUSE (R513). -/
def SPC_FREC_W0_CAUSE : Fld := ⟨0, 4⟩
/-- SPC_FREC_W0_POINT (R513). -/
def SPC_FREC_W0_POINT : Fld := ⟨4, 3⟩
/-- SPC_FREC_W0_RETRIES (R513). -/
def SPC_FREC_W0_RETRIES : Fld := ⟨7, 7⟩
/-- FCST_CFG_GOAL (R530). -/
def FCST_CFG_GOAL : Fld := ⟨0, 1⟩
/-- FCST_CFG_IDLE (R530). -/
def FCST_CFG_IDLE : Fld := ⟨1, 2⟩
/-- FCST_CFG_RADEF (R530). -/
def FCST_CFG_RADEF : Fld := ⟨3, 8⟩
/-- FCST_CFG_RAMAX (R530). -/
def FCST_CFG_RAMAX : Fld := ⟨11, 5⟩
/-- FCST_CFG_SCRDEF (R530). -/
def FCST_CFG_SCRDEF : Fld := ⟨16, 8⟩
/-- FCST_CFG_SWDEF (R530). -/
def FCST_CFG_SWDEF : Fld := ⟨24, 8⟩
/-- FCST_STAT_PRESS (R530). -/
def FCST_STAT_PRESS : Fld := ⟨0, 1⟩
/-- FCST_STAT_CAUSE (R530). -/
def FCST_STAT_CAUSE : Fld := ⟨1, 3⟩
/-- FCST_STAT_LEVEL (R530). -/
def FCST_STAT_LEVEL : Fld := ⟨4, 2⟩
/-- FCST_STAT_FLOOR (R530). -/
def FCST_STAT_FLOOR : Fld := ⟨6, 1⟩
/-- FCST_STAT_OVERCLAIM (R530). -/
def FCST_STAT_OVERCLAIM : Fld := ⟨7, 1⟩
/-- FCST_STAT_DEVOVER (R530). -/
def FCST_STAT_DEVOVER : Fld := ⟨8, 1⟩
/-- FCST_STAT_SLOTOVER (R530). -/
def FCST_STAT_SLOTOVER : Fld := ⟨9, 1⟩
/-- FCST_STAT_PARTOVER (R530). -/
def FCST_STAT_PARTOVER : Fld := ⟨10, 1⟩
/-- FCST_STAT_DEFER (R530). -/
def FCST_STAT_DEFER : Fld := ⟨11, 3⟩
/-- PROT_CTL_EN (R555). -/
def PROT_CTL_EN : Fld := ⟨0, 1⟩
/-- PROT_CTL_FENCE (R555). -/
def PROT_CTL_FENCE : Fld := ⟨1, 1⟩
/-- PROT_CTL_LOCK (R555). -/
def PROT_CTL_LOCK : Fld := ⟨2, 1⟩
/-- PROT_FAULTLOG_W0_ADDR (R555). -/
def PROT_FAULTLOG_W0_ADDR : Fld := ⟨0, 24⟩
/-- PROT_FAULTLOG_W0_ORIGIN (R555). -/
def PROT_FAULTLOG_W0_ORIGIN : Fld := ⟨24, 6⟩
/-- PROT_FAULTLOG_W0_WRITE (R555). -/
def PROT_FAULTLOG_W0_WRITE : Fld := ⟨30, 1⟩
/-- PROT_FAULTLOG_W1_CAUSE (R555). -/
def PROT_FAULTLOG_W1_CAUSE : Fld := ⟨0, 3⟩
/-- PROT_FAULTLOG_W1_PATH (R555). -/
def PROT_FAULTLOG_W1_PATH : Fld := ⟨3, 2⟩
/-- SEC_OTP_CMD_OP (R556). -/
def SEC_OTP_CMD_OP : Fld := ⟨0, 2⟩
/-- SEC_OTP_CMD_SLOT (R556). -/
def SEC_OTP_CMD_SLOT : Fld := ⟨2, 2⟩
/-- SEC_OTP_CMD_VALUE (R556). -/
def SEC_OTP_CMD_VALUE : Fld := ⟨4, 9⟩
/-- SEC_OTP_STAT_BUSY (R556). -/
def SEC_OTP_STAT_BUSY : Fld := ⟨0, 1⟩
/-- SEC_OTP_STAT_DONE (R556). -/
def SEC_OTP_STAT_DONE : Fld := ⟨1, 1⟩
/-- SEC_OTP_STAT_CODE (R556). -/
def SEC_OTP_STAT_CODE : Fld := ⟨2, 4⟩
/-- GLB_ERR_STAT_REFA (R576). -/
def GLB_ERR_STAT_REFA : Fld := ⟨0, 1⟩
/-- GLB_ERR_STAT_REFB (R576). -/
def GLB_ERR_STAT_REFB : Fld := ⟨1, 1⟩
/-- GLB_ERR_STAT_NOREF (R576). -/
def GLB_ERR_STAT_NOREF : Fld := ⟨2, 1⟩
/-- GLB_ERR_STAT_FREF (R576). -/
def GLB_ERR_STAT_FREF : Fld := ⟨3, 1⟩
/-- GLB_ERR_STAT_SRAMUE (R576). -/
def GLB_ERR_STAT_SRAMUE : Fld := ⟨4, 1⟩
/-- GLB_ERR_STAT_CFGUE (R576). -/
def GLB_ERR_STAT_CFGUE : Fld := ⟨5, 1⟩
/-- GLB_ERR_STAT_SCFGUE (R576). -/
def GLB_ERR_STAT_SCFGUE : Fld := ⟨6, 1⟩
/-- GLB_ERR_STAT_DRIFTUE (R576). -/
def GLB_ERR_STAT_DRIFTUE : Fld := ⟨7, 1⟩
/-- GLB_ERR_STAT_DSPARE (R576). -/
def GLB_ERR_STAT_DSPARE : Fld := ⟨8, 1⟩
/-- GLB_ERR_STAT_SPARELOW (R576). -/
def GLB_ERR_STAT_SPARELOW : Fld := ⟨9, 1⟩
/-- GLB_ERR_LOG_W0_LOC (R576). -/
def GLB_ERR_LOG_W0_LOC : Fld := ⟨0, 32⟩
/-- GLB_ERR_LOG_W1_KIND (R576). -/
def GLB_ERR_LOG_W1_KIND : Fld := ⟨0, 4⟩
/-- GLB_ERR_LOG_W1_STORE (R576). -/
def GLB_ERR_LOG_W1_STORE : Fld := ⟨4, 4⟩
/-- GLB_ERR_LOG_W1_TIME (R576). -/
def GLB_ERR_LOG_W1_TIME : Fld := ⟨8, 24⟩
/-- GLB_CLK_STAT_USE (R576). -/
def GLB_CLK_STAT_USE : Fld := ⟨0, 1⟩
/-- GLB_CLK_STAT_AOK (R576). -/
def GLB_CLK_STAT_AOK : Fld := ⟨1, 1⟩
/-- GLB_CLK_STAT_BOK (R576). -/
def GLB_CLK_STAT_BOK : Fld := ⟨2, 1⟩
/-- GLB_CLK_STAT_FOK (R576). -/
def GLB_CLK_STAT_FOK : Fld := ⟨3, 1⟩
/-- GLB_CLK_STAT_FSYN (R576). -/
def GLB_CLK_STAT_FSYN : Fld := ⟨4, 1⟩
/-- GLB_CLK_STAT_BNF (R576). -/
def GLB_CLK_STAT_BNF : Fld := ⟨5, 1⟩
/-- GLB_CLK_STAT_FNF (R576). -/
def GLB_CLK_STAT_FNF : Fld := ⟨6, 1⟩
/-- GLB_CLK_CMD_SEL (R576). -/
def GLB_CLK_CMD_SEL : Fld := ⟨0, 1⟩
/-- GLB_CLK_CMD_GO (R576). -/
def GLB_CLK_CMD_GO : Fld := ⟨1, 1⟩
/-- GLB_CLK_CMD_REJ (R576). -/
def GLB_CLK_CMD_REJ : Fld := ⟨2, 1⟩
/-- PC_CTL_FRUN (R587). -/
def PC_CTL_FRUN : Fld := ⟨0, 1⟩
/-- PC_CTL_RUN (R587). -/
def PC_CTL_RUN : Fld := ⟨1, 8⟩
/-- PC_CTL_SNAP (R587). -/
def PC_CTL_SNAP : Fld := ⟨9, 1⟩
/-- PC_CTL_CLR (R587). -/
def PC_CTL_CLR : Fld := ⟨10, 1⟩
/-- PC_OVF_OVF (R587). -/
def PC_OVF_OVF : Fld := ⟨0, 9⟩
/-- PC_OVF_SOVF (R587). -/
def PC_OVF_SOVF : Fld := ⟨16, 9⟩
/-- PC_SEL_EVENT (R587). -/
def PC_SEL_EVENT : Fld := ⟨0, 8⟩
/-- PC_SEL_ARG (R587). -/
def PC_SEL_ARG : Fld := ⟨8, 8⟩
/-- PC_SEL_PRIV (R587). -/
def PC_SEL_PRIV : Fld := ⟨16, 2⟩
/-- PC_SEL_MEN (R587). -/
def PC_SEL_MEN : Fld := ⟨18, 1⟩
/-- PC_SEL_MASTER (R587). -/
def PC_SEL_MASTER : Fld := ⟨19, 6⟩
/-- PC_SEL_CEN (R587). -/
def PC_SEL_CEN : Fld := ⟨25, 1⟩
/-- PC_SEL_CLASS (R587). -/
def PC_SEL_CLASS : Fld := ⟨26, 4⟩
/-- PC_SEL_RANGE (R587). -/
def PC_SEL_RANGE : Fld := ⟨30, 2⟩
/-- PC_ALL_START (R587). -/
def PC_ALL_START : Fld := ⟨0, 1⟩
/-- PC_ALL_STOP (R587). -/
def PC_ALL_STOP : Fld := ⟨1, 1⟩
/-- PC_ALL_SNAP (R587). -/
def PC_ALL_SNAP : Fld := ⟨2, 1⟩
/-- PC_ALL_CLR (R587). -/
def PC_ALL_CLR : Fld := ⟨3, 1⟩

end Fld

/-- One row of the register map: a register word, or a family of register words at regular strides.
`tw`, `tl` and `w1c` are the bits that are written by takes shadowed, live, and by writing 1 (R9). -/
structure RegRow where
  off : Nat
  dims : List (Nat × Nat)
  reset : Nat
  tw : Nat
  tl : Nat
  w1c : Nat
  deriving DecidableEq, Repr

/-- Is `d` a sum of one index times stride for each pair (stride, count)? -/
def dimsHit : List (Nat × Nat) → Nat → Bool
  | [], d => d == 0
  | (st, c) :: l, d => decide (d / st < c) && dimsHit l (d % st)

/-- Does the row hold a word at offset `o` of its block? -/
def RegRow.hit (r : RegRow) (o : Nat) : Bool := decide (r.off ≤ o) && dimsHit r.dims (o - r.off)

/-- Rows of GLB (R595), part 0. -/
def glbRows0 : List RegRow := [
  ⟨0x0, [], 0x46C19192, 0x0, 0x0, 0x0⟩,
  ⟨0x8, [], 0xC306018, 0x0, 0x0, 0x0⟩,
  ⟨0xC, [], 0x3290C3B, 0x0, 0x0, 0x0⟩,
  ⟨0x20, [], 0x0, 0x0, 0x0, 0x0⟩,
  ⟨0x30, [], 0x5, 0x7, 0x0, 0x0⟩,
  ⟨0x34, [], 0x0, 0x0, 0x7F, 0x200⟩,
  ⟨0x38, [], 0x0, 0x0, 0x0, 0x1F⟩,
  ⟨0x3C, [], 0x0, 0x0, 0x0, 0x0⟩,
  ⟨0x40, [], 0x0, 0x0, 0xFF01, 0x0⟩,
  ⟨0x44, [], 0x0, 0x0, 0x0, 0x0⟩,
  ⟨0x100, [], 0x0, 0x0, 0x0, 0x8⟩,
  ⟨0x108, [], 0x0, 0x0, 0x0, 0x0⟩,
  ⟨0x10C, [], 0x0, 0x0, 0x0, 0x0⟩,
  ⟨0x110, [], 0x0, 0x0, 0x0, 0x0⟩,
  ⟨0x114, [], 0x0, 0x0, 0x0, 0x0⟩,
  ⟨0x120, [(0x4, 4)], 0x0, 0x80000FFF, 0x0, 0x0⟩,
  ⟨0x130, [], 0x0, 0x3F, 0x0, 0x0⟩,
  ⟨0x140, [], 0x0, 0x1, 0x0, 0x0⟩,
  ⟨0x144, [], 0x0, 0x0, 0x0, 0x0⟩,
  ⟨0x148, [], 0x0, 0x0, 0x0, 0x0⟩,
  ⟨0x14C, [], 0x0, 0x0, 0xFFFFFFFF, 0x0⟩,
  ⟨0x150, [], 0x0, 0x0, 0x0, 0x0⟩,
  ⟨0x154, [], 0x0, 0x0, 0x0, 0x0⟩,
  ⟨0x158, [], 0x0, 0x0, 0x0, 0xE⟩]
/-- Rows of GLB (R595), part 1. -/
def glbRows1 : List RegRow := [
  ⟨0x15C, [], 0xC, 0xF, 0x0, 0x0⟩,
  ⟨0x180, [], 0x0, 0xFFFFFFFF, 0x0, 0x0⟩,
  ⟨0x200, [(0x8, 48)], 0x0, 0x0, 0x0, 0x0⟩,
  ⟨0x204, [(0x8, 48)], 0x0, 0x0, 0x7, 0x0⟩,
  ⟨0x400, [], 0x400, 0xFFF, 0x0, 0x0⟩,
  ⟨0x404, [], 0x0, 0x0, 0x0, 0x8⟩,
  ⟨0x408, [], 0x0, 0x0, 0x0, 0x0⟩,
  ⟨0x40C, [], 0x0, 0x0, 0x0, 0x0⟩,
  ⟨0x410, [], 0x0, 0x0, 0xFFFFFFFF, 0x0⟩,
  ⟨0x414, [], 0x0, 0x0, 0xFFFFFFFF, 0x0⟩,
  ⟨0x418, [], 0x0, 0x0, 0x0, 0x0⟩,
  ⟨0x41C, [], 0x0, 0x0, 0x0, 0x0⟩,
  ⟨0x500, [], 0x3, 0x0, 0x0, 0x140000⟩,
  ⟨0x504, [], 0x0, 0x0, 0x7, 0x0⟩,
  ⟨0x508, [], 0x26C, 0x3FF, 0x0, 0x0⟩,
  ⟨0x50C, [], 0x0, 0x0, 0x0, 0x0⟩,
  ⟨0x510, [], 0x0, 0x0, 0x0, 0x0⟩,
  ⟨0x600, [], 0x7E2800, 0x0, 0x0, 0x0⟩,
  ⟨0x604, [], 0x100000, 0xFFFFFF, 0x0, 0x0⟩,
  ⟨0x608, [], 0x0, 0x0, 0x0, 0x0⟩,
  ⟨0x700, [], 0x0, 0xFFF, 0x0, 0x0⟩,
  ⟨0x704, [], 0x3E64804, 0x3FFFFFF, 0x0, 0x0⟩,
  ⟨0x708, [], 0x64, 0x3FF, 0x0, 0x0⟩,
  ⟨0x70C, [], 0x64, 0xFF, 0x0, 0x0⟩]
/-- Rows of GLB (R595), part 2. -/
def glbRows2 : List RegRow := [
  ⟨0x710, [], 0x0, 0x0, 0x0, 0x0⟩,
  ⟨0x714, [], 0x0, 0x0, 0x0, 0x0⟩,
  ⟨0x718, [], 0x0, 0x0, 0x0, 0x0⟩,
  ⟨0x71C, [], 0x0, 0x0, 0x0, 0x0⟩,
  ⟨0x720, [], 0x0, 0x0, 0x0, 0x0⟩,
  ⟨0x724, [], 0x0, 0x0, 0x0, 0x0⟩,
  ⟨0x728, [], 0x0, 0x0, 0x0, 0x0⟩,
  ⟨0x72C, [], 0x0, 0x0, 0x0, 0x0⟩,
  ⟨0x730, [(0x4, 2)], 0x0, 0x0, 0x0, 0x0⟩,
  ⟨0x738, [], 0x0, 0x0, 0x7F, 0x80⟩,
  ⟨0x740, [], 0x0, 0x0, 0xFFFFFFFF, 0x0⟩,
  ⟨0x744, [], 0x0, 0x0, 0xFFFFFFFF, 0x0⟩,
  ⟨0x748, [], 0x0, 0x0, 0x3FFF, 0x800000⟩,
  ⟨0x750, [], 0x0, 0x0, 0x0, 0x0⟩,
  ⟨0x754, [], 0x0, 0x0, 0x0, 0x0⟩,
  ⟨0x758, [], 0x0, 0x0, 0x0, 0x0⟩,
  ⟨0x800, [(0x10, 48), (0x4, 4)], 0x0, 0x0, 0x0, 0x0⟩,
  ⟨0xC00, [], 0xF6C688, 0xFFFFFF, 0x0, 0x0⟩,
  ⟨0xC10, [(0x4, 12)], 0x10101010, 0xFFFFFFFF, 0x0, 0x0⟩,
  ⟨0xC40, [], 0x10, 0xFF, 0x0, 0x0⟩,
  ⟨0xD00, [], 0x0, 0x0, 0xFFFFFFFF, 0x0⟩,
  ⟨0xD04, [], 0x0, 0x0, 0xFFFFFFFF, 0x0⟩,
  ⟨0xD08, [], 0x0, 0x0, 0xFFFFFFFF, 0x0⟩,
  ⟨0xD0C, [], 0x0, 0x0, 0xFFFF, 0x0⟩]
/-- Rows of GLB (R595), part 3. -/
def glbRows3 : List RegRow := [
  ⟨0xD10, [], 0x0, 0x0, 0x7FFFF, 0x0⟩,
  ⟨0xD14, [], 0x0, 0x0, 0x1FFFFFFF, 0x0⟩,
  ⟨0xD18, [], 0x0, 0x0, 0x1, 0x0⟩,
  ⟨0xD1C, [], 0x0, 0x0, 0x0, 0x0⟩,
  ⟨0xD20, [], 0x0, 0x0, 0x0, 0x0⟩,
  ⟨0xD24, [], 0x0, 0x0, 0xDFFFFFFF, 0x0⟩,
  ⟨0xD28, [], 0x0, 0x0, 0x0, 0x0⟩,
  ⟨0xD2C, [], 0x0, 0x0, 0x0, 0x10⟩,
  ⟨0xD30, [], 0x0, 0x0, 0x0, 0x0⟩,
  ⟨0xD34, [], 0x0, 0x0, 0x0, 0x0⟩,
  ⟨0xD38, [], 0x100000, 0x0, 0x0, 0x0⟩,
  ⟨0xD3C, [], 0x0, 0x0, 0xFFF, 0x0⟩,
  ⟨0xD40, [], 0x0, 0x0, 0x0, 0x0⟩,
  ⟨0xE00, [(0x8, 48), (0x4, 2)], 0x4000, 0x1FFFFF, 0x0, 0x0⟩,
  ⟨0xF80, [(0x4, 48)], 0x0, 0x0, 0x0, 0x0⟩,
  ⟨0x1100, [], 0x0, 0x0, 0xFFFFFFFF, 0x0⟩,
  ⟨0x1104, [], 0x0, 0x0, 0xFFFFFFFF, 0x0⟩,
  ⟨0x1108, [], 0x0, 0x0, 0x3FFFF, 0x0⟩,
  ⟨0x110C, [], 0x0, 0x0, 0x0, 0x0⟩,
  ⟨0x1110, [], 0x0, 0x0, 0x0, 0x0⟩,
  ⟨0x1114, [], 0x10000, 0x0, 0x0, 0x0⟩,
  ⟨0x1200, [(0x10, 48)], 0x0, 0x0, 0xFFFFF03F, 0x0⟩,
  ⟨0x1204, [(0x10, 48)], 0x0, 0x0, 0xFFFFFFFF, 0x0⟩,
  ⟨0x1208, [(0x10, 48)], 0x0, 0x0, 0x0, 0x0⟩]
/-- Rows of GLB (R595), part 4. -/
def glbRows4 : List RegRow := [
  ⟨0x120C, [(0x10, 48)], 0x0, 0x0, 0xFFFF, 0x0⟩,
  ⟨0x1500, [(0x4, 48)], 0x1, 0xFFFFFFFF, 0x0, 0x0⟩,
  ⟨0x1600, [], 0x1932, 0x1FFFF, 0x0, 0x0⟩,
  ⟨0x1604, [], 0x8E1028, 0xFFFFFF, 0x0, 0x0⟩,
  ⟨0x1608, [], 0x400040, 0xFFFFFF, 0x0, 0x0⟩,
  ⟨0x1700, [], 0x0, 0x0, 0xFFFFFF, 0x0⟩,
  ⟨0x1704, [], 0x0, 0x0, 0x0, 0x0⟩,
  ⟨0x1708, [], 0x0, 0x0, 0xFFF, 0x0⟩,
  ⟨0x170C, [], 0x0, 0x0, 0x0, 0x0⟩,
  ⟨0x1710, [], 0x0, 0x0, 0x0, 0x0⟩,
  ⟨0x1714, [], 0x0, 0x0, 0x0, 0x0⟩,
  ⟨0x1718, [], 0x0, 0x0, 0x0, 0x0⟩,
  ⟨0x1800, [], 0x0, 0x0, 0x0, 0xFFFFFF⟩,
  ⟨0x1804, [], 0x0, 0x0, 0x0, 0xFFFFFF⟩,
  ⟨0x1900, [(0x4, 16)], 0x0, 0x0, 0x0, 0xFFFFFFFF⟩,
  ⟨0x1940, [(0x4, 16)], 0xFFFFFFFF, 0xFFFFFFFF, 0x0, 0x0⟩,
  ⟨0x1980, [], 0x0, 0x0, 0x0, 0x0⟩,
  ⟨0x1984, [], 0x0, 0x0, 0x0, 0x0⟩,
  ⟨0x1988, [], 0x0, 0x0, 0x0, 0x0⟩,
  ⟨0x19C0, [], 0x0, 0x0, 0x0, 0x19F⟩,
  ⟨0x19C4, [(0x4, 2)], 0x0, 0x0, 0x0, 0x0⟩,
  ⟨0x19D0, [], 0xE, 0x0, 0x0, 0x0⟩,
  ⟨0x19D4, [], 0x0, 0x0, 0x3, 0x4⟩,
  ⟨0x19E0, [], 0xA08, 0xFFFF, 0x0, 0x0⟩]
/-- Rows of GLB (R595), part 5. -/
def glbRows5 : List RegRow := [
  ⟨0x19E4, [], 0x0, 0x0, 0x0, 0x0⟩,
  ⟨0x19E8, [], 0x0, 0x0, 0x0, 0x0⟩,
  ⟨0x19F0, [], 0x0, 0x0, 0x0, 0x0⟩,
  ⟨0x19F4, [], 0x0, 0x0, 0x0, 0x0⟩,
  ⟨0x19F8, [], 0x0, 0x0, 0x0, 0x0⟩,
  ⟨0x19FC, [], 0x0, 0x0, 0x0, 0x0⟩,
  ⟨0x1A00, [], 0x0, 0x0, 0x0, 0x0⟩,
  ⟨0x1A04, [], 0x0, 0x0, 0x0, 0x0⟩]
/-- Rows of GLB (R595). -/
def glbRows : List RegRow := glbRows0 ++ glbRows1 ++ glbRows2 ++ glbRows3 ++ glbRows4 ++ glbRows5

/-- Rows of the tables in GLB (R595), part 0. -/
def glbTableRows0 : List RegRow := [
  ⟨0x10000, [(0x200, 48), (0x10, 32)], 0x0, 0xFFFFF3FF, 0x0, 0x0⟩,
  ⟨0x10004, [(0x200, 48), (0x10, 32)], 0x0, 0xFFFFFFFF, 0x0, 0x0⟩,
  ⟨0x10008, [(0x200, 48), (0x10, 32)], 0x0, 0xFFFFF000, 0x0, 0x0⟩,
  ⟨0x1000C, [(0x200, 48), (0x10, 32)], 0x0, 0xFFFFFFFF, 0x0, 0x0⟩,
  ⟨0x18000, [(0x80, 48), (0x4, 32)], 0x0, 0xFFFFFFFF, 0x0, 0x0⟩,
  ⟨0x1E000, [(0x8, 96)], 0x0, 0x3FFFFFF, 0x0, 0x0⟩,
  ⟨0x1E004, [(0x8, 96)], 0x0, 0xFFFF, 0x0, 0x0⟩,
  ⟨0x1F000, [(0x8, 256)], 0x0, 0x3FFFFFF, 0x0, 0x0⟩,
  ⟨0x1F004, [(0x8, 256)], 0x0, 0xFFFF, 0x0, 0x0⟩,
  ⟨0x20000, [(0x4, 4096)], 0x0, 0xBFBFBFBF, 0x0, 0x0⟩,
  ⟨0x30000, [(0x20, 4096)], 0x0, 0x3FFFFF, 0x0, 0x0⟩,
  ⟨0x30004, [(0x20, 4096)], 0x0, 0xFFFFFFFF, 0x0, 0x0⟩,
  ⟨0x30008, [(0x20, 4096)], 0x0, 0xFFFFF03F, 0x0, 0x0⟩,
  ⟨0x3000C, [(0x20, 4096)], 0x0, 0xFFFFFFFF, 0x0, 0x0⟩,
  ⟨0x30010, [(0x20, 4096)], 0x0, 0xFFFFF03F, 0x0, 0x0⟩,
  ⟨0x30014, [(0x20, 4096)], 0x0, 0xFFFFFFFF, 0x0, 0x0⟩,
  ⟨0x30018, [(0x20, 4096)], 0x0, 0x0, 0x0, 0x0⟩,
  ⟨0x3001C, [(0x20, 4096)], 0x0, 0x0, 0x0, 0x0⟩,
  ⟨0x50000, [(0x4, 256)], 0x0, 0x1FFFFFFF, 0x0, 0x0⟩,
  ⟨0x60000, [(0x200, 24), (0x80, 4), (0x8, 9)], 0x0, 0x1FFFFF, 0x0, 0x0⟩,
  ⟨0x60004, [(0x200, 24), (0x80, 4), (0x8, 9)], 0x0, 0xFFFFFF, 0x0, 0x0⟩,
  ⟨0x64000, [(0x20, 48)], 0x0, 0x7FFFFFF, 0x0, 0x0⟩,
  ⟨0x64004, [(0x20, 48)], 0x0, 0x1FFFFF, 0x0, 0x0⟩,
  ⟨0x64008, [(0x20, 48)], 0x0, 0x1FFFFF, 0x0, 0x0⟩]
/-- Rows of the tables in GLB (R595), part 1. -/
def glbTableRows1 : List RegRow := [
  ⟨0x6400C, [(0x20, 48)], 0x0, 0xFFFFFF, 0x0, 0x0⟩,
  ⟨0x64010, [(0x20, 48)], 0x0, 0xFFFFFF, 0x0, 0x0⟩,
  ⟨0x64014, [(0x20, 48)], 0x0, 0x0, 0x0, 0x0⟩,
  ⟨0x64018, [(0x20, 48)], 0x0, 0x0, 0x0, 0x0⟩,
  ⟨0x6401C, [(0x20, 48)], 0x0, 0x0, 0x0, 0x0⟩,
  ⟨0x70000, [(0x20, 4096)], 0x0, 0x7FF, 0x0, 0x0⟩,
  ⟨0x70004, [(0x20, 4096)], 0x0, 0x1FFFFF, 0x0, 0x0⟩,
  ⟨0x70008, [(0x20, 4096)], 0x0, 0x1FFFFF, 0x0, 0x0⟩,
  ⟨0x7000C, [(0x20, 4096)], 0x0, 0xFFFFFF, 0x0, 0x0⟩,
  ⟨0x70010, [(0x20, 4096)], 0x0, 0xFFFFFF, 0x0, 0x0⟩,
  ⟨0x70014, [(0x20, 4096)], 0x0, 0x0, 0x0, 0x0⟩,
  ⟨0x70018, [(0x20, 4096)], 0x0, 0x0, 0x0, 0x0⟩,
  ⟨0x7001C, [(0x20, 4096)], 0x0, 0x0, 0x0, 0x0⟩,
  ⟨0xA0000, [(0x20, 4096)], 0x0, 0xFFFFFFF, 0x0, 0x0⟩,
  ⟨0xA0004, [(0x20, 4096)], 0x0, 0xFFE0003F, 0x0, 0x0⟩,
  ⟨0xA0008, [(0x20, 4096)], 0x0, 0xFFFFFFFF, 0x0, 0x0⟩,
  ⟨0xA000C, [(0x20, 4096)], 0x0, 0xFFFFF000, 0x0, 0x0⟩,
  ⟨0xA0010, [(0x20, 4096)], 0x0, 0xFFFFFFFF, 0x0, 0x0⟩,
  ⟨0xA0014, [(0x20, 4096)], 0x0, 0xFFFFF000, 0x0, 0x0⟩,
  ⟨0xA0018, [(0x20, 4096)], 0x0, 0xFFFFFFFF, 0x0, 0x0⟩,
  ⟨0xA001C, [(0x20, 4096)], 0x0, 0x0, 0x0, 0x0⟩]
/-- Rows of the tables in GLB (R595). -/
def glbTableRows : List RegRow := glbTableRows0 ++ glbTableRows1

/-- Rows of STN, part 0. -/
def stnRows0 : List RegRow := [
  ⟨0x1000, [], 0x3400, 0x3FFF, 0x0, 0x0⟩,
  ⟨0x1004, [], 0x0, 0x0, 0x7F, 0x0⟩,
  ⟨0x1100, [(0x40, 4)], 0x208F00, 0xFFFFFFF, 0x0, 0x0⟩,
  ⟨0x1104, [(0x40, 4)], 0x0, 0x0, 0x0, 0x0⟩,
  ⟨0x1108, [(0x40, 4)], 0x0, 0x0, 0x0, 0x0⟩,
  ⟨0x110C, [(0x40, 4)], 0x0, 0x0, 0x0, 0x0⟩,
  ⟨0x1110, [(0x40, 4)], 0x0, 0x0, 0x0, 0x0⟩,
  ⟨0x1800, [(0x4, 2)], 0x0, 0x0, 0x0, 0x0⟩,
  ⟨0x1808, [(0x4, 2)], 0x0, 0x0, 0x0, 0x0⟩,
  ⟨0x1810, [], 0x0, 0x0, 0x0, 0x0⟩,
  ⟨0x1814, [], 0x0, 0x0, 0x0, 0x0⟩,
  ⟨0x1818, [], 0x0, 0x0, 0x0, 0x0⟩,
  ⟨0x1C00, [], 0x18308, 0x1FFFF, 0x0, 0x0⟩,
  ⟨0x1C04, [], 0x4000, 0xFFFFFF, 0x0, 0x0⟩,
  ⟨0x1C08, [], 0x54000, 0xFFFFFF, 0x0, 0x0⟩,
  ⟨0x1C10, [(0x4, 4)], 0x3800, 0xFFFF, 0x0, 0x0⟩,
  ⟨0x1C20, [], 0x0, 0x0, 0x0, 0x0⟩,
  ⟨0x1C24, [], 0xF0, 0x0, 0x0, 0x0⟩,
  ⟨0x1C28, [], 0x0, 0x0, 0x0, 0x0⟩,
  ⟨0x1C2C, [], 0x0, 0x0, 0xFFF, 0x0⟩,
  ⟨0x1C30, [], 0x0, 0x0, 0x0, 0x0⟩,
  ⟨0x1C34, [], 0x0, 0x0, 0x0, 0x0⟩,
  ⟨0x1C38, [], 0x0, 0x0, 0x0, 0x0⟩,
  ⟨0x1C3C, [], 0x0, 0x0, 0x0, 0x0⟩]
/-- Rows of STN, part 1. -/
def stnRows1 : List RegRow := [
  ⟨0x1C40, [], 0x0, 0x0, 0x0, 0x0⟩,
  ⟨0x1C44, [], 0x0, 0x0, 0x0, 0x0⟩,
  ⟨0x1C48, [], 0x0, 0x0, 0x0, 0x7⟩,
  ⟨0x1E00, [(0x4, 2)], 0x10101010, 0xFFFFFFFF, 0x0, 0x0⟩,
  ⟨0x1E08, [], 0x0, 0xFFFFFFFF, 0x0, 0x0⟩,
  ⟨0x1E0C, [], 0x0, 0x0, 0x0, 0x0⟩,
  ⟨0x1E10, [], 0x0, 0x0, 0x0, 0x0⟩,
  ⟨0x2000, [(0x20, 9)], 0x3E, 0x3F, 0x0, 0x0⟩,
  ⟨0x2004, [(0x20, 9)], 0xF0, 0x0, 0x0, 0x0⟩,
  ⟨0x2008, [(0x20, 9)], 0x0, 0x0, 0x0, 0x0⟩,
  ⟨0x200C, [(0x20, 9)], 0x0, 0x0, 0x0, 0x0⟩,
  ⟨0x2010, [(0x20, 9)], 0x0, 0x0, 0x0, 0x0⟩,
  ⟨0x2014, [(0x20, 9)], 0x0, 0x0, 0x0, 0x0⟩,
  ⟨0x2200, [], 0x53D03, 0xFFFFF, 0x0, 0x0⟩,
  ⟨0x2204, [], 0x7F8, 0x0, 0x0, 0x800⟩,
  ⟨0x2208, [], 0x0, 0x0, 0x3F, 0x0⟩,
  ⟨0x220C, [], 0x0, 0x0, 0x0, 0x0⟩,
  ⟨0x2210, [], 0x0, 0x0, 0x0, 0x0⟩,
  ⟨0x2220, [], 0x0, 0x0, 0x8003FFFF, 0x0⟩,
  ⟨0x2224, [], 0x0, 0x0, 0x0, 0x0⟩,
  ⟨0x2228, [], 0x0, 0x0, 0x0, 0x0⟩,
  ⟨0x2400, [], 0x0, 0x0, 0x0, 0x0⟩,
  ⟨0x2404, [], 0x0, 0x0, 0x0, 0x0⟩,
  ⟨0x2408, [], 0x0, 0x0, 0x0, 0x0⟩]
/-- Rows of STN, part 2. -/
def stnRows2 : List RegRow := [
  ⟨0x240C, [], 0x0, 0x0, 0x0, 0x0⟩,
  ⟨0x2410, [], 0x0, 0x0, 0x0, 0x0⟩,
  ⟨0x2414, [], 0x0, 0x0, 0x0, 0x0⟩,
  ⟨0x2800, [], 0x10A28290, 0xFFFFFFFF, 0x0, 0x0⟩,
  ⟨0x2804, [], 0x643203E8, 0xFFFFFFFF, 0x0, 0x0⟩,
  ⟨0x2808, [], 0xACE4A8C, 0xFFFFFFFF, 0x0, 0x0⟩,
  ⟨0x280C, [], 0xA9F603E, 0xFFFFFFFF, 0x0, 0x0⟩,
  ⟨0x2810, [], 0x0, 0xFFFF, 0x0, 0x0⟩,
  ⟨0x2814, [], 0x0, 0xFFF, 0x0, 0x0⟩,
  ⟨0x2818, [], 0x0, 0x0, 0xFFFF, 0x0⟩,
  ⟨0x281C, [], 0x0, 0x0, 0x0, 0x80000⟩,
  ⟨0x2820, [(0x4, 4)], 0x0, 0x0, 0x0, 0x0⟩,
  ⟨0x2830, [], 0x0, 0x0, 0x0, 0x0⟩,
  ⟨0x2834, [], 0x0, 0x0, 0x0, 0x0⟩,
  ⟨0x2838, [], 0x0, 0x0, 0x0, 0x0⟩,
  ⟨0x283C, [], 0x0, 0x0, 0x0, 0x0⟩,
  ⟨0x2840, [], 0x0, 0x0, 0x0, 0x0⟩,
  ⟨0x2844, [], 0x0, 0x0, 0x0, 0x0⟩,
  ⟨0x2848, [], 0x0, 0x0, 0x0, 0x0⟩,
  ⟨0x2880, [(0x10, 3), (0x4, 4)], 0x0, 0x0, 0x0, 0x0⟩,
  ⟨0x2900, [(0x8, 8)], 0x0, 0x8000FFFF, 0x0, 0x0⟩,
  ⟨0x2904, [(0x8, 8)], 0x0, 0xFFFFFF, 0x0, 0x0⟩,
  ⟨0x3000, [(0x80, 2)], 0x3214432, 0xFFFFFFF, 0x0, 0x0⟩,
  ⟨0x3004, [(0x80, 2)], 0x38, 0x0, 0x0, 0x0⟩]
/-- Rows of STN, part 3. -/
def stnRows3 : List RegRow := [
  ⟨0x3008, [(0x80, 2)], 0x0, 0x0, 0x0, 0x0⟩,
  ⟨0x300C, [(0x80, 2)], 0x0, 0x0, 0x0, 0x0⟩,
  ⟨0x3010, [(0x80, 2), (0x4, 4)], 0x8000800, 0xFFFFFFFF, 0x0, 0x0⟩,
  ⟨0x3020, [(0x80, 2)], 0x0, 0x0, 0x0, 0x0⟩,
  ⟨0x3024, [(0x80, 2)], 0x0, 0x0, 0x0, 0x0⟩,
  ⟨0x3028, [(0x80, 2)], 0x0, 0x0, 0x0, 0x0⟩,
  ⟨0x302C, [(0x80, 2)], 0x0, 0x0, 0x0, 0x0⟩,
  ⟨0x3030, [(0x80, 2)], 0x0, 0x0, 0x0, 0x0⟩,
  ⟨0x3034, [(0x80, 2)], 0x0, 0x0, 0x0, 0x0⟩,
  ⟨0x3038, [(0x80, 2)], 0x0, 0x0, 0x0, 0x0⟩,
  ⟨0x303C, [(0x80, 2)], 0x0, 0x0, 0x0, 0x0⟩,
  ⟨0x3040, [(0x80, 2)], 0x0, 0x0, 0x0, 0x0⟩,
  ⟨0x3044, [(0x80, 2)], 0x0, 0x0, 0x0, 0x0⟩,
  ⟨0x3048, [(0x80, 2)], 0x0, 0x0, 0x0, 0x0⟩,
  ⟨0x3100, [], 0x0, 0xFFFF, 0x0, 0x0⟩]
/-- Rows of STN. -/
def stnRows : List RegRow := stnRows0 ++ stnRows1 ++ stnRows2 ++ stnRows3

/-- Rows of FME, part 0. -/
def fmeRows0 : List RegRow := [
  ⟨0x0, [], 0x0, 0x0, 0x0, 0x0⟩,
  ⟨0x4, [], 0x0, 0x0, 0x0, 0x0⟩,
  ⟨0x10, [], 0x0, 0x0, 0x0, 0x0⟩,
  ⟨0x14, [], 0x0, 0x0, 0x0, 0x0⟩,
  ⟨0x18, [], 0x0, 0x0, 0x0, 0x0⟩,
  ⟨0x1C, [], 0x0, 0x0, 0x0, 0x0⟩,
  ⟨0x100, [], 0x0, 0x0, 0x0, 0x0⟩,
  ⟨0x104, [(0x4, 2)], 0x0, 0x0, 0x0, 0x0⟩,
  ⟨0x200, [], 0x0, 0x0, 0x0, 0x0⟩,
  ⟨0x204, [], 0x0, 0x0, 0x0, 0x0⟩,
  ⟨0x208, [], 0x0, 0x0, 0x0, 0x0⟩,
  ⟨0x20C, [], 0x0, 0x0, 0x0, 0x0⟩,
  ⟨0x210, [], 0x0, 0x0, 0x0, 0x0⟩,
  ⟨0x214, [], 0x0, 0x0, 0x0, 0x0⟩,
  ⟨0x218, [], 0x0, 0x0, 0xFFF, 0x0⟩,
  ⟨0x21C, [], 0x0, 0x0, 0x0, 0x0⟩,
  ⟨0x220, [], 0x0, 0x0, 0x0, 0x0⟩]
/-- Rows of FME. -/
def fmeRows : List RegRow := fmeRows0

/-- Rows of DMA, part 0. -/
def dmaRows0 : List RegRow := [
  ⟨0x0, [], 0x0, 0xFFFFFFFF, 0x0, 0x0⟩,
  ⟨0x4, [], 0x0, 0x3FFFFFF, 0x0, 0x0⟩,
  ⟨0x8, [], 0x4, 0x0, 0xFFFFF00F, 0x0⟩,
  ⟨0xC, [], 0x0, 0x0, 0xFFFFFFFF, 0x0⟩,
  ⟨0x10, [], 0x0, 0x0, 0xFFFF, 0x0⟩,
  ⟨0x14, [], 0x0, 0x0, 0x7, 0x0⟩,
  ⟨0x18, [], 0x0, 0x0, 0x0, 0xC000000⟩,
  ⟨0x1C, [], 0x0, 0x0, 0x0, 0x0⟩]
/-- Rows of DMA. -/
def dmaRows : List RegRow := dmaRows0

/-- Rows of CUE, part 0. -/
def cueRows0 : List RegRow := [
  ⟨0x0, [(0x4, 256)], 0x0, 0xFFFF, 0x0, 0x0⟩,
  ⟨0x400, [(0x4, 256)], 0x0, 0x0, 0x0, 0x0⟩,
  ⟨0x800, [(0x10, 16)], 0x0, 0x0, 0x7FFFF, 0x0⟩,
  ⟨0x804, [(0x10, 16)], 0x0, 0x0, 0xFFFFFFFF, 0x0⟩,
  ⟨0x808, [(0x10, 16)], 0x0, 0x0, 0xFFFFFFFF, 0x0⟩,
  ⟨0x80C, [(0x10, 16)], 0x0, 0x0, 0xFFFFFFFF, 0x0⟩,
  ⟨0x900, [], 0x0, 0x0, 0x0, 0x1⟩,
  ⟨0x904, [], 0x0, 0x0, 0x0, 0x0⟩,
  ⟨0x908, [], 0x0, 0x0, 0x0, 0x0⟩]
/-- Rows of CUE. -/
def cueRows : List RegRow := cueRows0

/-- Rows of FCST, part 0. -/
def fcstRows0 : List RegRow := [
  ⟨0x0, [], 0x640A2192, 0xFFFFFFFF, 0x0, 0x0⟩,
  ⟨0x4, [], 0x0, 0xFFFFFFF, 0x0, 0x0⟩,
  ⟨0x8, [], 0x98EE48, 0xFFFFFFF, 0x0, 0x0⟩,
  ⟨0x10, [(0x4, 24)], 0x0, 0xFFFFFFF, 0x0, 0x0⟩,
  ⟨0x80, [(0x8, 48)], 0x0, 0xFFFF, 0x0, 0x0⟩,
  ⟨0x84, [(0x8, 48)], 0x0, 0xFFFFFFFF, 0x0, 0x0⟩,
  ⟨0x200, [], 0x0, 0x0, 0x0, 0x780⟩,
  ⟨0x204, [], 0x0, 0x0, 0x0, 0x0⟩,
  ⟨0x208, [], 0x2D0, 0x0, 0x0, 0x0⟩,
  ⟨0x210, [(0x8, 6), (0x4, 2)], 0x0, 0x0, 0x0, 0x0⟩,
  ⟨0x240, [(0x4, 6)], 0x0, 0x0, 0x0, 0x0⟩,
  ⟨0x260, [], 0x0, 0x0, 0x0, 0x0⟩,
  ⟨0x300, [(0x8, 48), (0x4, 2)], 0x0, 0x0, 0x0, 0x0⟩,
  ⟨0x400, [], 0x0, 0x0, 0x0, 0x0⟩,
  ⟨0x404, [], 0x0, 0x0, 0x0, 0x0⟩]
/-- Rows of FCST. -/
def fcstRows : List RegRow := fcstRows0

/-- Rows of PROT, part 0. -/
def protRows0 : List RegRow := [
  ⟨0x0, [], 0x0, 0x0, 0x7, 0x0⟩,
  ⟨0x4, [], 0x0, 0x0, 0x0, 0x1⟩,
  ⟨0x10, [], 0x0, 0x0, 0x0, 0x0⟩,
  ⟨0x14, [(0x4, 2)], 0x0, 0x0, 0x0, 0x0⟩,
  ⟨0x1000, [(0x20, 81)], 0x0, 0x0, 0x1, 0x0⟩,
  ⟨0x1004, [(0x20, 81)], 0x0, 0x0, 0x0, 0x0⟩,
  ⟨0x1008, [(0x20, 81)], 0x0, 0x0, 0xFFFFFFFF, 0x0⟩,
  ⟨0x100C, [(0x20, 81)], 0x0, 0x0, 0xFFFFFFFF, 0x0⟩,
  ⟨0x1010, [(0x20, 81)], 0x0, 0x0, 0xFFFFFFFF, 0x0⟩,
  ⟨0x1014, [(0x20, 81)], 0x0, 0x0, 0xFFFFFFFF, 0x0⟩,
  ⟨0x1018, [(0x20, 81)], 0x0, 0x0, 0x0, 0x0⟩,
  ⟨0x101C, [(0x20, 81)], 0x0, 0x0, 0x0, 0x0⟩]
/-- Rows of PROT. -/
def protRows : List RegRow := protRows0

/-- Rows of SEC, part 0. -/
def secRows0 : List RegRow := [
  ⟨0x0, [], 0x0, 0x0, 0x0, 0x0⟩,
  ⟨0x4, [], 0x0, 0x0, 0x0, 0x0⟩,
  ⟨0x8, [], 0x0, 0x0, 0x0, 0x0⟩,
  ⟨0xC, [], 0x0, 0x0, 0x0, 0x0⟩,
  ⟨0x40, [(0x4, 16)], 0x0, 0x0, 0x0, 0x0⟩,
  ⟨0x80, [(0x4, 16)], 0x0, 0x0, 0x0, 0x0⟩,
  ⟨0xC0, [], 0x0, 0x0, 0x0, 0x0⟩,
  ⟨0x100, [], 0x0, 0x0, 0xFFFFFFFF, 0x0⟩,
  ⟨0x104, [], 0x0, 0x0, 0x1FFF, 0x0⟩,
  ⟨0x108, [], 0x0, 0x0, 0x0, 0x2⟩,
  ⟨0x110, [(0x4, 8)], 0x0, 0x0, 0xFFFFFFFF, 0x0⟩,
  ⟨0x200, [], 0x0, 0x0, 0x0, 0x0⟩,
  ⟨0x204, [], 0x0, 0x0, 0x0, 0x0⟩,
  ⟨0x208, [], 0x0, 0x0, 0x0, 0x0⟩,
  ⟨0x20C, [], 0x0, 0x0, 0x0, 0x0⟩,
  ⟨0x1000, [(0x4, 488)], 0x0, 0x0, 0x0, 0x0⟩]
/-- Rows of SEC. -/
def secRows : List RegRow := secRows0

/-- Rows of MBOX, part 0. -/
def mboxRows0 : List RegRow := [
  ⟨0x20, [], 0x0, 0x0, 0x0, 0x0⟩,
  ⟨0x24, [], 0x0, 0x0, 0x0, 0x0⟩,
  ⟨0x28, [], 0x0, 0x0, 0x0, 0x0⟩,
  ⟨0x2C, [], 0x0, 0x0, 0x0, 0x7⟩,
  ⟨0x30, [], 0x0, 0x0, 0x0, 0x0⟩]
/-- Rows of MBOX. -/
def mboxRows : List RegRow := mboxRows0

/-- Rows of IW, part 0. -/
def iwRows0 : List RegRow := [
  ⟨0x0, [(0x4, 3)], 0x0, 0x0, 0xFFFFF, 0x0⟩,
  ⟨0x10, [], 0x0, 0x0, 0x0, 0x0⟩]
/-- Rows of IW. -/
def iwRows : List RegRow := iwRows0

/-- Rows of a PERF unit of 8 counters (R587), part 0. -/
def perfRows0 : List RegRow := [
  ⟨0x0, [], 0x0, 0x0, 0x7FF, 0x0⟩,
  ⟨0x4, [], 0x0, 0x0, 0x0, 0x1FF⟩,
  ⟨0x8, [], 0x0, 0x0, 0x0, 0x0⟩,
  ⟨0xC, [], 0x0, 0x0, 0x0, 0x0⟩,
  ⟨0x10, [], 0x0, 0x0, 0x0, 0x0⟩,
  ⟨0x14, [], 0x0, 0x0, 0x0, 0x0⟩,
  ⟨0x20, [(0x10, 2)], 0x0, 0x0, 0xFFFFF000, 0x0⟩,
  ⟨0x24, [(0x10, 2)], 0x0, 0x0, 0xFFFFFFFF, 0x0⟩,
  ⟨0x28, [(0x10, 2)], 0x0, 0x0, 0xFFFFF000, 0x0⟩,
  ⟨0x2C, [(0x10, 2)], 0x0, 0x0, 0xFFFFFFFF, 0x0⟩,
  ⟨0x80, [(0x20, 8)], 0x0, 0x0, 0xFFFFFFFF, 0x0⟩,
  ⟨0x88, [(0x20, 8)], 0x0, 0x0, 0x0, 0x0⟩,
  ⟨0x8C, [(0x20, 8)], 0x0, 0x0, 0x0, 0x0⟩,
  ⟨0x90, [(0x20, 8)], 0x0, 0x0, 0x0, 0x0⟩,
  ⟨0x94, [(0x20, 8)], 0x0, 0x0, 0x0, 0x0⟩]
/-- Rows of a PERF unit of 8 counters (R587). -/
def perfRows : List RegRow := perfRows0

/-- Rows of a PERF unit of 4 counters (R577, R587), part 0. -/
def perfRowsFour0 : List RegRow := [
  ⟨0x0, [], 0x0, 0x0, 0x61F, 0x0⟩,
  ⟨0x4, [], 0x0, 0x0, 0x0, 0x1F⟩,
  ⟨0x8, [], 0x0, 0x0, 0x0, 0x0⟩,
  ⟨0xC, [], 0x0, 0x0, 0x0, 0x0⟩,
  ⟨0x10, [], 0x0, 0x0, 0x0, 0x0⟩,
  ⟨0x14, [], 0x0, 0x0, 0x0, 0x0⟩,
  ⟨0x20, [(0x10, 2)], 0x0, 0x0, 0xFFFFF000, 0x0⟩,
  ⟨0x24, [(0x10, 2)], 0x0, 0x0, 0xFFFFFFFF, 0x0⟩,
  ⟨0x28, [(0x10, 2)], 0x0, 0x0, 0xFFFFF000, 0x0⟩,
  ⟨0x2C, [(0x10, 2)], 0x0, 0x0, 0xFFFFFFFF, 0x0⟩,
  ⟨0x80, [(0x20, 4)], 0x0, 0x0, 0xFFFFFFFF, 0x0⟩,
  ⟨0x88, [(0x20, 4)], 0x0, 0x0, 0x0, 0x0⟩,
  ⟨0x8C, [(0x20, 4)], 0x0, 0x0, 0x0, 0x0⟩,
  ⟨0x90, [(0x20, 4)], 0x0, 0x0, 0x0, 0x0⟩,
  ⟨0x94, [(0x20, 4)], 0x0, 0x0, 0x0, 0x0⟩]
/-- Rows of a PERF unit of 4 counters (R577, R587). -/
def perfRowsFour : List RegRow := perfRowsFour0

/-- The row of the register word at address `a`, if one lies there (R588 to R590). Mailbox ports
and apertures are no registers. -/
def regRow (a : Nat) : Option RegRow :=
  if a % 4 ≠ 0 then none
  else if a < 0x10000 then glbRows.find? (·.hit a)
  else if a < 0x100000 then glbTableRows.find? (·.hit a)
  else if a < 0x280000 then stnRows.find? (·.hit ((a - 0x100000) % 0x10000))
  else if a < 0x400000 then none
  else if a < 0x4C0000 then fmeRows.find? (·.hit ((a - 0x400000) % 0x4000))
  else if a < 0x580000 then none
  else if a < 0x580800 then dmaRows.find? (·.hit ((a - 0x580000) % 0x20))
  else if a < 0x5C0000 then none
  else if a < 0x600000 then cueRows.find? (·.hit (a - 0x5C0000))
  else if a < 0x680000 then none
  else if a < 0x6C0000 then fcstRows.find? (·.hit (a - 0x680000))
  else if a < 0x700000 then protRows.find? (·.hit (a - 0x6C0000))
  else if a < 0x780000 then secRows.find? (·.hit (a - 0x700000))
  else if a = 0x789400 then some ⟨0, [], 0, 0, 0xF, 0⟩
  else if a < 0x789400 then
    (if (a - 0x780000) / 0x200 < 24 ∨ (a - 0x780000) / 0x200 = 73 then perfRows else perfRowsFour).find?
      (·.hit ((a - 0x780000) % 0x200))
  else if a < 0x800000 then none
  else if a < 0x804000 then mboxRows.find? (·.hit ((a - 0x800000) % 0x100))
  else if a < 0xC00000 then none
  else if a < 0xC00014 then iwRows.find? (·.hit (a - 0xC00000))
  else none

/-- The cold-reset value of the word at `a` (R594); zero where no register lies. -/
def resetVal (a : Nat) : Word :=
  match regRow a with
  | none => 0
  | some r => BitVec.ofNat 32 r.reset

end Sys2Proof.Machine
end

