-- ==== Sys2Proof/Machine/State.lean ====
section
/-! DEFINITION. The state of the FM9192: every register of both sets and live, the mailboxes, the
Director, the Drift tables, the engines, and the queue of commands that are waiting. All of it is plain
data. A numbered instance of a block stands in a sparse table under its number. -/

namespace Sys2Proof.Machine

/-! ## Registers -/

/-- The register words (R69): the two sets of the shadowed words, and the words that exist once.
An unlisted word reads as its reset value. -/
structure Regs where
  active : Tab Word := []
  shadow : Tab Word := []
  live : Tab Word := []
  /-- Words of the Active and of the Shadow Set that hold an uncorrectable error (R564, R565). -/
  badA : List Nat := []
  badS : List Nat := []
  deriving DecidableEq, Repr

/-! ## Mailboxes and the Director -/

/-- A word of a mailbox FIFO: its end mark, whether it closed a packet at 2,050 words (R34), and
whether its spilled copy was lost to an uncorrectable error (R564). -/
structure MWord where
  word : DWord
  last : Bool
  forced : Bool := false
  bad : Bool := false
  deriving DecidableEq, Repr

/-- A mailbox (R26 to R31): its FIFOs, oldest word first, and the two hardware flags of STAT. -/
structure Mbox where
  inq : List MWord := []
  outq : List MWord := []
  discarding : Bool := false
  lastPop : Bool := false
  deriving DecidableEq, Repr

/-- A partial word of a byte path (R28): its mailbox, its port, and the bytes gathered, first byte
first. -/
structure Partial where
  mbox : Nat
  last : Bool
  bytes : List Byte
  deriving DecidableEq, Repr

/-- What a checkpoint of the sequencers holds (R65). -/
structure Ckpt where
  pc : Nat
  regs : Tab DWord
  stack : List Nat
  journal : List (Nat × Word)
  used : Nat
  deriving DecidableEq, Repr

/-- What the executing take waits for (R47, R48). `cue` holds the line, the instant of `now` at which
the timeout passes, and the register Gd. -/
inductive TakeWait where
  | none
  | time (t : Nat)
  | cue (line deadline gd : Nat)
  deriving DecidableEq, Repr

/-- The executing take (R33, R37): its instructions, its registers G1 to G31 (an unlisted one is
zero), program counter, return stack (newest first) and journal (in the order of R82); the fabric time
and the `now` at its start; the time not counted against its limit (R58); the restarts made. -/
structure Take where
  origin : Nat
  serial : Nat
  code : List Word
  pc : Nat := 0
  regs : Tab DWord := []
  stack : List Nat := []
  journal : List (Nat × Word) := []
  startFt : Nat
  startNow : Nat
  free : Nat := 0
  wait : TakeWait := .none
  ckpt : Ckpt := ⟨0, [], [], [], 0⟩
  mismatches : Nat := 0
  stall : Option Nat := none
  deriving DecidableEq, Repr

/-- The long operations of R56, in the code order of GLB_DIRSTAT.LONGOP. -/
inductive LongKind where
  | cut
  | retrain (station port : Nat)
  | width (station port : Nat)
  | keyrev (index : Nat)
  | lull (slice : Nat)
  deriving DecidableEq, Repr

/-- A long operation in progress (R57): its kind, the `now` at its start, and whether an instruction
of the executing take waits for its end. -/
structure LongOp where
  kind : LongKind
  started : Nat
  byTake : Bool
  deriving DecidableEq, Repr

/-- A pending CUTAT (R53, R54): who set it, the addresses that its journal wrote (R565), and whether its time came during
a long operation that has not ended (R59). Its time stands in GLB_CUTTIME. -/
structure CutAt where
  origin : Nat
  serial : Nat
  pc : Nat
  wrote : List Nat := []
  due : Bool := false
  deriving DecidableEq, Repr

/-- The Director (R23 to R68): the mailbox served last, the executing take, the long operation, the
pending CUTAT. -/
structure Director where
  last : Nat := 63
  take : Option Take := .none
  longop : Option LongOp := .none
  cutAt : Option CutAt := .none
  deriving DecidableEq, Repr

/-! ## The slate log -/

/-- A slot of the slate log (R80, R85): a chained entry, or a slot reserved for a signature with its
64 bytes once filled. -/
inductive Slot where
  | entry (w0 w1 w2 w3 w4 : DWord) (chain : BitVec 192)
  | reserved (filled : Option (List DWord))
  deriving DecidableEq, Repr

/-- What the slate log holds besides its registers (R80 to R86): the slots by number; the newest
CHAIN; the ENTRY of the chain's first entry, of the newest CUT and of the newest CHECKPOINT; COMMIT
entries since the last CUT; chained entries other than CHECKPOINT since the last CHECKPOINT; the newest
TIME; the `now` of the oldest uncovered entry; the CHECKPOINT entries whose signature is being made. -/
structure Slate where
  slots : Tab (Option Slot) := []
  chain : BitVec 192
  first : Nat := 0
  cut : Option Nat := .none
  ckpt : Option Nat := .none
  commits : Nat := 0
  count : Nat := 0
  time : Nat := 0
  uncovered : Option Nat := .none
  signing : List Nat := []
  deriving DecidableEq, Repr

/-! ## Events and cue lines -/

/-- What the event unit keeps besides its registers: the `now` at which a rate-limited source was
last raised, and at which a source last wrote an entry to a ring (key 64 × source + partition, R574);
entries lost since the last OVERFLOW entry of a ring (R432). -/
structure Events where
  raised : Tab Nat := []
  written : Tab Nat := []
  lost : Tab Nat := []
  deriving DecidableEq, Repr

/-- The pulses waiting on a cue line (R466), by line. -/
structure Cues where
  waiting : Tab Nat := []
  deriving DecidableEq, Repr

/-! ## The environment declaration (R141) -/

/-- A station record of the declaration. -/
structure StnRec where
  kind : Nat := 0
  pnode : Nat := 0
  pstn : Nat := 0
  medium : Nat := 0
  length : Nat := 0
  loss : Nat := 0
  slotw : Nat := 0
  spareWired : Bool := false
  pair : Bool := false
  deriving DecidableEq, Repr

/-- The declaration in force until the next reset (R142): node, cooling class, power ceiling in W,
fitted references, the 24 station records. -/
structure EnvDecl where
  node : Nat := 0
  cool : Nat := 0
  devcap : Nat := 0
  refBFit : Bool := false
  frefFit : Bool := false
  stations : List StnRec := []
  deriving DecidableEq, Repr

/-! ## Resets -/

/-- A warm reset in progress (R131): none; waiting for step 4 to end; or state already reset and waiting for WARM_RST_N
to rise. -/
inductive WarmPhase where
  | idle
  | draining
  | held
  deriving DecidableEq, Repr

/-- The reset pins and supplies (R126 to R133): whether COLD_RST_N is low, whether a self-imposed cold
reset of R128 holds, whether WARM_RST_N is low, the warm reset's phase, the station waiting for its reset
(R133), whether THERMTRIP_N has latched low (R117), whether the target interface has become an I3C one and the dynamic
address that SETDASA gave it (R112), the `now` at which HOLD was set, until DRAIN_LATE has been raised (R148). -/
structure Resets where
  cold : Bool := false
  rail : Bool := false
  warmPin : Bool := false
  warm : WarmPhase := .idle
  station : Option Nat := .none
  thermtrip : Bool := false
  i3c : Bool := false
  i3cDyn : Option Nat := .none
  holdAt : Option Nat := .none
  deriving DecidableEq, Repr

/-- The scrubs (R566): the `now` of the last pass of configuration storage and of the key cache, and of the start of
the present pass of the Drift store. -/
structure Scrub where
  cfg : Nat := 0
  key : Nat := 0
  pass : Nat := 0
  deriving DecidableEq, Repr

/-! ## Boot -/

/-- A reel copy as the boot ROM read and checked it (R137, R138): KEYSLOT, ROLLBACK, the first 64 bytes
of the digest as its number, the declaration's bytes, and the boot takes as mailbox words. -/
structure Reel where
  keyslot : Nat
  rollback : Nat
  digest : Nat
  env : List Byte
  takes : List (List DWord)
  deriving DecidableEq, Repr

/-- The boot ROM (R135 to R140): the step in progress (0 while held in reset, 1 to 8, 9 once DEV_READY
is high, 10 when the boot has failed or is stopped by STRAP_TEST); whether step 2 of the cold boot has
ended, so that direct reads return values (R136); the copy tried; the code with which copy A has failed while the reset
that leads to copy B is under way; the reel in use; the boot takes not yet placed;
the status code of the last boot take, once it has answered and no further one follows it; the index of the boot take
placed last. -/
structure Boot where
  step : Nat := 1
  readable : Bool := false
  copyB : Bool := false
  retry : Option Nat := .none
  reel : Option Reel := .none
  left : List (List DWord) := []
  answer : Option Nat := .none
  index : Nat := 0
  deriving DecidableEq, Repr

/-! ## Security (chapter 20) -/

/-- A key slot of the OTP (R545): its hash, its revoke fuse, whether its check bits agree. -/
structure KeySlot where
  hash : Nat := 0
  revoked : Bool := false
  good : Bool := true
  deriving DecidableEq, Repr

/-- An OTP command in progress (R546): OP, SLOT, VALUE and the hash. -/
structure OtpCmd where
  op : Nat
  slot : Nat
  value : Nat
  hash : Nat
  deriving DecidableEq, Repr

/-- The security block (R545 to R554): the key slots, the minimum version, the words of the identity public key, the
certificate store, the OTP command in progress, the SPDM requests that wait for the Active Set digest, each with the
partition of its management function. -/
structure Security where
  slots : List KeySlot := [{}, {}, {}, {}]
  min : Nat := 0
  idpub : List Word := []
  certs : List Byte := []
  cmd : Option OtpCmd := none
  waits : List (Nat × SpdmReq) := []
  deriving DecidableEq, Repr

/-! ## Partitions and the functions their hosts see -/

/-- A host configuration write (R193): partition, function, register, dword offset, byte enables, data; requester and
tag, for its completion. -/
structure CfgWrite where
  part : Nat
  fn : Nat
  reg : CfgReg
  off : Nat
  be : Nat
  data : Word
  req : Nat := 0
  tag : Nat := 0
  /-- The upstream port that holds it. -/
  port : Nat := 0
  deriving DecidableEq, Repr

/-- What the device keeps for partitions besides registers: configuration writes held (R194), the configuration space of their
functions (key `cfgKey`), the INTx wires that devices hold asserted at a bridge (partition, device,
pin), the collapsed wires each partition's upstream port has asserted with that port (R197), the
partitions in reset (R203). -/
structure Parts where
  held : List CfgWrite := []
  cfg : Tab Word := []
  devInt : List (Nat × Nat × Nat) := []
  intx : Tab (Nat × Nat) := []
  /-- The Header Log of each partition's management function: requester and address (R345). -/
  aerLog : Tab (Nat × Nat) := []
  /-- The host's addresses in the emulated BARs of bound functions, by 2 × binding + BAR pair (R322). -/
  vfbar : Tab Nat := []
  inReset : List Nat := []
  /-- The `now` at which the reset of a partition drove PERST_N low. -/
  rstAt : Tab Nat := []
  /-- Exported ports held in reset by a PRESET packet (R338). -/
  portRst : List Nat := []
  deriving DecidableEq, Repr

/-! ## What leaves the device -/

/-- Something the device sends out, or answers (log entry 4). -/
inductive Out where
  /-- A direct read completed with data (R591). -/
  | readData (path : Path) (addr : Nat) (data : Nat)
  /-- A direct read completed with Completer Abort (R590, R196). -/
  | readAbort (path : Path) (addr : Nat)
  /-- A posted write to the host memory of a partition, without PASID (R430). -/
  | hostWrite (part : Nat) (addr : Nat) (data : List DWord)
  /-- An Assert_INTx or Deassert_INTx message from an upstream port (R197). -/
  | intx (port : Nat) (pin : Nat) (assert : Bool)
  /-- A fabric packet on port `f` of station `n`; `stomped` tells its trailer (R227). -/
  | packet (n f : Nat) (p : Packet) (stomped : Bool)
  /-- A reserved position on port `f` of station `n`, with the BOUND of its short packets (R223, R232). -/
  | reserved (n f bound : Nat) (slot0 slot1 : Short)
  /-- A TLP on port `p` of station `n`. -/
  | tlp (n p : Nat) (t : Tlp)
  /-- The header and data credits that port `p` of station `n` advertises for each of posted, non-posted and completion
  traffic, rounded down for the link's mode and scale factor (R291). -/
  | credits (n p hdr data : Nat)
  /-- Header and data credits of a type (0 posted, 1 non-posted, 2 completion) that port `p` of station `n` returns to its
  link partner (R17, R147). -/
  | update (n p ty hdr data : Nat)
  /-- The answer to a Lane Margining command on lane `l` of station `n` (R180): errors, at most the limit of 63, and samples. -/
  | margin (n l errors samples : Nat)
  /-- The parameters of Lane Margining (R180): steps and largest offset each way, in percent of UI and in mV; directions are
  independent; samples are counted; the error count limit. -/
  | marginParams (n l timing timingMax voltage voltageMax : Nat) (leftRight upDown samples : Bool) (limit : Nat)
  /-- An ERR_COR (0), ERR_NONFATAL (1) or ERR_FATAL (2) message of a partition's function (R205). -/
  | errMsg (part fn sev : Nat)
  /-- A 1 µs pulse on PPS_OUT at a whole second of fabric time (R107). -/
  | pps (ft : Nat)
  /-- An SPDM response of the management function of a partition (R551). -/
  | spdm (part : Nat) (r : SpdmReply)
  /-- The answer to an MCTP control message, by the management function of a partition (R198). -/
  | mctp (part : Nat)
  /-- Read SFDP (0x5A) to the SPI flash (R111). -/
  | flashSfdp
  /-- A read command `op` of `len` bytes from a byte address of the SPI flash (R111). -/
  | flash (op addr len : Nat)
  /-- A Voltage write of `mv` mV to rail 0 over AVSBus (R121). -/
  | avs (mv : Nat)
  deriving DecidableEq, Repr

/-! ## The machine -/

/-- The state of the machine. -/
structure State where
  pending : List Instr
  now : Nat
  ft : Nat
  fresh : Nat
  regs : Regs
  latches : List (Path × Nat × Word)
  mbox : Tab Mbox
  partI3c : Option Partial
  partJtag : Option Partial
  dir : Director
  slate : Slate
  evt : Events
  cues : Cues
  rst : Resets
  scrub : Scrub
  boot : Boot
  sec : Security
  env : EnvDecl
  parts : Parts
  dp : DataPath
  eng : Engines
  pow : Power
  drift : DriftWindow
  out : List Out
  deriving DecidableEq, Repr

/-- No command stops the machine: the spec gives every row an effect, and an event that cannot happen
leaves the state as it is (log entry 3). No fault is ever raised. -/
inductive Fault where
  deriving DecidableEq, Repr

/-- Refusals. -/
inductive Refusal where
  /-- Raised by `exec` for a command whose meaning is not written yet. Safe: nothing can be proved of
  a state that is not reached. -/
  | notModelled (mnemonic : String)
  deriving DecidableEq, Repr

/-- The machine right after a power-on reset (R130, R134): every register at its Reset value, POWERON set, every FIFO and
queue empty, the straps low and the OTP blank (log entries 5, 6). -/
def State.reset : State where
  pending := []
  now := 0
  ft := 0
  fresh := 0
  regs := { live := [(Reg.GLB_RSTCAUSE, 1)] }
  latches := []
  mbox := []
  partI3c := none
  partJtag := none
  dir := {}
  slate := { chain := (Config.shake256 []).extractLsb' 0 192 }
  evt := {}
  cues := {}
  rst := {}
  scrub := {}
  boot := {}
  sec := {}
  env := {}
  parts := {}
  dp := {}
  eng := {}
  pow := {}
  drift := {}
  out := []

end Sys2Proof.Machine
end

