-- ==== Sys2Proof/Machine/Access.lean ====
section
/-! DEFINITION. The accessors of the state: register words and fields of the two sets and live,
counters, latches, mailboxes, what is sent out, and the passing of time. -/

namespace Sys2Proof.Machine

/-! ## Register words -/

/-- The Active Set value of a shadowed word (R69). -/
def State.act (s : State) (a : Nat) : Word := (Tab.find s.regs.active a).getD (resetVal a)

/-- The Shadow Set value of a shadowed word (R69). -/
def State.shd (s : State) (a : Nat) : Word := (Tab.find s.regs.shadow a).getD (resetVal a)

/-- The stored value of a word that exists once (R69). -/
def State.liv (s : State) (a : Nat) : Word := (Tab.find s.regs.live a).getD (resetVal a)

/-- Writes a word of the Shadow Set. -/
def State.setShd (s : State) (a : Nat) (v : Word) : State :=
  { s with regs := { s.regs with shadow := Tab.set (resetVal a) s.regs.shadow a v } }

/-- Writes a word of the Active Set. -/
def State.setAct (s : State) (a : Nat) (v : Word) : State :=
  { s with regs := { s.regs with active := Tab.set (resetVal a) s.regs.active a v } }

/-- Writes a word that exists once. -/
def State.setLiv (s : State) (a : Nat) (v : Word) : State :=
  { s with regs := { s.regs with live := Tab.set (resetVal a) s.regs.live a v } }

/-- A field of an Active Set word. -/
def State.actF (s : State) (a : Nat) (f : Fld) : Nat := fget (s.act a) f

/-- A field of a live word. -/
def State.livF (s : State) (a : Nat) (f : Fld) : Nat := fget (s.liv a) f

/-- Is a one-bit field of a live word set? -/
def State.livB (s : State) (a : Nat) (f : Fld) : Bool := s.livF a f == 1

/-- Is a one-bit field of an Active Set word set? -/
def State.actB (s : State) (a : Nat) (f : Fld) : Bool := s.actF a f == 1

/-- Writes a field of a live word. -/
def State.setLivF (s : State) (a : Nat) (f : Fld) (x : Nat) : State := s.setLiv a (fset (s.liv a) f x)

/-- Writes a live word from a number, modulo 2^32. -/
def State.setLivN (s : State) (a : Nat) (x : Nat) : State := s.setLiv a (BitVec.ofNat 32 x)

/-- Adds to a 32-bit counter, which wraps (R9, R11). -/
def State.bump (s : State) (a : Nat) (k : Nat := 1) : State := s.setLivN a ((s.liv a).toNat + k)

/-- Adds to a counter held in a field, which wraps in its own width (R11). -/
def State.bumpF (s : State) (a : Nat) (f : Fld) (k : Nat := 1) : State :=
  s.setLivF a f (s.livF a f + k)

/-- A 64-bit quantity held in two live words (R589). -/
def State.liv64 (s : State) (a : Nat) : Nat := join64 (s.liv a) (s.liv (a + 4))

/-- A 64-bit quantity held in two Active Set words (R589). -/
def State.act64 (s : State) (a : Nat) : Nat := join64 (s.act a) (s.act (a + 4))

/-- Writes a 64-bit quantity into two live words (R589). -/
def State.setLiv64 (s : State) (a : Nat) (x : Nat) : State := (s.setLiv a (lo32 x)).setLiv (a + 4) (hi32 x)

/-- Adds to a 64-bit counter held in two live words. -/
def State.bump64 (s : State) (a : Nat) (k : Nat) : State := s.setLiv64 a ((s.liv64 a + k) % 2 ^ 64)

/-- Does the word at `a` hold TW fields, and so exist in both sets (R69, R596)? -/
def isShadowed (a : Nat) : Bool :=
  match regRow a with
  | none => false
  | some r => decide (r.tw ≠ 0)

/-- A journal laid over a set: the value a word will have once the journal is committed (R45). -/
def overlay (base : Nat → Word) (j : List (Nat × Word)) (a : Nat) : Word :=
  match j.find? (fun e => e.1 == a) with
  | none => base a
  | some e => e.2

/-! ## Sending -/

/-- Sends something out. -/
def State.emit (s : State) (o : Out) : State := { s with out := s.out ++ [o] }

/-! ## Latches (R592) -/

/-- Sets the latch of a high word for a path. -/
def State.latch (s : State) (p : Path) (a : Nat) (w : Word) : State :=
  { s with latches := s.latches.filter (fun e => !(e.1 == p && e.2.1 == a)) ++ [(p, a, w)] }

/-- Clears the latch of a high word for a path. -/
def State.unlatch (s : State) (p : Path) (a : Nat) : State :=
  { s with latches := s.latches.filter (fun e => !(e.1 == p && e.2.1 == a)) }

/-- The latched value of a high word for a path. -/
def State.latched (s : State) (p : Path) (a : Nat) : Option Word :=
  (s.latches.find? (fun e => e.1 == p && e.2.1 == a)).map (fun e => e.2.2)

/-! ## Mailboxes -/

/-- Mailbox `m`. -/
def State.mb (s : State) (m : Nat) : Mbox := Tab.get {} s.mbox m

/-- Writes mailbox `m`. -/
def State.setMb (s : State) (m : Nat) (b : Mbox) : State := { s with mbox := Tab.set {} s.mbox m b }

/-- Whole packets held in a FIFO: end marks, and packets closed at 2,050 words (R29, R34); each stored word
carries its end mark (R309). -/
def pktCount (q : List MWord) : Nat := (q.filter (fun w => w.last || w.forced)).length

/-- MBOX[n].IN_CNT or OUT_CNT (R29). -/
def cntWord (q : List MWord) : Word := BitVec.ofNat 32 (q.length % 2 ^ 14 + pktCount q % 2 ^ 13 * 2 ^ 16)

/-! ## The Director's record -/

/-- Replaces the executing take. -/
def State.setTake (s : State) (t : Option Take) : State := { s with dir := { s.dir with take := t } }

/-- Replaces the long operation in progress. -/
def State.setLong (s : State) (l : Option LongOp) : State := { s with dir := { s.dir with longop := l } }

/-! ## Free values -/

/-- Draws the number of the next free value (log entry 7). -/
def State.draw (s : State) : State := { s with fresh := s.fresh + 1 }

/-- A value for a field of `w` bits: itself where it fits, else a free one (log entry 7). -/
def State.fit (s : State) (w x : Nat) : Nat × State :=
  if x < 2 ^ w then (x, s) else (Config.free s.fresh % 2 ^ w, s.draw)

/-- The fabric time of the pending CUTAT (GLB_CUTTIME). -/
def cutTime (s : State) : Nat := s.liv64 Reg.GLB_CUTTIME_LO

end Sys2Proof.Machine
end

