-- ==== Sys2Proof/Machine/Topo.lean ====
section
/-! DEFINITION. Which ports a set forms, which partitions they enable, and whether a host can be
reached (R188 to R191, R315, R616). Every function takes the set as a reading of its words. -/

namespace Sys2Proof.Machine

/-- A set of shadowed words, read by address. -/
abbrev View := Nat → Word

/-- The ports of a layout: first lane and lane count of ports 0 to 3 (R188). WIDTH 5 to 7 has no
layout. -/
def layout : Nat → List (Nat × Nat)
  | 0 => [(0, 8)]
  | 1 => [(0, 4), (4, 4)]
  | 2 => [(0, 4), (4, 2), (6, 2)]
  | 3 => [(0, 2), (2, 2), (4, 4)]
  | 4 => [(0, 2), (2, 2), (4, 2), (6, 2)]
  | _ => []

/-- The kinds of a station (LINK_CTL.KIND; 3 acts as 0). -/
inductive StnKind where
  | unused | pcie | fabric
  deriving DecidableEq, Repr

/-- The kind of station `n` in a set (R14). -/
def stnKind (v : View) (n : Nat) : StnKind :=
  match fget (v (Reg.LINK_CTL n)) Fld.LINK_CTL_KIND with
  | 1 => .pcie
  | 2 => .fabric
  | _ => .unused

/-- The layout code of station `n`. -/
def stnWidth (v : View) (n : Nat) : Nat := fget (v (Reg.LINK_CTL n)) Fld.LINK_CTL_WIDTH

/-- Is port `p` of station `n` named by the layout and enabled (R188)? -/
def portEnabled (v : View) (n p : Nat) : Bool :=
  decide (stnKind v n ≠ .unused) && bit (fget (v (Reg.LINK_CTL n)) Fld.LINK_CTL_EN) p &&
  decide (p < (layout (stnWidth v n)).length)

/-- Is every port of station `n` disabled (R75, R133)? -/
def stnDisabled (v : View) (n : Nat) : Bool := (List.range 4).all (fun p => !portEnabled v n p)

/-- Is station `n` a member of a x16 pair (R189)? -/
def isPair (v : View) (n : Nat) : Bool :=
  decide (stnKind v n = .pcie) && fget (v (Reg.LINK_CTL n)) Fld.LINK_CTL_PAIR == 1

/-- Is station `n` the upper member of a x16 pair, whose port registers are ignored (R189)? -/
def isPairOdd (v : View) (n : Nat) : Bool := isPair v n && n % 2 == 1

/-- The station whose registers serve station `n`: 2k for a x16 pair, else `n` itself (R189). -/
def homeStn (v : View) (n : Nat) : Nat := if isPair v n then n - n % 2 else n

/-- Is `p` an enabled PCI Express port of station `n`, counted once for a x16 pair? -/
def pciePort (v : View) (n p : Nat) : Bool :=
  decide (stnKind v n = .pcie) && portEnabled v n p && !isPairOdd v n

/-- Is `f` an enabled fabric port of station `n`? -/
def fabPort (v : View) (n f : Nat) : Bool := decide (stnKind v n = .fabric) && portEnabled v n f

/-- PORT_CFG.ROLE = upstream. -/
def isUpstream (v : View) (n p : Nat) : Bool := fget (v (Reg.PORT_CFG n p)) Fld.PORT_CFG_ROLE == 1

/-- PORT_CFG.PART. -/
def portPart (v : View) (n p : Nat) : Nat := fget (v (Reg.PORT_CFG n p)) Fld.PORT_CFG_PART

/-- The physical lanes of a PCI Express port, by station and lane, in order; those of both stations for a pair (R103,
R188, R189). -/
def pcieLanes (v : View) (n p : Nat) : List (Nat × Nat) :=
  if isPair v n then (List.range 16).map (fun i => (n - n % 2 + i / 8, i % 8))
  else
    let e := nth (0, 0) (layout (stnWidth v n)) p
    (List.range e.2).map (fun i => (n, e.1 + i))

/-- The configured lane count of a port; 16 for a pair. -/
def portLanes (v : View) (n p : Nat) : Nat :=
  if isPair v n then 16 else (nth (0, 0) (layout (stnWidth v n)) p).2

/-- The code of a lane count (LINK_CMD.TWIDTH, PORT_STAT.LWIDTH). -/
def widthCode (lanes : Nat) : Nat :=
  if lanes ≤ 1 then 0 else if lanes ≤ 2 then 1 else if lanes ≤ 4 then 2 else if lanes ≤ 8 then 3 else 4

/-- Every logical port as station and port, in ascending order of station and then port. -/
def allPorts : List (Nat × Nat) := (List.range 24).flatMap (fun n => (List.range 4).map (fun p => (n, p)))

/-- The enabled PCI Express ports of a set, in ascending order. -/
def pciePorts (v : View) : List (Nat × Nat) :=
  ((List.range 24).filter (fun n => decide (stnKind v n = .pcie) && !isPairOdd v n)).flatMap
    (fun n => ((List.range 4).filter (fun p => portEnabled v n p)).map (fun p => (n, p)))

/-- The upstream port of partition `q` in a set (R315). -/
def upstreamOf (v : View) (q : Nat) : Option (Nat × Nat) :=
  (pciePorts v).find? (fun e => isUpstream v e.1 e.2 && portPart v e.1 e.2 == q)

/-- Is partition `q` enabled (R315)? -/
def partEnabled (v : View) (q : Nat) : Bool := (upstreamOf v q).isSome

/-- The partitions that a set enables. -/
def enabledParts (v : View) : List Nat :=
  ((pciePorts v).filter (fun e => isUpstream v e.1 e.2)).map (fun e => portPart v e.1 e.2)

/-- Is logical port `x` exported by an enabled entry (R334)? -/
def isExported (v : View) (x : Nat) : Bool := bit (v (Reg.GLB_EXP x 0)).toNat 25

/-- Is the Data Link Layer of a PCI Express port active (PORT_STAT.DLUP)? -/
def State.dlUp (s : State) (n p : Nat) : Bool := s.livB (Reg.PORT_STAT n p) Fld.PORT_STAT_DLUP

/-- Can a host request of partition `q` leave its host port: the port enabled, its Data Link Layer
active, the partition not in reset (R616)? -/
def State.hostUp (s : State) (q : Nat) : Bool :=
  match upstreamOf s.act q with
  | none => false
  | some (n, p) => s.dlUp n p && !s.parts.inReset.contains q

/-- The operating mode in the Active Set (R143). -/
def State.mode (s : State) : Nat := s.actF Reg.GLB_MODE Fld.GLB_MODE_MODE

/-- Is admission withheld (R145, R147)? -/
def State.holds (s : State) : Bool := s.livB Reg.GLB_DRAINCTL Fld.GLB_DRAINCTL_HOLD || s.mode == 5

/-- Is the word at `a` one of station `n`'s registers? -/
def inStn (n a : Nat) : Bool := decide (0x100000 + 0x10000 * n ≤ a) && decide (a < 0x110000 + 0x10000 * n)

/-- Does station `n` withhold admission (R145, R147), or admit nothing for an uncorrectable Active Set word of
its own or of a block that is no station's (R564)? -/
def State.holdsAt (s : State) (n : Nat) : Bool :=
  s.holds || s.regs.badA.any (fun a => inStn n a || !(List.range 24).any (fun m => inStn m a))

/-- The partition of the fabric manager. -/
def State.fmPart (s : State) : Nat := s.actF Reg.GLB_FMPART Fld.GLB_FMPART_PART

/-- This node's identifier. -/
def State.node (s : State) : Nat := (s.act Reg.GLB_NODE).toNat % 2 ^ 12

/-- The record of station `n` in the declaration. -/
def State.stnRec (s : State) (n : Nat) : StnRec := nth {} s.env.stations n

end Sys2Proof.Machine
end

