-- ==== Sys2Proof/Machine/Intx.lean ====
section
/-! DEFINITION. Configuration space of the partitions' functions, and the emulated interrupt wires
(R191, R195, R197, R433). -/

namespace Sys2Proof.Machine

/-- The number of a configuration register in the table of `Parts.cfg`. -/
def cfgCode : CfgReg → Nat
  | .command => 0 | .busNumbers => 1 | .memWindow => 2 | .prefWindow => 3 | .prefBaseHi => 4
  | .prefLimitHi => 5 | .bar i => 6 + i.val | .bridgeCtl => 8 | .devCtl => 9 | .linkCtl => 10
  | .slotCtl => 11 | .slotCap => 12 | .pmcsr => 13 | .aspmSub => 14 | .flitL0p => 15 | .acs => 16
  | .dpcCtl => 17 | .dpcStat => 18 | .secPcie => 19 | .aerStat => 20 | .other => 21 | .vfBar _ _ _ => 22
  | .acsVector => 23 | .pcieCap => 24 | .devCap => 25 | .linkCap => 26 | .devCap2 => 27 | .linkCap2 => 28
  | .pmCap => 29 | .l1ssCap => 30 | .devCap3 => 31 | .aerMask => 32 | .aerSev => 33 | .aerCor => 34
  | .aerCorMask => 35 | .ssid => 36 | .serial i => 37 + i.val

/-- The key of a configuration register: partition, function (0 upstream port, 1 management function,
2 + i downstream device i), register, and dword offset for `other`. -/
def cfgKey (q fn : Nat) (r : CfgReg) (off : Nat := 0) : Nat :=
  ((q * 64 + fn) * 64 + cfgCode r) * 1024 + (match r with | .other => off % 1024 | _ => 0)

/-- The reset value of a configuration register (log entry 8): Power Controller Control of a slot reads
1, off; Device Control permits payloads of 128 B and reads of 512 B; the AER masks and severities are the family's; every
other register is zero. -/
def cfgReset : CfgReg → Word
  | .slotCtl => 0x400
  | .devCtl => 0x2810
  | .aerMask => 0x00400000
  | .aerSev => 0x00462030
  | .aerCorMask => 0x0000E000
  | _ => 0

/-- A configuration register. -/
def State.cfgR (s : State) (q fn : Nat) (r : CfgReg) (off : Nat := 0) : Word :=
  (Tab.find s.parts.cfg (cfgKey q fn r off)).getD (cfgReset r)

/-- Writes a configuration register. -/
def State.setCfg (s : State) (q fn : Nat) (r : CfgReg) (v : Word) (off : Nat := 0) : State :=
  { s with parts := { s.parts with cfg := Tab.set (cfgReset r) s.parts.cfg (cfgKey q fn r off) v } }

/-- The functions of partition `q` take their reset values (R195, R203). -/
def State.resetCfg (s : State) (q : Nat) : State :=
  { s with parts := { s.parts with
      cfg := Tab.keep (fun k => k / (1024 * 64 * 64) != q) s.parts.cfg
      devInt := s.parts.devInt.filter (fun e => e.1 != q) } }

/-- GLB_MINT_STAT[p] (R197, R433). -/
def mintStat (s : State) (q : Nat) : Nat :=
  b2n (pktCount (s.mb q).outq != 0) +
  2 * b2n (bit (s.liv (Reg.GLB_EVR q 0)).toNat 0 &&
    decide ((s.liv (Reg.GLB_EVR q 2)).toNat % 2 ^ 16 ≠ (s.liv (Reg.GLB_EVR q 3)).toNat % 2 ^ 16)) +
  4 * b2n (q == s.fmPart && pktCount (s.mb 48).outq != 0)

/-- Is the wire of partition `q`'s management function high but for Interrupt Disable (R197)? -/
def mgmtWire (s : State) (q : Nat) : Bool :=
  decide (Nat.land (mintStat s q) (s.liv (Reg.GLB_MINT_EN q)).toNat ≠ 0)

/-- The collapsed INTA to INTD wires of partition `q`, as a mask: the management function on INTA, and
each bridge's wires under the swizzle of its device number (R197). -/
def wires (s : State) (q : Nat) : Nat :=
  let mgmt := mgmtWire s q && !bit (s.cfgR q 1 .command).toNat 10
  (List.range 4).foldl (fun m i =>
    m + 2 ^ i * b2n ((i == 0 && mgmt) ||
      s.parts.devInt.any (fun e => e.1 == q && (e.2.1 + e.2.2) % 4 == i))) 0

/-- Sends the messages that bring a port from the asserted mask `old` to `new` (R197). -/
def sendWires (x old new : Nat) (s : State) : State :=
  forUpto 4 (fun i s =>
    if bit old i = bit new i then s else s.emit (.intx x i (bit new i))) s

/-- Brings the INTx messages of partition `q` up to date (R197): while enabled with an active Data Link
Layer the port follows the wires; a port that no longer carries `q` deasserts what it had asserted if it
is still enabled and active. -/
def syncIntx (q : Nat) (s : State) : State :=
  let (x, old) := Tab.get (0, 0) s.parts.intx q
  let put (e : Nat × Nat) (s : State) : State :=
    { s with parts := { s.parts with intx := Tab.set (0, 0) s.parts.intx q e } }
  let stop (s : State) : State :=
    put (0, 0) (if pciePort s.act (x / 4) (x % 4) && s.dlUp (x / 4) (x % 4) then sendWires x old 0 s else s)
  match upstreamOf s.act q with
  | none => if old = 0 then s else stop s
  | some (n, p) =>
    let s := if old ≠ 0 ∧ x ≠ 4 * n + p then stop s else s
    let old := if x = 4 * n + p then old else 0
    if s.dlUp n p then
      let new := wires s q
      if old = new then s else put (4 * n + p, new) (sendWires (4 * n + p) old new s)
    else if old = 0 then s else put (0, 0) s

/-- Brings the INTx messages of every partition that is enabled or had a wire asserted up to date. -/
def State.intx (s : State) : State :=
  (enabledParts s.act ++ s.parts.intx.map (fun e => e.1)).foldl (fun s q => syncIntx q s) s

end Sys2Proof.Machine
end

