-- ==== Sys2Proof/Machine/Perf.lean ====
section
/-! DEFINITION. The counting of occurrences by the programmable performance counters (R577 to R583). -/

namespace Sys2Proof.Machine

/-- The attributes of an occurrence (R581); none for one it lacks. -/
structure Occ where
  master : Option Nat := none
  cls : Option Nat := none
  addr : Option Nat := none
  deriving DecidableEq, Repr

/-- Programmable counters of unit `u` (R577). -/
def perfCounters (u : Nat) : Nat := if u < 24 ∨ u = 73 then 8 else 4

/-- Does an address lie in PC_ARNG[u][r]? -/
def inArng (s : State) (u r a : Nat) : Bool :=
  let b := join64 (s.liv (Reg.PC_ARNG u r 0) &&& 0xFFFFF000) (s.liv (Reg.PC_ARNG u r 1))
  let e := join64 (s.liv (Reg.PC_ARNG u r 2) ||| 0xFFF) (s.liv (Reg.PC_ARNG u r 3))
  decide (b ≤ a) && decide (a ≤ e)

/-- Does the argument of a selection name port, channel or line `arg` (R583)? An occurrence without a port is
counted only by a counter that takes all ports. -/
def argHit (u sel : Nat) (arg : Option Nat) : Bool :=
  if u < 24 then bit sel 10 || arg == some (bits sel 8 2)
  else if u = 72 then bit sel 14 || arg == some (bits sel 8 6)
  else match arg with
    | none => true
    | some a => bits sel 8 8 == a

/-- Does an occurrence match every filter that a selection enables (R580)? -/
def occHit (s : State) (u sel : Nat) (o : Occ) : Bool :=
  (match bits sel 16 2 with
    | 1 => o.master.elim false (fun m => decide (m < 48))
    | 2 => o.master.elim false (fun m => decide (48 ≤ m) && decide (m ≤ 55))
    | _ => true) &&
  (!bit sel 18 || o.master == some (bits sel 19 6)) &&
  (!bit sel 25 || o.cls == some (bits sel 26 4)) &&
  (match bits sel 30 2 with
    | 0 => true
    | 1 => o.addr.elim false (inArng s u 0)
    | 2 => o.addr.elim false (inArng s u 1)
    | _ => o.addr.elim false (fun a => !inArng s u 0 a))

/-- Counter `c` of unit `u` adds `k` (R578, R579), at once (R585). -/
def perfAdd (u c k : Nat) (s : State) : State :=
  let v := s.liv64 (Reg.PC_VAL_LO u c) + k
  let s := s.setLiv64 (Reg.PC_VAL_LO u c) (v % 2 ^ 48)
  if 2 ^ 48 ≤ v then s.setLivN (Reg.PC_OVF u) (setBits (s.liv (Reg.PC_OVF u)).toNat (1 + c) 1 1) else s

/-- The amount by which counter `c` of unit `u` counts occurrences of event `code`: the largest among those that it
matches. Each occurrence is given with its amount. -/
def perfAmount (s : State) (u c code : Nat) (occs : List (Option Nat × Occ × Nat)) : Nat :=
  let sel := (s.liv (Reg.PC_SEL u c)).toNat
  if bit (s.liv (Reg.PC_CTL u)).toNat (1 + c) && sel % 2 ^ 8 == code then
    occs.foldl (fun m e => if argHit u sel e.1 && occHit s u sel e.2.1 then max m e.2.2 else m) 0
  else 0

/-- Event `code` of unit `u` occurs in some of several ways at once; a counter adds once, whichever it matches. -/
def perfAny (u code : Nat) (occs : List (Option Nat × Occ × Nat)) (s : State) : State :=
  if (s.liv (Reg.PC_CTL u)).toNat / 2 % 2 ^ 8 = 0 then s
  else (List.range (perfCounters u)).foldl (fun s c =>
    let k := perfAmount s u c code occs
    if k = 0 then s else perfAdd u c k s) s

/-- Event `code` of unit `u` occurs and adds `k` (R578); `arg` is its port, channel or line. -/
def perf (u code : Nat) (arg : Option Nat) (k : Nat) (o : Occ) (s : State) : State := perfAny u code [(arg, o, k)] s

/-- The Drift store moves `k` bytes, for queue spills and refills or for another client (R303, R313, R583). -/
def driftMove (queues : Bool) (k : Nat) (s : State) : State :=
  let d := s.drift
  perf 73 8 none k {} { s with
    drift := if queues then { d with queues := d.queues + k } else { d with others := d.others + k } }

/-! ## Attributes of carried units (R518, R581) -/

/-- The partition of the message that an FME packet of this node's FME `e` carries. -/
def fmePart (s : State) (h : FmeHdr) : Option Nat :=
  if h.pt = 1 ∨ h.pt = 2 ∨ h.pt = 4 then
    ((Tab.get {} s.eng.fme h.sfme).msgs.find? (fun m => m.mid == h.mid)).map (fun m => m.part)
  else none

/-- The partition to which a unit's cells are charged; none is the managers' account (R518). -/
def unitPart (s : State) (u : CUnit) : Option Nat :=
  match u.body with
  | .tlp q _ _ => some q
  | .short _ => none
  | .pkt p _ =>
    match u.origin, p.body with
    | .fabric .., _ => none
    | _, .tlp d _ => some d.part
    | _, .tlpRest d _ => some d.part
    | _, .fme h _ => fmePart s h
    | _, .mgmt .. => none

/-- The TLP that a unit carries. -/
def CUnit.tlp? (u : CUnit) : Option Tlp :=
  match u.body with
  | .tlp _ _ t => some t
  | .pkt p _ => match p.body with
    | .tlp _ t => some t
    | _ => none
  | .short _ => none

/-- The address of a TLP memory request. -/
def memAddr (t : Tlp) : Option Nat :=
  match t.kind with
  | .memRd | .memRdLock | .memWr | .atomic => some t.addr
  | _ => none

/-- The attributes of a unit. -/
def unitOcc (s : State) (u : CUnit) : Occ :=
  { master := some ((unitPart s u).getD 48), cls := some u.queue, addr := u.tlp?.bind memAddr }

/-- Bytes of a unit: the TLP, or 32 × len + 20 for each packet (R583). -/
def unitBytes (u : CUnit) : Nat :=
  match u.body with
  | .tlp _ _ t => t.length
  | .pkt p r => 32 * p.len + 20 + r.elim 0 (fun r => 32 * r.len + 20)
  | .short l => 16 * l.length

/-- The port of its station by which a unit entered. -/
def Origin.port? : Origin → Option Nat
  | .pcie x => some (x % 4)
  | .fabric f _ _ => some f
  | .internal => none

end Sys2Proof.Machine
end

