-- ==== Sys2Proof/Machine/Events.lean ====
section
/-! DEFINITION. Events: raising a source, attribution, the event rings (R430 to R433, R562 to R575). -/

namespace Sys2Proof.Machine

/-- The class of a source (R562, R571, with the lists of R183, R256, R288, R359, R407, R472, R487, R531): NOTE 0, MASKED 1, DEGRADED 2, ERROR 3, FATAL 4. `fabric` tells
the kind of a station source's station. The class of DEV_ERR is the highest among the causes pending. -/
def eventClass (errStat : Nat) (fabric : Bool) (g : Nat) : Nat :=
  if g < 384 then
    match g % 16 with
    | 0 => 1 | 1 => 1 | 2 => 2 | 3 => 0 | 4 => 0 | 5 => 2 | 6 => 3 | 7 => 3 | 8 => 1 | 9 => 3 | 10 => 2
    | 11 => 1 | 12 => 3 | 13 => 3 | 14 => if fabric then 3 else 0 | _ => if fabric then 2 else 3
  else if g < 480 then 3
  else match g - 480 with
    | 0 => 1 | 1 => 0 | 2 => 3 | 3 => 0 | 4 => 3 | 5 => 2 | 6 => 0 | 7 => 2 | 8 => 0 | 9 => 2 | 10 => 4
    | 11 => 0 | 12 => 3 | 13 => 2 | 14 => 3 | 15 => 3 | 16 => 3 | 17 => 0 | 18 => 3 | 19 => 3 | 20 => 3
    | 21 => 0 | 22 => 3 | 23 => 3 | 24 => 2 | 25 => 3 | 26 => 0 | 27 => 0 | 28 => 2 | 29 => 3 | 30 => 0
    | _ =>
      if bit errStat 2 || bit errStat 5 then 4
      else if bit errStat 4 || bit errStat 6 || bit errStat 7 then 3
      else if bit errStat 0 || bit errStat 1 || bit errStat 3 || bit errStat 9 then 2
      else 0

/-- The present class of a source. -/
def State.classOf (s : State) (g : Nat) : Nat :=
  eventClass (s.liv Reg.GLB_ERR_STAT).toNat (decide (stnKind s.act (g / 16) = .fabric)) g

/-- LOG of an event ring; values outside 6 to 16 act as 6 (R434). -/
def evrLog (w0 : Nat) : Nat :=
  let l := bits w0 1 5
  if 6 ≤ l ∧ l ≤ 16 then l else 6

/-- Puts one entry at PI of the ring of partition `q` and advances PI (R431). -/
def ringPut (q type : Nat) (info : Nat) (d2 d3 : Nat) (s : State) : State :=
  let w0 := (s.liv (Reg.GLB_EVR q 0)).toNat
  let log := evrLog w0
  let pi := (s.liv (Reg.GLB_EVR q 2)).toNat % 2 ^ 16
  let base := join64 (s.liv (Reg.GLB_EVR q 0) &&& 0xFFFFF000) (s.liv (Reg.GLB_EVR q 1))
  let head := type + 256 * b2n (!bit pi log) + info * 2 ^ 16
  let s := s.emit (.hostWrite q (base + pi % 2 ^ log * 32)
    [BitVec.ofNat 64 head, BitVec.ofNat 64 s.ft, BitVec.ofNat 64 d2, BitVec.ofNat 64 d3])
  s.setLivN (Reg.GLB_EVR q 2) ((pi + 1) % 2 ^ 16)

/-- Loses `k` entries of the ring of partition `q`: LOST counts them, and the next OVERFLOW entry will
(R432). -/
def ringLose (q k : Nat) (s : State) : State :=
  let w := s.liv (Reg.GLB_EVR q 3)
  let s := s.setLivN (Reg.GLB_EVR q 3) (setBits w.toNat 16 16 (bits w.toNat 16 16 + k))
  { s with evt := { s.evt with lost := Tab.set 0 s.evt.lost q (Tab.get 0 s.evt.lost q + k) } }

/-- Writes an entry to the event ring of partition `q`, preceded by an OVERFLOW entry after a loss, or
loses it (R432). -/
def ringWrite (q type : Nat) (info : Nat) (d2 d3 : Nat) (s : State) : State :=
  let w0 := (s.liv (Reg.GLB_EVR q 0)).toNat
  let pi := (s.liv (Reg.GLB_EVR q 2)).toNat % 2 ^ 16
  let ci := (s.liv (Reg.GLB_EVR q 3)).toNat % 2 ^ 16
  let used := (pi + 2 ^ 16 - ci) % 2 ^ 16
  let size := 2 ^ evrLog w0
  let lost := Tab.get 0 s.evt.lost q
  if !bit w0 0 || !s.hostUp q then ringLose q 1 s
  else if lost = 0 then
    if used = size then ringLose q 1 s else ringPut q type info d2 d3 s
  else if size < used + 2 then ringLose q 1 s
  else
    let s := ringPut q 6 (lost % 2 ^ 32) 0 0 s
    let s := { s with evt := { s.evt with lost := Tab.set 0 s.evt.lost q 0 } }
    ringPut q type info d2 d3 s

/-- A ring entry of TYPE PORT for source `g`, at most one in 10 µs for each source and ring (R573,
R574). -/
def eventEntry (q g stn port : Nat) (s : State) : State :=
  let k := 64 * g + q
  match Tab.find s.evt.written k with
  | some t =>
    if s.now < t + 10000 then s.bump Reg.GLB_EVT_COAL
    else go k s
  | none => go k s
where
  /-- The entry is written, and the instant noted. -/
  go (k : Nat) (s : State) : State :=
    let s := { s with evt := { s.evt with written := Tab.put s.evt.written k s.now } }
    ringWrite q 1 (g + stn * 2 ^ 9 + port * 2 ^ 14) 0 0 s

/-- Raises source `g`, attributed to partition `q?`, for a station source with its station and port
(R573). The INFO field's bits [24:16] hold the event number, [29:25] the station, [31:30] the port. -/
def State.raise (s : State) (g : Nat) (q? : Option Nat := none) (stn port : Nat := 0) : State :=
  let a := Reg.GLB_EVT_PEND (g / 32)
  let s := s.setLiv a (s.liv a ||| BitVec.ofNat 32 (2 ^ (g % 32)))
  let s := perf 73 0x0A none 1 {} (s.bump Reg.GLB_EVT_CNT)
  let s := s.setLivN Reg.GLB_EVT_LAST (g + s.classOf g * 2 ^ 9)
  let s := match q? with
    | none => s
    | some q => eventEntry q g stn port s
  let fm := s.fmPart
  let s := if bit (s.act (Reg.GLB_EVT_MGR (g / 32))).toNat (g % 32) && q? != some fm && decide (fm < 48)
    then eventEntry fm g stn port s else s
  s.intx

/-- Raises a source that its owning chapter raises at most once in any 10 µs (R400, R452, R466, R541); `k` names what the limit
holds for, where that is not the source as a whole. -/
def State.raiseLimited (s : State) (g : Nat) (q? : Option Nat := none) (k : Nat := g) : State :=
  if (Tab.find s.evt.raised k).any (fun t => decide (s.now < t + 10000)) then s
  else State.raise { s with evt := { s.evt with raised := Tab.put s.evt.raised k s.now } } g q?

/-- The partition to which a source of station `n` that concerns port `p` is attributed (R572). -/
def stnAttr (s : State) (n p : Nat) : Option Nat :=
  if stnKind s.act n = .pcie then
    let h := homeStn s.act n
    let p := if isPair s.act n then 0 else p
    if isExported s.act (4 * h + p) then none else some (portPart s.act h p)
  else none

/-- Raises source `i` of station `n` for port `p`. A station of no kind raises nothing at 9 to 15
(R571). -/
def State.raiseStn (s : State) (n i p : Nat) : State :=
  if stnKind s.act n = .unused ∧ 9 ≤ i then s
  else s.raise (16 * n + i) (stnAttr s n p) n p

/-- Raises source `i` of station `n` that concerns the station as a whole: attributed to no partition
(R572). -/
def State.raiseStnWhole (s : State) (n i : Nat) : State :=
  if stnKind s.act n = .unused ∧ 9 ≤ i then s
  else s.raise (16 * n + i) none n 0

/-- The global sources (R571). -/
def gEvt (k : Nat) : Nat := 480 + k

/-- Sets a cause of GLB_ERR_STAT and raises DEV_ERR (R564, R571). -/
def State.devErr (s : State) (cause : Fld) : State :=
  (s.setLivF Reg.GLB_ERR_STAT cause 1).raise (gEvt 31)

end Sys2Proof.Machine
end

