-- ==== Sys2Proof/Machine/PathAcc.lean ====
section
/-! DEFINITION. Accessors of the data path. -/

namespace Sys2Proof.Machine

/-- Changes the data path. -/
def State.onDp (s : State) (f : DataPath → DataPath) : State := { s with dp := f s.dp }

/-- Changes the Forecaster. -/
def State.onFcst (s : State) (f : Fcst → Fcst) : State := { s with pow := { s.pow with fcst := f s.pow.fcst } }

/-- Changes the fabric's record. -/
def State.onFab (s : State) (f : Fabric → Fabric) : State := s.onDp (fun d => { d with fab := f d.fab })

/-- Lane `l` of station `n`. -/
def State.lane (s : State) (n l : Nat) : Lane := Tab.get {} s.dp.lanes (9 * n + l)
/-- Writes a lane. -/
def State.setLane (s : State) (n l : Nat) (x : Lane) : State :=
  s.onDp (fun d => { d with lanes := Tab.set {} d.lanes (9 * n + l) x })

/-- The spare of station `n`. -/
def State.spare (s : State) (n : Nat) : Spare := Tab.get {} s.dp.spares n
/-- Writes a spare. -/
def State.setSpare (s : State) (n : Nat) (x : Spare) : State :=
  s.onDp (fun d => { d with spares := Tab.set {} d.spares n x })

/-- The bring-up of fabric port `f`. -/
def State.bring (s : State) (n f : Nat) : Bringup := Tab.get {} s.dp.bring (4 * n + f)
/-- Writes a bring-up. -/
def State.setBring (s : State) (n f : Nat) (x : Bringup) : State :=
  s.onDp (fun d => { d with bring := Tab.set {} d.bring (4 * n + f) x })

/-- Fabric link `f` of station `n`. -/
def State.lnk (s : State) (n f : Nat) : Link := Tab.get {} s.dp.links (2 * n + f)
/-- Writes a link. -/
def State.setLnk (s : State) (n f : Nat) (x : Link) : State :=
  s.onDp (fun d => { d with links := Tab.set {} d.links (2 * n + f) x })
/-- Changes a link. -/
def State.onLnk (s : State) (n f : Nat) (g : Link → Link) : State := s.setLnk n f (g (s.lnk n f))

/-- FL_STAT.STATE: 0 DOWN, 1 TRAIN, 2 CHECK, 3 UP, 4 REQ, 5 PAUSE (R242). -/
def State.flState (s : State) (n f : Nat) : Nat := s.livF (Reg.FL_STAT n f) Fld.FL_STAT_STATE

/-- The ingress of station `n`. -/
def State.ing (s : State) (n : Nat) : Ingress := Tab.get {} s.dp.ing n
/-- Writes an ingress. -/
def State.setIng (s : State) (n : Nat) (x : Ingress) : State :=
  s.onDp (fun d => { d with ing := Tab.set {} d.ing n x })
/-- Changes an ingress. -/
def State.onIng (s : State) (n : Nat) (g : Ingress → Ingress) : State := s.setIng n (g (s.ing n))

/-- Egress port `x` (4 × station + port). -/
def State.eport (s : State) (x : Nat) : EPort := Tab.get {} s.dp.eport x
/-- Writes an egress port. -/
def State.setEport (s : State) (x : Nat) (e : EPort) : State :=
  s.onDp (fun d => { d with eport := Tab.set {} d.eport x e })
/-- Changes an egress port. -/
def State.onEport (s : State) (x : Nat) (g : EPort → EPort) : State := s.setEport x (g (s.eport x))

/-- PCI Express port `x`. -/
def State.pp (s : State) (x : Nat) : PPort := Tab.get {} s.dp.pports x
/-- Changes a PCI Express port. -/
def State.onPp (s : State) (x : Nat) (g : PPort → PPort) : State :=
  s.onDp (fun d => { d with pports := Tab.set {} d.pports x (g (Tab.get {} d.pports x)) })

/-- A carried unit. -/
def State.unit (s : State) (u : Nat) : Option CUnit := Tab.find s.dp.units u
/-- Writes a carried unit. -/
def State.setUnit (s : State) (u : Nat) (x : CUnit) : State :=
  s.onDp (fun d => { d with units := Tab.put d.units u x })
/-- Takes a carried unit away. -/
def State.delUnit (s : State) (u : Nat) : State := s.onDp (fun d => { d with units := Tab.del d.units u })

/-- The words of a table in a set that are listed (not at their reset value), as index and value: the
table begins at `base`, its entries are `stride` bytes apart, `count` of them. -/
def listed (t : Tab Word) (base stride count : Nat) : List (Nat × Word) :=
  t.filterMap (fun e =>
    if base ≤ e.1 ∧ e.1 < base + stride * count ∧ (e.1 - base) % stride = 0
    then some ((e.1 - base) / stride, e.2) else none)

/-- A set as a reading of its words. -/
def viewOf (t : Tab Word) : View := fun a => (Tab.find t a).getD (resetVal a)

/-- A binding GLB_VFB[b] (R321, R357). -/
structure Binding where
  idx : Nat
  port : Nat
  part : Nat
  fn : Nat
  vfid : Nat
  pxid : Nat
  deriving DecidableEq, Repr

/-- The enabled bindings of a set. -/
def bindings (t : Tab Word) : List Binding :=
  (listed t (Reg.GLB_VFB 0 0) 0x20 4096).filterMap (fun e =>
    let w := e.2.toNat
    let w1 := (viewOf t (Reg.GLB_VFB e.1 1)).toNat
    if bit w 0 then some ⟨e.1, bits w 1 7, bits w 8 6, bits w 14 8, bits w1 0 16, bits w1 16 16⟩ else none)

/-- The enabled imports of a set: index, PART, NODE, DPORT, DOMAIN (R333). -/
def imports (t : Tab Word) : List (Nat × Nat × Nat × Nat × Nat) :=
  (listed t (Reg.GLB_IMP 0 0) 8 256).filterMap (fun e =>
    let w := e.2.toNat
    if bit w 0 then some (e.1, bits w 1 6, bits w 7 12, bits w 19 7, (viewOf t (Reg.GLB_IMP e.1 1)).toNat % 2 ^ 16)
    else none)

/-- A downstream bridge of a partition (R315). -/
inductive Bridge where
  | loc (x : Nat)
  | imp (k : Nat)
  | shr (x : Nat)
  deriving DecidableEq, Repr

/-- The downstream bridges of partition `q` in a set, in the order of R315. -/
def bridges (t : Tab Word) (q : Nat) : List Bridge :=
  let v := viewOf t
  ((pciePorts v).filterMap (fun e =>
    if !isUpstream v e.1 e.2 && portPart v e.1 e.2 == q && !isExported v (4 * e.1 + e.2)
    then some (Bridge.loc (4 * e.1 + e.2)) else none)) ++
  ((imports t).filterMap (fun e => if e.2.1 = q then some (Bridge.imp e.1) else none)) ++
  ((List.range 96).filterMap (fun x =>
    if (bindings t).any (fun b => b.part == q && b.port == x) then some (Bridge.shr x) else none))

/-- The station whose port a bridge of `q` stands for: an import's and a shared bridge's errors concern the
upstream port's station. -/
def bridgeStn (s : State) (q : Nat) : Bridge → Nat
  | .loc x => x / 4
  | _ => match upstreamOf s.act q with
    | some (n, _) => n
    | none => 0

/-- The station and port of function `fn` of partition `q` (0 upstream port, 1 management function,
2 + i downstream device i); for an exported port, which belongs to no local partition, `q` is 63 and `fn` the port (R332). -/
def fnPort (s : State) (q fn : Nat) : Nat × Nat :=
  let up := (upstreamOf s.act q).getD (0, 0)
  if q = 63 then (fn / 4, fn % 4)
  else if fn < 2 then up
  else match (bridges s.regs.active q)[fn - 2]? with
    | some (.loc x) => (x / 4, x % 4)
    | _ => up

/-- AER status bits of PCI Express Base Specification 7.0. -/
def aerSurpriseDown : Nat := 5
/-- Completion Timeout. -/
def aerCplTimeout : Nat := 14
/-- Completer Abort. -/
def aerCompleterAbort : Nat := 15
/-- Unsupported Request. -/
def aerUnsupported : Nat := 20
/-- ACS Violation. -/
def aerAcs : Nat := 21
/-- Uncorrectable Internal Error. -/
def aerInternal : Nat := 22
/-- Poisoned TLP Received. -/
def aerPoisoned : Nat := 12

/-- Sets bit `b` of a register of a function. -/
def cfgBit (q fn b : Nat) (r : CfgReg) (s : State) : State :=
  s.setCfg q fn r (s.cfgR q fn r ||| BitVec.ofNat 32 (2 ^ b))

/-- Bit `b` of a register of a function. -/
def State.cfgB (s : State) (q fn : Nat) (r : CfgReg) (b : Nat) : Bool := bit (s.cfgR q fn r).toNat b

/-- A function's error message of a severity, 0 correctable, 1 non-fatal, 2 fatal, where it is enabled: it leaves only
through the upstream port of its partition (R205); Device Status notes the error. -/
def errMessage (q fn sev : Nat) (on : Bool) (s : State) : State :=
  let s := cfgBit q fn (16 + sev) .devCtl s
  if on && partEnabled s.act q then s.emit (.errMsg q fn sev) else s

/-- PCIE_COR or PCIE_UNCOR at the station of a function (R214). -/
def aerEvent (q fn index : Nat) (s : State) : State := s.raiseStn (fnPort s q fn).1 index (fnPort s q fn).2

/-- A function logs the uncorrectable error `b` in its AER capability (R205): its status bit, Device Status, an error
message upstream when it is not masked and Device Control or SERR# Enable asks for one, and PCIE_UNCOR (R214). Its severity
is the one that the host has set, but for an internal error, of which R204 gives it: 1 non-fatal, 2 fatal. -/
def aerError (q fn b sev : Nat) (s : State) : State :=
  let sev := if b = aerInternal then sev else 1 + b2n (s.cfgB q fn .aerSev b)
  let s := cfgBit q fn b .aerStat s
  let s := if b = aerUnsupported then cfgBit q fn 19 .devCtl s else s
  let on := !s.cfgB q fn .aerMask b && (s.cfgB q fn .command 8 ||
    (s.cfgB q fn .devCtl sev && (b != aerUnsupported || s.cfgB q fn .devCtl 3)))
  aerEvent q fn 12 (errMessage q fn sev on s)

/-- A function logs the correctable error `b` (R205), with PCIE_COR (R214). -/
def aerCorrectable (q fn b : Nat) (s : State) : State :=
  let s := cfgBit q fn b .aerCor s
  aerEvent q fn 11 (errMessage q fn 0 (!s.cfgB q fn .aerCorMask b && s.cfgB q fn .devCtl 0) s)

/-- A function receives a poisoned TLP that it only forwards (R204, R205): an advisory non-fatal error, which is a
correctable one, unless the host has made it fatal (log entry 8). -/
def aerPoison (q fn : Nat) (s : State) : State :=
  if s.cfgB q fn .aerSev aerPoisoned then aerError q fn aerPoisoned 2 s
  else aerCorrectable q fn 13 (cfgBit q fn aerPoisoned .aerStat s)

/-- Changes the record of time synchronisation. -/
def State.onTime (s : State) (f : TimeSync → TimeSync) : State := s.onDp (fun d => { d with time := f d.time })

/-- Is this node a time source (GLB_FT_CTL.ROLE)? -/
def isSource (s : State) : Bool := s.actB Reg.GLB_FT_CTL Fld.GLB_FT_CTL_ROLE

/-- GLB_FT_CTL.PPSEN. -/
def ppsEn (s : State) : Bool := s.actB Reg.GLB_FT_CTL Fld.GLB_FT_CTL_PPSEN

/-- SYNC of a source: its time has been loaded, and PPS_IN is alive when it disciplines it (R252). -/
def sourceSync (s : State) : State :=
  if isSource s then
    s.setLivF Reg.GLB_FT_STAT Fld.GLB_FT_STAT_SYNC
      (b2n (s.dp.time.loaded && (!ppsEn s || s.livB Reg.GLB_FT_STAT Fld.GLB_FT_STAT_PPSOK)))
  else s

end Sys2Proof.Machine
end

