-- ==== Sys2Proof/Machine/SlateLog.lean ====
section
/-! DEFINITION. The slate log: appending an entry, checkpoints, overwriting (R80 to R87). -/

namespace Sys2Proof.Machine

/-- What an entry records besides its time, number and chain value (R80). -/
structure Entry where
  origin : Nat := 63
  serial : Nat := 0
  kind : Nat
  at_ : Bool := false
  failed : Bool := false
  pc : Nat := 0
  loc : Nat := 0
  old : Nat := 0
  new : Nat := 0
  deriving DecidableEq, Repr

/-- The ENTRY of the next slot to fill. -/
def State.head (s : State) : Nat := (s.liv Reg.GLB_SLATE_HEAD).toNat

/-- Advances HEAD over `k` filled or reserved slots, and overwrites the oldest unread slots that no
longer fit (R86). -/
def slateAdvance (k : Nat) (s : State) : State :=
  let rd := (s.liv Reg.GLB_SLATE_RD).toNat
  let before := (s.head + 2 ^ 32 - rd) % 2 ^ 32
  let after := before + k
  let s := s.bump Reg.GLB_SLATE_HEAD k
  let s := if before < 917504 ∧ 917504 ≤ after
    then (s.setLivF Reg.GLB_SLATE_STAT Fld.GLB_SLATE_STAT_HIGH 1).raise (gEvt 3) else s
  if 1048576 < after then
    let s := s.bump Reg.GLB_SLATE_LOST (after - 1048576)
    let s := s.setLivN Reg.GLB_SLATE_RD (s.head + 2 ^ 32 - 1048576)
    (s.setLivF Reg.GLB_SLATE_STAT Fld.GLB_SLATE_STAT_LOSS 1).raise (gEvt 4)
  else s

/-- Words 0 to 4 of an entry (R80, R83), for a TIME, a TSYNC, a HELD and an entry number. -/
def entryWords (e : Entry) (time : Nat) (tsync held : Bool) (num : Nat) : List Nat :=
  [ time % 2 ^ 64,
    e.serial % 2 ^ 32 * 2 ^ 32 + e.origin % 64 * 2 ^ 26 + e.kind % 16 * 2 ^ 22 +
      (b2n tsync + 2 * b2n e.at_ + 4 * b2n held + 8 * b2n e.failed) * 2 ^ 16 + e.pc % 2 ^ 13 * 8,
    num % 2 ^ 32 * 2 ^ 32 + e.loc % 2 ^ 32,
    e.old % 2 ^ 64,
    e.new % 2 ^ 64 ]

/-- Bytes of words, each least significant byte first (R84). -/
def dwordBytes (ws : List DWord) : List Byte := ws.flatMap (fun w => toBytes 8 w.toNat)

/-- The first 24 bytes of SHAKE256 over `l`, byte 0 least significant (R80, R84). -/
def chainHash (l : List Byte) : BitVec 192 := (Config.shake256 l).extractLsb' 0 192

/-- CHAIN of an entry with words 0 to 4 `ws` that follows one with CHAIN `prev` (R84). -/
def chainNext (prev : BitVec 192) (ws : List DWord) : BitVec 192 := chainHash (toBytes 24 prev.toNat ++ dwordBytes ws)

/-- Fills the slot at HEAD with a chained entry (R80, R83, R84). TIME never decreases: a smaller local
time becomes the previous TIME plus 1, with HELD. -/
def slatePut (e : Entry) (s : State) : State :=
  let tsync := s.livB Reg.GLB_FT_STAT Fld.GLB_FT_STAT_SYNC
  let held := decide (s.ft < s.slate.time)
  let time := if held then s.slate.time + 1 else s.ft
  let num := s.head
  let w := (entryWords e time tsync held num).map (fun x => BitVec.ofNat 64 x)
  let chain := chainNext s.slate.chain w
  let slot := Slot.entry (nth 0 w 0) (nth 0 w 1) (nth 0 w 2) (nth 0 w 3) (nth 0 w 4) chain
  let s := driftMove false 64 (perf 73 9 none 1 { master := some e.origin } s)
  let s := { s with slate := { s.slate with
    slots := Tab.put s.slate.slots (num % 2 ^ 20) (some slot), chain := chain, time := time } }
  slateAdvance 1 s

/-- Reserves the 52 slots that follow a CHECKPOINT entry (R85). -/
def slateReserve (s : State) : State :=
  let h := s.head
  let slots := forUpto 52 (fun i t => Tab.put t ((h + i) % 2 ^ 20) (some (.reserved none))) s.slate.slots
  slateAdvance 52 { s with slate := { s.slate with slots := slots } }

/-- The bytes of the Active Set as R553 orders them: every register that has a TW field, in ascending address order, the
bits of other access codes as zero. -/
def activeBytes (v : Nat → Word) : List Byte :=
  (List.range 0x200000).flatMap (fun k => match regRow (4 * k) with
    | some r => if r.tw = 0 then [] else toBytes 4 (v (4 * k) &&& BitVec.ofNat 32 r.tw).toNat
    | none => [])

/-- The Active Set digest (R553). -/
def asDigest (s : State) : BitVec 512 := Config.shake256 (activeBytes s.act)

/-- Bytes 0 to 7 of the Active Set digest. -/
def asDigestLo (s : State) : Nat := (asDigest s).toNat % 2 ^ 64

/-- Appends a CHECKPOINT entry and reserves its signature slots; it covers every chained entry before
it, and the count restarts (R81, R85). -/
def checkpoint (s : State) : State :=
  let num := s.head
  let s := slatePut { kind := 8, old := s.slate.ckpt.getD s.slate.first, new := asDigestLo s } s
  let s := s.setLivN Reg.GLB_SLATE_CKPT num
  let s := { s with slate := { s.slate with
    ckpt := some num, count := 0, uncovered := none, signing := s.slate.signing ++ [num] } }
  slateReserve s

/-- Chained entries per checkpoint (GLB_SLATE_CKINT.CKLOG: below 10 acts as 10; its 4 bits hold no value above 15). -/
def ckInterval (s : State) : Nat :=
  2 ^ max 10 (s.actF Reg.GLB_SLATE_CKINT Fld.GLB_SLATE_CKINT_CKLOG)

/-- Appends a CHECKPOINT entry once the interval's entries have been appended (R85). -/
def checkpointIfDue (s : State) : State := if ckInterval s ≤ s.slate.count then checkpoint s else s

/-- Appends an entry to the slate log (R82 to R85). -/
def State.log (s : State) (e : Entry) : State :=
  let num := s.head
  let s := slatePut e s
  let s := { s with slate := { s.slate with
    count := s.slate.count + 1
    commits := if e.kind = 4 then 0 else if e.kind = 0 then s.slate.commits + 1 else s.slate.commits
    cut := if e.kind = 4 then some num else s.slate.cut
    uncovered := match s.slate.uncovered with
      | none => some s.now
      | some t => some t } }
  checkpointIfDue s

/-- Appends a DEVICE entry: a change the FM9192 makes without a take (R81, R82). LOC is the event
source number. OLD and NEW are event-specific: the caller gives what the owning rule names, else zero
(log entry 9). -/
def State.logDevice (s : State) (loc : Nat) (old new : Nat := 0) : State :=
  s.log { kind := 9, loc := loc, old := old, new := new }

/-- Word `w` of a slot as TBLR and the aperture return it (R84, R85): a reserved slot reads as zero until
it is filled, an unlisted slot as zero. -/
def slotWord (x : Option Slot) (w : Nat) : DWord :=
  match x with
  | none => 0
  | some (.reserved none) => 0
  | some (.reserved (some l)) => nth 0 l w
  | some (.entry a b c d e chain) =>
    match w with
    | 0 => a | 1 => b | 2 => c | 3 => d | 4 => e
    | 5 => chain.extractLsb' 0 64
    | 6 => chain.extractLsb' 64 64
    | _ => chain.extractLsb' 128 64

end Sys2Proof.Machine
end

