-- ==== Sys2Proof/Machine/Route.lean ====
section
/-! DEFINITION. Carried units entering the ingress buffer, route selection, and what becomes of a packet
that cannot be delivered (R257, R259, R289, R292, R326 to R330, R336, R342 to R345, R355, R361). -/

namespace Sys2Proof.Machine

/-- Cells of a unit of `len` bytes (R257). -/
def cellsOf (len : Nat) : Nat := max 1 (ceilDiv len 64)

/-- Half-cells of a unit of `len` bytes (R289). -/
def halvesOf (len : Nat) : Nat := max 1 (ceilDiv len 32)

/-- Adds to the half-cells in use at a station; `k` may be negative (BUF_ING). -/
def ingUse (n : Nat) (internal : Bool) (k : Int) (s : State) : State :=
  let add (f : Fld) (s : State) : State :=
    s.setLivF (Reg.BUF_ING n) f ((s.livF (Reg.BUF_ING n) f : Int) + k).toNat
  let s := add Fld.BUF_ING_USED s
  if internal then add Fld.BUF_ING_INTUSE s else s

/-- The key of an ingress list (R293). -/
def listKey (dst queue : Nat) : Nat := dst * 16 + queue

/-- Half-cells of the internal reserve (R290). -/
def reserveSize : Nat := 8192

/-- Does unit `u` fit in the internal reserve of its station (R292)? -/
def reserveRoom (s : State) (u : CUnit) : Bool :=
  decide (s.livF (Reg.BUF_ING u.src) Fld.BUF_ING_INTUSE + u.half ≤ reserveSize)

/-- Unit `id` joins its list in the ingress buffer of its station (R293). -/
def listUnit (id : Nat) (u : CUnit) (s : State) : State :=
  let k := listKey u.dst u.queue
  ingUse u.src (u.origin == .internal) u.half
    (s.onIng u.src (fun i => { i with lists := Tab.set [] i.lists k (Tab.get [] i.lists k ++ [id]) }))

/-- A unit enters the ingress buffer; an internal one waits outside while the reserve has no room for it and those before it
(R292). RX_BYTES and RX_UNITS count one that a port received (R583). -/
def addUnit (u : CUnit) (s : State) : State :=
  let id := s.dp.uid
  let s := s.onDp (fun d => { d with uid := d.uid + 1, units := Tab.put d.units id u })
  if u.origin = .internal ∧ ((s.ing u.src).outside ≠ [] ∨ !reserveRoom s u) then
    s.onIng u.src (fun i => { i with outside := i.outside ++ [id] })
  else
    let s := match u.origin.port?, u.body with
      | some _, .short _ => s
      | some p, _ => perf u.src 1 (some p) (unitBytes u) (unitOcc s u) (perf u.src 3 (some p) 1 (unitOcc s u) s)
      | none, _ => s
    listUnit id u s

/-- The internal units that wait at station `n` enter the reserve in order while it has room (R292). -/
def admitOutside (n : Nat) : List Nat → State → State
  | [], s => s
  | id :: l, s =>
    match s.unit id with
    | none => admitOutside n l (s.onIng n (fun i => { i with outside := l }))
    | some u =>
      if reserveRoom s u then admitOutside n l (listUnit id u (s.onIng n (fun i => { i with outside := l }))) else s

/-- A unit of `len` bytes. -/
def mkUnit (src : Nat) (o : Origin) (dst group queue len : Nat) (b : Body) : CUnit :=
  { src := src, origin := o, dst := dst, group := group, queue := queue,
    cells := cellsOf len, half := halvesOf len, body := b }

/-- Marks every cell of a unit as poisoned (R259). -/
def CUnit.poisonAll (u : CUnit) (b : Bool) : CUnit := if b then { u with pois := List.range u.cells } else u

/-- The flow-control type of a TLP: 0 posted, 1 non-posted, 2 completion. -/
def fcType (t : Tlp) : Nat := if t.posted then 0 else if t.isCpl then 2 else 1

/-- Data credits of 16 B that a TLP takes. -/
def fcData (t : Tlp) : Nat := ceilDiv t.data.length 16

/-! ## PCI Express credits received and returned (R17, R147) -/

/-- A PCI Express port `x` returns credits of type `k`; those of requests are withheld while its station holds (R147). -/
def pcieBack (x k hdr data : Nat) (s : State) : State :=
  let add (t : Tab (Nat × Nat)) : Tab (Nat × Nat) :=
    let c := Tab.get (0, 0) t k
    Tab.set (0, 0) t k (c.1 + hdr, c.2 + data)
  if !s.dlUp (x / 4) (x % 4) then s
  else if s.holdsAt (x / 4) && k != 2 then s.onPp x (fun p => { p with kept := add p.kept })
  else (s.onPp x (fun p => { p with grant := add p.grant })).emit (.update (x / 4) (x % 4) k hdr data)

/-- The link partner of port `x` spends the credits of a TLP that it sends. -/
def pcieSpend (x : Nat) (t : Tlp) (s : State) : State :=
  s.onPp x (fun p =>
    let c := Tab.get (0, 0) p.grant (fcType t)
    { p with grant := Tab.set (0, 0) p.grant (fcType t) (c.1 - 1, c.2 - fcData t) })

/-- The credits withheld at port `x` go out, once its station holds no more. -/
def pcieRelease (x : Nat) (s : State) : State :=
  (s.pp x).kept.foldl (fun s e => pcieBack x e.1 e.2.1 e.2.2 s) (s.onPp x (fun p => { p with kept := [] }))

/-- The credits of the TLP of a unit. -/
def unitBack (x : Nat) (u : CUnit) (s : State) : State :=
  match u.body with
  | .tlp _ _ t => pcieBack x (fcType t) 1 (fcData t) s
  | .pkt p r => match p.body with
    | .tlp _ t =>
      let n := t.data.length + (match r.map (fun r => r.body) with
        | some (.tlpRest _ l) => l.length
        | _ => 0)
      pcieBack x (fcType t) 1 (ceilDiv n 16) s
    | _ => s
  | .short _ => s

/-- Port `x` holds a configuration write in its ingress cell buffer, under non-posted credits (R194). -/
def holdCfg (w : CfgWrite) (s : State) : State :=
  let s := pcieSpend w.port { kind := .cfgWr, data := toBytes 4 w.data.toNat } (ingUse (w.port / 4) false 1 s)
  { s with parts := { s.parts with held := s.parts.held ++ [w] } }

/-- A held configuration write leaves the ingress cell buffer, and its credits return. -/
def freeCfg (w : CfgWrite) (s : State) : State := pcieBack w.port 1 1 1 (ingUse (w.port / 4) false (-1) s)

/-- A non-posted request leaves by `via` and awaits its completion (R148). -/
def npAdd (via : Nat) (t : Tlp) (s : State) : State :=
  if t.nonPosted then s.onDp (fun d => { d with np := d.np ++ [⟨via, t.req, t.tag, t.span⟩] }) else s

/-- A request that left by `via` no longer awaits completion. -/
def npDone (via req tag : Nat) (s : State) : State :=
  s.onDp (fun d => { d with np := d.np.filter (fun e => !(e.via == via && e.req == req && e.tag == tag)) })

/-- A completion comes back by `via`: the last one ends the wait of its request, a read's when it brings the last byte. -/
def npCpl (via : Nat) (t : Tlp) (s : State) : State :=
  let mine (e : NpReq) : Bool := e.via == via && e.req == t.req && e.tag == t.tag
  if t.status ≠ 0 ∨ t.data = [] then npDone via t.req t.tag s
  else
    let less (e : NpReq) : NpReq := if mine e then { e with left := e.left - t.data.length } else e
    s.onDp (fun d => { d with np := (d.np.map less).filter (fun e => !(mine e && e.left == 0)) })

/-- A fabric port's credit units return (R235); other origins return nothing here. -/
def giveBack (n : Nat) (o : Origin) (s : State) : State :=
  match o with
  | .fabric f vc k => s.onLnk n f (fun l =>
      { l with cum := Tab.set 0 l.cum vc ((Tab.get 0 l.cum vc + k) % 2 ^ 16) })
  | _ => s

/-- The half-cells of a unit are freed: a fabric port's CUM advances by its units, a PCI Express port returns its credits
(R17, R235, R293). -/
def freeUnit (id : Nat) (s : State) : State :=
  match s.unit id with
  | none => s
  | some u =>
    if u.freed then s else
    let out := (s.ing u.src).outside
    let s := if out.contains id then s.onIng u.src (fun i => { i with outside := out.filter (fun j => j != id) })
      else ingUse u.src (u.origin == .internal) (-(u.half : Int)) s
    let s := if u.origin = .internal then admitOutside u.src (s.ing u.src).outside s else s
    let s := if u.copy then s
      else match u.origin with
        | .pcie x => unitBack x u s
        | o => giveBack u.src o s
    if u.gone then s.delUnit id else s.setUnit id { u with freed := true }

/-- A unit's last cell has left the egress: its record goes once the ingress has freed it too. -/
def doneUnit (id : Nat) (s : State) : State :=
  match s.unit id with
  | none => s
  | some u => if u.freed then s.delUnit id else s.setUnit id { u with gone := true }

/-! ## Route selection -/

/-- Is fabric port `f` of station `n` withdrawn (R353)? -/
def withdrawn (s : State) (n f : Nat) : Bool :=
  let b := 2 * n + f
  bit (s.liv (Reg.GLB_RT_DOWN (b / 32))).toNat (b % 32)

/-- Shows a port as withdrawn or not. -/
def setWithdrawn (n f : Nat) (v : Bool) (s : State) : State :=
  let b := 2 * n + f
  s.setLivF (Reg.GLB_RT_DOWN (b / 32)) ⟨b % 32, 1⟩ (b2n v)

/-- Slot `i` of the route to node `d`: its port, and whether it is usable (R327). -/
def slot (s : State) (d i : Nat) : (Nat × Nat) × Bool :=
  let b := bits (s.act (Reg.GLB_ROUTE d)).toNat (8 * i) 8
  let n := bits b 0 5
  let f := bits b 5 1
  ((n, f), bit b 7 && decide (n < 24) && fabPort s.act n f && !withdrawn s n f && decide (3 ≤ s.flState n f))

/-- The first usable slot from `s0` (R328), with the number of slots skipped. -/
def selectSlot (s : State) (d s0 : Nat) : Option (Nat × (Nat × Nat)) :=
  (firstBelow 4 (fun i => (slot s d ((s0 + i) % 4)).2)).map (fun i => (i, (slot s d ((s0 + i) % 4)).1))

/-- The `now` until which a pinned packet waits (R355): MOVEHOLD after the withdrawal of a port that its
selection skips, or after the rejoin of the port it selects. -/
def holdUntil (s : State) (d s0 k : Nat) : Nat :=
  let w := (s.act Reg.GLB_RT_CFG).toNat % 2 ^ 10 * 1000
  let at_ (e : Nat × Nat) : Nat :=
    match Tab.find s.dp.fab.moved (2 * e.1 + e.2) with
    | some t => t + w
    | none => 0
  (List.range (k + 1)).foldl (fun m i =>
    let e := (slot s d ((s0 + i) % 4)).1
    if i = k ∨ withdrawn s e.1 e.2 then max m (at_ e) else m) 0

/-- Units of payload of a packet and its pair, in bytes. -/
def pktBytes (p : Packet) (rest : Option Packet) : Nat :=
  32 * p.len + match rest with
    | some r => 32 * r.len
    | none => 0

/-! ## Short packets -/

/-- DNODE of a routed short packet. -/
def shortDest : ShortBody → Nat
  | .wire d _ _ _ _ => d
  | .lockReq d _ _ _ _ _ _ => d
  | .lockGnt d _ _ _ _ _ => d
  | .pfn0 _ d _ _ _ _ => d
  | .pfn1 _ d _ => d
  | _ => 0

/-- A sink wire takes a level (R351). -/
def wireSink (w : Nat) (level : Bool) (wcnt : Nat) (s : State) : State :=
  let e := (s.act (Reg.GLB_WIRE w)).toNat
  if bit e 0 && bit e 1 then
    let x := Tab.get {} s.dp.fab.wires w
    let ahead := (wcnt + 256 - x.wcnt) % 256
    if !x.got || ahead ≤ 127 then
      s.onFab (fun f => { f with wires := Tab.set {} f.wires w { x with level := level, wcnt := wcnt, got := true } })
    else s
  else s

/-- A posted-failure notice at its originating edge (R345). -/
def pfnHere (q req addr cause : Nat) (s : State) : State :=
  let s := s.bump Reg.GLB_PFNRXCNT
  if 48 ≤ q then s else
  let s := s.setLiv (Reg.GLB_PFNLOG q 0) (lo32 addr)
  let s := s.setLiv (Reg.GLB_PFNLOG q 1) (hi32 addr)
  let s := s.setLivN (Reg.GLB_PFNLOG q 2) (req % 2 ^ 16 + cause % 16 * 2 ^ 16)
  let s := s.bump (Reg.GLB_PFNLOG q 3)
  let s := { s with parts := { s.parts with aerLog := Tab.put s.parts.aerLog q (req, addr) } }
  let s := aerError q 1 aerInternal 1 s
  (ringWrite q 2 (cause % 16 + req % 2 ^ 16 * 16) addr 0 s).intx

/-- Routed short packets of one carried unit leave from station `src` (R233, R328, R330, R342). At this
node a WIRE and a notice are handled at once. Those in transit take nothing from the internal reserve: `o` is the port they
came by (R292). -/
def sendShort (src : Nat) (l : List ShortBody) (s : State) (o : Origin := .internal) : State :=
  match l with
  | [] => s
  | b :: rest =>
    let d := shortDest b
    if d = s.node then
      match b, rest with
      | .wire _ _ w level wcnt, _ => wireSink w level wcnt s
      | .pfn0 _ _ q req hi cause, [.pfn1 _ _ lo] => pfnHere q req (hi * 2 ^ 32 + lo * 4) cause s
      | _, _ => s.bump Reg.GLB_LOSTCNT
    else match selectSlot s d 0 with
      | none => (s.bump Reg.GLB_NOROUTECNT).bump Reg.GLB_LOSTCNT
      | some (_, (n, f)) => addUnit (mkUnit src o (4 * n + f) 48 8 (16 * l.length) (.short l)) s

/-- Sends a posted-failure notice for a discarded TLP (R343). -/
def sendPfn (src snode part : Nat) (t : Tlp) (cause : Nat) (s : State) : State :=
  let s := s.bump Reg.GLB_PFNTXCNT
  if snode = s.node then pfnHere part t.req t.addr cause s
  else
    let tag := s.dp.fab.ftag
    let s := s.onFab (fun f => { f with ftag := (f.ftag + 1) % 256 })
    sendShort src [.pfn0 tag snode part t.req (t.addr / 2 ^ 32) cause,
      .pfn1 tag snode (t.addr % 2 ^ 32 / 4)] s

/-! ## Packets -/

/-- A completion with a status for a request (R319, R342): 1 Unsupported Request, 4 Completer Abort. -/
def complete (t : Tlp) (status : Nat) : Tlp :=
  { kind := .cpl, hdr := 12, tc := t.tc, req := t.req, tag := t.tag, status := status }

/-- The VC of a tunnelled TLP (R360, R346). -/
def tlpVc (s : State) (t : Tlp) (lock : Bool) : Nat :=
  if lock then s.actF Reg.GLB_TUN_CFG Fld.GLB_TUN_CFG_LVC
  else bits (s.act Reg.GLB_TCVC).toNat (3 * (t.tc % 8)) 3

/-- CRC-8 of R155 over bits, in the order given. -/
def crc8 (l : List Bool) : Nat :=
  l.foldl (fun c b => if bit c 7 != b then Nat.xor (c * 2 % 256) 7 else c * 2 % 256) 0xFF

/-- The bits of a number, bit 0 first. -/
def lsbBits (n x : Nat) : List Bool := (List.range n).map (fun i => bit x i)

/-- flowhash of a TLP (R329): CRC-8 over PART and the sender ID, high byte first. -/
def flowhash (part sender : Nat) : Nat :=
  crc8 (lsbBits 8 (part % 64) ++ lsbBits 8 (sender / 256 % 256) ++ lsbBits 8 (sender % 256))

/-- Wraps a TLP toward a node and port, as a pair when it is longer than 4,096 B (R334 to R336). -/
def wrap (s : State) (dnode dport sport : Nat) (d : Dom) (colour : Nat) (t : Tlp) : Packet × Option Packet :=
  let total := 4 + t.length
  let sender := if t.isCpl then t.cid else t.req
  let base : Packet := {
    type := 1
    vc := tlpVc s t d.lock
    dnode := dnode
    dport := dport
    snode := s.node
    sport := sport
    colour := colour
    poison := t.ep
    len := ceilDiv total 32
    flowhash := flowhash d.part sender
    body := .tlp { d with cont := false } t }
  if total ≤ 4096 then (base, none)
  else
    let k := 4092 - t.hdr
    let dat := t.data.drop k
    ({ base with len := 128, body := .tlp { d with cont := true } { t with data := t.data.take k } },
     some { base with len := ceilDiv (4 + dat.length) 32, body := .tlpRest { d with cont := false } dat })

/-- Is a packet pinned to one path (R328, R355)? -/
def pinned (p : Packet) : Bool := p.type == 1 || p.type == 4

/-- The start slot of a packet (R328). -/
def startSlot (p : Packet) : Nat := if pinned p then p.flowhash % 4 else (p.flowhash + p.path) % 4

/-- A packet joins the ingress list of the port that its route selects, from station `src`; none when no
slot is usable (R327 to R330). -/
def forward (src : Nat) (o : Origin) (p : Packet) (rest : Option Packet) (s : State) : Option State :=
  (selectSlot s p.dnode (startSlot p)).map (fun (k, n, f) =>
    let u := (mkUnit src o (4 * n + f) 48 p.vc (pktBytes p rest) (.pkt p rest)).poisonAll (p.poison || rest.any (fun r => r.poison))
    addUnit { u with holdUntil := if pinned p then holdUntil s p.dnode (startSlot p) k else 0 } s)

/-- Secondary and subordinate bus number of a bridge function. -/
def busRange (s : State) (q fn : Nat) : Nat × Nat :=
  let w := (s.cfgR q fn .busNumbers).toNat
  (bits w 8 8, bits w 16 8)

/-- Does a bridge function claim a bus number? -/
def busHit (s : State) (q fn b : Nat) : Bool :=
  let r := busRange s q fn
  r.1 != 0 && decide (r.1 ≤ b) && decide (b ≤ r.2)

/-- The enabled binding of a partition on a shared port with a function number. -/
def bindingOf (s : State) (q x fn : Nat) : Option Binding :=
  (bindings s.regs.active).find? (fun b => b.part == q && b.port == x && b.fn == fn)

/-- A completion for a bound function carries that function's own identifier as its requester (R324). -/
def vfReq (s : State) (q x : Nat) (t : Tlp) : Tlp :=
  if !t.isCpl then t else match bindingOf s q x (t.req % 256) with
  | some b => { t with req := b.vfid }
  | none => t

/-- The fields of an enabled import: PART, NODE, DPORT, DOMAIN. -/
def importOf (s : State) (k : Nat) : Nat × Nat × Nat × Nat :=
  let w := (s.act (Reg.GLB_IMP k 0)).toNat
  (bits w 1 6, bits w 7 12, bits w 19 7, (s.act (Reg.GLB_IMP k 1)).toNat % 2 ^ 16)

/-- A TLP joins the ingress list of a local PCI Express port (KIND 0; R259, R361). -/
def sendLocal (src : Nat) (o : Origin) (q x colour : Nat) (t : Tlp) (s : State) : State :=
  let u := mkUnit src o x (q % 48) (t.tc % 8) t.length (.tlp q colour t)
  addUnit (u.poisonAll t.ep) s

/-- The upstream port of partition `q` as a logical port. -/
def upPort (s : State) (q : Nat) : Nat :=
  let up := (upstreamOf s.act q).getD (0, 0)
  4 * up.1 + up.2

/-- A completion that ends at this node goes to its requester: by an exported port, by the upstream port `dport` of its
partition, or by the bridge whose buses hold the requester; `lost` is what follows where that is an import without a route
(DEDUCED, log entry 119). -/
def cplHome (src dport : Nat) (d : Dom) (t : Tlp) (lost : State → State) (s : State) : State :=
  if isExported s.act dport then sendLocal src .internal d.part dport 0 t s
  else match (bridges s.regs.active d.part).zipIdx.find? (fun b => busHit s d.part (2 + b.2) (t.req / 256)) with
    | some (.loc x, _) | some (.shr x, _) => sendLocal src .internal d.part x 0 (vfReq s d.part x t) s
    | some (.imp k, _) =>
      let (_, node, dp, domain) := importOf s k
      let (p, r) := wrap s node dp (upPort s d.part) { domain := domain, part := d.part } 0 t
      (forward src .internal p r s).getD (lost (s.bump Reg.GLB_NOROUTECNT))
    | none => sendLocal src .internal d.part dport 0 t s

/-- A completion leaves for a node, or for its requester here; one that cannot is discarded, with TUN_LOST (R342). -/
def sendCpl (src dnode dport sport : Nat) (d : Dom) (t : Tlp) (s : State) : State :=
  let lost (s : State) : State := (s.bump Reg.GLB_LOSTCNT).raise (gEvt 16)
  if dnode = s.node then cplHome src dport d t lost s
  else
    let (p, r) := wrap s dnode dport sport d 0 t
    match forward src .internal p r s with
    | some s => s
    | none => lost (s.bump Reg.GLB_NOROUTECNT)

/-- A packet that cannot be forwarded or delivered, at station `src`, with a CAUSE (R342). A non-posted
request is completed with `status`. -/
def undeliverable (src : Nat) (p : Packet) (cause : Nat) (s : State) (status : Nat := 1) : State :=
  match p.body with
  | .tlp d t =>
    if t.posted then sendPfn src p.snode d.part t cause s
    else if t.isCpl then (s.bump Reg.GLB_LOSTCNT).raise (gEvt 16)
    else
      let s := if p.snode = s.node then npDone (128 + p.dnode) t.req t.tag s else s
      sendCpl src p.snode p.sport p.dport { d with cont := false } (complete t status) s
  | .tlpRest _ _ => s
  | .fme _ _ => s
  | .mgmt .. => s.bump Reg.GLB_LOSTCNT

/-- A packet formed at this node, or in transit, leaves from station `src`; without a usable slot it is
undeliverable with CAUSE NOROUTE (R330). -/
def sendPkt (src : Nat) (o : Origin) (p : Packet) (rest : Option Packet) (s : State) : State :=
  match forward src o p rest s with
  | some s => s
  | none => undeliverable src p 5 (s.bump Reg.GLB_NOROUTECNT)

/-- An FME packet arrives at this node for FME `e`. -/
def fmeArrive (e : Nat) (p : Packet) (s : State) : State :=
  s.onDp (fun d => { d with fmeIn := Tab.set [] d.fmeIn e (Tab.get [] d.fmeIn e ++ [p]) })

/-- The FME that serves a packet at this node (R621): by the key's index for a request, by SFME for a
reply. -/
def fmeServing (h : FmeHdr) : Nat :=
  if h.pt = 1 ∨ h.pt = 2 ∨ h.pt = 4 then h.rkey % 2 ^ 20 % 48 else h.sfme

/-- A packet formed by an engine of station `src` leaves; one for this node is delivered here (R326). -/
def sendFrom (src : Nat) (p : Packet) (rest : Option Packet) (s : State) : State :=
  if p.dnode = s.node then
    match p.body with
    | .fme h _ => fmeArrive (fmeServing h) p s
    | .mgmt .. =>
      ingUse src true (halvesOf (32 * p.len)) (s.onFab (fun f => { f with mgmt := f.mgmt ++ [(p, .internal, src)] }))
    | _ => undeliverable src p 1 s
  else sendPkt src .internal p rest s

/-! ## MGMT packets of this node (R292, R338 to R341) -/

/-- Does the internal reserve of station `n` hold an engine's largest unit yet (R292)? -/
def engineRoom (s : State) (n : Nat) : Bool :=
  decide (s.livF (Reg.BUF_ING n) Fld.BUF_ING_INTUSE + 264 ≤ reserveSize)

/-- An MGMT packet of this node (R339, R340). -/
def mgmtPkt (s : State) (d op : Nat) (fin : Bool) (port : Nat) (assert : Bool) (ws : List DWord) : Packet :=
  { type := 4, vc := s.actF Reg.GLB_TUN_CFG Fld.GLB_TUN_CFG_MVC, dnode := d, snode := s.node,
    len := ceilDiv (8 + 8 * ws.length) 32, body := .mgmt op fin port assert ws }

/-- The station at which an MGMT packet for node `d` is formed: that of the port its route selects. -/
def mgmtStation (s : State) (d : Nat) : Nat :=
  match selectSlot s d 0 with
  | some (_, (n, _)) => n
  | none => 0

/-- The MGMT packets of this node leave in order, each once the internal reserve of its station takes it (R292; DESIGN CHOICE,
log entry 123: one that waits holds those behind it). -/
def mgmtGoFor : List Packet → State → State
  | [], s => s.onFab (fun f => { f with mgmtOut := [] })
  | p :: l, s =>
    let n := mgmtStation s p.dnode
    if engineRoom s n then mgmtGoFor l (sendFrom n p none s) else s.onFab (fun f => { f with mgmtOut := p :: l })

/-- The MGMT packets that the reserve takes leave. -/
def mgmtGo (s : State) : State := if s.dp.fab.mgmtOut = [] then s else mgmtGoFor s.dp.fab.mgmtOut s

/-- Sends an MGMT packet. -/
def sendMgmt (d op : Nat) (fin : Bool) (port : Nat) (assert : Bool) (ws : List DWord) (s : State) : State :=
  mgmtGo (s.onFab (fun f => { f with mgmtOut := f.mgmtOut ++ [mgmtPkt s d op fin port assert ws] }))

end Sys2Proof.Machine
end

