-- ==== Sys2Proof/Machine/BufOps.lean ====
section
/-! DEFINITION. The egress queues: taking a cell in, taking one out, spilling, emptying (R295 to R302,
R305, R307). -/

namespace Sys2Proof.Machine

/-- The key of a queue (R295). -/
def qKey (group queue : Nat) : Nat := group * 16 + queue

/-- A queue of egress port `x`. -/
def State.eq (s : State) (x k : Nat) : EQueue := Tab.get {} (s.eport x).queues k
/-- Writes a queue. -/
def State.setEq (s : State) (x k : Nat) (q : EQueue) : State :=
  s.onEport x (fun e => { e with queues := Tab.set {} e.queues k q })

/-- Free segments of the queue store of station `n` (BUF_SEG.FREE). -/
def freeSegs (s : State) (n : Nat) : Nat := s.livF (Reg.BUF_SEG n) Fld.BUF_SEG_FREE
/-- Adds to the free segments. -/
def addSegs (n : Nat) (k : Int) (s : State) : State :=
  s.setLivF (Reg.BUF_SEG n) Fld.BUF_SEG_FREE ((freeSegs s n : Int) + k).toNat
/-- Adds to the count of queues whose middle is not empty. -/
def addSpillQ (n : Nat) (k : Int) (s : State) : State :=
  s.setLivF (Reg.BUF_SEG n) Fld.BUF_SEG_SPILLQ ((s.livF (Reg.BUF_SEG n) Fld.BUF_SEG_SPILLQ : Int) + k).toNat

/-- Segments a queue holds on die before it spills (BUF_CFG.ONDIE). -/
def onDieLimit (s : State) (n : Nat) : Nat := min 8 (max 1 (s.actF (Reg.BUF_CFG n) Fld.BUF_CFG_ONDIE))
/-- BUF_CFG.SPILLTHR. -/
def spillThr (s : State) (n : Nat) : Nat := min 224 (max 16 (s.actF (Reg.BUF_CFG n) Fld.BUF_CFG_SPILLTHR))

/-- The pool indexes of the blocks in use, rising. -/
def blocksUsed (s : State) : List Nat :=
  (s.dp.eport.flatMap (fun e => e.2.queues.flatMap (fun q => q.2.mid.map (fun b => b.idx)))).mergeSort

/-- The `k`-th number from 0 that a rising list does not hold. -/
def nthFree (used : List Nat) (k : Nat) : Nat := used.foldl (fun k u => if u ≤ k then k + 1 else k) k

/-- The pool index of the block that a queue takes next: any free one, as no rule says which (R300, R301). -/
def poolIndex (s : State) : Nat :=
  nthFree (blocksUsed s) (Config.free s.fresh % max 1 (s.liv Reg.GLB_DRIFT_FREE).toNat)

/-- Takes a block from the VOQ pool for station `n`, and raises DRIFT_LOW when the pool falls below its
threshold (R301, R314). -/
def takeBlock (n : Nat) (s : State) : State :=
  let before := (s.liv Reg.GLB_DRIFT_FREE).toNat
  let thr := (s.act Reg.GLB_DRIFT_LOWTHR).toNat % 2 ^ 24
  let s := s.setLivN Reg.GLB_DRIFT_FREE (before - 1)
  let s := s.bump (Reg.BUF_DRIFT n)
  if before - 1 < thr ∧ s.dp.driftArmed then
    (s.onDp (fun d => { d with driftArmed := false })).raise (gEvt 11)
  else s

/-- Returns `k` blocks of station `n` to the pool; DRIFT_LOW may be raised again once the pool is above its
threshold. -/
def giveBlocks (n k : Nat) (s : State) : State :=
  let v := (s.liv Reg.GLB_DRIFT_FREE).toNat + k
  let thr := (s.act Reg.GLB_DRIFT_LOWTHR).toNat % 2 ^ 24
  let s := s.setLivN Reg.GLB_DRIFT_FREE v
  let s := s.setLivN (Reg.BUF_DRIFT n) ((s.liv (Reg.BUF_DRIFT n)).toNat - k)
  if thr < v then s.onDp (fun d => { d with driftArmed := true }) else s

/-- The limits of R301 that stop a spill of a queue with `k` blocks, as bits of BUF_STAT. -/
def spillStops (s : State) (n k : Nat) : List Fld :=
  (if (s.liv Reg.GLB_DRIFT_FREE).toNat = 0 then [Fld.BUF_STAT_POOL] else []) ++
  (if (s.act (Reg.BUF_STNLIM n)).toNat % 2 ^ 24 ≤ (s.liv (Reg.BUF_DRIFT n)).toNat then [Fld.BUF_STAT_STNLIM] else []) ++
  (if (s.act (Reg.BUF_QLIM n)).toNat % 2 ^ 24 ≤ k then [Fld.BUF_STAT_QLIM] else [])

/-- A queue takes its next cell (R296, R297, R301, R307): the state after, or, when it cannot, the state
with every limit that holds it back flagged. -/
def takeCell (x k : Nat) (c : CellRef) (s : State) : Bool × State :=
  let n := x / 4
  let q := s.eq x k
  let room := decide (16 < freeSegs s n)
  if q.tail = [] then
    if room then (true, (addSegs n (-1) s).setEq x k { q with tail := [c] }) else (false, s)
  else if q.tail.length < 12 then (true, s.setEq x k { q with tail := q.tail ++ [c] })
  else if 8 ≤ k % 16 then (false, s)
  else if q.mid ≠ [] ∨ onDieLimit s n ≤ q.head.length + 1 ∨ freeSegs s n ≤ spillThr s n then
    let stops := spillStops s n q.mid.length
    if stops ≠ [] then (false, stops.foldl (fun s f => s.setLivF (Reg.BUF_STAT n) f 1) s)
    else if room then
      let i := poolIndex s
      let s := takeBlock n s.draw
      let s := if q.mid = [] then addSpillQ n 1 s else s
      (true, (addSegs n (-1) s).setEq x k
        { q with mid := q.mid ++ [{ cells := q.tail, idx := i, writing := true }], tail := [c] })
    else (false, s)
  else if room then (true, (addSegs n (-1) s).setEq x k { q with head := q.head ++ [q.tail], tail := [c] })
  else (false, s)

/-- The cells of a queue that can leave, oldest first (R297, R299). -/
def EQueue.ready (q : EQueue) : List CellRef := q.head.flatten ++ (if q.mid = [] then q.tail else [])

/-- Does a queue hold no cell? -/
def EQueue.isEmpty (q : EQueue) : Bool := q.head.isEmpty && q.mid.isEmpty && q.tail.isEmpty

/-- The oldest cell of a queue leaves; an emptied segment returns to the store. -/
def dropCell (x k : Nat) (s : State) : State :=
  let q := s.eq x k
  match q.head with
  | (_ :: []) :: t => (addSegs (x / 4) 1 s).setEq x k { q with head := t }
  | [] :: t => (addSegs (x / 4) 1 s).setEq x k { q with head := t }
  | (_ :: l) :: t => s.setEq x k { q with head := l :: t }
  | [] =>
    if q.mid = [] then
      match q.tail with
      | [] => s
      | [_] => (addSegs (x / 4) 1 s).setEq x k { q with tail := [] }
      | _ :: l => s.setEq x k { q with tail := l }
    else s

/-- `m` cells leave a queue. -/
def dropCells (x k m : Nat) (s : State) : State := forUpto m (fun _ s => dropCell x k s) s

/-- Removes repeats that stand next to each other. -/
def dedup : List Nat → List Nat
  | [] => []
  | a :: l => match dedup l with
    | [] => [a]
    | b :: t => if a = b then b :: t else a :: b :: t

/-- Every unit of a queue, oldest first. -/
def EQueue.units (q : EQueue) : List Nat :=
  dedup ((q.head.flatten ++ q.mid.flatMap (fun b => b.cells) ++ q.tail).map (fun c => c.1))

/-- A unit's cells leave a queue wherever they stand; segments left empty return to the store. -/
def removeUnit (x k id : Nat) (s : State) : State :=
  let q := s.eq x k
  let out (l : List CellRef) : List CellRef := l.filter (fun c => c.1 != id)
  let head := (q.head.map out).filter (fun l => !l.isEmpty)
  let tail := out q.tail
  let freed := (q.head.length - head.length) + (if q.tail ≠ [] ∧ tail = [] then 1 else 0)
  (addSegs (x / 4) freed s).setEq x k { q with head := head, tail := tail }

/-- Empties a queue: its segments and blocks are free. -/
def emptyQueue (x k : Nat) (s : State) : State :=
  let q := s.eq x k
  let n := x / 4
  let segs := q.head.length + (if q.tail = [] then 0 else 1) +
    (q.mid.filter (fun b => b.writing || b.reading)).length
  let s := addSegs n segs s
  let s := giveBlocks n q.mid.length s
  let s := if q.mid = [] then s else addSpillQ n (-1) s
  s.setEq x k {}

/-- Empties every queue of an egress port: `lose` says what becomes of each unit. The cells of a unit that
have not arrived are dropped when they do. -/
def clearQueues (x : Nat) (lose : CUnit → State → State) (s : State) : State :=
  let ks := (s.eport x).queues.map (fun e => e.1)
  let s := ks.foldl (fun s k =>
    let q := s.eq x k
    let cells := q.head.flatten ++ q.mid.flatMap (fun b => b.cells) ++ q.tail
    q.units.foldl (fun s id => match s.unit id with
      | none => s
      | some u =>
        let s := lose u s
        if cells.any (fun c => c.1 == id && c.2 + 1 == u.cells) then doneUnit id s
        else s.setUnit id { u with hdrBad := true }) (emptyQueue x k s)) s
  s.onEport x (fun e => { e with sending := .none, aside := [], sched := { last7 := e.sched.last7 } })

end Sys2Proof.Machine
end

