-- ==== Sys2Proof/Machine/Owners.lean ====
section
/-! DEFINITION. Owners of queues, channels and regions, and the fields of contexts and descriptors that name them
(R383, R384, R389, R408, R416, R473). -/

namespace Sys2Proof.Machine

/-- An owner, coded by OKIND and OWNER (R383). -/
structure Owner where
  slice : Bool
  num : Nat
  deriving DecidableEq, Repr

/-- Is slice `t` bound in the Active Set (R473)? -/
def sliceBound (s : State) (t : Nat) : Bool := bit (s.act (Reg.GLB_SLICE t 0)).toNat 0

/-- PART of slice `t`. -/
def slicePart (s : State) (t : Nat) : Nat := bits (s.act (Reg.GLB_SLICE t 0)).toNat 1 6

/-- The partition of an owner: none of a slice that is not bound. -/
def ownerPart (s : State) (o : Owner) : Option Nat :=
  if o.slice then (if sliceBound s o.num then some (slicePart s o.num) else none) else some o.num

/-- The slice of an owner. -/
def Owner.sliceNum (o : Owner) : Option Nat := if o.slice then some o.num else none

/-- Bits of word `w` of a context. -/
def Queue.f (q : Queue) (w lo n : Nat) : Nat := bits (nth 0 q.w w).toNat lo n
/-- OKIND and OWNER. -/
def Queue.owner (q : Queue) : Owner := ⟨q.f 3 0 1 == 1, q.f 3 1 12⟩
/-- FME. -/
def Queue.fme (q : Queue) : Nat := q.f 3 13 6
/-- The words of a descriptor (R416); a failed fetch has none, and its fields read 0. -/
def Desc.f (d : Desc) (w lo n : Nat) : Nat := bits (nth 0 d.ws w).toNat lo n
/-- OP. -/
def Desc.op (d : Desc) : Nat := d.f 0 0 8

/-- Is a descriptor a FENCE or WAIT that is waiting? -/
def Desc.waits (d : Desc) : Bool := d.status.isNone && (d.op == 5 || d.op == 6)

/-- Changes the engines. -/
def State.onEng (s : State) (f : Engines → Engines) : State := { s with eng := f s.eng }

/-- FME `e` as initiator. -/
def State.fme (s : State) (e : Nat) : Engine := Tab.get {} s.eng.fme e

/-- Changes FME `e`. -/
def State.onFme (s : State) (e : Nat) (f : Engine → Engine) : State :=
  s.onEng (fun g => { g with fme := Tab.set {} g.fme e (f (Tab.get {} g.fme e)) })

/-- Message `mid` of FME `e`. -/
def State.msg (s : State) (e mid : Nat) : Option Msg := (s.fme e).msgs.find? (fun m => m.mid == mid)

/-- Changes message `mid` of FME `e`. -/
def State.onMsg (s : State) (e mid : Nat) (f : Msg → Msg) : State :=
  s.onFme e (fun g => { g with msgs := g.msgs.map (fun m => if m.mid = mid then f m else m) })

end Sys2Proof.Machine
end

