-- ==== Sys2Proof/Machine/Eligible.lean ====
section
/-! DEFINITION. Which queues of an egress port are eligible: lengths, rates, shapers, credit (R274, R275, R299, R363,
R364, R367 to R369). -/

namespace Sys2Proof.Machine

/-- Configured width of fabric port `f`. -/
def fabWidth (v : View) (n f : Nat) : Nat := (nth (0, 0) (layout (stnWidth v n)) f).2

/-- Units that a packet occupies in the replay buffer, and that it needs as credit (R234, R238). -/
def pktUnits (p : Packet) : Nat := p.len + 1

/-- Units in use in a replay buffer. -/
def rplUse (l : Link) : Nat := l.replay.foldl (fun k x => k + pktUnits x.pkt) 0

/-! ## Lengths, rates and shapers -/

/-- The length that the scheduler and the shapers charge a unit (R363). -/
def unitLen (s : State) (x : Nat) (u : CUnit) : Nat :=
  let ovh := bits (s.act (Reg.SCH_OVH (x / 4))).toNat (8 * (x % 4)) 8
  match u.body with
  | .tlp _ _ t => t.length + ovh
  | .pkt p r => 32 * p.len + 20 + ovh + r.elim 0 (fun r => 32 * r.len + 20 + ovh)
  | .short _ => 16

/-- TLP bytes in Mb/s that a PCI Express lane carries at a rate code (R16; line coding of PCI Express). -/
def laneRate (flit : Bool) : Nat → Nat
  | 6 => 118000 | 5 => 59000
  | 4 => if flit then 29500 else 31507
  | 3 => if flit then 14750 else 15753
  | 2 => if flit then 7375 else 7876
  | 1 => 4000
  | _ => 2000

/-- The payload rate of a port at its width in use, in Mb/s, or at its trained width, before an L0p narrowing (R16, R275). -/
def portRate (s : State) (x : Nat) (trained : Bool := false) : Nat :=
  let n := x / 4
  match stnKind s.act n with
  | .fabric => (s.lnk n (x % 4)).use.length * (if s.actB (Reg.LINK_CTL n) Fld.LINK_CTL_FLRATE then 204000 else 102000)
  | .pcie =>
    let a := Reg.PORT_STAT n (x % 4)
    2 ^ (s.livF a Fld.PORT_STAT_LWIDTH - if trained then 0 else (s.pp x).narrow) * laneRate (s.livB a Fld.PORT_STAT_FLIT) (s.livF a Fld.PORT_STAT_RATE)
  | .unused => 0

/-- The payload rate of the narrowest enabled port of station `n` at its trained width. -/
def narrowest (s : State) (n : Nat) : Nat :=
  (((List.range 4).filter (fun p => portEnabled s.act n p)).map (fun p => portRate s (4 * n + p) true)).foldl
    (fun m r => if m = 0 ∨ r < m then r else m) 0

/-- The credit of shaper `c` of port `x` in 1/8,000 B, none when it is off (R368, R369). A shaper without a record has its
full BURST: since the reset (R369), or, DESIGN CHOICE (log entry 98), since the cut that raised its RATE from 0. -/
def shpCredit (s : State) (x c : Nat) : Option Int :=
  let rate := min 1800000 ((s.act (Reg.GLB_SHP (x / 4) (x % 4) c 0)).toNat % 2 ^ 21)
  let cap : Int := ((max 1 ((s.act (Reg.GLB_SHP (x / 4) (x % 4) c 1)).toNat % 2 ^ 24) * 8000 : Nat) : Int)
  if rate = 0 then none
  else match Tab.find (s.eport x).shp c with
    | none => some cap
    | some (v, t) => some (min cap (v + ((rate * (s.now - t) : Nat) : Int)))

/-- Does shaper `c` of port `x` permit service? -/
def shpOk (s : State) (x c : Nat) : Bool :=
  match shpCredit s x c with
  | none => true
  | some v => decide (0 < v)

/-- Charges a shaper with `len` bytes. -/
def shpCharge (x c len : Nat) (s : State) : State :=
  match shpCredit s x c with
  | none => s
  | some v => s.onEport x (fun e => { e with shp := Tab.put e.shp c (v - ((len * 8000 : Nat) : Int), s.now) })

/-! ## Eligibility (R364, R367) -/

/-- The number of cells of a unit that stand ready in a queue. -/
def hereCells (s : State) (x k id : Nat) : Nat := ((s.eq x k).ready.filter (fun c => c.1 == id)).length

/-- The unit at the head of a queue, those standing aside left out. -/
def headUnit (s : State) (x k : Nat) : Option Nat :=
  ((s.eq x k).ready.find? (fun c => !(s.eport x).aside.any (fun a => a.1 == c.1))).map (fun c => c.1)

/-- May a unit begin (R274, R275, R299)? -/
def canBegin (s : State) (x k id : Nat) (u : CUnit) : Bool :=
  let here := hereCells s x k id
  let rin := narrowest s u.src
  let rout := portRate s x
  here == u.cells ||
  (decide (stnKind s.act (x / 4) = .fabric) && (s.eq x k).mid.isEmpty && u.origin != .internal &&
    (s.eport x).sending == .none && decide (1 ≤ here) &&
    (decide (rout ≤ rin) || decide (u.cells * (rout - rin) ≤ here * rout)))

/-- Does a fabric link carry data: in UP or REQ, until it pauses (R242)? -/
def carries (s : State) (n f : Nat) : Bool :=
  (s.flState n f == 3 || s.flState n f == 4) && (s.lnk n f).pausing.isNone

/-- Units that the replay buffer of a fabric port holds (R238). -/
def replayCap (s : State) (n f : Nat) : Nat := if fabWidth s.act n f = 8 then 12288 else 6144

/-- Does a fabric link take a unit's packets, but for credit: the link carries data, and the replay buffer has room
(R238)? -/
def fabReady (s : State) (x : Nat) (u : CUnit) : Bool :=
  let n := x / 4
  let f := x % 4
  let l := s.lnk n f
  match u.body with
  | .pkt p r =>
    let units := pktUnits p + r.elim 0 pktUnits
    carries s n f &&
    decide (rplUse l + units ≤ replayCap s n f) && decide (l.replay.length + (if r.isSome then 2 else 1) ≤ 32767)
  | _ => false

/-- Does the credit of a fabric link cover a unit's packets (R234)? -/
def fabCredit (s : State) (x : Nat) (u : CUnit) : Bool :=
  let l := s.lnk (x / 4) (x % 4)
  match u.body with
  | .pkt p r =>
    let credit := match Tab.get none l.cumRx p.vc with
      | some c => (c + 2 ^ 16 - Tab.get 0 l.sent p.vc) % 2 ^ 16
      | none => 0
    decide (pktUnits p + r.elim 0 pktUnits ≤ credit)
  | _ => false

/-- Does the link partner's credit cover a TLP? -/
def fcOk (s : State) (x : Nat) (t : Tlp) : Bool :=
  let c := Tab.get (0, 0) (s.eport x).fc (fcType t)
  decide (1 ≤ c.1) && decide (fcData t ≤ c.2)

/-- Does a non-posted request at the head of queue `k` stand aside: without credit, or behind another of its
queue (R367)? -/
def standsAside (s : State) (x k : Nat) (t : Tlp) : Bool :=
  t.nonPosted && (!fcOk s x t || (s.eport x).aside.any (fun a => a.2 == k))

/-- The queue that a stomped packet keeps waiting (R276). -/
def stompedQueue (s : State) (x : Nat) : Option Nat :=
  match (s.eport x).sending with
  | .stomped _ g q => some (qKey g q)
  | _ => none

/-- The unit at the head of queue `k` of egress port `x`, when all but shapers and link credit lets it go (R364). -/
def headReady (s : State) (x k : Nat) : Option CUnit :=
  match (headUnit s x k).bind (fun id => (s.unit id).map (fun u => (id, u))) with
  | none => none
  | some (id, u) =>
    let ok := k % 16 != 8 && canBegin s x k id u && stompedQueue s x != some k &&
      match u.body with
      | .tlp _ _ t => !standsAside s x k t || decide ((s.eport x).aside.length < 16)
      | .pkt .. => fabReady s x u
      | .short _ => false
    if ok then some u else none

/-- Does link credit cover a unit, or does it stand aside without (R234, R364, R367)? -/
def creditOk (s : State) (x k : Nat) (u : CUnit) : Bool :=
  match u.body with
  | .tlp _ _ t => standsAside s x k t || fcOk s x t
  | _ => fabCredit s x u

/-- Do the shapers permit service of a class (R368, R369)? -/
def shapersOk (s : State) (x c : Nat) : Bool := (decide (8 ≤ c) || shpOk s x c) && shpOk s x 8

/-- Is queue `k` of egress port `x` eligible (R364)? -/
def eligible (s : State) (x k : Nat) : Bool :=
  match headReady s x k with
  | none => false
  | some u => creditOk s x k u && shapersOk s x (k % 16)

/-- Brings the turn lists up to the eligible queues `es`, and clears the deficits of empty ones (R366). -/
def syncSched (s : State) (x : Nat) (es : List Nat) : Sched :=
  let d := (s.eport x).sched
  let es := es.filter (fun k => k % 16 != 7)
  let gs := dedup (es.map (fun k => k / 16))
  let empty (k : Nat) : Bool := (s.eq x k).isEmpty
  let emptyG (g : Nat) : Bool := (List.range 10).all (fun c => c == 7 || c == 8 || empty (qKey g c))
  let glist := d.glist.filter (fun g => gs.contains g)
  let newG := gs.filter (fun g => !glist.contains g)
  let clistOf (g : Nat) : List Nat :=
    let old := (Tab.get [] d.clist g).filter (fun c => es.contains (qKey g c))
    old ++ ((es.filter (fun k => k / 16 == g)).map (fun k => k % 16)).filter (fun c => !old.contains c)
  let newC := es.filter (fun k => !(Tab.get [] d.clist (k / 16)).contains (k % 16))
  { d with
    glist := glist ++ newG
    clist := gs.foldl (fun t g => Tab.put t g (clistOf g)) []
    gdef := Tab.keep (fun g => !emptyG g) d.gdef
    cdef := Tab.keep (fun k => !empty k) d.cdef
    gfresh := newG.foldl (fun t g => Tab.put t g true) d.gfresh
    cfresh := newC.foldl (fun t k => Tab.put t k true) d.cfresh }

/-- The eligible queues of port `x`. -/
def eligibles (s : State) (x : Nat) : List Nat := ((s.eport x).queues.map (fun e => e.1)).filter (fun k => eligible s x k)

/-- The turn lists of port `x` follow its queues and credits (R366). DESIGN CHOICE (log entry 121): a queue that becomes
eligible by the growth of shaper credit alone joins at the port's next event. -/
def resched (x : Nat) (s : State) : State := s.onEport x (fun e => { e with sched := syncSched s x (eligibles s x) })

/-! ## Waits that performance counters count (R583) -/

/-- ns until shaper `c` of port `x` permits service. -/
def shpWait (s : State) (x c : Nat) : Nat :=
  match shpCredit s x c with
  | none => 0
  | some v => if 0 < v then 0
    else (-v).toNat / max 1 (min 1800000 ((s.act (Reg.GLB_SHP (x / 4) (x % 4) c 0)).toNat % 2 ^ 21)) + 1

/-- The queues of port `x` that wait for nothing but link credit, by class, over `k` ns. -/
def creditWaits (s : State) (x k : Nat) : List (Option Nat × Occ × Nat) :=
  (s.eport x).queues.filterMap (fun e =>
    match headReady s x e.1 with
    | some u => if !creditOk s x e.1 u && shapersOk s x (e.1 % 16)
        then some (some (x % 4), { cls := some (e.1 % 16) }, k) else none
    | none => none)

/-- The queues of port `x` from which a shaper withholds service, by class, with the part of `k` ns for which it
does. -/
def shapeWaits (s : State) (x k : Nat) : List (Option Nat × Occ × Nat) :=
  (s.eport x).queues.filterMap (fun e =>
    let c := e.1 % 16
    match headReady s x e.1 with
    | some u => if creditOk s x e.1 u && !shapersOk s x c then
        some (some (x % 4), { cls := some c }, min k (max (if c < 8 then shpWait s x c else 0) (shpWait s x 8)))
      else none
    | none => none)

/-- The FENCEs and WAITs of queues of FME `e` that wait, over `k` ns. -/
def chainWaits (s : State) (e k : Nat) : List (Option Nat × Occ × Nat) :=
  s.eng.qs.filterMap (fun q =>
    if q.2.fme == e && q.2.descs.any Desc.waits then some (none, { master := ownerPart s q.2.owner }, k) else none)

/-- Counters of unit `u` that count by the tick: CREDIT_WAIT, SHAPE_WAIT, CHAIN_WAIT, BUSY. -/
def tickWaits (k u : Nat) (s : State) : State :=
  if (s.liv (Reg.PC_CTL u)).toNat / 2 % 2 ^ 8 = 0 then s
  else if u < 24 then
    let ports := (List.range 4).map (fun p => 4 * u + p)
    let s := perfAny u 8 (ports.flatMap (fun x => shapeWaits s x k)) s
    perfAny u 7 (ports.flatMap (fun x => creditWaits s x k)) s
  else if u < 72 then perfAny u 7 (chainWaits s (u - 24) k) s
  else if u = 73 ∧ s.dir.longop.isSome then perf u 3 none k {} s
  else s

end Sys2Proof.Machine
end

