-- ==== Sys2Proof/Machine/Clock.lean ====
section
/-! DEFINITION. The passing of time (R578, log entries 2 and 3). -/

namespace Sys2Proof.Machine

/-- The fixed tick counter of PERF unit `u` adds `k` ticks while it runs; passing 2^48 - 1 sets its OVF
bit (R578, R579). -/
def fixTick (k u : Nat) (s : State) : State :=
  if bit (s.liv (Reg.PC_CTL u)).toNat 0 then
    let c := s.liv64 (Reg.PC_FIX_LO u) + k
    let s := s.setLiv64 (Reg.PC_FIX_LO u) (c % 2 ^ 48)
    if 2 ^ 48 ≤ c then s.setLiv (Reg.PC_OVF u) (s.liv (Reg.PC_OVF u) ||| 1) else s
  else s

/-- The correction of fabric time in `k` ns: the rate's, and while a phase is left the phase's, together at most 100 ppm
(R251). -/
def slewStep (k : Nat) (t : TimeSync) : Int × TimeSync :=
  let r := t.racc + t.rate * k
  let byRate := r.fdiv 1000000000
  let t := { t with racc := r.fmod 1000000000 }
  if t.slew = 0 then (byRate, { t with acc := 0 })
  else
    let n : Int := ((t.acc + k) / 10000 : Nat)
    let d := if 0 < t.slew then min t.slew n else max t.slew (-n)
    let c := max (-n) (min n (d + byRate))
    (c, { t with slew := t.slew - (c - byRate), acc := (t.acc + k) % 10000 })

/-- `k` ns pass for GLB_DRIFT_BW: at each whole microsecond it takes the rates of the one that ends, in GB/s (R313, log
entry 94). -/
def driftBw (k : Nat) (s : State) : State :=
  let d := (s.now + k) / 1000 - s.now / 1000
  if d = 0 then s
  else
    let rate (b : Nat) : Nat := if d = 1 then min 65535 (b / 1000) else 0
    { s.setLivN Reg.GLB_DRIFT_BW (rate s.drift.queues + rate s.drift.others * 2 ^ 16) with drift := {} }

/-- `k` ns pass: the 1 GHz timebase and local fabric time both advance, fabric time with its phase correction, and the
counters that count by the tick. -/
def State.advance (s : State) (k : Nat) : State :=
  if k = 0 then s else
  let e := slewStep k s.dp.time
  let ft := (((s.ft + k : Nat) : Int) + e.1).toNat % 2 ^ 64
  let s := driftBw k (forUpto 74 (tickWaits k) s)
  forUpto 74 (fixTick k) { s with now := s.now + k, ft := ft, dp := { s.dp with time := e.2 } }

/-- Time passes until `now` reaches `t`. -/
def State.reach (s : State) (t : Nat) : State := s.advance (t - s.now)

/-- Time passes until fabric time reaches `t`; the later passes make up for a correction on the way. -/
def State.reachFt (s : State) (t : Nat) : State := forUpto 8 (fun _ s => s.advance (t - s.ft)) s

end Sys2Proof.Machine
end

