-- ==== Sys2Proof/Machine/Prot.lean ====
section
/-! DEFINITION. The protection unit's check (R532 to R541). -/

namespace Sys2Proof.Machine

/-- The protection slot that covers an address (R534). -/
def protSlotOf (a : Nat) : Nat :=
  if a < 0x100000 then 0
  else if a < 0x280000 then 1 + (a - 0x100000) / 0x10000
  else if a < 0x4C0000 then 25 + (a - 0x400000) / 0x4000
  else if a < 0x5C0000 then 73
  else if a < 0x600000 then 74
  else if a < 0x6C0000 then 75
  else if a < 0x700000 then 76
  else if a < 0x780000 then 77
  else if a < 0x800000 then 78
  else if a < 0xC00000 then 79
  else 80

/-- Is an identity a user master (R532)? -/
def isUser (who : Nat) : Bool := decide (who < 48)

/-- The fixed rules of R538, for a register at `a`. -/
def fixedRefuses (who a : Nat) (write : Bool) : Bool :=
  let k := protSlotOf a
  (write && isUser who && (k == 76 || k == 77)) ||
  (write && a == Reg.SEC_OTP_CMD && who != 49 && who != 51) ||
  (!write && k == 79 && isUser who && (a - 0x800000) / 0x100 != who)

/-- The mask bit of an identity in a slot's RMASK or WMASK; bits 0 to 47 of the write masks of slots 76
and 77 have no effect (R535, R538). -/
def maskBit (s : State) (k who : Nat) (write : Bool) : Bool :=
  let base := if write then 4 else 2
  let m := join64 (s.liv (Reg.PROT_SLOT k base)) (s.liv (Reg.PROT_SLOT k (base + 1)))
  bit m who && !(write && isUser who && (k == 76 || k == 77))

/-- The default map of R539, for a privileged master. -/
def defaultMap (k who : Nat) (write : Bool) : Bool :=
  decide (48 ≤ who) && decide (who ≤ 55) &&
  (!write || (if k = 76 then decide (who ≤ 51) else if k = 77 then who == 49 || who == 51 else true))

/-- Check 3 of R536 at slot `k`: the CAUSE of a refusal (R555), or none. -/
def slotRefuses (s : State) (k who : Nat) (write : Bool) : Option Nat :=
  let en := s.livB Reg.PROT_CTL Fld.PROT_CTL_EN
  if en && bit (s.liv (Reg.PROT_SLOT k 0)).toNat 0 then
    if maskBit s k who write then none else some 1
  else if isUser who then some (if en then 2 else 3)
  else if defaultMap k who write then none else some 5

/-- Checks 2 and 3 of R536 for a register at `a`: the CAUSE of a refusal, or none. -/
def protRefuses (s : State) (who a : Nat) (write : Bool) : Option Nat :=
  if fixedRefuses who a write then some 4 else slotRefuses s (protSlotOf a) who write

/-- The unit refuses an access: counted, logged, and PROT_FAULT raised (R541). `path` is the PATH code
of R555. -/
def protFault (who a : Nat) (write : Bool) (cause path : Nat) (s : State) : State :=
  let s := s.bump Reg.PROT_FAULTCNT
  let s := s.setLivN (Reg.PROT_FAULTLOG 0) (a % 2 ^ 24 + who * 2 ^ 24 + b2n write * 2 ^ 30)
  let s := s.setLivN (Reg.PROT_FAULTLOG 1) (cause + path * 8)
  s.raiseLimited (gEvt 29)

/-- The identity of a reading path (R532). -/
def pathIdent (s : State) : Path → Nat
  | .director => 63
  | .bar p => if p.val = s.fmPart then 48 else p.val
  | .i3c => 49
  | .jtag => 50

/-- The PATH code of PROT_FAULTLOG (R555). -/
def pathCode : Path → Nat
  | .director => 0
  | .bar _ => 1
  | .i3c => 2
  | .jtag => 3

/-- Is slice `t` bound in the Active Set to partition `q` (GLB_SLICE word 0)? -/
def sliceOf (v : View) (t q : Nat) : Bool :=
  let w := (v (Reg.GLB_SLICE t 0)).toNat
  bit w 0 && bits w 1 6 == q

/-- The words that the partition view of R540 and the zero rule of R575 hide from user master `q`. -/
def hidden (s : State) (q a : Nat) : Bool :=
  let per (base stride count : Nat) : Bool :=
    decide (base ≤ a) && decide (a < base + stride * count) && (a - base) / stride != q
  let inr (lo hi : Nat) : Bool := decide (lo ≤ a) && decide (a < hi)
  per 0x10000 0x200 48 || per 0x18000 0x80 48 || per 0x200 8 48 || per 0x1200 0x10 48 ||
  per 0x1500 4 48 || per 0x800 0x10 48 || per 0x64000 0x20 48 || per 0xE00 8 48 || per 0xF80 4 48 ||
  per 0x680080 8 48 || per 0x680300 8 48 ||
  (inr 0xA0000 0xC0000 && !sliceOf s.act ((a - 0xA0000) / 0x20) q) ||
  (inr 0x70000 0x90000 && !sliceOf s.act ((a - 0x70000) / 0x20) q) ||
  (inr 0x30000 0x50000 && bits (s.act (Reg.GLB_VFB ((a - 0x30000) / 0x20) 0)).toNat 8 6 != q) ||
  (inr 0x1F000 0x1F800 && bits (s.act (Reg.GLB_IMP ((a - 0x1F000) / 8) 0)).toNat 1 6 != q) ||
  inr 0x1E000 0x1E300 ||
  inr 0x1900 0x1980 || a == Reg.GLB_EVT_LAST || a == Reg.GLB_ERR_STAT || inr 0x19C4 0x19CC ||
  a == Reg.GLB_CLK_STAT

end Sys2Proof.Machine
end

