-- ==== Sys2Proof/Machine/Mailbox.lean ====
section
/-! DEFINITION. The mailboxes (R26 to R36): words in, words out, packets. With the takes of the Director they are the
only way to change the device by software; a read that removes a word or latches one changes only that (R21). -/

namespace Sys2Proof.Machine

/-- DEV_READY is high: boot has completed (R135). -/
def State.devReady (s : State) : Bool := s.boot.step == 9

/-- The boot has failed (R140). -/
def State.bootFailed (s : State) : Bool :=
  s.livF Reg.GLB_BOOTSTAT Fld.GLB_BOOTSTAT_STATE == 2

/-- Is the path of R27 to mailbox `m` open (R136, R140)? -/
def mboxOpen (s : State) (m : Nat) : Bool :=
  s.devReady || (s.bootFailed && (m == 49 || m == 50))

/-- Can requests reach the management BAR of partition `q` (R195): the partition enabled, its upstream
link up, the management function not in D3hot? -/
def barOpen (s : State) (q : Nat) : Bool :=
  (match upstreamOf s.act q with
   | none => false
   | some (n, p) => s.dlUp n p) && bits (s.cfgR q 1 .pmcsr).toNat 0 2 != 3

/-- Does a path reach the ports of mailbox `m` (R27)? -/
def reachesMbox (s : State) (path : Path) (m : Nat) : Bool :=
  mboxOpen s m &&
  match path with
  | .director => false
  | .bar p => barOpen s p.val && (m == p.val || (m == 48 && s.fmPart == p.val))
  | .i3c => m == 49
  | .jtag => m == 50

/-- The number of words after the last end mark: the length of the open packet (R31). -/
def openLen (q : List MWord) : Nat := q.foldl (fun k w => if w.last || w.forced then 0 else k + 1) 0

/-- A FIFO without its open packet. -/
def closedWords (q : List MWord) : List MWord := q.take (q.length - openLen q)

/-- Counts `k` words that mailbox `m` discards (R31, R583). -/
def mbDrop (m k : Nat) (s : State) : State := perf 73 4 none k { master := some m } (s.bump (Reg.MBOX_DROPCNT m) k)

/-- The mailbox discards the open packet and one word beside it; DISCARDING stands unless the word
carried the end mark (R28, R31). DESIGN CHOICE (log entry 97): a discarded partial word bound for IN_LAST clears a
DISCARDING that stands already, as the end mark does. -/
def dropOpen (m : Nat) (last : Bool) (s : State) : State :=
  let b := s.mb m
  let s := mbDrop m (1 + openLen b.inq) s
  s.setMb m { b with inq := closedWords b.inq, discarding := !last }

/-- Sets the STAT flag `f` of mailbox `m` when `c` holds. -/
def dropFlag (m : Nat) (f : Fld) (c : Bool) (s : State) : State :=
  if c then s.setLivF (Reg.MBOX_STAT m) f 1 else s

/-- A word arrives at the inbound port of mailbox `m`: accepted, or discarded under R31; a packet that
reaches 2,050 words without an end mark is closed as malformed (R34); the 8,192nd packet finds the FIFO full
(R310). -/
def wordIn (m : Nat) (d : DWord) (last : Bool) (s : State) : State :=
  let b := s.mb m
  let busy := s.dir.longop.isSome
  let full := decide (8192 ≤ b.inq.length) || (last && decide (8191 ≤ pktCount b.inq))
  if busy || full || b.discarding then
    let s := dropFlag m Fld.MBOX_STAT_DROP_BUSY busy s
    let s := dropFlag m Fld.MBOX_STAT_DROP_FULL full s
    let s := dropFlag m Fld.MBOX_STAT_DROP_FRAG b.discarding s
    if busy || full then dropOpen m last s
    else (mbDrop m 1 s).setMb m { b with discarding := !last }
  else
    let forced := !last && openLen b.inq + 1 == 2050
    s.setMb m { b with
      inq := b.inq ++ [{ word := d, last := last, forced := forced }]
      discarding := forced }

/-- IN_WORD (R26, R28): a write to the IN_WORD port of mailbox `m` through the management BAR of
partition `p`; `full` says that it is an 8-byte write aligned to 8 bytes. Any other write, and any other
path, has no effect (R27). -/
def execInWord (p : Fin 48) (m : Fin 64) (full : Bool) (d : DWord) (s : State) :
    Host.Outcome State Fault Refusal :=
  .next (if full && reachesMbox s (.bar p) m.val then wordIn m.val d false s else s)

/-- IN_LAST (R31): as IN_WORD, with the end mark. -/
def execInLast (p : Fin 48) (m : Fin 64) (full : Bool) (d : DWord) (s : State) :
    Host.Outcome State Fault Refusal :=
  .next (if full && reachesMbox s (.bar p) m.val then wordIn m.val d true s else s)

/-- The partial word of a byte path. -/
def State.partialOf (s : State) : BytePath → Option Partial
  | .i3c => s.partI3c
  | .jtag => s.partJtag

/-- Replaces the partial word of a byte path. -/
def State.setPartial (s : State) (p : BytePath) (x : Option Partial) : State :=
  match p with
  | .i3c => { s with partI3c := x }
  | .jtag => { s with partJtag := x }

/-- The path as a reading path. -/
def bytePath : BytePath → Path
  | .i3c => .i3c
  | .jtag => .jtag

/-- A partial word is discarded: counted as a word discarded for a full FIFO, with DROP_FRAG in place of
DROP_FULL (R28). DESIGN CHOICE (log entry 96): it sets DROP_FRAG alone, also while GLB_DIRSTAT.BUSY is 1, and DROP_BUSY
stays. -/
def dropPartial (x : Partial) (s : State) : State :=
  dropOpen x.mbox x.last (s.setLivF (Reg.MBOX_STAT x.mbox) Fld.MBOX_STAT_DROP_FRAG 1)

/-- A byte joins the partial word `x`; the eighth completes the word (R28). -/
def byteJoin (path : BytePath) (x : Partial) (b : Byte) (s : State) : State :=
  let x := { x with bytes := x.bytes ++ [b] }
  if x.bytes.length = 8 then
    wordIn x.mbox (BitVec.ofNat 64 (ofBytes x.bytes)) x.last (s.setPartial path none)
  else s.setPartial path (some x)

/-- MAILBOX_BYTE (R28): a byte arrives on a byte path at the IN_WORD (or IN_LAST) port of mailbox `m`. -/
def execMailboxByte (path : BytePath) (m : Fin 64) (last : Bool) (b : Byte) (s : State) :
    Host.Outcome State Fault Refusal :=
  .next (
    if reachesMbox s (bytePath path) m.val then
      match s.partialOf path with
      | none => byteJoin path ⟨m.val, last, []⟩ b s
      | some x =>
        if x.mbox = m.val ∧ x.last = last then byteJoin path x b s
        else byteJoin path ⟨m.val, last, []⟩ b (dropPartial x s)
    else s)

/-- Reads are answered on a path: zero bytes before the end of boot step 2 (R136). -/
def State.answer (s : State) (path : Path) (a data : Nat) : State := s.emit (.readData path a data)

/-- Can a direct read arrive on a path? A management BAR only when it is reachable (R195). -/
def pathLive (s : State) (path : Path) : Bool :=
  match path with
  | .director => false
  | .bar p => barOpen s p.val
  | _ => true

/-- The address of the OUT_WORD port of mailbox `m` (R29). -/
def outWordAddr (m : Nat) : Nat := 0x800010 + 0x100 * m

/-- OUT_WORD (R29, R590, R591): a direct read of the OUT_WORD port of mailbox `m`; `full` says that it is
an 8-byte read. It is checked at slot 79 (R533, R591); a refused read returns zero and removes nothing. -/
def execOutWord (path : Path) (m : Fin 64) (full : Bool) (s : State) : Host.Outcome State Fault Refusal :=
  let a := outWordAddr m.val
  let who := pathIdent s path
  .next (
    if !pathLive s path then s
    else if !s.boot.readable then s.answer path a 0
    else match protRefuses s who a false with
      | some c => (protFault who a false c (pathCode path) s).answer path a 0
      | none =>
        if full && reachesMbox s path m.val then
          match (s.mb m.val).outq with
          | [] => s.answer path a 0
          | w :: q =>
            let s := s.setMb m.val { s.mb m.val with outq := q, lastPop := w.last }
            (s.answer path a w.word.toNat).intx
        else s.answer path a 0)

end Sys2Proof.Machine
end

