-- ==== Sys2Proof/Machine/ReadWords.lean ====
section
/-! DEFINITION. The live value of a register word: the stored word, or what the machine holds elsewhere. -/

namespace Sys2Proof.Machine

/-- The code of GLB_DIRSTAT.LONGOP. -/
def LongKind.code : LongKind → Nat
  | .cut => 1 | .retrain .. => 2 | .width .. => 3 | .keyrev .. => 4 | .lull .. => 5

/-- GLB_DIRSTAT (R67): ORIGIN and PC are those of the executing take, and 0 when none executes. -/
def dirStat (s : State) : Nat :=
  b2n s.dir.longop.isSome + 2 * b2n s.dir.take.isSome + 4 * b2n s.dir.cutAt.isSome +
  8 * s.livF Reg.GLB_DIRSTAT Fld.GLB_DIRSTAT_LSFAIL +
  16 * (match s.dir.longop with
    | some l => l.kind.code
    | none => 0) +
  (match s.dir.take with
    | some t => t.origin * 2 ^ 8 + t.pc % 2 ^ 13 * 2 ^ 16
    | none => 0)

/-- The words of a mailbox's registers (R29). -/
def mboxWord (s : State) (m off : Nat) : Option Word :=
  let b := s.mb m
  if off = 0x20 then some (cntWord b.inq)
  else if off = 0x24 then some (cntWord b.outq)
  else if off = 0x2C then some ((s.liv (Reg.MBOX_STAT m) &&& 7) |||
    BitVec.ofNat 32 (8 * b2n b.lastPop + 16 * b2n b.discarding))
  else none

/-- Is a descriptor a FENCE or WAIT that is waiting (R148)? -/
def descWaits (d : Desc) : Bool :=
  let op := bits (nth 0 d.ws 0).toNat 0 8
  d.status.isNone && (op == 5 || op == 6)

/-- Is an FME operation in progress: a descriptor that moves data, an access served, a record on its way? -/
def fmeBusy (s : State) : Bool :=
  s.eng.qs.any (fun e => !e.2.ending.isEmpty || e.2.descs.any (fun d => !descWaits d)) || !s.eng.keys.held.isEmpty ||
  s.eng.reasm.any (fun e => e.2.any (fun r => r.recording))

/-- GLB_DRAINSTAT (R148). -/
def drainStat (s : State) : Nat :=
  let k :=
    2 * b2n (s.dp.units.any (fun e => !e.2.gone) || !s.dp.fab.mgmt.isEmpty || s.dp.fmeIn.any (fun e => !e.2.isEmpty)) +
    4 * b2n (!s.dp.np.isEmpty) +
    8 * b2n (fmeBusy s) +
    16 * b2n (s.eng.ch.any (fun e => e.2.cur.isSome)) +
    32 * b2n (s.dp.links.any (fun e => !e.2.replay.isEmpty)) +
    64 * b2n (s.dp.eport.any (fun e => e.2.lock != .free) || s.dp.fab.locks.any (fun l => l.granted))
  b2n (s.holds && k == 0) + k + 128 * b2n (s.holds &&
    (s.dp.ing.any (fun e => e.2.flow.any (fun f => !f.2.isEmpty)) || s.dp.links.any (fun e => !e.2.held.isEmpty)))

/-- GLB_SLICE_INFO of slice `t` (R486). -/
def sliceInfo (s : State) (t : Nat) : Nat :=
  let x := Tab.get {} s.eng.slices t
  x.st + 4 * b2n x.logsel + 8 * b2n x.flushing + 16 * b2n x.resetting + 32 * b2n x.late + 64 * b2n x.logbad +
  128 * (s.eng.log.filter (fun l => l.s == t)).length

/-- Words of an FME block: W and smoothed RTT of the node selected (R451). -/
def fmeWord (s : State) (e off : Nat) : Option Word :=
  let d := Tab.find (Tab.get {} s.eng.fme e).dests ((s.liv (Reg.DSTSEL e)).toNat % 2 ^ 12)
  if off = 0x21C then some (BitVec.ofNat 32 (d.elim 0 (fun d => d.w)))
  else if off = 0x220 then some (BitVec.ofNat 32 ((d.bind (fun d => d.rtt)).getD 0 % 2 ^ 16))
  else none

/-- SCH_SA (R379): requests on the stand-aside list of each port. -/
def schSa (s : State) (n : Nat) : Nat :=
  (List.range 4).foldl (fun k p => k + (s.eport (4 * n + p)).aside.length * 2 ^ (8 * p)) 0

/-- BUF_QDEPTH of the queue selected (R312). -/
def qDepth (s : State) (n : Nat) : Nat :=
  let w := s.liv (Reg.BUF_QSEL n)
  let g := fget w Fld.BUF_QSEL_GROUP
  if 48 < g then 0
  else
    let q := Tab.get {} (s.eport (4 * n + fget w Fld.BUF_QSEL_PORT)).queues (g * 16 + fget w Fld.BUF_QSEL_QUEUE)
    (q.head.flatten.length + q.tail.length) % 2 ^ 8 + q.mid.length * 2 ^ 8

/-- The words of a station that are held elsewhere. -/
def stnWord (s : State) (n off : Nat) : Option Word :=
  if off = 0x1E0C then some (BitVec.ofNat 32 (schSa s n))
  else if off = 0x1C30 then some (BitVec.ofNat 32 (qDepth s n))
  else none

/-- GLB words that are held elsewhere. -/
def glbWord (s : State) (a : Nat) : Option Word :=
  if a = Reg.GLB_DIRSTAT then some (BitVec.ofNat 32 (dirStat s))
  else if 0x200 ≤ a ∧ a < 0x380 ∧ a % 8 = 0 then some (BitVec.ofNat 32 (mintStat s ((a - 0x200) / 8)))
  else if a = Reg.GLB_DRAINSTAT then some (BitVec.ofNat 32 (drainStat s))
  else if a = Reg.GLB_RGN_SCNT then
    some (BitVec.ofNat 32 (Tab.get 0 s.eng.keys.scnt ((s.liv Reg.GLB_RGN_SSEL).toNat % 2 ^ 12)))
  else if a = Reg.GLB_SLICE_INFO then some (BitVec.ofNat 32 (sliceInfo s ((s.liv Reg.GLB_SLICE_SEL).toNat % 2 ^ 12)))
  else if a = Reg.GLB_SLICE_LCH_LO then
    some (lo32 (Tab.get {} s.eng.slices ((s.liv Reg.GLB_SLICE_SEL).toNat % 2 ^ 12)).lch)
  else if a = Reg.GLB_SLICE_LCH_HI then
    some (hi32 (Tab.get {} s.eng.slices ((s.liv Reg.GLB_SLICE_SEL).toNat % 2 ^ 12)).lch)
  else if a = Reg.GLB_SLATE_STAT then
    some (fset (s.liv a) Fld.GLB_SLATE_STAT_SIGNING (b2n (!s.slate.signing.isEmpty)))
  else if a = Reg.GLB_FT_NOW_LO then some (lo32 s.ft)
  else if a = Reg.GLB_FT_NOW_HI then some (hi32 s.ft)
  else if a = Reg.GLB_MTX_CTL then
    some (fset (s.liv a) Fld.GLB_MTX_CTL_COUNT s.dp.fab.mtx.length)
  else if a = Reg.GLB_MRX_LO then some (match s.dp.fab.mrx with
    | [] => 0
    | w :: _ => w.1.extractLsb' 0 32)
  else if a = Reg.GLB_MRX_HI then some (match s.dp.fab.mrx with
    | [] => 0
    | w :: _ => w.1.extractLsb' 32 32)
  else if a = Reg.GLB_MRX_CNT then some (BitVec.ofNat 32
    (s.dp.fab.mrx.length % 2 ^ 11 + (s.dp.fab.mrx.filter (fun w => w.2)).length % 2 ^ 10 * 2 ^ 11))
  else none

/-- The live value of a word that exists once. -/
def State.rd (s : State) (a : Nat) : Word :=
  let here :=
    if a < 0x10000 then glbWord s a
    else if 0x100000 ≤ a ∧ a < 0x280000 then stnWord s ((a - 0x100000) / 0x10000) (a % 0x10000)
    else if 0x400000 ≤ a ∧ a < 0x4C0000 then fmeWord s ((a - 0x400000) / 0x4000) (a % 0x4000)
    else if 0x800000 ≤ a ∧ a < 0x804000 then mboxWord s ((a - 0x800000) / 0x100) (a % 0x100)
    else if Reg.SEC_IDPUB 0 ≤ a ∧ a < Reg.SEC_IDPUB 488 then
      some (if s.boot.readable then nth 0 s.sec.idpub ((a - Reg.SEC_IDPUB 0) / 4) else 0)
    else none
  here.getD (s.liv a)

end Sys2Proof.Machine
end

