-- ==== Sys2Proof/Machine/Claims.lean ====
section
/-! DEFINITION. The Forecaster's claims and the test of a submission (R518 to R521). -/

namespace Sys2Proof.Machine

/-- The claim per lane in mW at a code of MAXRATE (R519). -/
def pcieLaneClaim : Nat → Nat
  | 6 => 502 | 7 => 502 | 5 => 360 | 4 => 240 | _ => 150

/-- The lane claim of station `n` under a set, in mW (R519); the rate of a fabric station is FLRATE, that of a PCI
Express station MAXRATE (R618). -/
def laneClaim (s : State) (v : View) (n : Nat) : Nat :=
  let w := v (Reg.LINK_CTL n)
  let lanes := (List.range 4).foldl (fun k p =>
    if portEnabled v n p then k + (nth (0, 0) (layout (stnWidth v n)) p).2 else k) 0
  match stnKind v n with
  | .unused => 0
  | .pcie => lanes * pcieLaneClaim (fget w Fld.LINK_CTL_MAXRATE)
  | .fabric =>
    lanes * (if fget w Fld.LINK_CTL_FLRATE = 1 then 620 else 380) +
    (if 0 < lanes ∧ fget (v (Reg.SPARE_CTL n)) Fld.SPARE_CTL_USE = 1 ∧ (s.stnRec n).spareWired then 100 else 0)

/-- The device claim in mW under the Active Set and a Shadow Set `sh` (R519). -/
def deviceClaim (s : State) (sh : View) : Nat :=
  let base (v : View) : Nat := (v Reg.FCST_BASE).toNat % 2 ^ 18
  max (base s.act) (base sh) +
    (List.range 24).foldl (fun k n => k + max (laneClaim s s.act n) (laneClaim s sh n)) 0

/-- FCST_CLAIM shows the device claim: brought up to date by each commit and each cut. -/
def claimReport (s : State) : State := s.setLivN Reg.FCST_CLAIM (deviceClaim s s.shd % 2 ^ 18)

/-- The slot claim of SPC `n` in W: SPC_STAT.LOADW (R519). -/
def slotClaim (s : State) (n : Nat) : Nat := s.livF (Reg.SPC_STAT n) Fld.SPC_STAT_LOADW

/-- Does slot `n` belong to partition `q` under a set (R518)? -/
def slotBelongs (v : View) (n q : Nat) : Bool :=
  let h := homeStn v n
  let down := (List.range 4).filter (fun p => pciePort v h p && !isUpstream v h p)
  !down.isEmpty && down.all (fun p => portPart v h p == q)

/-- The partition to which slot `n` belongs in the Active Set, if to one (R518). -/
def slotOwner (s : State) (n : Nat) : Option Nat := firstBelow 48 (slotBelongs s.act n)

/-- The partition claim of `q` in W under a Shadow Set `sh`, with `extra` added to slot `k` (R519). -/
def partClaim (s : State) (sh : View) (q : Nat) (k extra : Nat) : Nat :=
  let sum (v : View) : Nat := (List.range 24).foldl (fun t n =>
    let c := slotClaim s n + (if n = k then extra else 0)
    if c ≠ 0 ∧ slotBelongs v n q then t + c else t) 0
  max (sum s.act) (sum sh)

/-- The device power budget in W (R521). -/
def deviceBudget (s : State) : Nat :=
  let b := (s.act Reg.FCST_DEV).toNat % 2 ^ 12
  if b = 0 ∨ s.env.devcap < b then s.env.devcap else b

/-- The power budget of slot `n` in W (R521). -/
def slotBudget (s : State) (n : Nat) : Nat :=
  let b := (s.act (Reg.FCST_SLOT n)).toNat % 2 ^ 12
  if b = 0 ∨ (s.stnRec n).slotw < b then (s.stnRec n).slotw else b

/-- The power budget of partition `q` in W; 0 is no limit (R521). -/
def partBudget (s : State) (q : Nat) : Nat := (s.act (Reg.FCST_PART q 0)).toNat % 2 ^ 16

/-- Why a submission is refused: the budget and its slot or partition, as FCST_REFLOG codes them. -/
abbrev Refused := Nat × Nat

/-- A journal laid over the Shadow Set is submitted (R51, R520): refused when it raises the device claim
or a partition claim above the budget. -/
def journalRefused (s : State) (j : List (Nat × Word)) : Option Refused :=
  let sh := overlay s.shd j
  if deviceClaim s s.shd < deviceClaim s sh ∧ deviceBudget s * 1000 < deviceClaim s sh then some (0, 0)
  else (firstBelow 48 (fun q =>
    partBudget s q != 0 && decide (partBudget s q < partClaim s sh q 24 0) &&
    decide (partClaim s s.shd q 24 0 < partClaim s sh q 24 0))).map (fun q => (2, q))

/-- An ENABLE of slot `n` with a load in W is submitted (R494, R520). -/
def enableRefused (s : State) (n load : Nat) : Option Refused :=
  if slotClaim s n < load ∧ slotBudget s n < load then some (1, n)
  else (firstBelow 48 (fun q =>
    partBudget s q != 0 && decide (partBudget s q < partClaim s s.shd q n (load - slotClaim s n)) &&
    decide (partClaim s s.shd q 24 0 < partClaim s s.shd q n (load - slotClaim s n)))).map (fun q => (2, q))

/-- A refusal is counted and logged with the origin (R520). -/
def budgetRefusal (r : Refused) (origin : Nat) (s : State) : State :=
  (s.bump Reg.FCST_REFCNT).setLivN Reg.FCST_REFLOG (r.1 + r.2 * 4 + origin * 2 ^ 8)

/-- OVERCLAIM is set when a claim exceeds its budget (R521). -/
def overclaimed (s : State) : Bool :=
  decide (deviceBudget s * 1000 < deviceClaim s s.shd) ||
  (List.range 24).any (fun n => decide (slotBudget s n < slotClaim s n)) ||
  (List.range 48).any (fun q => partBudget s q != 0 && decide (partBudget s q < partClaim s s.shd q 24 0))

end Sys2Proof.Machine
end

