-- ==== Sys2Proof/Machine/Cue.lean ====
section
/-! DEFINITION. Sending pulses on cue lines, and the ownership of lines (R465 to R468). -/

namespace Sys2Proof.Machine

/-- Line `l` is owned by partition `q` in the Active Set (R468). -/
def cueOwnedBy (v : View) (l q : Nat) : Bool :=
  let w := (v (Reg.CUE_ROUTE l)).toNat
  bit w 6 && bits w 0 6 == q

/-- May partition `q?` (none: the managers) use line `l` (R468)? -/
def cueMay (s : State) (q? : Option Nat) (l : Nat) : Bool :=
  match q? with
  | none => true
  | some q => cueOwnedBy s.act l q

/-- Line `l` accepts a pulse; one that finds 64 waiting is lost (R466). -/
def cueAccept (l : Nat) (s : State) : State :=
  let k := Tab.get 0 s.cues.waiting l
  if k < 64 then { s with cues := { s.cues with waiting := Tab.set 0 s.cues.waiting l (k + 1) } }
  else
    let s := s.bump Reg.CUE_LOSTCNT
    let s := s.setLivN Reg.CUE_STAT (1 + l * 256)
    s.raiseLimited (gEvt 20)

/-- A source of partition `q?` pulses line `l`; on a line its partition does not own the pulse is not
sent, and CUE_DENYCNT counts it (R468). -/
def cuePulse (q? : Option Nat) (l : Nat) (s : State) : State :=
  if cueMay s q? l then cueAccept l s else s.bump Reg.CUE_DENYCNT

/-- The partition of a take's origin: none for the managers (R468). -/
def originPart (o : Nat) : Option Nat := if o < 48 then some o else none

end Sys2Proof.Machine
end

