-- ==== Sys2Proof/Machine/Errors.lean ====
section
/-! DEFINITION. Uncorrectable and corrected errors of the stores (R564, R576). -/

namespace Sys2Proof.Machine

/-- GLB_ERR_LOG takes an uncorrectable error: LOC, KIND (1 SRAM, 2 configuration, 3 Drift) and STORE. -/
def errLog (loc kind store : Nat) (s : State) : State :=
  let s := s.setLivN (Reg.GLB_ERR_LOG 0) loc
  s.setLivN (Reg.GLB_ERR_LOG 1) (kind + store * 16 + s.ft / 2 ^ 8 % 2 ^ 24 * 2 ^ 8)

/-- An uncorrectable SRAM error of station `n` (31: global), with DEV_ERR and cause SRAMUE. -/
def sramUe (store n loc : Nat) (s : State) : State :=
  (errLog (loc % 2 ^ 24 + n * 2 ^ 24) 1 store (s.bump Reg.GLB_UECC_CNT)).devErr Fld.GLB_ERR_STAT_SRAMUE

/-- An uncorrectable Drift error, with DEV_ERR and cause DRIFTUE. -/
def driftUe (store loc : Nat) (s : State) : State :=
  (errLog (loc % 2 ^ 24) 3 store (s.bump Reg.GLB_DRIFT_UECCCNT)).devErr Fld.GLB_ERR_STAT_DRIFTUE

end Sys2Proof.Machine
end

