-- ==== Sys2Proof/Machine/Take.lean ====
section
/-! DEFINITION. Taking, running and ending a take: the shared operations of every Tylyn instruction
(R23, R36 to R38, R50 to R66). -/

namespace Sys2Proof.Machine

/-! ## Status codes (R63) -/

/-- The status codes of R63. -/
inductive Status where
  | ok | malformed | duplicate | illegal | address | protect | table | budget | timeout | aborted
  | sealed | pasttime | refused | overrun | lockstep
  deriving DecidableEq, Repr

/-- The code of a status (R63). -/
def Status.code : Status → Nat
  | .ok => 0 | .malformed => 1 | .duplicate => 2 | .illegal => 3 | .address => 4 | .protect => 5
  | .table => 6 | .budget => 7 | .timeout => 8 | .aborted => 9 | .sealed => 10 | .pasttime => 11
  | .refused => 12 | .overrun => 13 | .lockstep => 14

/-- The status word of R62. -/
def statusWord (serial : Nat) (st : Status) (rescnt pc : Nat) : DWord :=
  BitVec.ofNat 64 (serial % 2 ^ 32 * 2 ^ 32 + st.code * 2 ^ 24 + rescnt % 32 * 2 ^ 19 + pc % 2 ^ 13)

/-! ## Registers of a take (R37) -/

/-- A general register; G0 reads as zero. -/
def Take.g (t : Take) (i : Nat) : DWord := if i = 0 then 0 else Tab.get 0 t.regs i

/-- Writes a general register; G0 ignores writes. -/
def Take.setG (t : Take) (i : Nat) (v : DWord) : Take :=
  if i = 0 then t else { t with regs := Tab.set 0 t.regs i v }

/-- Execution time counted against the limit so far (R58, R61). -/
def Take.used (t : Take) (now : Nat) : Nat := now - t.startNow - t.free

/-- Time of the take's limit as an instant of `now` (R61). -/
def Take.limitAt (t : Take) : Nat := t.startNow + t.free + 2000000

/-- The take with a checkpoint of its present state (R65). -/
def Take.mark (t : Take) (now : Nat) : Take :=
  { t with ckpt := ⟨t.pc, t.regs, t.stack, t.journal, t.used now⟩ }

/-! ## Packets -/

/-- The words of the oldest whole packet of a FIFO, and the rest (R29, R34). -/
def firstPacket : List MWord → List MWord × List MWord
  | [] => ([], [])
  | w :: q => if w.last || w.forced then ([w], q) else
      let r := firstPacket q
      (w :: r.1, r.2)

/-- Words of a packet for a mailbox, the end mark on the last. -/
def asPacket (l : List DWord) : List MWord :=
  (l.zipIdx).map (fun e => ({ word := e.1, last := e.2 + 1 == l.length } : MWord))

/-- Writes words to the outbound FIFO of mailbox `m`, the end mark on the last. -/
def pushOut (m : Nat) (l : List DWord) (s : State) : State :=
  let b := s.mb m
  s.setMb m { b with outq := b.outq ++ asPacket l }

/-- The boot ROM reads the answer of a boot take (R139): after OK it places the next one, which is take `i + 1`. -/
def bootAnswer (code : Nat) (s : State) : State :=
  let b := s.boot
  let s := s.setMb 51 { s.mb 51 with outq := [], lastPop := true }
  match b.left with
  | [] => { s with boot := { b with answer := some code } }
  | p :: l =>
    if code = 0 then
      let s := s.setMb 51 { s.mb 51 with inq := asPacket p }
      { s with boot := { b with left := l, index := b.index + 1 } }
    else { s with boot := { b with answer := some code } }

/-- The answer of a take of mailbox `m` (R62): the status word and result words go to the outbound FIFO,
the take's words leave the inbound FIFO, and GLB_TAKECNT counts; the boot ROM goes on after a boot take. -/
def answerTake (m serial : Nat) (st : Status) (pc : Nat) (results : List DWord) (s : State) : State :=
  let b := s.mb m
  let s := s.setMb m { b with inq := (firstPacket b.inq).2 }
  let s := pushOut m (statusWord serial st results.length pc :: results) s
  let s := (perf 73 1 none 1 { master := some m } (s.bump Reg.GLB_TAKECNT)).intx
  if m = 51 ∧ s.boot.step = 8 then bootAnswer st.code s else s

/-- The executing take ends with a status and result words; its uncommitted journal is discarded (R50,
R62, R63). -/
def endWith (st : Status) (results : List DWord) (s : State) : State :=
  match s.dir.take with
  | none => s
  | some t => answerTake t.origin t.serial st t.pc results (s.setTake none)

/-- The executing take ends with a status other than OK (R63). -/
def endTake (st : Status) (s : State) : State := endWith st [] s

/-! ## Executing one instruction -/

/-- Can the Director execute an instruction: a take is executing, it does not wait, its limit is not reached, no long
operation is in progress, and no configuration write is held (R23, R57, R59, R61, R194)? -/
def ready (s : State) : Option Take :=
  match s.dir.take, s.dir.longop with
  | some t, none => if t.wait = .none ∧ s.now < t.limitAt ∧ s.parts.held = [] then some t else none
  | _, _ => none

/-- The executing take is held between two instructions from now on, where configuration writes are held and it would go on
(R194). -/
def stallTake (s : State) : State :=
  match s.dir.take, s.dir.longop with
  | some t, none =>
    if t.wait = .none ∧ t.stall = none ∧ s.parts.held ≠ [] then s.setTake (some { t with stall := some s.now }) else s
  | _, _ => s

/-- The executing take is held no more: the time does not count against its limit (R194). -/
def endStall (s : State) : State :=
  match s.dir.take with
  | some t => match t.stall with
    | some b => s.setTake (some { t with stall := none, free := t.free + (s.now - b) })
    | none => s
  | none => s

/-- A wait of take `t` ends in the state `u`, unless the limit of the take comes first (R61). -/
def waited (t : Take) (u : State) (go : State → State) (s : State) : State :=
  if u.now < t.limitAt then stallTake (go u) else endTake .timeout (s.reach t.limitAt)

/-- The instruction word at the program counter of the take that can execute now. -/
def fetch (s : State) : Option (Take × Nat) :=
  match ready s with
  | none => none
  | some t => some (t, (nth 0 t.code t.pc).toNat)

/-- The opcode of an instruction word (R38). -/
def opcode (w : Nat) : Nat := bits w 26 6

/-- Field d or s, [25:21] (R38). -/
def fD (w : Nat) : Nat := bits w 21 5
/-- Field a, [20:16] (R38); in format C field b. -/
def fA (w : Nat) : Nat := bits w 16 5
/-- Field b, [15:11] (R38). -/
def fB (w : Nat) : Nat := bits w 11 5
/-- Field imm16, [15:0] (R38). -/
def fImm (w : Nat) : Nat := bits w 0 16

/-- The executing take executes the instruction at its program counter, when that is of the opcode
`op` and satisfies `sel`; a reserved field (`rsv`) that is not zero makes it illegal (R38). Any other
word there leaves the state as it is: the command names an instruction that is not the next one (log
entry 3). -/
def insn (op rsv : Nat) (sem : Take → Nat → State → State) (s : State) (sel : Nat → Bool := fun _ => true) :
    Host.Outcome State Fault Refusal :=
  .next (match fetch s with
    | none => s
    | some (t, w) =>
      if opcode w = op ∧ sel w then
        if Nat.land w rsv ≠ 0 then endTake .illegal s else sem t w s
      else s)

/-- Counts an instruction of the take as retired (INSTR, R583). -/
def countInstr (t : Take) (s : State) : State := perf 73 2 none 1 { master := some t.origin } s

/-- The take goes on at index `pc`; an index outside 0 to LEN - 1 is illegal (R40). -/
def goTo (t : Take) (pc : Int) (s : State) : State :=
  if 0 ≤ pc ∧ pc < (t.code.length : Int) then countInstr t (s.setTake (some { t with pc := pc.toNat }))
  else endTake .illegal (s.setTake (some t))

/-- The instruction retires; execution that runs past index LEN - 1 is illegal (R40, log entry 10). -/
def retire (t : Take) (s : State) : State :=
  if t.pc + 1 < t.code.length then countInstr t (s.setTake (some { t with pc := t.pc + 1 }))
  else endTake .illegal (countInstr t (s.setTake (some t)))

/-- The instruction retires with a value for Gd. -/
def retireG (t : Take) (d : Nat) (v : DWord) (s : State) : State := retire (t.setG d v) s

/-- The instruction retires after an effect outside the Director, and a checkpoint is taken (R65). -/
def retireMark (t : Take) (s : State) : State :=
  let s := retire t s
  match s.dir.take with
  | none => s
  | some t => s.setTake (some (t.mark s.now))

/-! ## Long operations (R56 to R59) -/

/-- A long operation begins; `byTake` tells that an instruction of the executing take waits for it. -/
def startLong (k : LongKind) (byTake : Bool) (s : State) : State :=
  (endStall s).setLong (some { kind := k, started := s.now, byTake := byTake })

/-- The long operation in progress ends: BUSY clears, the instruction that waited retires, and its time
does not count against the take's limit (R57, R58). -/
def endLong (s : State) : State :=
  match s.dir.longop with
  | none => s
  | some l =>
    let s := s.setLong none
    match s.dir.take with
    | some t =>
      let t := { t with free := t.free + (s.now - l.started) }
      if l.byTake then retireMark t s else s.setTake (some t)
    | none => s

/-! ## Journal and commit (R50 to R52) -/

/-- Appends a write to the journal; a later write to the same address replaces the earlier one (R50). -/
def journalPut : List (Nat × Word) → Nat → Word → List (Nat × Word)
  | [], a, v => [(a, v)]
  | (b, w) :: j, a, v => if a = b then (b, v) :: j else (b, w) :: journalPut j a v

/-- Words of the Shadow Set that a journal writes no longer hold an error; SCFGUE clears with the last (R565). -/
def cleanShadow (j : List (Nat × Word)) (s : State) : State :=
  if s.regs.badS = [] then s
  else
    let l := s.regs.badS.filter (fun a => !j.any (fun e => e.1 == a))
    let s := { s with regs := { s.regs with badS := l } }
    if l = [] then s.setLivF Reg.GLB_ERR_STAT Fld.GLB_ERR_STAT_SCFGUE 0 else s

/-- Commits a journal to the Shadow Set with one COMMIT entry for each address, in journal order (R50,
R82). -/
def commit (t : Take) (s : State) : State :=
  claimReport <| cleanShadow t.journal <| t.journal.foldl (fun s e =>
    let old := s.shd e.1
    let s := s.setShd e.1 e.2
    s.log { origin := t.origin, serial := t.serial, kind := 0, pc := t.pc, loc := e.1,
            old := old.toNat, new := e.2.toNat }) s

/-- Submits the journal to the Forecaster, then does `go`; a refusal ends the take with BUDGET (R51). -/
def submitting (t : Take) (go : State → State) (s : State) : State :=
  match journalRefused s t.journal with
  | some r => endTake .budget (budgetRefusal r t.origin s)
  | none => go s

/-! ## Selecting a take (R34 to R36) -/

/-- Can mailbox `m` give the Director a take: a whole packet, and room for 32 words of answer (R36, R311)? -/
def canServe (s : State) (m : Nat) : Bool :=
  decide (pktCount (s.mb m).inq ≠ 0) && decide ((s.mb m).outq.length + 32 ≤ 4096)

/-- Is the Director free to select a take: no take, no long operation, no held configuration write
(R194), no warm reset in progress? -/
def dirFree (s : State) : Bool :=
  s.dir.take.isNone && s.dir.longop.isNone && s.parts.held.isEmpty && s.rst.warm == .idle && !s.rst.cold && !s.rst.rail

/-- The instructions of body words: [31:0] then [63:32] of each (R33). -/
def bodyCode : List MWord → List Word
  | [] => []
  | w :: l => w.word.extractLsb' 0 32 :: w.word.extractLsb' 32 32 :: bodyCode l

/-- Is a packet malformed (R34, R564)? `ws` are its words, header first. -/
def malformed (ws : List MWord) : Bool :=
  let h := (nth { word := 0, last := true } ws 0).word.toNat
  let len := bits h 32 13
  ws.any (fun w => w.forced || w.bad) || bits h 48 16 != 0x7A4E || bits h 45 3 != 0 ||
  len == 0 || decide (4096 < len) || ws.length != 1 + ceilDiv len 2

/-- The Director begins, or at once answers, the oldest packet of mailbox `m` (R34, R35, R37). The
Director's read latches start clear (R592). -/
def beginTake (m : Nat) (s : State) : State :=
  let ws := (firstPacket (s.mb m).inq).1
  let h := (nth { word := 0, last := true } ws 0).word.toNat
  let serial := bits h 0 32
  let s := { s with dir := { s.dir with last := m },
                    latches := s.latches.filter (fun e => !(e.1 == .director)) }
  if malformed ws then answerTake m serial .malformed 0 [] s
  else if serial = (s.liv (Reg.MBOX_LASTSER m)).toNat then answerTake m serial .duplicate 0 [] s
  else
    let t : Take := { origin := m, serial := serial, code := (bodyCode (ws.drop 1)).take (bits h 32 13),
                      startFt := s.ft, startNow := s.now }
    (s.setLivN (Reg.MBOX_LASTSER m) serial).setTake (some t)

/-- Words of a full inbound FIFO that lie in the Drift region: those between its 64 head and 64 tail words (R308). -/
def spilled (q : List MWord) : Nat := q.length - 128

/-- A spilled word of the oldest packet of mailbox `m` shows an uncorrectable error: the first one beyond the head words
(R564). -/
def spillUe (m : Nat) (s : State) : State :=
  let q := (s.mb m).inq
  if 64 < (firstPacket q).1.length ∧ 0 < spilled q then
    driftUe 10 (128 * m) (s.setMb m { s.mb m with inq := (q.zipIdx).map (fun e =>
      if e.2 = 64 then { e.1 with bad := true } else e.1) })
  else s

/-- TAKE_SELECT (R36): round robin over the mailboxes, beginning after the one served last; `ue` says that the read of
a spilled word of the packet meets an uncorrectable error, which a packet that lies on die cannot (R308, R564). -/
def execTakeSelect (ue : Bool) (s : State) : Host.Outcome State Fault Refusal :=
  .next (
    if dirFree s then
      match firstBelow 64 (fun i => canServe s ((s.dir.last + 1 + i) % 64)) with
      | none => s
      | some i =>
        let m := (s.dir.last + 1 + i) % 64
        beginTake m (if ue then spillUe m s else s)
    else s)

/-! ## Endings that no instruction makes -/

/-- TAKE_LIMIT_EXPIRE (R61): the executing take reaches 2 ms of counted execution. Time in a long
operation or for which held configuration writes hold the take does not count (R58, R194), so the limit is not reached then. -/
def execTakeLimitExpire (s : State) : Host.Outcome State Fault Refusal :=
  .next (match s.dir.take, s.dir.longop with
    | some t, none => if t.stall = none then endTake .timeout (s.reach t.limitAt) else s
    | _, _ => s)

/-- LOCKSTEP_MISMATCH (R66): the pair returns to the last checkpoint, or the take ends LOCKSTEP at its
second mismatch. No instruction retires during a long operation, so none mismatches then (R25). -/
def execLockstepMismatch (s : State) : Host.Outcome State Fault Refusal :=
  .next (match s.dir.take, s.dir.longop with
    | some t, none =>
      if t.mismatches = 0 then
        let c := t.ckpt
        let t := { t with pc := c.pc, regs := c.regs, stack := c.stack, journal := c.journal,
                          wait := .none, mismatches := 1, free := s.now - t.startNow - c.used
                          stall := t.stall.map (fun _ => s.now) }
        ((s.setTake (some t)).bump Reg.GLB_LSCNT).raise (gEvt 0)
      else
        let s := s.setLivF Reg.GLB_DIRSTAT Fld.GLB_DIRSTAT_LSFAIL 1
        endTake .lockstep (s.raise (gEvt 0))
    | _, _ => s)

end Sys2Proof.Machine
end

