-- ==== Sys2Proof/Machine/Live.lean ====
section
/-! DEFINITION. The shared steps of WRLIVE (R42 to R44, R51, R52, R65): every command that a WRLIVE of
one register makes is one rule over them. -/

namespace Sys2Proof.Machine

/-- How the instruction goes on after the effect of a live write. -/
inductive Finish where
  /-- It retires. -/
  | retire
  /-- The take ends with a status. -/
  | stop (st : Status)
  /-- A long operation begins, and it retires at its end (R57). -/
  | long (k : LongKind)
  /-- It retires first, and the effect follows, without an end of the take (R132). -/
  | retireFirst
  deriving DecidableEq, Repr

/-- The effect of a live write: what the LIVE entry's NEW shows, where it is not the value written (R81, R87); what it
does; how the instruction goes on. -/
structure Effect where
  new : Option Word := none
  act : State → State
  fin : Finish := .retire

/-- The rule of a live write: the addresses and values it holds for; a refusal of check 4 of R536, by an
owning chapter; a budget refusal (R51); its effect. -/
structure LiveRule where
  sel : Nat → Word → Bool
  deny : State → Take → Nat → Word → Bool := fun _ _ _ _ => false
  budget : State → Take → Nat → Word → Option Refused := fun _ _ _ _ => none
  eff : State → Take → Nat → Word → Effect

/-- The address of an X-format instruction, modulo 2^64 (R42). -/
def xAddr (t : Take) (w : Nat) : Nat := ((t.g (fA w)).toNat + bits w 0 15) % 2 ^ 64

/-- The word after a plain live write: TL fields take the value, W1C bits written 1 clear (R9). -/
def plainNew (r : RegRow) (old v : Word) : Word :=
  let tl := BitVec.ofNat 32 r.tl
  let w1c := BitVec.ofNat 32 r.w1c
  ((old &&& ~~~tl) ||| (v &&& tl)) &&& ~~~(v &&& w1c)

/-- A plain live write. -/
def plainEffect (_ : State) (_ : Take) (a : Nat) (v : Word) : Effect :=
  match regRow a with
  | none => { act := id }
  | some r => { act := fun s => (s.setLiv a (plainNew r (s.liv a) v)).intx }

/-- Can the word at `a` be written by WRLIVE (R43)? -/
def liveWritable (a : Nat) : Bool :=
  match regRow a with
  | none => false
  | some r => r.tl != 0 || r.w1c != 0

/-- The instruction retires, and a checkpoint of the sequencers is taken (R65). -/
def finish (fin : Finish) (t : Take) (act : State → State) (s : State) : State :=
  match fin with
  | .retire => match (act s).dir.take with
    | some t => retireMark t (act s)
    | none => act s
  | .stop st => endTake st (act s)
  | .long k => startLong k true (s.setTake (some (t.mark s.now))) |> act
  | .retireFirst => act (countInstr t s)

/-- A live write by the executing take, under a rule (R42 to R44, R51, R52): ADDRESS, PROTECT or BUDGET
ends the take; otherwise a LIVE entry is appended and the effect follows. -/
def liveWrite (r : LiveRule) (t : Take) (w : Nat) (s : State) : State :=
  let a := xAddr t w
  let v : Word := (t.g (fD w)).extractLsb' 0 32
  if !liveWritable a then endTake .address s
  else match protRefuses s t.origin a true with
    | some c => endTake .protect (protFault t.origin a true c 0 s)
    | none =>
      if r.deny s t a v then endTake .protect (protFault t.origin a true 6 0 s)
      else match r.budget s t a v with
        | some b => endTake .budget (budgetRefusal b t.origin s)
        | none =>
          let e := r.eff s t a v
          let s := s.log {
            origin := t.origin
            serial := t.serial
            kind := 1
            pc := t.pc
            loc := a
            old := (s.rd a).toNat
            new := (e.new.getD v).toNat }
          finish e.fin t e.act s

/-- WRLIVE of the register words that a rule holds for; S = 1 is illegal (R38). -/
def liveStep (r : LiveRule) (s : State) : Host.Outcome State Fault Refusal :=
  insn 0x16 0x8000 (fun t w s => liveWrite r t w s) s (fun w =>
    match ready s with
    | none => false
    | some t => r.sel (xAddr t w) ((t.g (fD w)).extractLsb' 0 32))

/-- Is `a` word `off` of an instance of a station block, below 24? -/
def stnReg (a off : Nat) : Bool := decide (0x100000 ≤ a) && decide (a < 0x280000) && a % 0x10000 == off

/-- The station of a station register's address. -/
def stnOf (a : Nat) : Nat := (a - 0x100000) / 0x10000

/-- The stored word of a command register after a write of `v`: TL fields take the value and W1C bits written 1 clear, but
the fields `zeros`, which the field tables give as "reads 0", are 0. -/
def storeCmd (a : Nat) (v : Word) (zeros : List Fld) (s : State) : State :=
  match regRow a with
  | none => s
  | some r => s.setLiv a (zeros.foldl (fun w f => fset w f 0) (plainNew r (s.liv a) v))

/-- A live write with an effect of its own. -/
def command (act : State → State) (fin : Finish := .retire) : Effect := { act := act, fin := fin }

end Sys2Proof.Machine
end

