-- ==== Sys2Proof/Machine/Security.lean ====
section
/-! DEFINITION. The protection unit's commands, the OTP commands, SPDM and the Active Set digest (R198, R542 to R557). -/

namespace Sys2Proof.Machine

/-! ## PROT_CTL and PROT_SLOT (R542 to R544) -/

/-- Is PROT_CTL.LOCK set? -/
def protLocked (s : State) : Bool := s.livB Reg.PROT_CTL Fld.PROT_CTL_LOCK

/-- The effect of a write of PROT_CTL: EN = 0 clears EN; EN = 1 needs FENCE = 1, and sets LOCK with it; otherwise no
field changes and CMDREJ is set. -/
def protCtl (v : Word) (s : State) : State :=
  if fget v Fld.PROT_CTL_EN = 0 then s.setLivF Reg.PROT_CTL Fld.PROT_CTL_EN 0
  else if fget v Fld.PROT_CTL_FENCE = 0 then s.setLivN Reg.PROT_STAT 1
  else (s.setLivF Reg.PROT_CTL Fld.PROT_CTL_EN 1).setLivF Reg.PROT_CTL Fld.PROT_CTL_LOCK (fget v Fld.PROT_CTL_LOCK)

/-- A write of PROT_CTL, of the kinds that `q` selects. -/
def protCtlRule (q : Word → Bool) : LiveRule where
  sel := fun a v => a == Reg.PROT_CTL && q v
  deny := fun s _ _ _ => protLocked s
  eff := fun _ _ _ v => command (protCtl v)

/-- Does a write of PROT_CTL set LOCK with EN and FENCE? -/
def setsLock (v : Word) : Bool :=
  fget v Fld.PROT_CTL_EN == 1 && fget v Fld.PROT_CTL_FENCE == 1 && fget v Fld.PROT_CTL_LOCK == 1

/-- PROT_DISABLE (R543). -/
def execProtDisable (s : State) : Host.Outcome State Fault Refusal :=
  liveStep (protCtlRule (fun v => fget v Fld.PROT_CTL_EN == 0)) s

/-- PROT_ENABLE (R544). -/
def execProtEnable (s : State) : Host.Outcome State Fault Refusal :=
  liveStep (protCtlRule (fun v => fget v Fld.PROT_CTL_EN == 1 && !setsLock v)) s

/-- PROT_LOCK (R542). -/
def execProtLock (s : State) : Host.Outcome State Fault Refusal := liveStep (protCtlRule setsLock) s

/-- A write of PROT_SLOT, which EN and LOCK forbid (R542). -/
def protSlotRule : LiveRule where
  sel := fun a _ => decide (Reg.PROT_SLOT 0 0 ≤ a) && decide (a < Reg.PROT_SLOT 81 0)
  deny := fun s _ _ _ => protLocked s || s.livB Reg.PROT_CTL Fld.PROT_CTL_EN
  eff := plainEffect

/-! ## OTP commands (R545 to R547) -/

/-- Changes the security block. -/
def State.onSec (s : State) (f : Security → Security) : State := { s with sec := f s.sec }

/-- Is a key slot blank? -/
def KeySlot.blank (k : KeySlot) : Bool := k.good && k.hash == 0

/-- Does a key slot read as revoked? -/
def KeySlot.dead (k : KeySlot) : Bool := k.revoked || !k.good

/-- Key slot `i`. -/
def keySlot (s : State) (i : Nat) : KeySlot := nth {} s.sec.slots i

/-- SEC_OTPMIN and SEC_OTPKEY report the OTP (R556). -/
def otpReport (s : State) : State :=
  let mask (p : KeySlot → Bool) : Nat := (List.range 4).foldl (fun m i => m + b2n (p (keySlot s i)) * 2 ^ i) 0
  (s.setLivN Reg.SEC_OTPMIN s.sec.min).setLivN Reg.SEC_OTPKEY (mask KeySlot.dead + mask KeySlot.blank * 2 ^ 4)

/-- The reel in use (R546). -/
def reelInUse (s : State) : Option Reel := if s.bootFailed then none else s.boot.reel

/-- The third test of R546: the CODE of its refusal. -/
def otpTest (s : State) (op slot value : Nat) : Option Nat :=
  let k := keySlot s slot
  if op = 1 then (if k.blank then none else some 4)
  else if op = 2 then
    let used := match reelInUse s with
      | some r => r.keyslot == slot
      | none => false
    let other := (List.range 4).any (fun i => i != slot && !(keySlot s i).blank && !(keySlot s i).dead)
    if k.dead || k.blank || used || !other then some 4 else none
  else
    let high : Bool := match reelInUse s with
      | some r => decide (r.rollback < value)
      | none => decide (s.sec.min < value)
    if 256 < value ∨ high then some 5 else none

/-- The hash in SEC_OTP_DATA. -/
def otpHash (s : State) : Nat :=
  (List.range 8).foldl (fun m i => m + (s.liv (Reg.SEC_OTP_DATA i)).toNat * 2 ^ (32 * i)) 0

/-- A write of SEC_OTP_CMD by origin 49 or 51 (R546). -/
def otpCommand (v : Word) (s : State) : State :=
  let op := fget v Fld.SEC_OTP_CMD_OP
  let slot := fget v Fld.SEC_OTP_CMD_SLOT
  let value := fget v Fld.SEC_OTP_CMD_VALUE
  let armed := s.liv Reg.SEC_OTP_ARM == 0x7A9
  let s := s.setLiv Reg.SEC_OTP_ARM 0
  let s := storeCmd Reg.SEC_OTP_CMD v [Fld.SEC_OTP_CMD_OP] s
  let refused (c : Nat) : State := s.setLivF Reg.SEC_OTP_STAT Fld.SEC_OTP_STAT_CODE c
  if op = 0 then s
  else if !armed then refused 2
  else if s.sec.cmd.isSome then refused 3
  else match otpTest s op slot value with
    | some c => refused c
    | none =>
      let s := s.onSec (fun x => { x with cmd := some { op := op, slot := slot, value := value, hash := otpHash s } })
      s.setLivF Reg.SEC_OTP_STAT Fld.SEC_OTP_STAT_BUSY 1

/-- A write of SEC_OTP_CMD with OP = `op`. -/
def otpRule (op : Nat) : LiveRule where
  sel := fun a v => a == Reg.SEC_OTP_CMD && fget v Fld.SEC_OTP_CMD_OP == op
  eff := fun _ _ _ v => command (otpCommand v)

/-- OTP_PROGKEY. -/
def execOtpProgkey (s : State) : Host.Outcome State Fault Refusal := liveStep (otpRule 1) s
/-- OTP_REVOKE. -/
def execOtpRevoke (s : State) : Host.Outcome State Fault Refusal := liveStep (otpRule 2) s
/-- OTP_SETMIN. -/
def execOtpSetmin (s : State) : Host.Outcome State Fault Refusal := liveStep (otpRule 3) s

/-- The OTP after a command that completed. -/
def otpDone (c : OtpCmd) (x : Security) : Security :=
  let k := nth {} x.slots c.slot
  if c.op = 1 then { x with slots := setNth x.slots c.slot { k with hash := c.hash } }
  else if c.op = 2 then { x with slots := setNth x.slots c.slot { k with revoked := true } }
  else { x with min := max x.min c.value }

/-- The OTP after a command made in part: which part is not defined (R547, log entry 7). -/
def otpPart (c : OtpCmd) (s : State) : State :=
  let d := Config.free s.fresh
  let s := s.draw
  s.onSec (fun x =>
    let k := nth {} x.slots c.slot
    if c.op = 1 then
      let k := if d % 3 = 0 then k else if d % 3 = 1 then { k with hash := c.hash } else { k with good := false }
      { x with slots := setNth x.slots c.slot k }
    else if c.op = 2 then (if d % 2 = 0 then x else otpDone c x)
    else { x with min := x.min + d % (max x.min c.value - x.min + 1) })

/-- OTP_COMMAND_DONE (R547): programming and verification end; `ok` says that verification passed. -/
def execOtpCommandDone (ok : Bool) (s : State) : Host.Outcome State Fault Refusal :=
  .next (match s.sec.cmd with
    | none => s
    | some c =>
      let s := if ok then s.onSec (otpDone c) else otpPart c s
      let s := otpReport (s.onSec (fun x => { x with cmd := none }))
      let s := s.setLivF Reg.SEC_OTP_STAT Fld.SEC_OTP_STAT_BUSY 0
      let s := s.setLivF Reg.SEC_OTP_STAT Fld.SEC_OTP_STAT_CODE (if ok then 0 else 6)
      let s := s.setLivF Reg.SEC_OTP_STAT Fld.SEC_OTP_STAT_DONE 1
      (s.logDevice (gEvt 30) c.op (s.liv Reg.SEC_OTP_STAT).toNat).raise (gEvt 30))

/-- A cold reset or a rail cuts an OTP command short (R547). -/
def otpCut (s : State) : State :=
  match s.sec.cmd with
  | none => s
  | some c => otpPart c (s.onSec (fun x => { x with cmd := none }))

/-! ## MCTP and SPDM (R198, R551 to R554) -/

/-- Can a message reach the management function of partition `p`? -/
def mgmtReached (s : State) (p : Nat) : Bool :=
  s.devReady &&
  match upstreamOf s.act p with
  | some (n, q) => s.dlUp n q
  | none => false

/-- MCTP_MESSAGE (R198): a message of type `ty` arrives; an SPDM message is one of the commands below. -/
def execMctpMessage (p : Fin 48) (ty : Fin 128) (s : State) : Host.Outcome State Fault Refusal :=
  .next (if mgmtReached s p.val then
      if ty.val = 0 then s.emit (.mctp p.val)
      else if ty.val = 5 then s
      else s.bump Reg.SEC_MCTP_DROPCNT
    else s)

/-- Sends an SPDM response; an ERROR is counted. -/
def spdmSend (p : Nat) (r : SpdmReply) (s : State) : State :=
  let s := match r with
    | .error _ => s.bump Reg.SEC_SPDM_ERRCNT
    | _ => s
  s.emit (.spdm p r)

/-- An SPDM request arrives at the management function of partition `p`, and is counted. -/
def spdm (p : Fin 48) (f : State → State) (s : State) : Host.Outcome State Fault Refusal :=
  .next (if mgmtReached s p.val then f (s.bump Reg.SEC_SPDM_REQCNT) else s)

/-- GET_VERSION. -/
def execGetVersion (p : Fin 48) (s : State) : Host.Outcome State Fault Refusal :=
  spdm p (fun s => spdmSend p.val (.version 0x14) s) s

/-- GET_CAPABILITIES. -/
def execGetCapabilities (p : Fin 48) (s : State) : Host.Outcome State Fault Refusal :=
  spdm p (fun s => spdmSend p.val (.capabilities 15 4096) s) s

/-- NEGOTIATE_ALGORITHMS: `mldsa` and `sha3` say that ML-DSA-65 and SHA3-384 are offered; a requester that offers
neither gets ERROR InvalidRequest. -/
def execNegotiateAlgorithms (p : Fin 48) (mldsa sha3 : Bool) (s : State) : Host.Outcome State Fault Refusal :=
  spdm p (fun s => spdmSend p.val (if mldsa || sha3 then .algorithms mldsa sha3 else .error 1) s) s

/-- The digest of the certificate chain. -/
def chainDigest (s : State) : BitVec 384 := Config.sha384 s.sec.certs

/-- GET_DIGESTS. -/
def execGetDigests (p : Fin 48) (s : State) : Host.Outcome State Fault Refusal :=
  spdm p (fun s => spdmSend p.val (.digests (chainDigest s)) s) s

/-- GET_CERTIFICATE (R550): slots 1 to 7 are empty. -/
def execGetCertificate (p : Fin 48) (slot : Fin 16) (off len : Nat) (s : State) : Host.Outcome State Fault Refusal :=
  spdm p (fun s =>
    let c := s.sec.certs
    if slot.val ≠ 0 ∨ c.length ≤ off then spdmSend p.val (.error 1) s
    else
      let k := min (min len 4080) (c.length - off)
      spdmSend p.val (.certificate ((c.drop off).take k) (c.length - off - k)) s) s

/-- ENTRY of the newest chained entry. -/
def newestEntry (s : State) : Nat :=
  match s.slate.ckpt with
  | some c => if (c + 53) % 2 ^ 32 = s.head then c else (s.head + 2 ^ 32 - 1) % 2 ^ 32
  | none => (s.head + 2 ^ 32 - 1) % 2 ^ 32

/-- Sixteen words as bytes, least significant first. -/
def wordBytes (s : State) (a : Nat → Nat) : List Byte := (List.range 16).flatMap (fun i => toBytes 4 (s.liv (a i)).toNat)

/-- Measurement `i` (R552). -/
def measurement (s : State) (i : Nat) : List Byte :=
  match i with
  | 1 => wordBytes s Reg.SEC_REELDIG
  | 2 => wordBytes s Reg.SEC_ASDIG
  | 3 => toBytes 4 (newestEntry s) ++ toBytes 8 s.slate.time ++ toBytes 24 s.slate.chain.toNat
  | _ =>
    let boot := (s.liv Reg.SEC_BOOT).toNat
    let key := (s.liv Reg.SEC_OTPKEY).toNat
    toBytes 4 (s.rd Reg.GLB_ID).toNat ++ toBytes 1 (boot % 4) ++ toBytes 1 (b2n s.boot.copyB) ++
    toBytes 2 (s.liv Reg.SEC_OTPMIN).toNat ++ toBytes 1 (key % 16) ++ toBytes 1 (key / 16 % 16) ++
    toBytes 2 (boot / 2 ^ 16) ++ toBytes 4 (s.liv Reg.SEC_ROLLBACK).toNat

/-- Measurements that a request needs. -/
def measuredBy : SpdmReq → List Nat
  | .challenge _ k _ => if k.val = 1 then [1, 4] else if k.val = 255 then [1, 2, 3, 4] else []
  | .measure i _ _ _ => if i.val = 0 then [] else if i.val = 255 then [1, 2, 3, 4] else [i.val]

/-- Is a request one that gets ERROR InvalidRequest: another slot than 0, an unknown index or summary type? -/
def badSpdm : SpdmReq → Bool
  | .challenge slot k _ => slot.val != 0 || !(k.val == 0 || k.val == 1 || k.val == 255)
  | .measure i sign slot _ => (sign && slot.val != 0) || (decide (4 < i.val) && i.val != 255)

/-- The response to a request, every measurement taken at this instant (R552, R554); a signature is counted. -/
def spdmAnswer (p : Nat) (r : SpdmReq) (s : State) : State :=
  let ms := (measuredBy r).map (fun i => (i, measurement s i))
  let all := ms.flatMap (fun e => e.2)
  match r with
  | .challenge _ k nonce =>
    let sum := if k.val = 0 then none else some (Config.sha384 all)
    spdmSend p (.challengeAuth (chainDigest s) sum (Config.spdmSign nonce all)) (s.bump Reg.SEC_SIGCNT)
  | .measure _ sign _ nonce =>
    if sign then spdmSend p (.measurements 4 ms (some (Config.spdmSign nonce all))) (s.bump Reg.SEC_SIGCNT)
    else spdmSend p (.measurements 4 ms none) s

/-- A request is refused, waits for the Active Set digest of the cut in force, or is answered (R554). -/
def spdmMeasure (p : Nat) (r : SpdmReq) (s : State) : State :=
  if badSpdm r then spdmSend p (.error 1) s
  else if (measuredBy r).contains 2 ∧ s.liv Reg.SEC_ASSTAT = 0 then s.onSec (fun x => { x with waits := x.waits ++ [(p, r)] })
  else spdmAnswer p r s

/-- CHALLENGE: summary type 0 none, 1 TCB, 255 all. -/
def execChallenge (p : Fin 48) (slot : Fin 16) (sum : Fin 256) (nonce : BitVec 256) (s : State) :
    Host.Outcome State Fault Refusal :=
  spdm p (spdmMeasure p.val (.challenge slot sum nonce)) s

/-- GET_MEASUREMENTS. -/
def execGetMeasurements (p : Fin 48) (index : Fin 256) (sign : Bool) (slot : Fin 16) (nonce : BitVec 256) (s : State) :
    Host.Outcome State Fault Refusal :=
  spdm p (spdmMeasure p.val (.measure index sign slot nonce)) s

/-- SPDM_UNSUPPORTED: ERROR UnsupportedRequest. -/
def execSpdmUnsupported (p : Fin 48) (s : State) : Host.Outcome State Fault Refusal :=
  spdm p (fun s => spdmSend p.val (.error 7) s) s

/-- AS_DIGEST_DONE (R553): the digest of the Active Set is shown, and the requests that waited for it are answered. -/
def execAsDigestDone (s : State) : Host.Outcome State Fault Refusal :=
  .next (
    if s.liv Reg.SEC_ASSTAT = 0 then
      let d := (asDigest s).toNat
      let s := forUpto 16 (fun i s => s.setLivN (Reg.SEC_ASDIG i) (d / 2 ^ (32 * i))) s
      let l := s.sec.waits
      let s := (s.setLivN Reg.SEC_ASSTAT 1).onSec (fun x => { x with waits := [] })
      l.foldl (fun s e => spdmAnswer e.1 e.2 s) s
    else s)

end Sys2Proof.Machine
end

