-- ==== Sys2Proof/Machine/SlateCmds.lean ====
section
/-! DEFINITION. The commands of the slate log (R85 to R87). -/

namespace Sys2Proof.Machine

/-- CHECKPOINT_IDLE_TIMER (R85): 10 s after the oldest chained entry that no CHECKPOINT covers. -/
def execCheckpointIdleTimer (s : State) : Host.Outcome State Fault Refusal :=
  .next (match s.slate.uncovered with
    | none => s
    | some t => checkpoint (s.reach (t + 10000000000)))

/-- The 64 bytes of CHECKPOINT entry `num`. -/
def ckptBytes (s : State) (num : Nat) : List Byte :=
  dwordBytes ((List.range 8).map (slotWord (Tab.get none s.slate.slots (num % 2 ^ 20))))

/-- The eight words of reserved slot `i` of a signature: its bytes 0 to 3,308 in order, the rest zero (R85). -/
def signWords (sig : BitVec 26472) (i : Nat) : List DWord :=
  (List.range 8).map (fun j => sig.extractLsb' (512 * i + 64 * j) 64)

/-- Fills the 52 slots after CHECKPOINT entry `num` with its signature; a slot that has been overwritten since then
keeps what it holds. -/
def fillSignature (num : Nat) (s : State) : State :=
  let sig := Config.sign (ckptBytes s num)
  let slots := forUpto 52 (fun i t =>
    let k := (num + 1 + i) % 2 ^ 20
    match Tab.find t k with
    | some (some (.reserved _)) => Tab.put t k (some (.reserved (some (signWords sig i))))
    | _ => t) s.slate.slots
  { s with slate := { s.slate with slots := slots } }

/-- CHECKPOINT_SIGN_DONE (R85, R549): signatures are made in the order of their entries. -/
def execCheckpointSignDone (s : State) : Host.Outcome State Fault Refusal :=
  .next (match s.slate.signing with
    | [] => s
    | num :: l =>
      let s := fillSignature num s
      ({ s with slate := { s.slate with signing := l } }).bump Reg.SEC_SIGCNT)

/-- Does a value lie from RD to HEAD (R87)? -/
def rdTakes (s : State) (v : Nat) : Bool :=
  let rd := (s.liv Reg.GLB_SLATE_RD).toNat
  decide ((v + 2 ^ 32 - rd) % 2 ^ 32 ≤ (s.head + 2 ^ 32 - rd) % 2 ^ 32)

/-- A write of GLB_SLATE_RD (R87). The LIVE entry itself may have moved RD on past the value. -/
def slateRdRule : LiveRule where
  sel := fun a _ => a == Reg.GLB_SLATE_RD
  eff := fun s _ a v =>
    if rdTakes s v.toNat then { act := fun s => if rdTakes s v.toNat then s.setLiv a v else s }
    else { new := some (s.liv a), act := fun s => s.setLivF Reg.GLB_SLATE_STAT Fld.GLB_SLATE_STAT_RDREJ 1 }

/-- SLATE_RD_WRITE. -/
def execSlateRdWrite (s : State) : Host.Outcome State Fault Refusal := liveStep slateRdRule s

end Sys2Proof.Machine
end

