-- ==== Sys2Proof/Machine/HostIo.lean ====
section
/-! DEFINITION. Host requests of the engines: issued as internal transfers of KIND 5 in class 9, ended when they
leave the host port or complete, and the dirty-page log of the writes (R259, R292, R361, R384, R473, R483, R484,
R616). -/

namespace Sys2Proof.Machine

/-- Changes the record of host requests. -/
def State.onIo (s : State) (f : HostIo → HostIo) : State := s.onEng (fun e => { e with io := f e.io })

/-- The effect of a host request's end follows in this step. -/
def ended (w : Work) (r : HostRes) (s : State) : State := s.onIo (fun i => { i with ready := i.ready ++ [(w, r)] })

/-- A slice's record. -/
def State.sl (s : State) (t : Nat) : Slice := Tab.get {} s.eng.slices t

/-- Changes a slice's record. -/
def State.onSl (s : State) (t : Nat) (f : Slice → Slice) : State :=
  s.onEng (fun e => { e with slices := Tab.set {} e.slices t (f (Tab.get {} e.slices t)) })

/-- Is an owner a slice that is not ACTIVE (R476)? -/
def lulled (s : State) (o : Owner) : Bool := o.slice && (s.sl o.num).st != 1

/-! ## Pieces of a request -/

/-- Largest payload of a write and of a read at the upstream port of partition `q`, by Device Control (log entry
43). -/
def maxPayload (s : State) (q : Nat) : Nat := 128 * 2 ^ min 5 (bits (s.cfgR q 0 .devCtl).toNat 5 3)

/-- Largest read request. -/
def maxRead (s : State) (q : Nat) : Nat := 128 * 2 ^ min 5 (bits (s.cfgR q 0 .devCtl).toNat 12 3)

/-- Splits `len` bytes from `a` at 4 KiB boundaries and at `mx` bytes. -/
def cutLinear (mx : Nat) : Nat → Nat → Nat → List (Nat × Nat)
  | 0, _, _ => []
  | fuel + 1, a, len =>
    if len = 0 then []
    else
      let k := min len (min mx (4096 - a % 4096))
      (a, k) :: cutLinear mx fuel (a + k) (len - k)

/-- The address of byte `j` of an operand at `a` with wrap `w` (R459). -/
def wrapAddr (a w j : Nat) : Nat :=
  if w = 0 then a + j else a - a % 2 ^ w + (a % 2 ^ w + j) % 2 ^ w

/-- Splits bytes `j` to `j + len - 1` of an operand at its wrap point, at 4 KiB boundaries and at `mx` (R459). -/
def cutWrap (mx a w j len : Nat) : List (Nat × Nat) :=
  let a0 := wrapAddr a w j
  let k := if w = 0 then len else min len (2 ^ w - a0 % 2 ^ w)
  cutLinear mx (len / 64 + 4) a0 k ++ (if k < len then cutLinear mx (len / 64 + 4) (wrapAddr a w (j + k)) (len - k) else [])

/-- Deals the bytes of a write out to its pieces. -/
def deal : List (Nat × Nat) → List Byte → List (Nat × Nat × List Byte)
  | [], _ => []
  | (a, k) :: l, d => (a, k, d.take k) :: deal l (d.drop k)

/-! ## Issuing -/

/-- The requester identifier of partition `q`'s management function, function 1 on the primary bus of its
upstream port (log entry 43). -/
def mgmtId (s : State) (q : Nat) : Nat := bits (s.cfgR q 0 .busNumbers).toNat 0 8 * 256 + 1

/-- The PASID of a slice (R473). -/
def pasidOf (s : State) (t : Option Nat) : Option Nat := t.map (fun t => bits (s.act (Reg.GLB_SLICE t 0)).toNat 7 20)

/-- The TLP of piece `i` of job `j`. -/
def jobTlp (s : State) (kind : TlpKind) (aop part : Nat) (slice : Option Nat) (ep : Bool) (tag : Nat)
    (p : Nat × Nat × List Byte) : Tlp :=
  { kind := kind
    addr := p.1
    span := p.2.1
    hdr := if slice.isSome then 20 else 16
    req := mgmtId s part
    tag := tag
    ep := ep
    data := p.2.2
    pasid := pasidOf s slice
    aop := aop }

/-- The DMA channel whose local write a request is (R460). -/
def Work.writer : Work → Option Nat
  | .chWrite c _ | .chMark c => some c
  | _ => none

/-- An engine of station `src` makes a host request of partition `part`, or fails at once when it cannot leave
the host port (R616). A request of no bytes ends at once. -/
def hostReq (src part : Nat) (slice : Option Nat) (kind : TlpKind) (aop : Nat) (ep : Bool) (w : Work)
    (ps : List (Nat × Nat × List Byte)) (s : State) : State :=
  if ps = [] then ended w (.ok [] ep) s
  else match upstreamOf s.act part with
    | none => ended w .fail s
    | some (n, p) =>
      if !s.hostUp part then ended w .fail s
      else
        let x := 4 * n + p
        let j := s.eng.io.next
        let job : Job := {
          work := w
          part := part
          slice := slice
          port := x
          req := mgmtId s part
          posted := kind == .memWr
          subs := ps.map (fun q => { addr := q.1, len := q.2.1 }) }
        let s := s.onIo (fun i => { i with next := j + 1, jobs := Tab.put i.jobs j job })
        ps.zipIdx.foldl (fun s q =>
          let t := jobTlp s kind aop part slice ep (64 * j + q.2) q.1
          let u := mkUnit src .internal x 48 9 t.length (.tlp part 0 t)
          addUnit { (u.poisonAll ep) with job := some (64 * j + q.2), chan := w.writer } s) s

/-- A write of `data` at `a`. -/
def hostWrite (src part : Nat) (slice : Option Nat) (ep : Bool) (w : Work) (a : Nat) (data : List Byte) (s : State) : State :=
  hostReq src part slice .memWr 0 ep w (deal (cutWrap (maxPayload s part) a 0 0 data.length) data) s

/-- A read of `len` bytes at `a`. -/
def hostRead (src part : Nat) (slice : Option Nat) (w : Work) (a len : Nat) (s : State) : State :=
  hostReq src part slice .memRd 0 false w ((cutWrap (maxRead s part) a 0 0 len).map (fun p => (p.1, p.2, []))) s

/-- A read or a write by an owner; one that has no partition fails at once. -/
def ownerWrite (src : Nat) (o : Owner) (ep : Bool) (w : Work) (a : Nat) (data : List Byte) (s : State) : State :=
  match ownerPart s o with
  | none => ended w .fail s
  | some q => hostWrite src q o.sliceNum ep w a data s

/-- A read by an owner. -/
def ownerRead (src : Nat) (o : Owner) (w : Work) (a len : Nat) (s : State) : State :=
  match ownerPart s o with
  | none => ended w .fail s
  | some q => hostRead src q o.sliceNum w a len s

/-- An AtomicOp of 8 bytes by an owner (R421). -/
def ownerAtomic (src : Nat) (o : Owner) (aop : Nat) (w : Work) (a : Nat) (data : List Byte) (s : State) : State :=
  match ownerPart s o with
  | none => ended w .fail s
  | some q => hostReq src q o.sliceNum .atomic aop false w [(a, 8, data)] s

/-! ## The dirty-page log (R483, R484) -/

/-- LOGLO of slice `t`. -/
def logLo (s : State) (t : Nat) : Nat :=
  (s.act (Reg.GLB_SLICE t 1)).toNat / 2 ^ 21 * 2 ^ 21 + (s.act (Reg.GLB_SLICE t 2)).toNat * 2 ^ 32

/-- LOGSIZE of slice `t`. -/
def logSize (s : State) (t : Nat) : Nat :=
  let v := (s.act (Reg.GLB_SLICE t 1)).toNat % 2 ^ 6
  if 9 ≤ v ∧ v ≤ 32 then v else 9

/-- The host address of a bitmap of slice `t` (0 A, 1 B). -/
def bitmap (s : State) (t sel : Nat) : Nat :=
  let w := 3 + 2 * sel
  (s.act (Reg.GLB_SLICE t w)).toNat / 2 ^ 12 * 2 ^ 12 + (s.act (Reg.GLB_SLICE t (w + 1))).toNat * 2 ^ 32

/-- The home station of partition `q`'s host port. -/
def hostStn (s : State) (q : Nat) : Nat := ((upstreamOf s.act q).getD (0, 0)).1

/-- A line leaves the log cache for host memory: its bitmap bytes are read first (R484). -/
def writeBack (l : LogLine) (fl : Bool) (s : State) : State :=
  let q := slicePart s l.s
  let s := s.onEng (fun e => { e with log := e.log.filter (fun m => m != l) })
  hostRead (hostStn s q) q none (.logRead l.s l.sel l.line l.bits fl) (bitmap s l.s l.sel + 64 * l.line) 64 s

/-- Lines that slice `t` holds. -/
def linesOf (s : State) (t : Nat) : List LogLine := s.eng.log.filter (fun l => l.s == t)

/-- Makes room for a line of slice `t`: at 1,024 lines its own oldest goes, at 8,192 in all the oldest (R484). -/
def makeRoom (t : Nat) (s : State) : State :=
  let own := linesOf s t
  if 1024 ≤ own.length then
    match own with
    | l :: _ => writeBack l false s
    | [] => s
  else if 8192 ≤ s.eng.log.length then
    match s.eng.log with
    | l :: _ => writeBack l false s
    | [] => s
  else s

/-- Bit `b` of line `line` of bitmap `sel` is gathered. -/
def gather (t sel line b : Nat) (s : State) : State :=
  match s.eng.log.find? (fun l => l.s == t && l.sel == sel && l.line == line) with
  | some l =>
    let m := { l with bits := Nat.lor l.bits (2 ^ b) }
    s.onEng (fun e => { e with log := e.log.map (fun k => if k = l then m else k) })
  | none => (makeRoom t s).onEng (fun e => { e with log := e.log ++ [⟨t, sel, line, 2 ^ b⟩] })

/-- A write under the PASID of slice `t` leaves the host port (R483). -/
def logPage (t a : Nat) (s : State) : State :=
  if bit (s.act (Reg.GLB_SLICE t 0)).toNat 27 then
    let lo := logLo s t
    if lo ≤ a ∧ a < lo + 4096 * 2 ^ logSize s t then
      let i := (a - lo) / 4096
      gather t (b2n (s.sl t).logsel) (i / 512) (i % 512) s
    else
      let s := s.onSl t (fun x => { x with logbad := true })
      (s.bump Reg.GLB_SLICE_MISSCNT).raiseLimited (gEvt 22) (some (slicePart s t))
  else s

/-! ## The end of a request -/

/-- The job and TLP that a number names. -/
def subOf (s : State) (k : Nat) : Option (Job × Sub) :=
  (Tab.find s.eng.io.jobs (k / 64)).bind (fun j => (j.subs[k % 64]?).map (fun u => (j, u)))

/-- The end of a whole job: the data of its TLPs in order, poisoned when any was, failed when any failed. -/
def joinRes (l : List Sub) : HostRes :=
  l.foldl (fun r u => match r, u.res with
    | .ok d e, some (.ok d' e') => .ok (d ++ d') (e || e')
    | _, _ => .fail) (.ok [] false)

/-- Replaces a TLP's record; the job ends with the last of them. -/
def putSub (k : Nat) (j : Job) (u : Sub) (s : State) : State :=
  let subs := setNth j.subs (k % 64) u
  if subs.all (fun u => u.res.isSome) then
    ended j.work (joinRes subs) (s.onIo (fun i => { i with jobs := Tab.del i.jobs (k / 64) }))
  else s.onIo (fun i => { i with jobs := Tab.put i.jobs (k / 64) { j with subs := subs } })

/-- A TLP of a host request leaves the host port: a write has succeeded, and its page is logged; a read or an
AtomicOp awaits its completion (R483, R616). -/
def subLeft (k : Nat) (s : State) : State :=
  match subOf s k with
  | none => s
  | some (j, u) =>
    if j.posted then
      let s := match j.slice with
        | some t => logPage t u.addr s
        | none => s
      putSub k j { u with res := some (.ok [] false) } s
    else putSub k j { u with sent := some s.now } s

/-- A TLP of a host request ends without leaving, or by its completion or timeout. -/
def subEnd (k : Nat) (r : HostRes) (s : State) : State :=
  match subOf s k with
  | none => s
  | some (j, u) => if u.res.isNone then putSub k j { u with res := some r } (npDone j.port j.req k s) else s

/-- A unit that carries a host request is discarded before it leaves (R616). -/
def jobLost (u : CUnit) (s : State) : State :=
  match u.job with
  | some k => subEnd k .fail s
  | none => s

end Sys2Proof.Machine
end

