-- ==== Sys2Proof/Machine/Keys.lean ====
section
/-! DEFINITION. The region key table, its cache, the access check, registration, revocation and purge
(R380 to R404). -/

namespace Sys2Proof.Machine

/-- Changes the key table's record. -/
def State.onKeys (s : State) (f : Keys → Keys) : State := s.onEng (fun e => { e with keys := f e.keys })

/-! ## Entries (R383) -/

/-- Word `w` of entry `i`. -/
def keyWord (s : State) (i w : Nat) : DWord := Tab.get 0 s.eng.keys.tab (4 * i + w)

/-- Writes word `w` of entry `i`. -/
def setKeyWord (i w : Nat) (v : DWord) (s : State) : State :=
  s.onKeys (fun k => { k with tab := Tab.set 0 k.tab (4 * i + w) v })

/-- BASE of entry `i`. -/
def keyBase (s : State) (i : Nat) : Nat := (keyWord s i 0).toNat
/-- LEN of entry `i`. -/
def keyLen (s : State) (i : Nat) : Nat := bits (keyWord s i 1).toNat 0 48
/-- GEN of entry `i`. -/
def keyGen (s : State) (i : Nat) : Nat := bits (keyWord s i 2).toNat 0 12
/-- RIGHTS of entry `i`: bit 0 R, 1 W, 2 A, 3 N, 4 LOC, 5 REM. -/
def keyRights (s : State) (i : Nat) : Nat := bits (keyWord s i 2).toNat 14 6

/-- STATE in a word 2: 0 FREE, 1 VALID, 2 REVOKING; 3 acts as 0. -/
def stateIn (w2 : Nat) : Nat := bits w2 12 2 % 3

/-- STATE of entry `i`; an entry with an uncorrectable error is treated as FREE (R564). -/
def keyState (s : State) (i : Nat) : Nat :=
  if s.eng.keys.bad.contains i then 0 else stateIn (keyWord s i 2).toNat

/-- The owner in a word 2. -/
def ownerIn (w2 : Nat) : Owner := ⟨bit w2 20, bits w2 21 12⟩

/-- The owner of entry `i`. -/
def keyOwner (s : State) (i : Nat) : Owner := ownerIn (keyWord s i 2).toNat

/-- GEN plus 1 modulo 4,096, skipping 0 (R381). -/
def nextGen (g : Nat) : Nat := if 4095 ≤ g then 1 else g + 1

/-! ## Counts (R389) -/

/-- Adds to the regions that an owner counts. -/
def countRegion (o : Owner) (d : Int) (s : State) : State :=
  let s := match ownerPart s o with
    | some q => if q < 48 then
        let a := Reg.GLB_RGN_PCNT q
        let w := (s.liv a).toNat
        s.setLivN a (setBits w 0 21 ((bits w 0 21 : Int) + d).toNat)
      else s
    | none => s
  if o.slice then
    s.onKeys (fun k => { k with scnt := Tab.set 0 k.scnt o.num (((Tab.get 0 k.scnt o.num : Nat) : Int) + d).toNat })
  else s

/-- Adds to GLB_RGN_FREE. -/
def countFree (d : Int) (s : State) : State :=
  s.setLivN Reg.GLB_RGN_FREE (((s.liv Reg.GLB_RGN_FREE).toNat % 2 ^ 21 : Nat) + d).toNat

/-- Entry `i` is put last among the FREE ones (R388). -/
def noteFreed (i : Nat) (s : State) : State :=
  s.onKeys (fun k => { k with freed := Tab.put k.freed i (k.order + 1), order := k.order + 1 })

/-- An entry's word 2 goes from `old` to `new`: the counts follow, and an entry that becomes FREE is put last
among the FREE ones (R388, R389). -/
def recount (i old new : Nat) (s : State) : State :=
  let s := if stateIn old ≠ 0 then countRegion (ownerIn old) (-1) s else s
  let s := if stateIn new ≠ 0 then countRegion (ownerIn new) 1 s else s
  if stateIn old ≠ 0 ∧ stateIn new = 0 then noteFreed i (countFree 1 s)
  else if stateIn old = 0 ∧ stateIn new ≠ 0 then
    (countFree (-1) s).onKeys (fun k => { k with freed := Tab.del k.freed i })
  else s

/-! ## The key cache (R392 to R394) -/

/-- The cache set of an index. -/
def keySet (i : Nat) : Nat := i % 4096

/-- Accesses admitted under entry `i` (R394). -/
def heldCount (s : State) (i : Nat) : Nat := Tab.get 0 s.eng.keys.held i

/-- Does a way of the cache hold entry `i`? -/
def cached (s : State) (i : Nat) : Bool := (Tab.get [] s.eng.keys.cache (keySet i)).contains i

/-- Writes a set. -/
def setWays (i : Nat) (l : List Nat) (s : State) : State :=
  s.onKeys (fun k => { k with cache := Tab.set [] k.cache (keySet i) l })

/-- Entry `i` becomes the most recently used of its set. -/
def touchWay (i : Nat) (s : State) : State :=
  let l := Tab.get [] s.eng.keys.cache (keySet i)
  setWays i (i :: l.filter (fun j => j != i)) s

/-- The least recently used way of a set that may be evicted (R393). -/
def victim (s : State) (l : List Nat) : Option Nat :=
  l.reverse.find? (fun j => heldCount s j == 0 && keyState s j != 2)

/-- Entry `i` takes a way; none when no way qualifies (R392, R393). -/
def takeWay (i : Nat) (s : State) : Option State :=
  let l := Tab.get [] s.eng.keys.cache (keySet i)
  if l.contains i then some (touchWay i s)
  else if l.length < 16 then some (setWays i (i :: l) s)
  else (victim s l).map (fun j => setWays i (i :: l.filter (fun m => m != j)) s)

/-- A write of an entry goes to the Drift store and updates the cache, when a way holds it or can take it (R392). -/
def writeWay (i : Nat) (s : State) : State :=
  let s := driftMove false 32 s
  (takeWay i s).getD s

/-- A lookup (R393): a hit, or a miss that waits with `j` for the entry to be read; one read serves every miss on it. -/
def lookup (i : Nat) (j : KeyJob) (s : State) : Bool × State :=
  if cached s i then (true, touchWay i (perf 73 6 none 1 {} (s.bump Reg.GLB_KCACHE_HIT)))
  else
    let s := if s.eng.keys.wait.any (fun e => e.1 == i) then s else driftMove false 32 s
    (false, (perf 73 7 none 1 {} (s.bump Reg.GLB_KCACHE_MISS)).onKeys (fun k => { k with wait := k.wait ++ [(i, j)] }))

/-! ## The access check (R395 to R400) -/

/-- What an access asks of a region: its use, local under an owner or remote under a domain and a node; the
rights it needs; whether it is an atomic; HIGH of its packet. -/
structure Access where
  owner : Option Owner := none
  domain : Nat := 0
  snode : Nat := 0
  need : Nat
  atomic : Bool := false
  high : Bool := false
  deriving DecidableEq, Repr

/-- The owner test (R396). -/
def ownerTest (s : State) (i : Nat) (a : Access) : Bool :=
  match a.owner with
  | some o => bit (keyRights s i) 4 && keyOwner s i == o
  | none =>
    let w := (keyWord s i 3).toNat
    bit (keyRights s i) 5 && bits w 0 16 == a.domain && (bit w 16 || bits w 17 12 == a.snode)

/-- The tests of R395 in order: 0 when the access is admitted, else its code. -/
def accessCheck (s : State) (key off len : Nat) (a : Access) : Nat :=
  let i := key % 2 ^ 20
  if keyState s i = 0 then 1
  else if key / 2 ^ 20 ≠ keyGen s i then 2
  else if keyState s i = 2 then 3
  else if !ownerTest s i a then 4
  else if a.high ∨ keyLen s i < off + len ∨ 2 ^ 64 ≤ off + len then 5
  else if Nat.land (keyRights s i) a.need ≠ a.need then 6
  else if a.atomic ∧ ((keyBase s i + off) % 8 ≠ 0 ∨ len ≠ 8) then 7
  else 0

/-- A failed check at FME `e` (R400): `who` is the snode, or the owner of the queue. -/
def keyErr (e i code : Nat) (remote : Bool) (who : Nat) (s : State) : State :=
  let s := s.bump (Reg.KEYERRCNT e)
  let s := s.setLivN (Reg.KEYERRLOG e 0) (i % 2 ^ 20 + code * 2 ^ 20 + b2n remote * 2 ^ 24)
  let s := s.setLivN (Reg.KEYERRLOG e 1) (who % 2 ^ 12)
  s.raiseLimited (384 + 2 * e)

/-- An access is admitted under entry `i` (R394, R399). -/
def admitKey (i : Nat) (s : State) : State :=
  s.onKeys (fun k => { k with held := Tab.set 0 k.held i (Tab.get 0 k.held i + 1) })

/-! ## Registration (R386 to R388) -/

/-- Appends a TABLE entry for word `w` of entry `i` of table `t` (R80, R81). -/
def logTable (origin serial pc t i w : Nat) (old new : DWord) (s : State) : State :=
  s.log {
    origin := origin
    serial := serial
    kind := 2
    pc := pc
    loc := i % 2 ^ 20 + w * 2 ^ 20 + t * 2 ^ 25
    old := old.toNat
    new := new.toNat }

/-- The FREE entry that has been FREE longest (R388). -/
def freeEntry (s : State) : Option Nat :=
  let k := s.eng.keys
  let used := (k.tab.filter (fun e => e.1 % 4 == 2 && stateIn e.2.toNat != 0)).map (fun e => e.1 / 4)
  let touched := used ++ k.bad ++ k.freed.map (fun e => e.1)
  match firstBelow (touched.length + 1) (fun i => !touched.contains i && decide (i < 2 ^ 20)) with
  | some i => some i
  | none =>
    ((k.freed.filter (fun e => !k.bad.contains e.1)).foldl (fun m e => match m with
      | none => some e
      | some f => if e.2 < f.2 then some e else some f) none).map (fun e => e.1)

/-- The purge of partition `q` is in progress (R404). -/
def purging (s : State) (q : Nat) : Bool := bit (s.liv (Reg.GLB_RGN_PCNT q)).toNat 31

/-- The owner in GLB_RGN_ATTR. -/
def stagedOwner (s : State) : Owner :=
  let a := (s.liv Reg.GLB_RGN_ATTR).toNat
  ⟨bit a 6, bits a 7 12⟩

/-- May an origin act for an owner: a manager, the partition itself, or a slice of it (R387, R401, R410)? -/
def originOwns (s : State) (origin : Nat) (o : Owner) : Bool :=
  decide (48 ≤ origin) || ownerPart s o == some origin

/-- The tests of R387: 0 when the registration is accepted, else its CODE. -/
def regTest (s : State) (origin : Nat) : Nat :=
  let o := stagedOwner s
  let len := (s.liv Reg.GLB_RGN_LEN_LO).toNat + bits (s.liv Reg.GLB_RGN_LEN_HI).toNat 0 16 * 2 ^ 32
  let rights := bits (s.liv Reg.GLB_RGN_ATTR).toNat 0 6
  let q := (ownerPart s o).getD 48
  if len = 0 ∨ 2 ^ 64 < s.liv64 Reg.GLB_RGN_BASE_LO + len ∨ rights / 2 ^ 4 = 0 then 1
  else if !originOwns s origin o then 2
  else if !partEnabled s.act q ∨ purging s q then 3
  else if (s.act (Reg.GLB_RGN_PLIM q 0)).toNat % 2 ^ 21 ≤ (s.liv (Reg.GLB_RGN_PCNT q)).toNat % 2 ^ 21 then 4
  else if o.slice ∧ (s.act (Reg.GLB_RGN_PLIM q 1)).toNat % 2 ^ 21 ≤ Tab.get 0 s.eng.keys.scnt o.num then 5
  else match freeEntry s with
    | none => 6
    | some _ => 0

/-- The words that a registration writes into entry `i` (R383, R388). -/
def regWords (s : State) (i : Nat) : List DWord :=
  let a := (s.liv Reg.GLB_RGN_ATTR).toNat
  let len := (s.liv Reg.GLB_RGN_LEN_LO).toNat + bits (s.liv Reg.GLB_RGN_LEN_HI).toNat 0 16 * 2 ^ 32
  [ BitVec.ofNat 64 (s.liv64 Reg.GLB_RGN_BASE_LO),
    BitVec.ofNat 64 len,
    BitVec.ofNat 64 (nextGen (keyGen s i) + 2 ^ 12 + bits a 0 6 * 2 ^ 14 + bits a 6 1 * 2 ^ 20 + bits a 7 12 * 2 ^ 21),
    BitVec.ofNat 64 ((s.liv Reg.GLB_RGN_ACL).toNat % 2 ^ 29) ]

/-- A region is registered, or refused with a CODE (R386 to R388). -/
def register (origin serial pc : Nat) (s : State) : State :=
  let code := regTest s origin
  match (if code = 0 then freeEntry s else none) with
  | none => (s.setLivN Reg.GLB_RGN_RES 0).setLivN Reg.GLB_RGN_STAT code
  | some i =>
    let ws := regWords s i
    let old := (keyWord s i 2).toNat
    let s := ws.zipIdx.foldl (fun s e =>
      logTable origin serial pc 0 i e.2 (keyWord s i e.2) e.1 (setKeyWord i e.2 e.1 s)) s
    let s := writeWay i (recount i old (keyWord s i 2).toNat s)
    (s.setLivN Reg.GLB_RGN_RES (i + keyGen s i * 2 ^ 20)).setLivN Reg.GLB_RGN_STAT 0

/-! ## Revocation and purge (R401 to R404) -/

/-- Sets GEN and STATE of entry `i`, in the store and in the cache; the counts follow. -/
def setGenState (i gen st : Nat) (s : State) : State :=
  let old := (keyWord s i 2).toNat
  let new := setBits (setBits old 0 12 gen) 12 2 st
  writeWay i (recount i old new (setKeyWord i 2 (BitVec.ofNat 64 new) s))

/-- Is a revocation refused (R401)? -/
def revRefused (s : State) (origin v : Nat) : Bool :=
  let i := bits v 0 20
  let op := bits v 30 2
  op == 0 || op == 3 || keyState s i != 1 || !originOwns s origin (keyOwner s i) ||
  decide (8 ≤ (s.eng.keys.revs.filter (fun r => r.late)).length)

/-- Phase 1 of an accepted revocation (R402). -/
def revStart (origin serial pc v : Nat) (s : State) : State :=
  let i := bits v 0 20
  let s := setGenState i (keyGen s i) 2 s
  s.onKeys (fun k => { k with revs := k.revs ++ [{
    idx := i
    op := bits v 30 2
    cue := bits v 20 8
    cueEn := bit v 28
    origin := origin
    serial := serial
    pc := pc }] })

/-- NLATE follows the late revocations in progress. -/
def showLate (s : State) : State :=
  s.setLivF Reg.GLB_KEYREV_STAT Fld.GLB_KEYREV_STAT_NLATE ((s.eng.keys.revs.filter (fun r => r.late)).length)

/-- What a revocation reports when its entry has advanced from word `old` (R402 to R404): result, log entry, event,
cue; the long operation ends unless it is late. -/
def revReport (r : Rev) (old : DWord) (s : State) : State :=
  let i := r.idx
  let q := ownerPart s (keyOwner s i)
  let s := s.onKeys (fun k => { k with revs := k.revs.filter (fun m => m.idx != i) })
  let s := s.setLivN Reg.GLB_KEYREV_RES (i + keyGen s i * 2 ^ 20)
  let new := keyWord s i 2
  let s := if r.late then s.logDevice (gEvt 17) old.toNat new.toNat
    else logTable r.origin r.serial r.pc 0 i 2 old new s
  let s := s.raise (gEvt 17) q
  let s := if r.cueEn then cuePulse q r.cue s else s
  if r.late then showLate s else endLong s

/-- Phase 2 of a revocation (R402), or the end of a purged entry (R404): `op` 1 frees the entry, 2 keeps it under
its new key. -/
def revFinish (i op : Nat) (s : State) : State :=
  let old := keyWord s i 2
  let s := setGenState i (nextGen (keyGen s i)) (if op = 1 then 0 else 1) s
  match s.eng.keys.revs.find? (fun r => r.idx == i) with
  | some r => revReport r old s
  | none => s

/-- Is entry `i` being purged with its partition (R404)? -/
def purged (s : State) (i : Nat) : Bool :=
  keyState s i == 2 && match ownerPart s (keyOwner s i) with
    | some q => decide (q < 48) && purging s q
    | none => false

/-- An admitted access under entry `i` finishes (R399): a purged entry without another becomes FREE (R404). -/
def releaseKey (i : Nat) (s : State) : State :=
  let s := s.onKeys (fun k => { k with held := Tab.set 0 k.held i (Tab.get 0 k.held i - 1) })
  if heldCount s i = 0 ∧ purged s i then revFinish i 1 s else s

/-- The entries, in VALID or REVOKING, that satisfy `q`. -/
def keysOf (s : State) (q : Owner → Bool) : List Nat :=
  ((s.eng.keys.tab.filter (fun e => e.1 % 4 == 2)).map (fun e => e.1 / 4)).filter (fun i =>
    keyState s i != 0 && q (keyOwner s i))

/-- Entries are purged (R404): each goes to REVOKING, and to FREE once no access is admitted under it. -/
def purgeKeys (l : List Nat) (s : State) : State :=
  l.foldl (fun s i =>
    let s := if keyState s i = 1 then setGenState i (keyGen s i) 2 s else s
    if heldCount s i = 0 then revFinish i 1 s else s) s

/-- The purge of partition `q` begins (R404). -/
def purgePart (q : Nat) (s : State) : State :=
  let s := s.setLivF (Reg.GLB_RGN_PCNT q) ⟨31, 1⟩ 1
  purgeKeys (keysOf s (fun o => ownerPart s o == some q)) s

/-- A TBLW to word `w` of entry `i` (R391, R564): an entry in REVOKING stays as it is; a STATE of 2 is stored as 0;
a rewritten word 2 mends a bad entry, whose old word 2 counts as FREE. -/
def keyTblw (i w : Nat) (v : DWord) (s : State) : State :=
  let old := keyWord s i 2
  let bad := s.eng.keys.bad.contains i
  if !bad ∧ stateIn old.toNat = 2 then s
  else if w ≠ 2 then writeWay i (setKeyWord i w v s)
  else
    let v := if bits v.toNat 12 2 = 2 then BitVec.ofNat 64 (setBits v.toNat 12 2 0) else v
    let s := setKeyWord i 2 v s
    if bad then
      let s := s.onKeys (fun k => { k with bad := k.bad.filter (fun j => j != i) })
      writeWay i (if stateIn v.toNat = 0 then noteFreed i (countFree 1 s) else countRegion (ownerIn v.toNat) 1 s)
    else writeWay i (recount i old.toNat v.toNat s)

/-- An entry of the key table shows an uncorrectable error (R388, R564). -/
def keyBadNow (i : Nat) (s : State) : State :=
  if s.eng.keys.bad.contains i then s
  else
    let s := if stateIn (keyWord s i 2).toNat = 0 then countFree (-1) s else s
    driftUe 7 i (s.onKeys (fun k => { k with bad := k.bad ++ [i] }))

end Sys2Proof.Machine
end

