-- ==== Sys2Proof/Machine/QueueOps.lean ====
section
/-! DEFINITION. FME queues: contexts, states, waits, records, completion counts (R408 to R429). -/

namespace Sys2Proof.Machine

/-- Queue `i`. -/
def State.q (s : State) (i : Nat) : Queue := Tab.get {} s.eng.qs i

/-- Writes queue `i`. -/
def State.setQ (s : State) (i : Nat) (q : Queue) : State := s.onEng (fun e => { e with qs := Tab.set {} e.qs i q })

/-- Changes queue `i`. -/
def State.onQ (s : State) (i : Nat) (f : Queue → Queue) : State := s.setQ i (f (s.q i))

/-! ## Fields of the context (R408) -/

/-- RLOG. -/
def Queue.rlog (q : Queue) : Nat := q.f 0 0 4
/-- The ring's address. -/
def Queue.ringAt (q : Queue) : Nat := q.f 0 12 52 * 2 ^ 12
/-- REN. -/
def Queue.ren (q : Queue) : Bool := q.f 1 0 1 == 1
/-- The record ring's address. -/
def Queue.recAt (q : Queue) : Nat := q.f 1 12 52 * 2 ^ 12
/-- NRLOG. -/
def Queue.nrlog (q : Queue) : Nat := q.f 2 0 4
/-- The notification ring's address. -/
def Queue.noteAt (q : Queue) : Nat := q.f 2 12 52 * 2 ^ 12
/-- VC. -/
def Queue.vc (q : Queue) : Nat := q.f 3 19 3
/-- OUTMAX. -/
def Queue.outMax (q : Queue) : Nat := q.f 3 23 7
/-- CUE when CUEEN is 1. -/
def Queue.cue (q : Queue) : Option Nat := if q.f 3 30 1 = 1 then some (q.f 3 48 8) else none
/-- NCUE when NCUEEN is 1. -/
def Queue.ncue (q : Queue) : Option Nat := if q.f 3 31 1 = 1 then some (q.f 3 56 8) else none
/-- DOMAIN. -/
def Queue.domain (q : Queue) : Nat := q.f 3 32 16

/-- OUT: descriptors started and not ended. -/
def Queue.out (q : Queue) : Nat := q.descs.length + q.ending.length

/-- The code of a state (R408). -/
def QState.code : QState → Nat
  | .free => 0 | .stopped => 1 | .active => 2 | .stopping => 3 | .failing => 4 | .error => 5

/-- Word `w` of a context as TBLR returns it (R408). -/
def Queue.word (q : Queue) (w : Nat) : DWord :=
  if w < 4 then nth 0 q.w w
  else BitVec.ofNat 64 (
    if w = 8 then q.st.code + q.pi * 2 ^ 16 + q.ccnt * 2 ^ 32
    else if w = 9 then q.ecnt + q.ncnt * 2 ^ 32
    else if w = 10 then q.failIdx + q.failCode * 2 ^ 32 + q.nci * 2 ^ 40
    else if w = 11 then q.lastStart + q.out * 2 ^ 32
    else 0)

/-! ## Counts and rights -/

/-- Does an FME serve the queue now, for QACT (R435)? -/
def QState.counts : QState → Bool
  | .free | .stopped => false
  | _ => true

/-- Adds to a live word held as a number. -/
def addLiv (a : Nat) (d : Int) (s : State) : State := s.setLivN a (((s.liv a).toNat : Int) + d).toNat

/-- A queue enters a state; QACT and GLB_QFREE follow. -/
def setSt (i : Nat) (st : QState) (s : State) : State :=
  let q := s.q i
  let s := if q.st.counts = st.counts then s else addLiv (Reg.QACT q.fme) (if st.counts then 1 else -1) s
  let s := if (q.st = .free) = (st = .free) then s else addLiv Reg.GLB_QFREE (if st = .free then 1 else -1) s
  s.onQ i (fun q => { q with st := st })

/-- Does an origin hold queue `i` (R409)? -/
def holdsQueue (s : State) (origin i : Nat) : Bool :=
  decide (48 ≤ origin) ||
  (let r := (s.act (Reg.GLB_QRANGE origin)).toNat
   decide (bits r 0 16 ≤ i) && decide (i ≤ bits r 16 16) &&
   (decide ((s.q i).st = .free) || originOwns s origin (s.q i).owner))

/-- An entry of TYPE `ty` about queue `i` for its owner's event ring (R430, R431). -/
def queueEntry (i ty info d2 : Nat) (s : State) : State :=
  match ownerPart s (s.q i).owner with
  | some p => if p < 48 then (ringWrite p ty (i + info * 2 ^ 16) d2 0 s).intx else s
  | none => s

/-! ## Waits (R418, R429, R619) -/

/-- A descriptor's status becomes known. -/
def setStatus (i n code : Nat) (s : State) : State :=
  s.onQ i (fun q => { q with
    descs := q.descs.map (fun d => if d.n = n ∧ d.status.isNone then { d with status := some code } else d) })

/-- The count that a WAIT of MODE 0 or 2 tests has reached TARGET (R429). -/
def countHolds (s : State) (d : Desc) : Bool :=
  let q := s.q (d.f 2 0 16)
  let c := if d.f 2 48 2 = 0 then q.ccnt else q.ncnt
  decide ((c + 2 ^ 32 - d.f 4 0 32) % 2 ^ 32 < 2 ^ 31)

/-- Every waiting WAIT that satisfies `sel` ends with a status. -/
def endWaits (sel : State → Nat → Desc → Bool) (code : Nat) (s : State) : State :=
  s.eng.qs.foldl (fun s e =>
    e.2.descs.foldl (fun s d => if d.waits && d.op == 6 && sel s e.1 d then setStatus e.1 d.n code s else s) s) s

/-- A count of queue `i` has changed: WAITs on it whose condition holds end OK, and its FENCE whose number CCNT has
reached (R421, R429). -/
def wakeOn (i : Nat) (s : State) : State :=
  let s := endWaits (fun s _ d => d.f 2 48 2 != 1 && d.f 2 0 16 == i && countHolds s d) 0 s
  (s.q i).descs.foldl (fun s d => if d.waits && d.op == 5 && d.n == (s.q i).ccnt then setStatus i d.n 0 s else s) s

/-- Queue `i` enters FAILING: WAITs on it whose condition does not hold end CHAINERR (R429). -/
def chainErr (i : Nat) (s : State) : State :=
  endWaits (fun s _ d => d.f 2 48 2 != 1 && d.f 2 0 16 == i && !countHolds s d) 0x18 s

/-- A pulse on line `l` ends the WAITs of MODE 1 that listen to it, of partitions that own the line (R429, R468). -/
def waitCue (l : Nat) (s : State) : State :=
  endWaits (fun s i d => d.f 2 48 2 == 1 && d.f 2 0 8 == l &&
    (match ownerPart s (s.q i).owner with
     | some p => cueOwnedBy s.act l p
     | none => false)) 0 s

/-- Entries read from the ring and not started are forgotten. -/
def dropRing (i : Nat) (s : State) : State := s.onQ i (fun q => { q with ring := [], reading := none })

/-- Queue `i`'s waiting FENCE or WAIT is abandoned (R619). -/
def abandon (i : Nat) (s : State) : State :=
  match (s.q i).descs.find? Desc.waits with
  | none => s
  | some d =>
    let s := addLiv (Reg.OUTST (s.q i).fme) (-1) s
    dropRing i (s.onQ i (fun q => { q with
      descs := q.descs.filter (fun e => e.n != d.n)
      lastStart := (d.n + 2 ^ 32 - 1) % 2 ^ 32 }))

/-- The FME reads the ring of an ACTIVE queue ahead: up to 8 entries, to the end of the ring (R413, R418); none under a hold
(R147). -/
def pumpRing (i : Nat) (s : State) : State :=
  let q := s.q i
  let m := (q.lastStart + 1) % 2 ^ 32
  let left := (q.pi + 2 ^ 16 - m % 2 ^ 16) % 2 ^ 16
  if q.st = .active ∧ q.ring = [] ∧ q.reading = none ∧ 0 < left ∧ !s.holds then
    let size := 2 ^ q.rlog
    let k := min 8 (min left (size - m % size))
    let id := s.eng.io.next
    ownerRead (q.fme / 2) q.owner (.ring i id k) (q.ringAt + 64 * (m % size)) (64 * k) (s.onQ i (fun q => { q with reading := some id }))
  else s

/-- The bytes of a memory block as words of 8 bytes. -/
def wordsOf : Nat → List Byte → List DWord
  | 0, _ => []
  | k + 1, l => BitVec.ofNat 64 (ofBytes (l.take 8)) :: wordsOf k (l.drop 8)

/-- The entries of a ring read. -/
def entriesOf : Nat → List Byte → List (Option (List DWord))
  | 0, _ => []
  | k + 1, l => some (wordsOf 8 (l.take 64)) :: entriesOf k (l.drop 64)

/-- A ring read ends; poisoned or failed, none of its entries can be used (R419). -/
def ringRead (i id k : Nat) (r : HostRes) (s : State) : State :=
  if (s.q i).reading = some id then
    let l := match r with
      | .ok d false => entriesOf k d
      | _ => List.replicate k none
    s.onQ i (fun q => { q with ring := l, reading := none })
  else s

/-! ## Ends of descriptors and of states (R412, R425 to R428) -/

/-- OUT has reached 0: the queue leaves STOPPING or FAILING (R412, R564). -/
def settleOut (i : Nat) (s : State) : State :=
  let q := s.q i
  let stopped (s : State) : State := queueEntry i 4 0 q.ccnt (setSt i .stopped s)
  if q.out ≠ 0 then s
  else match q.st with
    | .stopping =>
      if q.toFree then (setSt i .free s).onQ i (fun q => { q with toFree := false }) else stopped s
    | .failing =>
      if q.bad ≠ 0 then stopped s
      else
        let s := queueEntry i 3 q.failCode (q.failIdx + q.lastStart * 2 ^ 32) (setSt i .error s)
        s.raise (384 + 2 * q.fme + 1)
    | _ => s

/-- A queue stops (R412): `toFree` tells that a reset or purge leads it to FREE, without an event ring entry. -/
def stopQueue (i : Nat) (toFree : Bool) (s : State) : State :=
  let s := setSt i .stopping (abandon i (dropRing i s))
  settleOut i (s.onQ i (fun q => { q with toFree := q.toFree || toFree }))

/-- A reset of its owner's partition, or the start of its purge, reaches queue `i` (R412). -/
def resetQueue (i : Nat) (s : State) : State := if (s.q i).st = .free then s else stopQueue i true s

/-- Queues whose owner satisfies `p`. -/
def queuesOf (s : State) (p : Owner → Bool) : List Nat :=
  (s.eng.qs.filter (fun e => e.2.st != .free && p e.2.owner)).map (fun e => e.1)

/-- The context of queue `i` shows an uncorrectable error (R564). -/
def queueBad (i : Nat) (s : State) : State :=
  let s := driftUe 8 i (s.onQ i (fun q => { q with bad := 15 }))
  match (s.q i).st with
  | .active => stopQueue i false s
  | .error => queueEntry i 4 0 (s.q i).ccnt (setSt i .stopped s)
  | _ => s

/-- CCNT advances over the descriptors that have ended OK, in number order; each with CUE = 1 pulses the queue's
cue (R425, R428). -/
def countOk (i : Nat) : Nat → State → State
  | 0, s => s
  | fuel + 1, s =>
    let q := s.q i
    match q.okd.find? (fun e => e.1 == q.ccnt) with
    | none => s
    | some e =>
      let s := s.onQ i (fun q => { q with
        ccnt := (q.ccnt + 1) % 2 ^ 32
        okd := q.okd.filter (fun m => m.1 != e.1) })
      let s := match q.cue with
        | some l => if e.2 then cuePulse (ownerPart s q.owner) l s else s
        | none => s
      countOk i fuel (wakeOn i s)

/-- Descriptor `n` has ended and its record, if any, has left or been lost (R412, R425, R426). -/
def concluded (i n : Nat) (s : State) : State :=
  match (s.q i).ending.find? (fun d => d.n == n) with
  | none => s
  | some d =>
    let s := addLiv (Reg.OUTST (s.q i).fme) (-1) s
    let s := s.onQ i (fun q => { q with ending := q.ending.filter (fun e => e.n != n) })
    let s := if d.status = some 0 then
        let s := s.onQ i (fun q => { q with okd := q.okd ++ [(n, d.f 0 9 1 == 1)] })
        countOk i (s.q i).okd.length s
      else s
    settleOut i s

/-- The record of a descriptor (R426). -/
def recordOf (q : Queue) (d : Desc) : List Byte :=
  toBytes 8 (nth 0 d.ws 7).toNat ++
  toBytes 8 (d.status.getD 0 + b2n (!bit d.n q.rlog) * 2 ^ 8 + d.n * 2 ^ 16)

/-- Descriptor `n` of queue `i` ends with its status (R412, R421, R426): a failure moves the queue to FAILING; the
record, when one is due, is written first. -/
def endDesc (i n : Nat) (s : State) : State :=
  match (s.q i).descs.find? (fun d => d.n == n) with
  | none => s
  | some d =>
    match d.status with
    | none => s
    | some code =>
      let e := (s.q i).fme
      let s := perf (24 + e) (if code = 0 then 2 else 3) none 1 { master := ownerPart s (s.q i).owner, cls := some d.op }
        (s.bump (Reg.DESCCNT e))
      let s := match d.lidx with
        | some k => releaseKey k s
        | none => s
      let s := s.onQ i (fun q => { q with
        descs := q.descs.filter (fun m => m.n != n)
        ending := q.ending ++ [d] })
      let s := if code = 0 then s
        else
          let s := (s.bump (Reg.DFAILCNT e)).onQ i (fun q => { q with ecnt := (q.ecnt + 1) % 2 ^ 32 })
          let q := s.q i
          if q.st = .active ∨ (q.st = .stopping ∧ !q.toFree) then
            let s := setSt i .failing (abandon i (dropRing i s))
            chainErr i (s.onQ i (fun q => { q with failIdx := n, failCode := code }))
          else s
      let q := s.q i
      if q.ren ∧ (d.f 0 8 1 = 1 ∨ code ≠ 0 ∨ q.st = .failing) then
        ownerWrite (e / 2) q.owner false (.record i n) (q.recAt + 16 * (n % 2 ^ q.rlog)) (recordOf q d) s
      else concluded i n s

end Sys2Proof.Machine
end

