-- ==== Sys2Proof/Machine/Initiator.lean ====
section
/-! DEFINITION. The initiating FME: messages, packets, paths, trackers, windows, and the start of descriptors
(R417 to R419, R437 to R448). -/

namespace Sys2Proof.Machine

/-- DMA channel `c`. -/
def State.chan (s : State) (c : Nat) : Chan := Tab.get {} s.eng.ch c

/-- Changes DMA channel `c`. -/
def State.onChan (s : State) (c : Nat) (f : Chan → Chan) : State :=
  s.onEng (fun g => { g with ch := Tab.set {} g.ch c (f (Tab.get {} g.ch c)) })

/-! ## Settings (R449) -/

/-- RTO in ns. -/
def rtoNs (s : State) : Nat := min 60 (max 4 (s.actF Reg.GLB_FME_CFG Fld.GLB_FME_CFG_RTO)) * 1000
/-- NAKWAIT in ns. -/
def nakWaitNs (s : State) : Nat := max 1 (s.actF Reg.GLB_FME_CFG Fld.GLB_FME_CFG_NAKWAIT) * 1000
/-- Paths in use. -/
def nPaths (s : State) : Nat := s.actF Reg.GLB_FME_CFG Fld.GLB_FME_CFG_NPATH + 1
/-- TARGET in ns. -/
def targetNs (s : State) : Nat := max 1 (s.actF Reg.GLB_FME_CC Fld.GLB_FME_CC_TARGET) * 100
/-- DLO. -/
def dlo (s : State) : Nat := max 8 (s.actF Reg.GLB_FME_CC Fld.GLB_FME_CC_DLO)
/-- DHI. -/
def dhi (s : State) : Nat := min (dlo s) (max 8 (s.actF Reg.GLB_FME_CC Fld.GLB_FME_CC_DHI))
/-- MAXW in bytes. -/
def maxW (s : State) : Nat := min 1024 (s.actF Reg.GLB_FME_WIN Fld.GLB_FME_WIN_MAXW) * 1024
/-- A window within its bounds (R447). -/
def clampW (s : State) (w : Nat) : Nat := max 256 (min (maxW s) w)
/-- INITW in bytes. -/
def initW (s : State) : Nat := clampW s (max 1 (s.actF Reg.GLB_FME_WIN Fld.GLB_FME_WIN_INITW) * 1024)

/-! ## FME packets (R437 to R440) -/

/-- Bytes rounded up to 32 B. -/
def pad32 (k : Nat) : Nat := ceilDiv k 32 * 32

/-- The data of a pair's FIRST. -/
def firstData : Nat := 4096 - 32

/-- An FME packet of FME `e` leaves toward a node on a path, as a pair when it is longer than 4,096 B; one for this
node is delivered here (R326, R437, R440, R621). -/
def fmeSend (e : Nat) (h : FmeHdr) (data : List Byte) (dnode vc colour path : Nat) (ep : Bool) (s : State) : State :=
  let req := h.pt == 1 || h.pt == 2 || h.pt == 4
  let p : Packet := {
    type := if h.pt = 1 then 2 else 3
    vc := vc
    dnode := dnode
    dport := 4 * ((if req then h.rkey % 2 ^ 20 % 48 else h.sfme) / 2)
    snode := s.node
    sport := 4 * (e / 2)
    colour := colour
    poison := ep
    len := (32 + pad32 data.length) / 32
    flowhash := h.sfme
    ts := s.ft % 2 ^ 16
    path := path
    body := .fme h data }
  if dnode = s.node then fmeArrive (fmeServing h % 48) p s
  else if pad32 data.length ≤ firstData then sendPkt (e / 2) .internal p none s
  else
    let rest := data.drop firstData
    sendPkt (e / 2) .internal
      { p with len := 128, body := .fme { h with cont := true } (data.take firstData) }
      (some { p with len := (32 + pad32 rest.length) / 32, body := .fme h rest }) s

/-! ## Messages -/

/-- Packets of a message (R437). -/
def Msg.nseg (m : Msg) : Nat := max 1 (ceilDiv m.len 4096)
/-- Bytes of segment `i`. -/
def Msg.segLen (m : Msg) (i : Nat) : Nat := min 4096 (m.len - 4096 * i)
/-- Does the message send data of its own: WRITE, WRITE_IMM? -/
def Msg.sends (m : Msg) : Bool := m.op == 1 || m.op == 3
/-- The code of its packets' kind (R439). -/
def Msg.pt (m : Msg) : Nat := if m.sends then 1 else if m.op = 2 then 2 else 4
/-- The first failure found stays. -/
def Msg.failWith (m : Msg) (code : Nat) : Msg := if m.fail.isSome then m else { m with fail := some code }

/-- The next segment of a queue's WRITE or WRITE_IMM is read from the host (R437). -/
def pumpMsg (e mid : Nat) (s : State) : State :=
  match s.msg e mid with
  | none => s
  | some m => match m.cl with
    | .dma _ => s
    | .queue .. =>
      if m.sends && m.staged.isNone && !m.reading && decide (m.next < m.nseg) then
        let k := m.segLen m.next
        if k = 0 then s.onMsg e mid (fun m => { m with staged := some ([], false) })
        else hostRead (e / 2) m.part m.slice (.source e mid) (m.laddr + 4096 * m.next) k
          (s.onMsg e mid (fun m => { m with reading := true }))
      else s

/-- The destination context of a node (R446). -/
def State.dest (s : State) (e node : Nat) : Option Dest := Tab.find (s.fme e).dests node

/-- Changes a destination context. -/
def State.onDest (s : State) (e node : Nat) (f : Dest → Dest) : State :=
  match s.dest e node with
  | none => s
  | some d => s.onFme e (fun g => { g with dests := Tab.put g.dests node (f d) })

/-- Trackers that an FME holds for a node. -/
def tracksTo (s : State) (e node : Nat) : List Track :=
  ((s.fme e).msgs.filter (fun m => m.dnode == node)).flatMap (fun m => m.tracks)

/-- Bytes in flight to a node (R447): those of trackers whose packet is not known to be written. -/
def inFlight (s : State) (e node : Nat) : Nat :=
  (tracksTo s e node).foldl (fun k t => if t.pended then k else k + t.bytes) 0

/-- With no packet outstanding a context begins its idle time (R446). -/
def noteIdle (e node : Nat) (s : State) : State :=
  if (tracksTo s e node).isEmpty then
    s.onDest e node (fun d => { d with idle := if d.idle.isSome then d.idle else some s.now })
  else s

/-- The BAD code of a DMA descriptor for a message's status (R462). -/
def badCode (st : Nat) : Nat :=
  if 1 ≤ st ∧ st ≤ 7 then 0x10 + st
  else if st = 0x11 then 3 else if st = 0x12 then 0x22 else if st = 0x13 then 4
  else if st = 0x16 then 7 else if st = 0x17 then 6 else st

/-- A message is over: its descriptor's status is known, or its channel's message has ended. TOUTCNT counts a status of TIMEOUT,
whichever end found it (R451). -/
def closeMsg (e : Nat) (m : Msg) (s : State) : State :=
  let s := s.onFme e (fun g => { g with msgs := g.msgs.filter (fun k => k.mid != m.mid) })
  let s := if m.fail = some 0x16 then s.bump (Reg.TOUTCNT e) else s
  let s := noteIdle e m.dnode s
  match m.cl with
  | .queue q n => setStatus q n (m.fail.getD 0) s
  | .dma c =>
    if (s.chan c).msg = some (e, m.mid) then
      s.onChan c (fun x => { x with
        msgDone := true
        fail := if x.fail.isSome then x.fail else m.fail.map badCode })
    else s

/-- Has every packet been sent and answered, and every local write left (R421)? -/
def Msg.done (m : Msg) : Bool :=
  m.tracks.isEmpty && m.sinks == 0 && !m.reading && (m.shut || m.next == m.nseg)

/-- Closes a message that is over. -/
def checkMsg (e mid : Nat) (s : State) : State :=
  match s.msg e mid with
  | some m => if m.done then closeMsg e m s else s
  | none => s

/-- A segment read ends (R423, R620): an unreadable segment of a WRITE is not sent, one of a WRITE_IMM goes as
poisoned zeros. -/
def sourceRead (e mid : Nat) (r : HostRes) (s : State) : State :=
  match s.msg e mid with
  | none => s
  | some m =>
    let put (f : Msg → Msg) : State := s.onMsg e mid (fun m => f { m with reading := false })
    match r with
    | .ok d ep => put (fun m => { (if ep then m.failWith 0x13 else m) with staged := some (d, ep) })
    | .fail =>
      if m.op = 3 then put (fun m => { m.failWith 0x11 with staged := some (List.replicate (m.segLen m.next) 0, true) })
      else checkMsg e mid (pumpMsg e mid (put (fun m => { m.failWith 0x11 with next := m.next + 1 })))

/-- A local write at the initiator ends (R421). -/
def sinkDone (e mid : Nat) (r : HostRes) (s : State) : State :=
  checkMsg e mid (s.onMsg e mid (fun m =>
    let m := { m with sinks := m.sinks - 1 }
    match r with
    | .ok .. => m
    | .fail => m.failWith 0x11))

/-! ## Rounds and windows (R448) -/

/-- The end of a round: W grows when every sample lay at or below TARGET and it was not decreased. -/
def endRound (s : State) (d : Dest) : Dest :=
  let ai := s.actF Reg.GLB_FME_CC Fld.GLB_FME_CC_AI * 256
  { d with
    w := if d.sampled && !d.above && !d.cut then clampW s (d.w + ai) else d.w
    round := none }

/-- At a sample, transient NAK or RTO: a round that has lasted one smoothed RTT ends, and the next starts. -/
def roundAt (s : State) (d : Dest) : Dest :=
  match d.rtt with
  | none => d
  | some r =>
    let d := match d.round with
      | some t => if t + r ≤ s.now then endRound s d else d
      | none => d
    if d.round.isNone then { d with round := some s.now, cut := false, sampled := false, above := false } else d

/-- An RTT sample of a path (R447, R448). -/
def sample (s : State) (path r : Nat) (d : Dest) : Dest :=
  let smooth (x : Option Nat) : Nat := match x with
    | none => r
    | some v => (7 * v + r) / 8
  let d := { d with prtt := Tab.put d.prtt path (smooth (Tab.find d.prtt path)), rtt := some (smooth d.rtt) }
  let d := { roundAt s d with sampled := true }
  let t := targetNs s
  if t < r then
    let w :=
      if r - t ≤ t / 4 then d.w * dlo s / 16
      else if r - t ≤ t then d.w * (dlo s + dhi s) / 32
      else d.w * dhi s / 16
    { d with above := true, cut := true, w := if d.cut then d.w else clampW s w }
  else d

/-- A transient NAK or an RTO: `halve` tells that it halves W, once in a round. -/
def setback (s : State) (halve : Bool) (d : Dest) : Dest :=
  let d := roundAt s d
  if halve ∧ (d.round.isNone ∨ !d.cut) then { d with w := clampW s (d.w / 2), cut := true } else d

/-! ## Sending (R440, R443, R445 to R447) -/

/-- The path of the next packet to a destination, and the context after it (R440). -/
def nextPath (s : State) (d : Dest) : Nat × Dest :=
  let k := nPaths s
  let least := d.prtt.foldl (fun m e => if e.1 < k then (match m with
    | none => some e.2
    | some v => some (min v e.2)) else m) none
  let slow (p : Nat) : Bool := match Tab.find d.prtt p, least with
    | some r, some m => decide (m + targetNs s / 2 < r)
    | _, _ => false
  let probe := d.count % 16 == 15
  let pick (q : Nat → Bool) : Option Nat := (firstBelow k (fun i => q ((d.turn + i) % k))).map (fun i => (d.turn + i) % k)
  let p := match (if probe then pick slow else none) with
    | some p => p
    | none => (pick (fun p => !slow p)).getD (d.turn % k)
  (p, { d with turn := (p + 1) % k, count := d.count + 1, idle := none })

/-- The packet of a tracker. -/
def sendTrack (e : Nat) (m : Msg) (t : Track) (s : State) : State :=
  let off := m.roff + 4096 * t.pidx
  let last := t.pidx + 1 == m.nseg
  let h : FmeHdr := {
    pt := m.pt
    imm := m.op == 3
    lastp := last
    high := decide (2 ^ 48 ≤ off)
    aop := if m.op = 4 then m.aop else 0
    domain := m.domain
    rkey := m.rkey
    off := off % 2 ^ 48
    tq := m.tq
    mid := m.mid
    sfme := e
    pidx := t.pidx
    arg := if m.op = 3 ∧ last then m.opa else if m.op = 2 then m.segLen t.pidx else if m.op = 4 then m.opa else 0 }
  fmeSend e h t.data m.dnode m.vc (b2n m.bulk) t.path t.ep s

/-- Replaces the tracker of a packet. -/
def putTrack (e mid : Nat) (t : Track) (s : State) : State :=
  s.onMsg e mid (fun m => { m with tracks := m.tracks.map (fun k => if k.pidx = t.pidx then t else k) })

/-- A copy of a packet is sent again, on the next path (R440, R443); without room in the reserve it falls due
(R292). -/
def sendCopy (e : Nat) (m : Msg) (t : Track) (s : State) : State :=
  if !engineRoom s (e / 2) then putTrack e m.mid { t with st := .due } s
  else match s.dest e m.dnode with
    | none => s
    | some d =>
      let (p, d) := nextPath s d
      let o : Occ := { master := some m.part, cls := some m.pt }
      let s := perf (24 + e) 5 none 1 o ((s.onDest e m.dnode (fun _ => d)).bump (Reg.RTXCNT e))
      let t := { t with st := if t.pended then .pend else .out, path := p, ts := s.ft % 2 ^ 16, at_ := s.now }
      sendTrack e m t (putTrack e m.mid t s)

/-- May a DMA channel's message ask for more of its remote source: in RUN, nothing staged, nothing on its way (R460,
R463)? -/
def mayAsk (s : State) (m : Msg) : Bool :=
  match m.cl with
  | .dma c => m.op != 2 || (s.livF (Reg.CH_STAT c) Fld.CH_STAT_STATE == 1 && (s.chan c).reads == 0 && (s.chan c).stage.isEmpty)
  | .queue .. => true

/-- Does a message have a packet to send for the first time? -/
def hasNew (s : State) (e : Nat) (m : Msg) : Bool :=
  !m.shut && mayAsk s m && decide (m.next < m.nseg) && (!m.sends || m.staged.isSome) &&
  decide (((s.fme e).msgs.foldl (fun k m => k + m.tracks.length) 0) < 4096) &&
  (m.op != 3 || m.tracks.all (fun t => decide (m.next < t.pidx + 128)))

/-- Bytes that the next packet of a message counts in flight (R447). -/
def newBytes (m : Msg) : Nat := if m.op = 4 then 8 else m.segLen m.next

/-- Does the window of a node have room (R447)? A node without a context needs one to be free. -/
def windowOk (s : State) (e : Nat) (m : Msg) : Bool :=
  match s.dest e m.dnode with
  | none => decide ((s.fme e).dests.length < 512)
  | some d =>
    if d.w < 4128 then inFlight s e m.dnode == 0 && d.pace.isNone
    else decide (inFlight s e m.dnode + newBytes m ≤ d.w)

/-- Can a message send now: a copy that is due, or a new packet that its window allows? -/
def canSend (s : State) (e : Nat) (m : Msg) : Bool :=
  m.tracks.any (fun t => t.st == .due) || (hasNew s e m && windowOk s e m)

/-- A message's next packet is sent for the first time (R443, R446, R447). -/
def sendNew (e : Nat) (m : Msg) (s : State) : State :=
  let s := match s.dest e m.dnode with
    | some _ => s
    | none =>
      let s := s.onFme e (fun g => { g with dests := Tab.put g.dests m.dnode { w := initW s } })
      addLiv (Reg.DSTACT e) 1 s
  match s.dest e m.dnode with
  | none => s
  | some d =>
    let (p, d) := nextPath s d
    let bytes := newBytes m
    let pace := match d.rtt with
      | some r => if d.w < 4128 then some (s.now + r * bytes / d.w) else none
      | none => none
    let (data, ep) := if m.op = 4 then (toBytes 8 m.opb, false) else m.staged.getD ([], false)
    let t : Track := { pidx := m.next, path := p, ts := s.ft % 2 ^ 16, at_ := s.now, bytes := bytes, data := data, ep := ep }
    let s := (s.onDest e m.dnode (fun _ => { d with pace := pace })).bump (Reg.TXPKTCNT e)
    let s := perf (24 + e) 4 none 1 { master := some m.part, cls := some m.pt } s
    let s := match m.cl with
      | .dma c => if m.op = 2 then s.onChan c (fun x => { x with reads := x.reads + 1 }) else s
      | .queue .. => s
    let s := s.onMsg e m.mid (fun m => { m with
      next := m.next + 1
      staged := none
      started := if m.started.isSome then m.started else some s.now
      tracks := m.tracks ++ [t] })
    pumpMsg e m.mid (sendTrack e m t s)

/-- FME `e` sends one packet: destinations in turn in ascending order of node, the oldest message first (R446). -/
def sendNext (e : Nat) (s : State) : State :=
  let g := s.fme e
  let ms := g.msgs.filter (fun m => canSend s e m)
  let dist (m : Msg) : Nat := (m.dnode + 4096 - (g.lastNode + 1) % 4096) % 4096
  match ms.foldl (fun b m => match b with
      | none => some m
      | some k => if dist m < dist k then some m else some k) none with
  | none => s
  | some m =>
    let s := s.onFme e (fun g => { g with lastNode := m.dnode })
    match m.tracks.find? (fun t => t.st == .due) with
    | some t => sendCopy e m t s
    | none => sendNew e m s

/-! ## Answers (R442, R443) -/

/-- The tracker that an answer names, when the answer counts: it answers the latest copy, or LIFE, taken as RTO,
has passed since that was sent. `tse` is the ts that it echoes. -/
def answers (s : State) (e mid pidx tse : Nat) : Option (Msg × Track) :=
  (s.msg e mid).bind (fun m => (m.tracks.find? (fun t => t.pidx == pidx)).bind (fun t =>
    if t.ts = tse ∨ t.at_ + rtoNs s ≤ s.now then some (m, t) else none))

/-- Takes the RTT sample of an answer to the latest copy. -/
def takeSample (e : Nat) (m : Msg) (t : Track) (tse : Nat) (s : State) : State :=
  if t.ts = tse then
    let r := (s.ft % 2 ^ 16 + 2 ^ 16 - tse) % 2 ^ 16
    s.onDest e m.dnode (sample s t.path r)
  else s

/-- Is a message a DMA channel's? -/
def Msg.ofDma (m : Msg) : Bool :=
  match m.cl with
  | .dma _ => true
  | .queue .. => false

/-- A packet is answered for good, with the failure `code` unless that is 0. A DMA channel's message then asks for
nothing more, but for poison (R462). -/
def answered (e : Nat) (m : Msg) (t : Track) (code : Nat) (s : State) : State :=
  let s := s.onMsg e m.mid (fun m =>
    let m := { m with tracks := m.tracks.filter (fun k => k.pidx != t.pidx) }
    if code = 0 then m else { m.failWith code with shut := m.shut || (m.ofDma && code != 0x13) })
  checkMsg e m.mid (noteIdle e m.dnode s)

/-- Data returned to a message: a queue's is written locally, a DMA channel's is staged (R421, R460). -/
def deliver (e : Nat) (m : Msg) (t : Track) (data : List Byte) (ep : Bool) (s : State) : State :=
  let s := if ep then s.onMsg e m.mid (fun m => m.failWith 0x13) else s
  match m.cl with
  | .queue .. =>
    if data = [] then s
    else hostWrite (e / 2) m.part m.slice ep (.sink e m.mid) (m.laddr + 4096 * t.pidx) data
      (s.onMsg e m.mid (fun m => { m with sinks := m.sinks + 1 }))
  | .dma c =>
    if (s.chan c).msg = some (e, m.mid) ∧ !m.shut then
      s.onChan c (fun x => { x with stage := x.stage ++ [(data, ep)], reads := x.reads - 1 })
    else s

/-- An ACK at its initiator. -/
def ackIn (e : Nat) (h : FmeHdr) (s : State) : State :=
  let tse := h.arg % 2 ^ 16
  match answers s e h.mid h.pidx tse with
  | none => s
  | some (m, t) =>
    if bit h.arg 25 then answered e m t (bits h.arg 16 8) s
    else
      let s := takeSample e m t tse s
      if bit h.arg 24 then putTrack e m.mid { t with st := .pend, pended := true } s
      else answered e m t 0 s

/-- A NAK at its initiator: a transient one is waited out, any other ends the packet with its code. -/
def nakIn (e : Nat) (h : FmeHdr) (s : State) : State :=
  match answers s e h.mid h.pidx (h.arg % 2 ^ 16) with
  | none => s
  | some (m, t) =>
    let code := bits h.arg 16 8
    if 0x80 ≤ code then
      let s := (perf (24 + e) 8 none 1 { master := some m.part } (s.bump (Reg.NAKRXCNT e))).onDest e m.dnode (setback s (code == 0x80 || code == 0x82))
      putTrack e m.mid { t with st := .nakWait (s.now + nakWaitNs s) } s
    else answered e m t code s

/-- A response at its initiator: RRESP with the data read, ARESP with the old value. -/
def respIn (e : Nat) (p : Packet) (h : FmeHdr) (data : List Byte) (s : State) : State :=
  match answers s e h.mid h.pidx h.tse with
  | none => s
  | some (m, t) =>
    let s := takeSample e m t h.tse s
    answered e m t 0 (deliver e m t data p.poison s)

/-! ## Starting descriptors (R417 to R419, R444) -/

/-- Is a descriptor malformed (R417)? -/
def badDesc (s : State) (i : Nat) (d : Desc) : Bool :=
  let op := d.op
  let zero (l : List (Nat × Nat × Nat)) : Bool := l.all (fun f => d.f f.1 f.2.1 f.2.2 == 0)
  let rsv := [(0, 10, 6), (0, 28, 4), (2, 50, 14), (4, 32, 32)]
  let locals := [(0, 16, 12), (0, 32, 32), (1, 0, 64), (2, 0, 32), (3, 0, 64), (4, 0, 32)]
  let samePart (w : Nat) : Bool :=
    (s.q w).st == .free || (let p := ownerPart s (s.q w).owner; p.isSome && p == ownerPart s (s.q i).owner)
  let ok :=
    if op = 1 ∨ op = 2 then zero [(2, 32, 18), (5, 0, 64), (6, 0, 64)]
    else if op = 3 then zero [(2, 48, 2), (6, 0, 64)]
    else if op = 4 then zero [(2, 32, 16)] && decide (d.f 2 48 2 ≤ 2) && d.f 4 0 32 == 8 &&
      (d.f 2 48 2 == 2 || zero [(6, 0, 64)])
    else if op = 6 then
      let mode := d.f 2 48 2
      zero [(0, 16, 12), (0, 32, 32), (1, 0, 64), (2, 16, 32), (3, 0, 64), (5, 20, 44), (6, 0, 64)] &&
      (if mode = 1 then zero [(2, 8, 8), (4, 0, 32)] else decide (mode ≠ 3) && samePart (d.f 2 0 16))
    else if op = 5 ∨ op = 7 then zero (locals ++ [(2, 32, 18), (5, 0, 64), (6, 0, 64)])
    else false
  !(ok && zero rsv)

/-- Can a packet for a node leave this node (R330, R444)? -/
def reachable (s : State) (node : Nat) : Bool := node == s.node || (selectSlot s node 0).isSome

/-- A message begins for descriptor `d` of queue `i`, whose local region is entry `k` (R437). -/
def startMsg (i k : Nat) (d : Desc) (s : State) : State :=
  let q := s.q i
  let e := q.fme
  let mid := (s.fme e).mid
  let m : Msg := {
    cl := .queue i d.n
    mid := mid
    op := d.op
    dnode := d.f 0 16 12
    domain := q.domain
    vc := q.vc
    bulk := q.f 3 22 1 == 1
    rkey := d.f 2 0 32
    roff := d.f 3 0 64
    len := d.f 4 0 32
    tq := if d.op = 3 then d.f 2 32 16 else 0
    aop := d.f 2 48 2
    opa := d.f 5 0 64
    opb := if d.f 2 48 2 = 2 then d.f 6 0 64 else 0
    laddr := keyBase s k + d.f 1 0 64
    part := (ownerPart s q.owner).getD 0
    slice := q.owner.sliceNum }
  pumpMsg e mid (s.onFme e (fun g => { g with mid := (mid + 1) % 2 ^ 24, msgs := g.msgs ++ [m] }))

/-- The local check of descriptor `n` of queue `i`, and what follows (R395 to R397, R419). -/
def localCheck (i n : Nat) (s : State) : State :=
  match (s.q i).descs.find? (fun d => d.n == n) with
  | none => s
  | some d =>
    let q := s.q i
    let key := d.f 0 32 32
    let k := key % 2 ^ 20
    let code := accessCheck s key (d.f 1 0 64) (d.f 4 0 32) {
      owner := some q.owner
      need := if d.op = 1 ∨ d.op = 3 then 1 else 2
      atomic := d.op == 4 }
    if code ≠ 0 then setStatus i n (8 + code) (keyErr q.fme k code false q.owner.num s)
    else
      let s := admitKey k s
      let s := s.onQ i (fun q => { q with descs := q.descs.map (fun d => if d.n = n then { d with lidx := some k } else d) })
      if reachable s (d.f 0 16 12) then startMsg i k d s else setStatus i n 0x17 s

/-- A WAIT starts (R429). -/
def startWait (i : Nat) (d : Desc) (s : State) : State :=
  if d.f 2 48 2 = 1 then s
  else match (s.q (d.f 2 0 16)).st with
    | .free => setStatus i d.n 0x18 s
    | st =>
      if countHolds s d then setStatus i d.n 0 s
      else if st = .failing ∨ st = .error then setStatus i d.n 0x18 s
      else s

/-- The next descriptor of queue `i`, as read from the ring. -/
def nextDesc (s : State) (i : Nat) : Desc :=
  let q := s.q i
  { n := (q.lastStart + 1) % 2 ^ 32, ws := ((q.ring.headD none).getD []), start := s.now }

/-- May queue `i` start its next descriptor (R418, R446, R477)? -/
def canStart (s : State) (e i : Nat) : Bool :=
  let q := s.q i
  let d := nextDesc s i
  q.fme == e && q.st == .active && !q.ring.isEmpty && decide (q.out < q.outMax) && !q.descs.any Desc.waits &&
  !lulled s q.owner &&
  (decide (d.op = 0 ∨ 4 < d.op) || (s.dest e (d.f 0 16 12)).isSome || decide ((s.fme e).dests.length < 512))

/-- The next queue of FME `e` in turn that may start a descriptor (R418). -/
def nextQueue (s : State) (e : Nat) : Option Nat :=
  let last := (s.fme e).lastQueue
  let dist (i : Nat) : Nat := (i + 65536 - (last + 1) % 65536) % 65536
  if s.holds ∨ 1024 ≤ (s.liv (Reg.OUTST e)).toNat then none
  else ((s.eng.qs.map (fun x => x.1)).filter (fun i => canStart s e i)).foldl (fun b i => match b with
    | none => some i
    | some j => if dist i < dist j then some i else some j) none

/-- Queue `i` starts its next descriptor (R418, R419). -/
def startDesc (i : Nat) (s : State) : State :=
  let q := s.q i
  let e := q.fme
  let d := nextDesc s i
  let fetched := (q.ring.headD none).isSome
  let s := s.onFme e (fun g => { g with lastQueue := i })
  let s := perf (24 + e) 1 none 1 { master := ownerPart s q.owner, cls := some d.op } s
  let s := (addLiv (Reg.OUTST e) 1 s).onQ i (fun q => { q with
    ring := q.ring.drop 1
    lastStart := d.n
    descs := q.descs ++ [d] })
  let s := pumpRing i s
  if !fetched then setStatus i d.n 0x1A s
  else if badDesc s i d then setStatus i d.n 0x10 s
  else if d.op = 7 then setStatus i d.n 0 s
  else if d.op = 5 then (if d.n = q.ccnt then setStatus i d.n 0 s else s)
  else if d.op = 6 then startWait i d s
  else match lookup (d.f 0 32 32 % 2 ^ 20) (.desc i d.n) s with
    | (true, s) => localCheck i d.n s
    | (false, s) => s

end Sys2Proof.Machine
end

