-- ==== Sys2Proof/Machine/DmaOps.lean ====
section
/-! DEFINITION. The DMA engine: channels, descriptors, source reads, the data mover (R453 to R464). -/

namespace Sys2Proof.Machine

/-! ## Registers of a channel (R470) -/

/-- A field of CH_STAT. -/
def chStat (s : State) (c : Nat) (f : Fld) : Nat := s.livF (Reg.CH_STAT c) f
/-- Writes a field of CH_STAT. -/
def setChStat (c : Nat) (f : Fld) (v : Nat) (s : State) : State := s.setLivF (Reg.CH_STAT c) f v
/-- STATE: 0 IDLE, 1 RUN, 2 WAITGO, 3 PAUSED. -/
def chState (s : State) (c : Nat) : Nat := chStat s c Fld.CH_STAT_STATE
/-- The owner of a channel under a set. -/
def chOwnerIn (v : View) (c : Nat) : Owner :=
  let w := v (Reg.CH_CFG c)
  ⟨fget w Fld.CH_CFG_OKIND == 1, fget w Fld.CH_CFG_OWNER⟩
/-- The owner of a channel. -/
def chOwner (s : State) (c : Nat) : Owner := chOwnerIn s.act c
/-- CI. -/
def chCi (s : State) (c : Nat) : Nat := chStat s c Fld.CH_STAT_CI
/-- PI. -/
def chPi (s : State) (c : Nat) : Nat := (s.liv (Reg.CH_PI c)).toNat % 2 ^ 16
/-- RLOG; values below 4 act as 4. -/
def chRlog (s : State) (c : Nat) : Nat := max 4 (bits (s.liv (Reg.CH_RING_LO c)).toNat 0 4)
/-- The host address of the ring entry of descriptor CI. -/
def chEntryAt (s : State) (c : Nat) : Nat :=
  (s.liv (Reg.CH_RING_LO c)).toNat / 2 ^ 12 * 2 ^ 12 + (s.liv (Reg.CH_RING_HI c)).toNat * 2 ^ 32 +
  64 * (chCi s c % 2 ^ chRlog s c)
/-- The home station of a channel's host port. -/
def chStn (s : State) (c : Nat) : Nat := hostStn s ((ownerPart s (chOwner s c)).getD 48)
/-- A command or write is refused (R455, R456, R463). -/
def cmdRej (c : Nat) (s : State) : State := setChStat c Fld.CH_STAT_CMDREJ 1 s

/-! ## Fields of a descriptor (R457) -/

/-- Bits of word `w` of a descriptor. -/
def dF (ws : List DWord) (w lo n : Nat) : Nat := bits (nth 0 ws w).toNat lo n
/-- Is it a FILL? -/
def dFill (ws : List DWord) : Bool := dF ws 0 0 8 == 2
/-- SREM and DREM. -/
def dSrem (ws : List DWord) : Bool := dF ws 0 11 1 == 1
/-- DREM. -/
def dDrem (ws : List DWord) : Bool := dF ws 0 12 1 == 1
/-- LEN. -/
def dLen (ws : List DWord) : Nat := dF ws 1 0 32

/-- Is a descriptor malformed (R458, R459)? -/
def dBad (ws : List DWord) : Bool :=
  let op := dF ws 0 0 8
  let sw := dF ws 0 13 5
  let dw := dF ws 0 18 5
  let len := dLen ws
  let badWrap (k : Nat) : Bool := (decide (1 ≤ k) && decide (k ≤ 5)) || k == 31
  let tooLong (w a : Nat) : Bool := if w = 0 then decide (2 ^ 64 < a + len) else decide (2 ^ w < len)
  !(op == 1 || op == 2) || dF ws 0 23 9 != 0 || dF ws 0 44 20 != 0 || dF ws 5 0 64 != 0 || dF ws 6 0 64 != 0 ||
  len == 0 || badWrap sw || badWrap dw || (dSrem ws && dDrem ws) || (dSrem ws && dFill ws) ||
  (dSrem ws && sw != 0) || (dDrem ws && dw != 0) || (dFill ws && sw != 0) ||
  (!dFill ws && tooLong sw (dF ws 2 0 64)) || tooLong dw (dF ws 3 0 64)

/-! ## Reading ahead -/

/-- A RUN channel without a descriptor reads its next ring entry (R456). -/
def pumpFetch (c : Nat) (s : State) : State :=
  let x := s.chan c
  let o := chOwner s c
  if chState s c = 1 ∧ x.cur.isNone ∧ x.entry.isNone ∧ !x.fetching ∧ !x.lull ∧ chCi s c ≠ chPi s c ∧ !lulled s o then
    ownerRead (chStn s c) o (.chFetch c x.gen) (chEntryAt s c) 64 (s.onChan c (fun x => { x with fetching := true }))
  else s

/-- Bytes staged. -/
def staged (x : Chan) : Nat := x.stage.foldl (fun k e => k + e.1.length) 0

/-- The failure that ends a descriptor without completing it; poison does not (R462). -/
def stopsWork (x : Chan) : Bool := match x.fail with
  | some 4 => false
  | some _ => true
  | none => false

/-- A COPY of a local source reads ahead until the staging buffer of 4 KiB is full (R460). -/
def pumpRead (c : Nat) (s : State) : State :=
  let x := s.chan c
  match x.cur with
  | none => s
  | some ws =>
    let k := min (dLen ws - x.rd) (4096 - staged x)
    if chState s c = 1 ∧ !dFill ws ∧ !dSrem ws ∧ !stopsWork x ∧ !x.abort ∧ !x.lull ∧ x.reads = 0 ∧ 0 < k then
      let s := s.onChan c (fun x => { x with rd := x.rd + k, reads := x.reads + 1 })
      match ownerPart s (chOwner s c) with
      | none => ended (.chRead c x.gen) .fail s
      | some q => hostReq (chStn s c) q (chOwner s c).sliceNum .memRd 0 false (.chRead c x.gen)
          ((cutWrap (min (maxPayload s q) (maxRead s q)) (dF ws 2 0 64) (dF ws 0 13 5) x.rd k).map (fun p => (p.1, p.2, []))) s
    else s

/-! ## Remote operands (R461) -/

/-- The channel's message asks for nothing more, and closes once what it has sent is answered. -/
def shutMsg (c : Nat) (s : State) : State :=
  match (s.chan c).msg with
  | some (e, mid) => checkMsg e mid (s.onMsg e mid (fun m => { m with shut := true, staged := none }))
  | none => s

/-- A failure of the descriptor in progress: the first one stays, and but for poison the work stops (R462). -/
def chFail (c code : Nat) (s : State) : State :=
  let s := s.onChan c (fun x => { x with fail := if x.fail.isSome then x.fail else some code })
  if stopsWork (s.chan c) then shutMsg c (s.onChan c (fun x => { x with stage := [], seg := [] })) else s

/-- CH_RMT.FME; above 47 as 47. -/
def chFme (s : State) (c : Nat) : Nat := min 47 (s.actF (Reg.CH_RMT c) Fld.CH_RMT_FME)

/-- A remote operand's message begins, unless no slot is usable (R461, R462). -/
def startRemote (c : Nat) (ws : List DWord) (s : State) : State :=
  if !reachable s (dF ws 0 32 12) then chFail c 6 s
  else
    let e := chFme s c
    let mid := (s.fme e).mid
    let o := chOwner s c
    let m : Msg := {
      cl := .dma c
      mid := mid
      op := if dSrem ws then 2 else 1
      dnode := dF ws 0 32 12
      domain := s.actF (Reg.CH_RMT c) Fld.CH_RMT_DOMAIN
      vc := s.actF (Reg.CH_RMT c) Fld.CH_RMT_VC
      bulk := s.actB (Reg.CH_RMT c) Fld.CH_RMT_BULK
      rkey := dF ws 1 32 32
      roff := if dSrem ws then dF ws 2 0 64 else dF ws 3 0 64
      len := dLen ws
      laddr := 0
      part := (ownerPart s o).getD 0
      slice := o.sliceNum }
    let s := s.onFme e (fun g => { g with mid := (mid + 1) % 2 ^ 24, msgs := g.msgs ++ [m] })
    s.onChan c (fun x => { x with msg := some (e, mid) })

/-- A gathered segment is handed to the message once it is whole and the last one has been sent. -/
def handSeg (c : Nat) (s : State) : State :=
  let x := s.chan c
  match x.msg with
  | none => s
  | some (e, mid) => match s.msg e mid with
    | none => s
    | some m =>
      if m.op = 1 ∧ m.staged.isNone ∧ x.seg ≠ [] ∧ x.seg.length = m.segLen m.next then
        let s := s.onMsg e mid (fun m => { m with staged := some (x.seg, x.segEp) })
        s.onChan c (fun x => { x with seg := [], segEp := false })
      else s

/-! ## Starting a descriptor (R463) -/

/-- The channel's next descriptor starts. -/
def startCh (c : Nat) (s : State) : State :=
  match (s.chan c).entry with
  | none => s
  | some e =>
    let ws := e.getD []
    let s := s.onChan c (fun x => { x with
      entry := none
      cur := some ws
      stage := []
      rd := 0
      mv := 0
      seg := []
      segEp := false
      msg := none
      msgDone := false
      fail := none })
    if e.isNone then chFail c 2 s
    else if dBad ws then chFail c 1 s
    else if dSrem ws || dDrem ws then pumpRead c (startRemote c ws s)
    else pumpRead c s

/-- A channel in RUN comes to its next descriptor, read from the ring: started, or WAITGO when it is gated and no
GO is held (R463). A channel started again after a Lull has its GO already (R479). -/
def nextCh (c : Nat) (s : State) : State :=
  let x := s.chan c
  let gated := match x.entry with
    | some (some ws) => dF ws 0 9 1 == 1 && !x.goTaken
    | _ => false
  let pend := chStat s c Fld.CH_STAT_GOPEND
  if chState s c ≠ 1 ∨ x.cur.isSome ∨ x.entry.isNone ∨ x.lull ∨ s.holds ∨ lulled s (chOwner s c) then s
  else if !gated then startCh c (s.onChan c (fun x => { x with goTaken := false }))
  else if pend = 0 then setChStat c Fld.CH_STAT_STATE 2 s
  else startCh c (setChStat c Fld.CH_STAT_GOPEND (pend - 1) s)

/-- A GO pulse reaches channel `c` (R465): it starts the gated descriptor of a channel in WAITGO, under a hold once
that has cleared. -/
def goPulse (c : Nat) (s : State) : State :=
  let pend := chStat s c Fld.CH_STAT_GOPEND
  if chState s c = 2 ∧ !(s.chan c).lull then
    nextCh c (setChStat c Fld.CH_STAT_STATE 1 (s.onChan c (fun x => { x with goTaken := true })))
  else if pend < 255 then setChStat c Fld.CH_STAT_GOPEND (pend + 1) s
  else setChStat c Fld.CH_STAT_GOOVF 1 s

/-! ## The data mover (R460) -/

/-- Length of the next beat of a channel. -/
def beatLen (x : Chan) (ws : List DWord) : Nat :=
  let d := wrapAddr (dF ws 3 0 64) (dF ws 0 18 5) x.mv
  let k := min (dLen ws - x.mv) (64 - d % 64)
  if dDrem ws then min k (4096 - x.seg.length) else k

/-- Does a channel hold a staged beat? -/
def hasBeat (s : State) (c : Nat) : Bool :=
  let x := s.chan c
  match x.cur with
  | none => false
  | some ws =>
    let k := beatLen x ws
    chState s c == 1 && !x.abort && !x.lull && !stopsWork x && decide (0 < k) && (dFill ws || decide (k ≤ staged x)) &&
    (!dDrem ws || x.msg.isSome) && engineRoom s (chStn s c)

/-- PRIO of a channel. -/
def chPrio (s : State) (c : Nat) : Nat := s.actF (Reg.CH_CFG c) Fld.CH_CFG_PRIO

/-- The channel that the mover selects (R460). -/
def selectCh (s : State) : Option Nat :=
  let cs := (List.range 64).filter (fun c => hasBeat s c)
  let top := cs.foldl (fun m c => max m (chPrio s c)) 0
  let cs := cs.filter (fun c => chPrio s c == top)
  let (last, k) := s.eng.mover
  if cs.contains last && decide (k < 64) then some last
  else (firstBelow 64 (fun i => cs.contains ((last + 1 + i) % 64))).map (fun i => (last + 1 + i) % 64)

/-- Takes `k` bytes off the staged chunks, with their poison. -/
def takeStage : Nat → Nat → List (List Byte × Bool) → List Byte × Bool × List (List Byte × Bool)
  | 0, _, l => ([], false, l)
  | _, _, [] => ([], false, [])
  | fuel + 1, k, (d, ep) :: l =>
    if k = 0 then ([], false, (d, ep) :: l)
    else if d.length ≤ k then
      let (r, e, m) := takeStage fuel (k - d.length) l
      (d ++ r, ep || e, m)
    else (d.take k, ep, (d.drop k, ep) :: l)

/-- Bytes `j` to `j + k - 1` of a fill (R457). -/
def fillBytes (pat j k : Nat) : List Byte := (List.range k).map (fun i => BitVec.ofNat 8 (pat / 2 ^ (8 * ((j + i) % 8))))

/-- Channel `c` moves one beat. -/
def moveBeat (c : Nat) (s : State) : State :=
  let x := s.chan c
  match x.cur with
  | none => s
  | some ws =>
    let k := beatLen x ws
    let (d, ep, rest) := if dFill ws then (fillBytes (dF ws 4 0 64) x.mv k, false, x.stage) else takeStage 64 k x.stage
    let (last, m) := s.eng.mover
    let s := if last ≠ c ∧ hasBeat s last ∧ chPrio s last < chPrio s c then
        perf 72 5 (some last) 1 { master := ownerPart s (chOwner s last) } s
      else s
    let a := wrapAddr (dF ws 3 0 64) (dF ws 0 18 5) x.mv
    let o : Occ := { master := ownerPart s (chOwner s c), cls := some (dF ws 0 0 8) }
    let s := perf 72 2 (some c) k { o with addr := if dDrem ws then none else some a } (perf 72 1 (some c) 1 o s)
    let s := s.onEng (fun g => { g with mover := (c, if last = c ∧ m < 64 then m + 1 else 1) })
    let s := s.onChan c (fun x => { x with mv := x.mv + k, stage := rest })
    let s := if dDrem ws then handSeg c (s.onChan c (fun x => { x with seg := x.seg ++ d, segEp := x.segEp || ep }))
      else
        let s := s.onChan c (fun x => { x with writes := x.writes + 1 })
        match ownerPart s (chOwner s c) with
        | none => ended (.chWrite c x.gen) .fail s
        | some q => hostReq (chStn s c) q (chOwner s c).sliceNum .memWr 0 ep (.chWrite c x.gen) [(a, k, d)] s
    pumpRead c s

/-! ## Ends (R461 to R463, R477) -/

/-- A lulled channel with nothing outstanding enters PAUSED, its bit in GLB_SLICE_LCH set; its descriptor will start
again from its first byte (R477, R479). -/
def lullDone (c : Nat) (s : State) : State :=
  let x := s.chan c
  if x.lull ∧ x.reads = 0 ∧ x.writes = 0 ∧ !x.fetching ∧ (x.msg.isNone ∨ x.msgDone) then
    let s := s.onChan c (fun x => { x with
      entry := if x.cur.isSome then some (if x.fail = some 2 then none else x.cur) else x.entry
      goTaken := x.goTaken || x.cur.isSome
      cur := none
      stage := []
      seg := []
      msg := none
      msgDone := false
      fail := none
      lull := false
      gen := x.gen + 1 })
    let s := setChStat c Fld.CH_STAT_STATE 3 s
    let t := (chOwner s c).num
    s.onSl t (fun l => { l with
      lch := Nat.lor l.lch (2 ^ c)
      lwait := if x.fromWait then Nat.lor l.lwait (2 ^ c) else l.lwait })
  else s

/-- A channel's ring read ends. -/
def chFetched (c gen : Nat) (r : HostRes) (s : State) : State :=
  if (s.chan c).gen = gen then
    let e := match r with
      | .ok d false => some (wordsOf 8 d)
      | _ => none
    lullDone c (s.onChan c (fun x => { x with entry := some e, fetching := false }))
  else s

/-- A channel's source read ends (R462). -/
def chReadDone (c gen : Nat) (r : HostRes) (s : State) : State :=
  if (s.chan c).gen = gen then
    let s := s.onChan c (fun x => { x with reads := x.reads - 1 })
    let x := s.chan c
    let s := match r with
      | .fail => chFail c 3 s
      | .ok d ep =>
        if x.abort || x.lull || stopsWork x then s
        else
          let s := if ep then chFail c 4 s else s
          s.onChan c (fun x => { x with stage := x.stage ++ [(d, ep)] })
    lullDone c (pumpRead c s)
  else s

/-- A channel's write has left the host port, or failed. -/
def chWriteDone (c gen : Nat) (r : HostRes) (s : State) : State :=
  if (s.chan c).gen = gen then
    let s := s.onChan c (fun x => { x with writes := x.writes - 1 })
    lullDone c (match r with
      | .fail => chFail c 3 s
      | .ok .. => s)
  else s

/-- Has the descriptor in progress of channel `c` come to its end (R461, R462)? -/
def chEnded (s : State) (c : Nat) : Bool :=
  let x := s.chan c
  match x.cur with
  | none => false
  | some ws =>
    x.reads == 0 && x.writes == 0 && !x.lull && (x.msg.isNone || x.msgDone) &&
    (x.abort || stopsWork x || (chState s c == 1 && x.mv == dLen ws && x.seg.isEmpty))

/-- The descriptor in progress of channel `c` ends (R457, R461 to R464). -/
def chEnd (c : Nat) (s : State) : State :=
  let x := s.chan c
  let ws := x.cur.getD []
  let o := chOwner s c
  let q := ownerPart s o
  let at_ := chEntryAt s c
  let s := s.onChan c (fun x => { x with
    cur := none
    entry := none
    stage := []
    seg := []
    msg := none
    msgDone := false
    fail := none
    abort := false
    gen := x.gen + 1 })
  let s := s.onEng (fun g => { g with mover := if g.mover.1 = c then (c, 64) else g.mover })
  let s := setChStat c Fld.CH_STAT_CI ((chCi s c + 1) % 2 ^ 16) s
  let s := match x.fail with
    | none =>
      let s := perf 72 3 (some c) 1 { master := q, cls := some (dF ws 0 0 8) } (s.bumpF (Reg.CH_CNT c) Fld.CH_CNT_DONE)
      if dF ws 0 8 1 = 1 then cuePulse q (s.actF (Reg.CH_CFG c) Fld.CH_CFG_DCUE) s else s
    | some code =>
      let s := ownerWrite (chStn s c) o false (.chMark c) (at_ + 56) (toBytes 8 (0xBD + code * 2 ^ 8)) s
      let s := setChStat c Fld.CH_STAT_LASTBAD (code % 16) (s.bumpF (Reg.CH_CNT c) Fld.CH_CNT_BAD)
      let s := perf 72 4 (some c) 1 { master := q, cls := some (dF ws 0 0 8) } s
      s.raiseLimited (gEvt 19) q
  if x.abort ∨ (x.fail ≠ some 2 ∧ dF ws 0 10 1 = 1) then setChStat c Fld.CH_STAT_STATE 0 s else pumpFetch c s

/-- A reset of its owner's partition reaches channel `c` (R463). -/
def resetChan (c : Nat) (s : State) : State :=
  let s := shutMsg c s
  let s := s.onChan c (fun x => { gen := x.gen + 1 })
  setChStat c Fld.CH_STAT_STATE 0 s

/-- Channels whose owner satisfies `p`; with `queuesOf` and `keysOf`, what a slice holds (R475). -/
def chansOf (s : State) (p : Owner → Bool) : List Nat := (List.range 64).filter (fun c => p (chOwner s c))

/-- PAUSE of channel `c`. -/
def pauseChan (c : Nat) (s : State) : State :=
  let st := chState s c
  if st = 1 ∨ st = 2 then
    setChStat c Fld.CH_STAT_STATE 3 (s.onChan c (fun x => { x with fromWait := st == 2 }))
  else cmdRej c s

end Sys2Proof.Machine
end

