-- ==== Sys2Proof/Machine/Meter.lean ====
section
/-! DEFINITION. The policers (R363, R370 to R376). -/

namespace Sys2Proof.Machine

/-- A policer's settings, from the words of its entry (R371, R378). -/
structure Policer where
  en : Bool
  twoRate : Bool
  aware : Bool
  ovh : Nat
  precol : Nat
  cir : Nat
  pir : Nat
  cbs : Nat
  ebs : Nat
  deriving DecidableEq, Repr

/-- The settings held at address `a` of a set. -/
def policerAt (v : View) (a : Nat) : Policer :=
  let w0 := (v a).toNat
  let cir := max 1 ((v (a + 4)).toNat % 2 ^ 21)
  { en := bit w0 0, twoRate := bit w0 1, aware := bit w0 2, ovh := bits w0 3 8, precol := bits w0 11 16, cir := cir,
    pir := max cir ((v (a + 8)).toNat % 2 ^ 21),
    cbs := max 4608 ((v (a + 12)).toNat % 2 ^ 24) * 256, ebs := max 4608 ((v (a + 16)).toNat % 2 ^ 24) * 256 }

/-- Colours. -/
inductive Colour where
  | green | yellow | red
  deriving DecidableEq, Repr

/-- The code of the colour field (R224). -/
def Colour.code : Colour → Nat
  | .green => 0 | .yellow => 1 | .red => 2

/-- The 1/256 B that a rate in Mb/s fills in `dt` ns (R368, R371). -/
def fillOf (rate dt : Nat) : Nat := rate * dt * 4 / 125

/-- The ns in which a rate fills `need` 1/256 B. -/
def fillTime (rate need : Nat) : Nat := ceilDiv (need * 125) (rate * 4)

/-- Bucket levels at `now` (R371); a policer without a record has full buckets. -/
def refill (p : Policer) (b : Option Bucket) (now : Nat) : Bucket :=
  match b with
  | none => ⟨p.cbs, p.ebs, now⟩
  | some b =>
    let dt := now - b.at_
    let add := fillOf p.cir dt
    let c := min p.cbs (b.c + add)
    if p.twoRate then ⟨c, min p.ebs (b.e + fillOf p.pir dt), now⟩
    else ⟨c, min p.ebs (b.e + (add - (c - b.c))), now⟩

/-- A decision for a unit of `len` bytes with a pre-colour (R371): its colour, and the buckets after it. -/
def meter (p : Policer) (b : Bucket) (len : Nat) (k : Colour) : Colour × Bucket :=
  let l := len * 256
  if !p.en then (.green, b)
  else if k = .red then (.red, b)
  else if p.twoRate then
    if b.e < l then (.red, b)
    else if k = .yellow ∨ b.c < l then (.yellow, { b with e := b.e - l })
    else (.green, { b with e := b.e - l, c := b.c - l })
  else if k = .green ∧ l ≤ b.c then (.green, { b with c := b.c - l })
  else if l ≤ b.e then (.yellow, { b with e := b.e - l })
  else (.red, b)

/-- The ns after which a unit that is red now no longer is (R373). -/
def waitNs (p : Policer) (b : Bucket) (len : Nat) (k : Colour) : Nat :=
  let l := len * 256
  if p.twoRate then fillTime p.pir (l - b.e)
  else if k = .green ∧ b.c < p.cbs then fillTime p.cir (l - b.c)
  else fillTime p.cir (p.cbs - b.c + (l - b.e))

/-- The pre-colour of a TLP (R372). -/
def preColour (p : Policer) (tc : Nat) : Colour :=
  if p.aware ∧ bits p.precol (2 * (tc % 8)) 2 ≠ 0 then .yellow else .green

/-- A decision of partition policer `q` (R370 to R372): the colour and the state after it. GREEN and YELLOW
count the units that pass. -/
def policeTlp (q : Nat) (t : Tlp) (s : State) : Colour × State :=
  let a := Reg.GLB_PPOL q 0
  let p := policerAt s.act a
  if !p.en then (.green, s)
  else
    let (c, b) := meter p (refill p (Tab.find s.dp.ppol q) s.now) (t.length + p.ovh) (preColour p t.tc)
    let s := s.onDp (fun d => { d with ppol := Tab.put d.ppol q b })
    (c, match c with
      | .green => s.bump (Reg.GLB_PPOL q 5)
      | .yellow => s.bump (Reg.GLB_PPOL q 6)
      | .red => s)

/-- A decision of slice policer `k` on an FME_DATA packet of `len` units (R370 to R374). RED counts the
discarded. -/
def policeFme (k len colour : Nat) (s : State) : Colour × State :=
  let a := Reg.GLB_SPOL k 0
  let p := policerAt s.act a
  if !p.en then (.green, s)
  else
    let pre := if !p.aware ∨ colour = 0 then Colour.green else if colour = 1 then .yellow else .red
    let (c, b) := meter p (refill p (Tab.find s.dp.spol k) s.now) (32 * len + 20 + p.ovh) pre
    let s := s.onDp (fun d => { d with spol := Tab.put d.spol k b })
    (c, match c with
      | .green => s.bump (Reg.GLB_SPOL k 5)
      | .yellow => s.bump (Reg.GLB_SPOL k 6)
      | .red => s.bump (Reg.GLB_SPOL k 7))

end Sys2Proof.Machine
end

