-- ==== Sys2Proof/Machine/Target.lean ====
section
/-! DEFINITION. The target FME: requests served, answers, reassembly, notifications (R147, R370, R374, R395 to R399,
R421 to R424, R439 to R445, R477, R621). -/

namespace Sys2Proof.Machine

/-! ## Answers (R439, R442) -/

/-- An answer to packet `p` of header `h` leaves FME `e`: on the VC and path of the packet it answers, with its MID,
SFME and PIDX. -/
def answer (e : Nat) (p : Packet) (h : FmeHdr) (pt arg : Nat) (data : List Byte) (ep : Bool) (s : State) : State :=
  let r : FmeHdr := { pt := pt, mid := h.mid, sfme := h.sfme, pidx := h.pidx, arg := arg, tse := p.ts % 2 ^ 16 }
  fmeSend e r data p.snode p.vc 0 p.path ep s

/-- An ACK: `pend` tells that the result follows, `res` is the message's result. -/
def sendAck (e : Nat) (p : Packet) (h : FmeHdr) (pend : Bool) (res : Option Nat) (s : State) : State :=
  let r := match res with
    | some c => c * 2 ^ 16 + 2 ^ 25
    | none => 0
  answer e p h 6 (p.ts % 2 ^ 16 + b2n pend * 2 ^ 24 + r) [] false s

/-- A NAK. -/
def sendNak (e : Nat) (p : Packet) (h : FmeHdr) (code : Nat) (s : State) : State :=
  answer e p h 7 (p.ts % 2 ^ 16 + code * 2 ^ 16) [] false s

/-! ## Reassembly entries (R445) -/

/-- The reassembly entries of station `n` that are not FREE. -/
def reasmOf (s : State) (n : Nat) : List Reasm := Tab.get [] s.eng.reasm n

/-- Writes them; REASM_USE follows. -/
def setReasm (n : Nat) (l : List Reasm) (s : State) : State :=
  (s.onEng (fun g => { g with reasm := Tab.set [] g.reasm n l })).setLivN (Reg.REASM_USE n) l.length

/-- Does an entry have a key? -/
def Reasm.is (r : Reasm) (snode sfme mid : Nat) : Bool := r.snode == snode && r.sfme == sfme && r.mid == mid

/-- The entry of a message. -/
def findReasm (s : State) (n snode sfme mid : Nat) : Option Reasm := (reasmOf s n).find? (fun r => r.is snode sfme mid)

/-- Changes an entry. -/
def onReasm (n snode sfme mid : Nat) (f : Reasm → Reasm) (s : State) : State :=
  setReasm n ((reasmOf s n).map (fun r => if r.is snode sfme mid then f r else r)) s

/-- The header of an FME packet. -/
def hdrOf (p : Packet) : FmeHdr :=
  match p.body with
  | .fme h _ => h
  | _ => { pt := 0 }

/-- The data of an FME packet. -/
def dataOf (p : Packet) : List Byte :=
  match p.body with
  | .fme _ d => d
  | _ => []

/-- Marks a PIDX as arrived; BASE advances past each set bit at its foot. -/
def markSeen : Nat → Nat → List Nat → Nat × List Nat
  | 0, base, l => (base, l)
  | fuel + 1, base, l => if l.contains base then markSeen fuel (base + 1) (l.filter (fun i => i != base)) else (base, l)

/-! ## Notifications (R422) -/

/-- A message ends: its LASTP is answered with MSG = 1 and the status, and the entry is held (R445). -/
def messageEnd (e n : Nat) (r : Reasm) (code : Nat) (s : State) : State :=
  let s := onReasm n r.snode r.sfme r.mid (fun r => { r with st := .held, result := some code, full := none, recording := false }) s
  match r.lastp with
  | some p => sendAck e p (hdrOf p) false (some code) s
  | none => s

/-- Does a message of another entry write its record for queue `i` now? -/
def recordingFor (s : State) (i : Nat) : Bool :=
  s.eng.reasm.any (fun x => x.2.any (fun r => r.recording && r.tq == i))

/-- The record of a notification (R422). -/
def noteOf (q : Queue) (r : Reasm) : List Byte :=
  toBytes 8 r.imm ++
  toBytes 8 (r.total.getD 0 + r.snode * 2 ^ 32 + b2n (!bit q.ncnt q.nrlog) * 2 ^ 44) ++
  toBytes 8 r.roff ++ toBytes 8 r.rkey

/-- Steps 2 to 5 of R422 for a message all of whose bytes are written: a failed one writes nothing; TQ is tested; a
full ring holds the notification; else its record is written. -/
def notify (e n : Nat) (r : Reasm) (s : State) : State :=
  match r.failed with
  | some c => messageEnd e n r c s
  | none =>
    let q := s.q r.tq
    let o := keyOwner s (r.rkey % 2 ^ 20)
    if q.st = .free ∨ q.nrlog = 0 ∨ q.owner ≠ o then messageEnd e n r 0x14 s
    else if recordingFor s r.tq ∨ 2 ^ q.nrlog ≤ (q.ncnt + 2 ^ 16 - q.nci) % 2 ^ 16 then
      onReasm n r.snode r.sfme r.mid (fun r => { r with full := if r.full.isSome then r.full else some s.now }) s
    else
      let s := onReasm n r.snode r.sfme r.mid (fun r => { r with recording := true }) s
      ownerWrite (e / 2) o false (.notify e n r.snode r.sfme r.mid) (q.noteAt + 32 * (q.ncnt % 2 ^ q.nrlog)) (noteOf q r) s

/-- The FME that serves a key (R621). -/
def keyFme (rkey : Nat) : Nat := rkey % 2 ^ 20 % 48

/-- The notification that has waited longest for queue `i` is tried again (R414, R422). -/
def retryNotify (i : Nat) (s : State) : State :=
  let l := s.eng.reasm.flatMap (fun x => (x.2.filter (fun r => r.st == .notify && !r.recording && r.tq == i)).map (fun r => (x.1, r)))
  match l.foldl (fun b x => match b with
      | none => some x
      | some y => if x.2.full.getD 0 < y.2.full.getD 0 then some x else some y) none with
  | none => s
  | some (n, r) => notify (keyFme r.rkey) n r s

/-- The write of a notification record ends (R422): NCNT and the cue, and the message ends OK, or RHOST. -/
def noteDone (e n snode sfme mid : Nat) (res : HostRes) (s : State) : State :=
  match findReasm s n snode sfme mid with
  | none => s
  | some r =>
    let i := r.tq
    let s := match res with
      | .fail => messageEnd e n r 0x12 s
      | .ok .. =>
        let s := (s.bump (Reg.NOTIFYCNT e)).onQ i (fun q => { q with ncnt := (q.ncnt + 1) % 2 ^ 32 })
        let s := match (s.q i).ncue with
          | some l => cuePulse (ownerPart s (s.q i).owner) l s
          | none => s
        messageEnd e n r 0 (wakeOn i s)
    retryNotify i s

/-- Every byte of a message is written: it goes to NOTIFY (R445). -/
def maybeNotify (e n snode sfme mid : Nat) (s : State) : State :=
  match findReasm s n snode sfme mid with
  | none => s
  | some r =>
    if r.st = .open_ ∧ r.total = some r.count ∧ r.writing = [] then
      let s := onReasm n snode sfme mid (fun r => { r with st := .notify }) s
      notify e n { r with st := .notify } s
    else s

/-! ## Requests -/

/-- The check that a request asks for (R395 to R397). -/
def accessOf (p : Packet) (h : FmeHdr) : Access :=
  { domain := h.domain
    snode := p.snode
    need := if h.pt = 2 then 1 else if h.pt = 4 then 4 else if h.imm && h.lastp then 10 else 2
    atomic := h.pt == 4
    high := h.high }

/-- Bytes that a request asks for. -/
def askLen (p : Packet) (h : FmeHdr) : Nat := if h.pt = 2 then h.arg % 2 ^ 13 else if h.pt = 4 then 8 else (dataOf p).length

/-- The check of a request at FME `e` (R395, R400): its code, and the state after it. -/
def checkReq (e : Nat) (p : Packet) (h : FmeHdr) (s : State) : Nat × State :=
  let code := accessCheck s h.rkey h.off (askLen p h) (accessOf p h)
  (code, if code = 0 then admitKey (h.rkey % 2 ^ 20) s else keyErr e (h.rkey % 2 ^ 20) code true p.snode s)

/-- The data of an admitted WREQ is written through the owner's host port (R384, R421, R423). -/
def writeReq (e : Nat) (p : Packet) (h : FmeHdr) (s : State) : State :=
  let k := h.rkey % 2 ^ 20
  ownerWrite (e / 2) (keyOwner s k) p.poison (.wreq e k p) (keyBase s k + h.off) (dataOf p) s

/-- A WREQ of a WRITE (R421, R442). -/
def plainWreq (e : Nat) (p : Packet) (h : FmeHdr) (s : State) : State :=
  match checkReq e p h s with
  | (0, s) => writeReq e p h s
  | (c, s) => sendNak e p h c s

/-- The entry of a message notes a copy: the LASTP gives TOTAL, the immediate and TQ. -/
def noteCopy (p : Packet) (h : FmeHdr) (now : Nat) (r : Reasm) : Reasm :=
  let r := { r with last := now }
  if h.lastp then
    { r with
      lastp := some p
      total := some (4096 * h.pidx + (dataOf p).length)
      imm := h.arg
      tq := h.tq }
  else r

/-- A new packet of an OPEN entry (R445): checked and written, or refused, which sets the failed flag. -/
def openWreq (e : Nat) (p : Packet) (h : FmeHdr) (s : State) : State :=
  let n := e / 2
  let on (f : Reasm → Reasm) (s : State) : State := onReasm n p.snode h.sfme h.mid f s
  match checkReq e p h s with
  | (0, s) =>
    let s := on (fun r =>
      let m := markSeen 200 r.base (r.seen ++ [h.pidx])
      { r with base := m.1, seen := m.2, writing := r.writing ++ [h.pidx] }) s
    writeReq e p h s
  | (c, s) => sendNak e p h c (on (fun r => { r with failed := if r.failed.isSome then r.failed else some c }) s)

/-- A WREQ of a WRITE_IMM (R445). -/
def immWreq (e : Nat) (p : Packet) (h : FmeHdr) (s : State) : State :=
  let n := e / 2
  match findReasm s n p.snode h.sfme h.mid with
  | none =>
    if 8192 ≤ (reasmOf s n).length then sendNak e p h 0x82 (s.bump (Reg.REASM_FULLCNT n))
    else
      let r : Reasm := {
        snode := p.snode
        sfme := h.sfme
        mid := h.mid
        since := s.now
        last := s.now
        rkey := h.rkey
        roff := (h.off + 2 ^ 64 - 4096 * h.pidx) % 2 ^ 64 }
      openWreq e p h (setReasm n (reasmOf s n ++ [noteCopy p h s.now r]) s)
  | some r =>
    let s := onReasm n p.snode h.sfme h.mid (noteCopy p h s.now) s
    let dup := decide (h.pidx < r.base) || r.seen.contains h.pidx
    match r.st with
    | .open_ =>
      if dup then
        let s := s.bump (Reg.FME_DUPCNT n)
        if r.writing.contains h.pidx then s
        else if h.lastp then sendAck e p h r.failed.isNone r.failed s
        else sendAck e p h false none s
      else openWreq e p h s
    | .notify => s
    | .held =>
      let s := if dup then s.bump (Reg.FME_DUPCNT n) else s
      if h.lastp then sendAck e p h false (some (r.result.getD 0)) s
      else if dup then sendAck e p h false none s
      else sendNak e p h (r.result.getD 0x16) s

/-- The writes of a WREQ have left the host port, or failed (R399, R421, R442, R445). -/
def wreqDone (e k : Nat) (p : Packet) (res : HostRes) (s : State) : State :=
  let h := hdrOf p
  let n := e / 2
  let ok := match res with
    | .ok .. => true
    | .fail => false
  let o : Occ := { master := ownerPart s (keyOwner s k), addr := some (keyBase s k + h.off) }
  let s := if ok then perf (24 + e) 6 none (dataOf p).length o s else s
  let s := releaseKey k s
  let code := if !ok then some 0x12 else if p.poison then some 0x13 else none
  if !h.imm then
    match code with
    | some c => sendNak e p h c s
    | none => sendAck e p h false none s
  else
    let s := onReasm n p.snode h.sfme h.mid (fun r => { r with
      writing := r.writing.filter (fun i => i != h.pidx)
      count := if ok then r.count + (dataOf p).length else r.count
      failed := if r.failed.isSome then r.failed else code }) s
    match findReasm s n p.snode h.sfme h.mid with
    | none => s
    | some r =>
      let s := if r.st ≠ .open_ then s
        else if !ok then sendNak e p h 0x12 s
        else if h.lastp then sendAck e p h r.failed.isNone r.failed s
        else sendAck e p h false none s
      maybeNotify e n p.snode h.sfme h.mid s

/-- An RREQ (R421, R437). -/
def rreqIn (e : Nat) (p : Packet) (h : FmeHdr) (s : State) : State :=
  match checkReq e p h s with
  | (0, s) =>
    let k := h.rkey % 2 ^ 20
    ownerRead (e / 2) (keyOwner s k) (.rreq e k p) (keyBase s k + h.off) (askLen p h) s
  | (c, s) => sendNak e p h c s

/-- The host read of an RREQ ends. -/
def rreqDone (e k : Nat) (p : Packet) (res : HostRes) (s : State) : State :=
  let h := hdrOf p
  let s := releaseKey k s
  match res with
  | .ok d ep => answer e p h 3 0 d ep s
  | .fail => sendNak e p h 0x12 s

/-- The ARESP of an AREQ. -/
def sendAresp (e : Nat) (p : Packet) (old : Nat) (ep : Bool) (s : State) : State :=
  answer e p (hdrOf p) 5 old [] ep s

/-- An AREQ (R421, R424, R445): performed once; a duplicate gets the answer again. -/
def areqIn (e : Nat) (p : Packet) (h : FmeHdr) (s : State) : State :=
  let n := e / 2
  match findReasm s n p.snode h.sfme h.mid with
  | some r =>
    let s := onReasm n p.snode h.sfme h.mid (fun r => { r with last := s.now, lastp := some p }) (s.bump (Reg.FME_DUPCNT n))
    match r.result with
    | some 0 => sendAresp e p r.old r.oldEp s
    | some c => sendNak e p h c s
    | none => s
  | none =>
    if 8192 ≤ (reasmOf s n).length then sendNak e p h 0x82 (s.bump (Reg.REASM_FULLCNT n))
    else match checkReq e p h s with
    | (0, s) =>
      let k := h.rkey % 2 ^ 20
      let r : Reasm := {
        snode := p.snode
        sfme := h.sfme
        mid := h.mid
        st := .held
        since := s.now
        last := s.now
        lastp := some p
        rkey := h.rkey
        roff := h.off
        atomic := true }
      let ops := if h.aop = 2 then dataOf p ++ toBytes 8 h.arg else toBytes 8 h.arg
      ownerAtomic n (keyOwner s k) h.aop (.areq e k p) (keyBase s k + h.off) ops (setReasm n (reasmOf s n ++ [r]) s)
    | (c, s) => sendNak e p h c s

/-- The AtomicOp of an AREQ ends (R424). -/
def areqDone (e k : Nat) (p : Packet) (res : HostRes) (s : State) : State :=
  let h := hdrOf p
  let n := e / 2
  let s := releaseKey k s
  let p := match findReasm s n p.snode h.sfme h.mid with
    | some r => r.lastp.getD p
    | none => p
  match res with
  | .ok d ep =>
    let old := ofBytes (d.take 8)
    sendAresp e p old ep (onReasm n p.snode h.sfme h.mid (fun r => { r with result := some 0, old := old, oldEp := ep }) s)
  | .fail => sendNak e p h 0x12 (onReasm n p.snode h.sfme h.mid (fun r => { r with result := some 0x12 }) s)

/-- The payload units of an FME packet, summed over a pair (R363, R437). -/
def fmeUnits (p : Packet) : Nat :=
  let k := pad32 (dataOf p).length
  if k ≤ firstData then (32 + k) / 32 else 128 + (32 + (k - firstData)) / 32

/-- A request whose key has been looked up (R374, R395, R477): a slice that is not ACTIVE answers HOLD; its policer
decides on a WREQ; then the request is served. -/
def serveReq (e : Nat) (p : Packet) (s : State) : State :=
  let h := hdrOf p
  let k := h.rkey % 2 ^ 20
  let o := keyOwner s k
  let sliced := keyState s k != 0 && o.slice
  if sliced && lulled s o then sendNak e p h 0x81 s
  else
    let (c, s) := if sliced && h.pt == 1 then
        policeFme o.num (fmeUnits p) p.colour s
      else (.green, s)
    if c = .red then sendNak e p h 0x80 s
    else if h.pt = 2 then rreqIn e p h s
    else if h.pt = 4 then areqIn e p h s
    else if h.imm then immWreq e p h s
    else plainWreq e p h s

/-- A request packet reaches its serving FME (R147, R393, R621): one from another node is answered HOLD while the
node drains; else its key is looked up. -/
def reqIn (e : Nat) (p : Packet) (s : State) : State :=
  let h := hdrOf p
  if s.holdsAt (e / 2) && p.snode != s.node then sendNak e p h 0x81 s
  else match lookup (h.rkey % 2 ^ 20) (.pkt e p) s with
    | (true, s) => serveReq e p s
    | (false, s) => s

/-- The oldest packet of kind `pt` that waits at FME `e`, taken out. -/
def takeFme (e pt : Nat) (s : State) : Option (Packet × State) :=
  (takeFirst (fun p => (hdrOf p).pt == pt) (Tab.get [] s.dp.fmeIn e)).map (fun r =>
    (r.1, s.onDp (fun d => { d with fmeIn := Tab.set [] d.fmeIn e r.2 })))

end Sys2Proof.Machine
end

