-- ==== Sys2Proof/Machine/SliceOps.lean ====
section
/-! DEFINITION. Slices: Lull, quiescence, log flushes; and the effects of host requests that have ended
(R476 to R484, R616). -/

namespace Sys2Proof.Machine

/-! ## Log lines on their way (R484) -/

/-- A line that a FLUSH or a Lull waits for is written, or lost. -/
def lineDone (t : Nat) (fl bad : Bool) (s : State) : State :=
  s.onSl t (fun x => { x with
    lines := if fl then x.lines - 1 else x.lines
    logbad := x.logbad || bad })

/-- The bitmap bytes of a line have been read: its bits join them, and they are written back (R484). -/
def logRead (t sel line bits : Nat) (fl : Bool) (r : HostRes) (s : State) : State :=
  match r with
  | .ok d _ =>
    let q := slicePart s t
    let v := Nat.lor (ofBytes (d.take 64)) bits
    hostWrite (hostStn s q) q none false (.logWrite t sel line fl) (bitmap s t sel + 64 * line) (toBytes 64 v) s
  | .fail => lineDone t fl true s

/-- Every line of slice `t` leaves for its bitmap, and is waited for. -/
def flushLines (t : Nat) (s : State) : State :=
  let l := linesOf s t
  let s := s.onSl t (fun x => { x with lines := x.lines + l.length })
  l.foldl (fun s e => writeBack e true s) s

/-- The lines of slice `t` are discarded. -/
def dropLines (t : Nat) (s : State) : State := s.onEng (fun e => { e with log := e.log.filter (fun l => l.s != t) })

/-! ## Effects of host requests that have ended -/

/-- What the end of one host request does. -/
def effect (w : Work) (r : HostRes) (s : State) : State :=
  match w with
  | .ring q id k => ringRead q id k r s
  | .source e mid => sourceRead e mid r s
  | .sink e mid => sinkDone e mid r s
  | .record q n => concluded q n s
  | .wreq e k p => wreqDone e k p r s
  | .rreq e k p => rreqDone e k p r s
  | .areq e k p => areqDone e k p r s
  | .notify e n a b c => noteDone e n a b c r s
  | .chFetch c g => chFetched c g r s
  | .chRead c g => chReadDone c g r s
  | .chWrite c g => chWriteDone c g r s
  | .chMark _ => s
  | .logRead t sel line b fl => logRead t sel line b fl r s
  | .logWrite t _ _ fl => lineDone t fl (match r with
    | .ok .. => false
    | .fail => true) s

/-- Does the effects of the host requests that have ended, in their order. -/
def settleFor : Nat → State → State
  | 0, s => s
  | fuel + 1, s =>
    match s.eng.io.ready with
    | [] => s
    | (w, r) :: l => settleFor fuel (effect w r (s.onIo (fun i => { i with ready := l })))

/-! ## Lull (R477, R478) -/

/-- Is the owner slice `t`? -/
def isSlice (t : Nat) (o : Owner) : Bool := o.slice && o.num == t

/-- Nothing that keeps slice `t` out of LULL is left, but its log lines (R478). -/
def sliceQuiet (s : State) (t : Nat) : Bool :=
  (queuesOf s (isSlice t)).all (fun i => decide ((s.q i).out = 0)) &&
  (chansOf s (isSlice t)).all (fun c =>
    let x := s.chan c
    !x.lull && x.reads == 0 && x.writes == 0 && (x.msg.isNone || x.msgDone)) &&
  (keysOf s (isSlice t)).all (fun k => heldCount s k == 0) &&
  s.eng.reasm.all (fun e => e.2.all (fun r => !(r.st == .notify && isSlice t (s.q r.tq).owner)))

/-- Slice `t` leaves ACTIVE (R476): its waits are abandoned, its channels leave the mover. -/
def beginLull (t : Nat) (s : State) : State :=
  let s := s.onSl t (fun x => { x with st := 2, lullFlush := false })
  let s := (queuesOf s (isSlice t)).foldl (fun s i => abandon i s) s
  (chansOf s (isSlice t)).foldl (fun s c =>
    if chState s c = 1 ∨ chState s c = 2 then
      let s := s.onChan c (fun x => { x with lull := true, fromWait := chState s c == 2, stage := [], seg := [] })
      lullDone c (shutMsg c s)
    else s) s

/-- Slice `t` enters LULL (R476, R478, R482). -/
def enterLull (t : Nat) (s : State) : State :=
  let x := s.sl t
  let p := slicePart s t
  let s := s.onSl t (fun x => { x with st := 0, lullFlush := false, lullCue := none, quiet := false })
  let long : Bool := match s.dir.longop with
    | some l => l.kind == .lull t
    | none => false
  let s := if x.quiet then s
    else
      let s := s.raise (gEvt 21) (some p)
      let s := match x.lullCue with
        | some l => cuePulse (some p) l s
        | none => s
      if x.late then s.logDevice (gEvt 21) else s
  if long then endLong s else s

/-- A LULLING slice whose conditions hold flushes its log lines, and enters LULL once they are written. -/
def tryLull (t : Nat) (s : State) : State :=
  let x := s.sl t
  if x.st = 2 ∧ sliceQuiet s t then
    let s := if x.lullFlush then s else flushLines t (s.onSl t (fun x => { x with lullFlush := true }))
    if (s.sl t).lines = 0 then enterLull t s else s
  else s

/-- A reset of its partition reaches slice `t` (R476, R482): it is in LULL at once unless work is in flight. -/
def resetSlice (t : Nat) (s : State) : State :=
  let s := dropLines t s
  tryLull t (s.onSl t (fun x => { x with
    st := 2
    quiet := true
    lullCue := none
    lullFlush := false
    logbad := true }))

end Sys2Proof.Machine
end

