-- ==== Sys2Proof/Machine/CfgSpace.lean ====
section
/-! DEFINITION. What the configuration space of the FM9192's own functions holds: which registers a function has, which of
their bits a host writes or clears, and what a dword reads as (R184 to R187, R191, R192, R195, R199 to R206). Where a
register's bits lie is PRESUMED (log entry 8). -/

namespace Sys2Proof.Machine

/-- The index of an entrance among the partition's bridges; none at the upstream port (R315). -/
def entryIndex (s : State) (q : Nat) (e : Entrance) : Option Nat :=
  (bridges s.regs.active q).findIdx? (fun b =>
    match e, b with
    | .port x, .loc y => x == y
    | .port x, .shr y => x == y
    | .imp k, .imp j => k == j
    | _, _ => false)

/-- The bridge function whose configuration space governs port `x`: of partition number 63 in `Parts.cfg` for an exported
port. -/
def bridgeFn (s : State) (x : Nat) : Nat × Nat :=
  if isExported s.act x then (63, x)
  else
    let q := portPart s.act (x / 4) (x % 4)
    if isUpstream s.act (x / 4) (x % 4) then (q, 0)
    else (q, (entryIndex s q (.port x)).elim 0 (fun i => 2 + i))

/-- Is `x` an enabled PCI Express port? -/
def isPcie (s : State) (x : Nat) : Bool := pciePort s.act (x / 4) (x % 4)
/-- Is `x` an enabled downstream port? -/
def isDown (s : State) (x : Nat) : Bool := isPcie s x && !isUpstream s.act (x / 4) (x % 4)
/-- The configured lane count of port `x`. -/
def lanesOf (s : State) (x : Nat) : Nat := portLanes s.act (x / 4) (x % 4)

/-- A register of the function that governs port `x`. -/
def bridgeR (s : State) (x : Nat) (r : CfgReg) : Nat := (s.cfgR (bridgeFn s x).1 (bridgeFn s x).2 r).toNat

/-- Sets bits of a register of that function. -/
def bridgeSet (x : Nat) (r : CfgReg) (m : Nat) (s : State) : State :=
  let f := bridgeFn s x
  s.setCfg f.1 f.2 r (s.cfgR f.1 f.2 r ||| BitVec.ofNat 32 m)

/-- Has port `x` a hot-plug slot (R201)? -/
def hasSlot (s : State) (x : Nat) : Bool :=
  isDown s x && s.actB (Reg.PORT_CFG (x / 4) (x % 4)) Fld.PORT_CFG_HP && decide ((s.stnRec (x / 4)).slotw ≠ 0)

/-- MAXRATE of port `x`; 7 acts as 6. -/
def maxRate (s : State) (x : Nat) : Nat := min 6 (s.actF (Reg.LINK_CTL (x / 4)) Fld.LINK_CTL_MAXRATE)

/-- The Slot Power Limit field of Set_Slot_Power_Limit for a limit in W, with its scale 1.0 (PRESUMED, log entry 8). -/
def slotLimit (w : Nat) : Nat := if w ≤ 239 then w else 0xF0 + min 15 (ceilDiv (w - 250) 25)

/-- Does partition `q` present function `fn` (R191)? -/
def hasFn (s : State) (q fn : Nat) : Bool :=
  partEnabled s.act q && decide (fn < 2 + (bridges s.regs.active q).length)

/-- The bridge that function `fn` of partition `q` is. -/
def bridgeAt (s : State) (q fn : Nat) : Option Bridge :=
  if fn < 2 then none else (bridges s.regs.active q)[fn - 2]?

/-- The local port whose bridge function `fn` of partition `q` is. -/
def localAt (s : State) (q fn : Nat) : Option Nat :=
  match bridgeAt s q fn with
  | some (.loc x) => some x
  | _ => none

/-- The identifier of function `fn`, as a completer. -/
def fnId (s : State) (q fn : Nat) : Nat :=
  let w := (s.cfgR q 0 .busNumbers).toNat
  if fn < 2 then bits w 0 8 * 256 + fn else bits w 8 8 * 256 + (fn - 2) * 8

/-- The dword after the byte enables have been applied (R193). -/
def mergeBe (be : Nat) (old v : Word) : Word :=
  (List.range 4).foldl (fun w i =>
    if bit be i then BitVec.ofNat 32 (setBits w.toNat (8 * i) 8 (bits v.toNat (8 * i) 8)) else w) old

/-! ## Registers -/

/-- The kinds of function (R191). -/
inductive FnKind where
  | up | mgmt | down
  deriving DecidableEq, Repr

/-- The kind of function `fn` of partition `q`; 63 holds the bridges of exported ports. -/
def fnKind (q fn : Nat) : FnKind :=
  if q = 63 then .down else if fn = 0 then .up else if fn = 1 then .mgmt else .down

/-- Has a function of a kind the register? The management function has the capabilities of R195 alone; no function has those
that R185 leaves out. -/
def hasReg (k : FnKind) : CfgReg → Bool
  | .busNumbers | .memWindow | .prefWindow | .prefBaseHi | .prefLimitHi | .bridgeCtl | .l1ssCap | .aspmSub | .devCap3
  | .flitL0p | .secPcie | .ssid => k != .mgmt
  | .bar _ | .serial _ => k == .mgmt
  | .slotCap | .slotCtl | .acs | .acsVector | .dpcCtl | .dpcStat | .vfBar _ _ _ => k == .down
  | .command | .pcieCap | .devCap | .devCtl | .linkCap | .linkCtl | .devCap2 | .linkCap2 | .pmCap | .pmcsr
  | .aerStat | .aerMask | .aerSev | .aerCor | .aerCorMask | .other => true

/-- The bits of a register that a write of 1 clears. -/
def cfgW1c : CfgReg → Nat
  | .devCtl => 0x000F0000
  | .linkCtl => 0xC0000000
  | .slotCtl => 0x011F0000
  | .pmcsr => 0x8000
  | .dpcStat => 0x9
  | .aerStat | .aerCor => 0xFFFFFFFF
  | _ => 0

/-- The bits of a register of a kind of function that keep what is written. -/
def cfgRw (k : FnKind) (r : CfgReg) : Nat :=
  if !hasReg k r then 0
  else match r with
  | .command => 0x0547
  | .busNumbers => 0x00FFFFFF
  | .memWindow | .prefWindow => 0xFFF0FFF0
  | .prefBaseHi | .prefLimitHi | .acsVector | .secPcie | .other => 0xFFFFFFFF
  | .bar i => if i.val = 0 then 0xFF000000 else 0xFFFFFFFF
  | .bridgeCtl => 0x005F00FF
  | .devCtl => 0x7FFF
  | .linkCtl => if k = .down then 0xFFDF else 0xFFCF
  | .slotCtl => 0x17FF
  | .pmcsr => 0x0103
  | .aspmSub => 0xE3FFFF1F
  | .flitL0p => 0x7F
  | .acs => 0x007F0000
  | .dpcCtl => 0x00BF0000
  | .aerMask | .aerSev => 0x07FFF030
  | .aerCorMask => 0xF1C1
  | .pcieCap | .devCap | .linkCap | .slotCap | .devCap2 | .linkCap2 | .pmCap | .l1ssCap | .devCap3 | .dpcStat
  | .aerStat | .aerCor | .ssid | .serial _ | .vfBar _ _ _ => 0

/-- A register after a write of the bytes `be` of `v`: kept bits take the value, W1C bits written 1 clear; a power state
that R195 leaves out is not entered. -/
def cfgNew (k : FnKind) (r : CfgReg) (be : Nat) (old v : Word) : Word :=
  let rw := BitVec.ofNat 32 (cfgRw k r)
  let w1c := BitVec.ofNat 32 (cfgW1c r)
  let new := ((old &&& ~~~rw) ||| (mergeBe be old v &&& rw)) &&& ~~~(mergeBe be 0 v &&& w1c)
  let state := bits new.toNat 0 2
  if r = .pmcsr ∧ (state = 1 ∨ state = 2) then (new &&& ~~~3) ||| (old &&& 3) else new

/-! ## Dwords -/

/-- A field of PORT_STAT of port `x`. -/
def pStat (s : State) (x : Nat) (f : Fld) : Nat := s.livF (Reg.PORT_STAT (x / 4) (x % 4)) f

/-- The local port whose link a function stands at: the upstream port for functions 0 and 1, a downstream port, an exported
one; none for the bridge of an import or of shared functions. -/
def linkOf (s : State) (q fn : Nat) : Option Nat :=
  if q = 63 then some fn
  else if fn < 2 then (upstreamOf s.act q).map (fun e => 4 * e.1 + e.2)
  else localAt s q fn

/-- Link Capabilities: speed and width of the port, ASPM L1 alone (R185), L1 Exit Latency 0b010 (R200), on a downstream port
Data Link Layer Link Active Reporting and Link Bandwidth Notification (R184, R201). -/
def linkCapVal (s : State) (k : FnKind) (x : Option Nat) : Nat × Nat :=
  let down := if k = .down then 0x300000 else 0
  match x with
  | some x => (maxRate s x + 1 + lanesOf s x * 2 ^ 4 + 2 * 2 ^ 10 + 2 * 2 ^ 15 + down, 0x00338FFF)
  | none => (2 * 2 ^ 10 + 2 * 2 ^ 15 + down, 0x00338C00)

/-- Link Control with Link Status: speed, width, training and Data Link Layer Link Active of the port. -/
def linkCtlVal (s : State) (k : FnKind) (x : Option Nat) (w : Nat) : Nat × Nat :=
  match x with
  | some x =>
    let up := b2n (s.dlUp (x / 4) (x % 4))
    let st := pStat s x Fld.PORT_STAT_LTSSM
    (w + up * (pStat s x Fld.PORT_STAT_RATE + 1) * 2 ^ 16 + up * 2 ^ pStat s x Fld.PORT_STAT_LWIDTH * 2 ^ 20 +
      (if k = .down then b2n (st == 2 || st == 4) * 2 ^ 27 + up * 2 ^ 29 else 0), 0xEBFFFFFF)
  | none => (w, 0xC000FFFF)

/-- Has the function a slot (R201)? -/
def slotAt (s : State) (x : Option Nat) : Bool := x.elim false (fun x => hasSlot s x)

/-- Slot Capabilities (R201): all zero on a port without a slot. -/
def slotCapVal (s : State) (x : Option Nat) : Nat × Nat :=
  if slotAt s x then (0x43 + slotLimit (s.stnRec (x.getD 0 / 4)).slotw * 2 ^ 7, 0x0007FFFF) else (0, 0xFFFFFFFF)

/-- Slot Control with Slot Status; Presence Detect State is PRSNT_N low (R201). -/
def slotCtlVal (s : State) (x : Option Nat) (w : Nat) : Nat × Nat :=
  (w + b2n (slotAt s x && s.livB (Reg.SPC_STAT (x.getD 0 / 4)) Fld.SPC_STAT_PRSNT) * 2 ^ 22, 0x01FFFFFF)

/-- PCI Express Capabilities: Flit Mode Supported only where MAXRATE allows 64 GT/s (R186). -/
def pcieCapVal (s : State) (k : FnKind) (x : Option Nat) : Nat × Nat :=
  let type := match k with
    | .up => 5
    | .mgmt => 0
    | .down => 6
  match x with
  | some y => (0x20010 + type * 2 ^ 20 + b2n (slotAt s x) * 2 ^ 24 + b2n (decide (5 ≤ maxRate s y)) * 2 ^ 31, 0xFFFF00FF)
  | none => (0x20010 + type * 2 ^ 20, 0x3FFF00FF)

/-- A register of a function as it reads, and which of its bits a rule or the family gives. -/
def cfgVal (s : State) (q fn : Nat) (r : CfgReg) (off : Nat := 0) : Nat × Nat :=
  let k := fnKind q fn
  let x := linkOf s q fn
  let w := (s.cfgR q fn r off).toNat
  if !hasReg k r then (0, 0)
  else match r with
  | .command => if k = .mgmt then (w + 2 ^ 20 + b2n (mgmtWire s q) * 2 ^ 19, 0x18FFFF) else (w + 2 ^ 20, 0x10FFFF)
  | .prefWindow => (w + 0x10001, 0xFFFFFFFF)
  | .bar i => (if i.val = 0 then w + 4 else w, 0xFFFFFFFF)
  | .bridgeCtl => (w, 0xFFFF00FF)
  | .pcieCap => pcieCapVal s k x
  -- Maximum payload size 4,096 B (R184)
  | .devCap => (0x8005, 0x8007)
  | .devCtl => (w, 0x000FFFFF)
  | .linkCap => linkCapVal s k x
  | .linkCtl => linkCtlVal s k x w
  | .slotCap => slotCapVal s x
  | .slotCtl => slotCtlVal s x w
  -- ARI Forwarding; completion of requests with 10-bit tags (R184)
  | .devCap2 => if k = .down then (0x20, 0x20) else if k = .mgmt then (0x10000, 0x10000) else (0, 0)
  | .linkCap2 => x.elim (0, 0x100) (fun x => ((2 ^ (maxRate s x + 1) - 1) * 2, 0x1FF))
  | .pmCap => (0x00030001, 0x060700FF)
  | .pmcsr => (w, 0x8103)
  -- L1.1 and L1.2, ASPM and PCI-PM; 30 µs; 40 µs as 20 times 2 µs (R200)
  | .l1ssCap => (0x1F + 30 * 2 ^ 8 + 20 * 2 ^ 19, 0x00FBFF1F)
  | .aspmSub => (w, 0xE3FFFF1F)
  -- L0p, with an exit latency of 1 µs (R200)
  | .devCap3 => (0x8 + 1 * 2 ^ 4, 0x78)
  | .flitL0p => (w, 0x7F)
  | .acs => (w + 0x7F, 0x007F007F)
  -- no Root Port extensions (R206); poisoned egress blocking and software trigger
  | .dpcCtl => (w + 0xC0, 0x00FF00FF)
  | .dpcStat => (w, 0x7F)
  | .ssid => ((s.act Reg.GLB_PCIID).toNat, 0xFFFFFFFF)
  | .serial i => (Config.serial.toNat / 2 ^ (32 * i.val) % 2 ^ 32, 0xFFFFFFFF)
  | .secPcie => (w, 0)
  | .vfBar _ _ _ => (0, 0)
  | .busNumbers | .memWindow | .prefBaseHi | .prefLimitHi | .acsVector | .aerStat | .aerMask | .aerSev | .aerCor
  | .aerCorMask | .other => (w, 0xFFFFFFFF)

/-- Dword `i` of the configuration space of function `fn`, and which of its bits are given: the identifiers, revision
and class (R192, R195), the management function's BAR and interrupt pin (R195), the I/O windows (R187), no expansion ROM
(R185), the registers of `cfgVal`; the places of the capabilities are an implementation's (log entry 8). -/
def cfgShown (s : State) (q fn i : Nat) : Word × Word :=
  let id := (s.act Reg.GLB_PCIID).toNat
  let all : Nat := 0xFFFFFFFF
  let k := fnKind q fn
  let m := k == .mgmt
  let r : Nat × Nat := match i with
    | 0 => (id % 2 ^ 16 + (if k = .up then 0x9192 else if m then 0x9194 else 0x9193) * 2 ^ 16, all)
    | 1 => cfgVal s q fn .command
    | 2 => (if m then 0x088000C1 else 0x060400C1, all)
    | 4 => if m then cfgVal s q fn (.bar 0) else (0, 0)
    | 5 => if m then cfgVal s q fn (.bar 1) else (0, 0)
    | 6 => if m then (0, all) else cfgVal s q fn .busNumbers
    | 7 => if m then (0, all) else (0, 0xFFFF)
    | 8 => if m then (0, all) else cfgVal s q fn .memWindow
    | 9 => if m then (0, all) else cfgVal s q fn .prefWindow
    | 10 => if m then (0, 0) else cfgVal s q fn .prefBaseHi
    | 11 => if m then (id, all) else cfgVal s q fn .prefLimitHi
    | 12 | 14 => (0, all)
    | 15 => if m then ((s.cfgR q 1 .other 15).toNat % 2 ^ 8 + 2 ^ 8, all) else cfgVal s q fn .bridgeCtl
    | i =>
      if i < 16 then (0, 0)
      else match Config.cfgAt (if k = .up then 0 else if m then 1 else 2) i with
        | some r => cfgVal s q fn r i
        | none => (0, 0)
  (BitVec.ofNat 32 r.1, BitVec.ofNat 32 r.2)

/-- A dword of which the bits of the second word are given; the others are free. -/
def fillFree (s : State) (v : Word × Word) : Word := (v.1 &&& v.2) ||| ((Config.cfgRead s.fresh).setWidth 32 &&& ~~~v.2)

/-- A register of a function as a whole dword (R193). -/
def cfgDword (s : State) (q fn : Nat) (r : CfgReg) (off : Nat) : Word :=
  let v := cfgVal s q fn r off
  fillFree s (BitVec.ofNat 32 v.1, BitVec.ofNat 32 v.2)

end Sys2Proof.Machine
end

