-- ==== Sys2Proof/Machine/LinkOps.lean ====
section
/-! DEFINITION. The fabric link's state machine: states, INIT, replay, retrain, withdrawal (R234, R237,
R242 to R248, R353, R354). -/

namespace Sys2Proof.Machine

/-- The physical lanes of fabric port `f` in the Active Set. -/
def fabLanes (s : State) (n f : Nat) : List Nat :=
  let e := nth (0, 0) (layout (stnWidth s.act n)) f
  (List.range e.2).map (fun i => e.1 + i)

/-- LN_STAT.STATE. -/
def laneState (s : State) (n l : Nat) : Nat := s.livF (Reg.LN_STAT n l) Fld.LN_STAT_STATE

/-- A lane enters a state. -/
def setLaneState (n l st : Nat) (s : State) : State :=
  let s := s.setLivF (Reg.LN_STAT n l) Fld.LN_STAT_STATE st
  s.setLane n l { s.lane n l with since := s.now, commas := 0, ready := false, clean := 0, missed := 0, sers := [] }

/-- A training record in LN_REC, with the equaliser state that it does not report (R168). -/
def putRec (n l ctle temp droop : Nat) (r : LaneRec) (s : State) : State :=
  let trains := s.livF (Reg.LN_REC n l) Fld.LN_REC_TRAINS
  let preset := r.preset
  let s := s.onDp (fun d => { d with recs := Tab.put d.recs (9 * n + l) r })
  s.setLivN (Reg.LN_REC n l) (temp % 256 + droop % 256 * 2 ^ 8 + ctle % 16 * 2 ^ 16 +
    preset % 16 * 2 ^ 20 + (trains + 1) % 256 * 2 ^ 24)

/-- Does the spare of station `n` train and take over (R104, R163)? -/
def spareUsed (s : State) (n : Nat) : Bool :=
  decide (stnKind s.act n = .fabric) && s.actB (Reg.SPARE_CTL n) Fld.SPARE_CTL_USE && (s.stnRec n).spareWired

/-- The spare of station `n` trains with port 0: its lane enters a state, and it holds no lane (R178). A lane whose data it
carried returns, with a DEVICE entry (R172; DESIGN CHOICE, log entry 107). -/
def spareTrain (n st : Nat) (s : State) : State :=
  let on := spareUsed s n
  let s := if (s.spare n).taken then s.logDevice (16 * n + 4) else s
  let s := setLaneState n 8 (if on then st else 0) s
  let s := s.setLivF (Reg.SPARE_STAT n) Fld.SPARE_STAT_STATE 0
  let s := s.setLivF (Reg.SPARE_STAT n) Fld.SPARE_STAT_LANE 15
  s.setSpare n {}

/-- The limit of VC `v` (FL_VCLIM; R236). -/
def vcLim (s : State) (n f v : Nat) : Nat :=
  min 32767 (bits (s.act (Reg.FL_VCLIM n f (v / 2))).toNat (16 * (v % 2)) 16)

/-- Brings FL_SEQ and FL_RPL up to date (R254). -/
def syncFl (n f : Nat) (s : State) : State :=
  let l := s.lnk n f
  let oldest := match l.replay with
    | [] => l.seq
    | x :: _ => x.pkt.seq
  let s := s.setLivN (Reg.FL_SEQ n f) (l.seq + l.nes * 2 ^ 16)
  s.setLivN (Reg.FL_RPL n f) (oldest + rplUse l % 2 ^ 14 * 2 ^ 16)

/-- The parent port of a follower (R249). -/
def isParent (s : State) (n f : Nat) : Bool :=
  let w := s.act Reg.GLB_FT_CTL
  fget w Fld.GLB_FT_CTL_ROLE == 0 && fget w Fld.GLB_FT_CTL_PSTN == n && fget w Fld.GLB_FT_CTL_PPORT == f

/-- SYNC clears; on a follower FL_TSYNC is raised at the parent station (R252). -/
def syncClear (s : State) : State :=
  if s.livB Reg.GLB_FT_STAT Fld.GLB_FT_STAT_SYNC then
    let w := s.act Reg.GLB_FT_CTL
    let s := s.setLivF Reg.GLB_FT_STAT Fld.GLB_FT_STAT_SYNC 0
    let s := s.onDp (fun d => { d with time := { d.time with good := 0 } })
    let n := fget w Fld.GLB_FT_CTL_PSTN
    if fget w Fld.GLB_FT_CTL_ROLE = 0 ∧ n < 24 then s.raiseStn n 15 (fget w Fld.GLB_FT_CTL_PPORT) else s
  else s

/-- A fabric port enters a link state (R242); SYNC clears when the parent port leaves UP (R252). -/
def setFl (n f st : Nat) (s : State) : State :=
  let old := s.flState n f
  let s := s.setLivF (Reg.FL_STAT n f) Fld.FL_STAT_STATE st
  let s := s.onLnk n f (fun l => { l with since := s.now })
  if old = 3 ∧ st ≠ 3 ∧ isParent s n f then syncClear s else s

/-- The link's sequence and credit state starts afresh (R234, R243): replay buffer and bypass region
emptied, the packets counted in FL_DISCCNT. -/
def initLink (n f : Nat) (s : State) : State :=
  let l := s.lnk n f
  let s := s.bump (Reg.FL_DISCCNT n f) l.replay.length
  let cum := (List.range 8).foldl (fun t v => Tab.set 0 t v (vcLim s n f v)) ([] : Tab Nat)
  let s := s.setLnk n f { l with
    seq := 0
    nes := 0
    replay := []
    inRow := 0
    bseq := 0
    bnes := 0
    bypass := []
    bResend := none
    nak := false
    nakSent := none
    rplRun := none
    cumRx := []
    sent := []
    cum := cum
    cumAdv := cum }
  syncFl n f s

/-- Bytes of a packet on a link (R221). -/
def linkBytes (p : Packet) : Nat := 32 * p.len + 20

/-- Sends a copy of each unacknowledged packet from sequence number `a` on, after the packet that is being sent; what else the
stream held is sent among them (R241). -/
def resendFrom (n f a : Nat) (s : State) : State :=
  let l := s.lnk n f
  let from_ := l.replay.dropWhile (fun x => x.pkt.seq != a)
  let stream := l.stream.take 1 ++ from_.map (fun x => linkBytes x.pkt)
  let s := s.setLnk n f { l with stream := stream, rplRun := some (a, stream.foldl (· + ·) 0) }
  from_.foldl (fun s x =>
    perf n 0x0D (some f) 1 { cls := some x.pkt.vc } (s.emit (.packet n f { x.pkt with ack := l.nes } x.stomped))) s

/-- Replays from the oldest unacknowledged packet. -/
def resendAll (n f : Nat) (s : State) : State :=
  match (s.lnk n f).replay with
  | [] => s
  | x :: _ => resendFrom n f x.pkt.seq s

/-- Queues a link-level sequenced short packet (R232). -/
def ctrlSend (n f : Nat) (b : ShortBody) (s : State) : State :=
  s.onLnk n f (fun l => { l with ctrl := l.ctrl ++ [b] })

/-- The code of a lane count in FL_STAT.WIDTH and TWIDTH. -/
def laneCode (w : Nat) : Nat := if w = 0 then 7 else widthCode w

/-- Sends WIDTH, with INIT when the state has been reset since the last UP (R243). -/
def sendWidth (n f : Nat) (s : State) : State :=
  let l := s.lnk n f
  let s := if l.init then initLink n f s else s
  let s := s.setLivF (Reg.FL_STAT n f) Fld.FL_STAT_WIDTH (laneCode l.use.length)
  ctrlSend n f (.width s.node n f (laneCode l.use.length) (s.lnk n f).nes l.init) s

/-- Does the long operation in progress concern this port, as a retrain or a width change? -/
def longOnPort (s : State) (n p : Nat) : Bool :=
  match s.dir.longop with
  | some l => l.kind == .retrain n p || l.kind == .width n p
  | none => false

/-- A port reaches UP: DEGRADED follows the width (R247, R248), a long operation on it ends. -/
def linkUp (n f : Nat) (s : State) : State :=
  let s := setFl n f 3 s
  let s := s.onLnk n f (fun l =>
    { l with init := false, rplAt := s.now, bAt := s.now, stream := [], upn := 0, rplRun := none })
  let s := if (s.lnk n f).use.length < fabWidth s.act n f then
      let s := s.setLivF (Reg.FL_STAT n f) Fld.FL_STAT_DEGRADED 1
      (s.raiseStn n 10 f).logDevice (16 * n + 10)
    else s.setLivF (Reg.FL_STAT n f) Fld.FL_STAT_DEGRADED 0
  let s := resendAll n f s
  if longOnPort s n f then endLong s else s

/-- Sends RETRAIN_REQ and enters REQ (R242). -/
def sendReq (n f op tw sel : Nat) (s : State) : State :=
  let s := ctrlSend n f (.retrainReq op tw sel s.node) s
  let s := setFl n f 4 s
  s.onLnk n f (fun l => { l with op := op, tw := tw, sel := sel })

/-- Lanes in the order of the logical lanes that `num` gives them; those it gives none fill the places left, in the order of
the list. -/
def byLogical (num : Nat → Option Nat) (ls : List Nat) : List Nat :=
  let free := ls.filter (fun l => (num l).isNone)
  ((List.range ls.length).foldl (fun (e : List Nat × List Nat) j =>
    match ls.find? (fun l => num l == some j), e.2 with
    | some l, fr => (e.1 ++ [l], fr)
    | none, l :: fr => (e.1 ++ [l], fr)
    | none, [] => e) (([] : List Nat), free)).1

/-- The logical lane that lane `l` has received in this bring-up. -/
def received (s : State) (n l : Nat) : Option Nat :=
  if 4 ≤ laneState s n l ∧ laneState s n l ≤ 10 then some (s.livF (Reg.LN_STAT n l) Fld.LN_STAT_LOGICAL) else none

/-- The receivers of a port in the order of the logical lanes of its configured width (R245). DEDUCED (log entry 111): the
numbers are those of the last bring-up at that width; a lane that has received none stands in a place left over. -/
def configured (s : State) (n f : Nat) : List Nat :=
  let l := s.lnk n f
  if l.full = [] then byLogical (received s n) (fabLanes s n f) else l.full

/-- The lanes of `all`, logical lane 0 of the configured width first, that TWIDTH and SEL name (R245). -/
def widthLanes (all : List Nat) (tw sel : Nat) : List Nat :=
  if sel = 0 then all.take (2 ^ tw) else all.drop (all.length - 2 ^ tw)

/-- The lanes whose receivers OP, TWIDTH and SEL name, logical lane 0 first (R245). -/
def pauseLanes (s : State) (n f op tw sel : Nat) : List Nat :=
  if op = 0 then (s.lnk n f).use else widthLanes (configured s n f) tw sel

/-- Enters PAUSE: the lanes named return to ALIGN (R245), a good lane that leaves use waits in READY (R247), and FL_RTCNT
counts (R248). A request of this end that has not been sent is not sent any more. -/
def enterPause (n f op tw sel : Nat) (s : State) : State :=
  let ls := pauseLanes s n f op tw sel
  let off := (s.lnk n f).use.filter (fun l => !ls.contains l && laneState s n l == 7)
  let s := setFl n f 5 (s.bump (Reg.FL_RTCNT n f))
  let s := s.setLivF (Reg.FL_STAT n f) Fld.FL_STAT_SEL (if op = 0 then s.livF (Reg.FL_STAT n f) Fld.FL_STAT_SEL else sel)
  let asks (b : ShortBody) : Bool := match b with
    | .retrainReq .. => true
    | _ => false
  let s := s.onLnk n f (fun l => { l with
    op := op
    tw := tw
    sel := sel
    full := configured s n f
    use := ls
    tx := if op = 0 then l.tx else widthLanes (fabLanes s n f) tw sel
    ctrl := l.ctrl.filter (fun b => !asks b)
    pausing := none })
  let s := if f = 0 then spareTrain n 3 s else s
  let s := off.foldl (fun s l => setLaneState n l 6 s) s
  ls.foldl (fun s l => setLaneState n l 3 s) s

/-- What R247 allows below the width in use: TWIDTH and SEL, by the logical lanes of the configured width. -/
def reduced (s : State) (n f : Nat) : Option (Nat × Nat) :=
  let good (l : Nat) : Bool := laneState s n l != 10 && (s.lane n l).good
  let pick (sel : Nat) : Option (Nat × Nat) :=
    ([2, 1, 0].find? (fun c => decide (2 ^ c < (s.lnk n f).use.length) && (widthLanes (configured s n f) c sel).all good)).map
      (fun c => (c, sel))
  (pick 0).or (pick 1)

/-- Routed short packets of the bypass region or the queues of port `f` are offered again (R354); a notice's two segments stay
together (R344). -/
def reoffer (n f : Nat) : List ShortBody → State → State
  | .pfn0 a b c d e g :: .pfn1 h i j :: l, s =>
    reoffer n f l (sendShort n [.pfn0 a b c d e g, .pfn1 h i j] s (.fabric f 0 0))
  | .wire a b c d e :: l, s => reoffer n f l (sendShort n [.wire a b c d e] s (.fabric f 0 0))
  | .lockReq a b c d e g h :: l, s => reoffer n f l (sendShort n [.lockReq a b c d e g h] s (.fabric f 0 0))
  | .lockGnt a b c d e g :: l, s => reoffer n f l (sendShort n [.lockGnt a b c d e g] s (.fabric f 0 0))
  | _ :: l, s => reoffer n f l s
  | [], s => s

/-- A unit at a withdrawn port is handled under R354. -/
def loseUnit (n : Nat) (u : CUnit) (s : State) : State :=
  match u.body with
  | .pkt p _ => undeliverable n p 6 s
  | .short l => reoffer n (u.dst % 4) l s
  | .tlp _ _ _ => s

/-- Empties the queues of a withdrawn port (R354). -/
def losePort (n f : Nat) (s : State) : State := clearQueues (4 * n + f) (loseUnit n) s

/-- Empties the replay buffer and the bypass region; `lost` tells that the packets are handled under
R354. -/
def emptyLink (n f : Nat) (lost : Bool) (s : State) : State :=
  let l := s.lnk n f
  let s := initLink n f s
  let s := s.onLnk n f (fun l => { l with
    init := true
    ctrl := []
    first := none
    seg0 := none
    seg1 := none
    peer := none
    pausing := none
    inited := false })
  if lost then
    let s := l.replay.foldl (fun s x => if x.stomped then s else undeliverable n x.pkt 6 s) s
    reoffer n f (l.bypass.map (fun x => x.body)) s
  else s

/-- Lane bring-up of a fabric port begins: its lanes go to DETECT, every lane of the port in use. -/
def startLanes (n f : Nat) (s : State) : State :=
  let ls := fabLanes s n f
  let s := ls.foldl (fun s l => setLaneState n l 1 s) s
  let s := if f = 0 then spareTrain n 1 s else s
  let s := s.setLivF (Reg.FL_STAT n f) Fld.FL_STAT_WIDTH 7
  let s := s.setLivF (Reg.FL_STAT n f) Fld.FL_STAT_SEL 0
  s.onLnk n f (fun l => { l with use := ls, tx := ls, full := [] })

/-- A fabric port enters TRAIN from a working state: it is withdrawn, passes through DOWN and starts
bring-up again (R353, R354). -/
def toTrain (n f : Nat) (s : State) : State :=
  let old := s.flState n f
  let s := if old = 4 ∨ old = 5 then s.raiseStn n 9 f else s
  let s := setWithdrawn n f true (s.bump Reg.GLB_WITHDRAWCNT)
  let s := s.onFab (fun g => { g with moved := Tab.put g.moved (2 * n + f) s.now })
  let s := (s.raise (gEvt 13)).logDevice (gEvt 13)
  let s := setFl n f 1 s
  let s := emptyLink n f true s
  let s := losePort n f s
  let s := startLanes n f s
  if longOnPort s n f then endLong s else s

/-- A fabric port goes to DOWN, disabled by a cut or by a station reset (R242). -/
def toDown (n f : Nat) (s : State) : State :=
  let s := setFl n f 0 s
  let s := emptyLink n f false s
  let s := s.setLivF (Reg.FL_STAT n f) Fld.FL_STAT_WIDTH 7
  if longOnPort s n f then endLong s else s

/-- A fabric port that a cut enables begins bring-up (R163, R242). -/
def fabEnable (n f : Nat) (s : State) : State := startLanes n f (setFl n f 1 s)

/-- Packets acknowledged by `a` leave the replay buffer; an acknowledgement of a packet not yet sent is
ignored and raises FL_PROTO (R237). -/
def ackTo (n f a : Nat) (s : State) : State :=
  let l := s.lnk n f
  let ahead (x y : Nat) : Bool :=
    let d := (x + 2 ^ 16 - y) % 2 ^ 16
    decide (1 ≤ d) && decide (d ≤ 32767)
  if ahead a l.seq then s.raiseStn n 14 f
  else
    let rest := l.replay.filter (fun x => !ahead a x.pkt.seq)
    if rest.length = l.replay.length then s
    else syncFl n f (s.setLnk n f { l with replay := rest, inRow := 0, rplAt := s.now })

/-- The partner's WIDTH is applied (R242, R243): INIT; in CHECK the identity check, and UP on a match. -/
def applyWidth (n f node stn port nes : Nat) (ini : Bool) (s : State) : State :=
  let s := if ini then
      let own := (s.lnk n f).init
      let s := if own then s else initLink n f s
      (s.onLnk n f (fun l => { l with bnes := 1, inited := true })).raiseStn n 9 f
    else ackTo n f nes s
  if s.flState n f = 2 then
    let r := s.stnRec n
    if node = r.pnode ∧ stn = r.pstn ∧ port = f then
      linkUp n f (s.setLivF (Reg.FL_STAT n f) Fld.FL_STAT_PEERBAD 0)
    else (s.setLivF (Reg.FL_STAT n f) Fld.FL_STAT_PEERBAD 1).raiseStn n 13 f
  else s

/-- Every lane in use is ACTIVE: from TRAIN the port sends WIDTH and enters CHECK; in PAUSE it sends WIDTH
and is UP again (R242, R245). The data streams of both ends start afresh (R220; in CHECK: DEDUCED, log entry 114). -/
def lanesActive (n f : Nat) (s : State) : State :=
  let s := s.onLnk n f (fun l => { l with
    full := configured s n f
    use := byLogical (received s n) l.use
    lost := false
    stream := []
    upn := 0 })
  match s.flState n f with
  | 1 =>
    let s := setFl n f 2 (sendWidth n f s)
    match (s.lnk n f).peer with
    | some (node, stn, port, nes, ini) =>
      applyWidth n f node stn port nes ini (s.onLnk n f (fun l => { l with peer := none }))
    | none => s
  | 5 => linkUp n f (sendWidth n f s)
  | _ => s

/-- A port has lost a lane and no spare can take it (R178, R247): in UP it asks for a reduced width; in
any other working state, or when no width qualifies, it goes to TRAIN. -/
def laneLost (n f : Nat) (s : State) : State :=
  match s.flState n f with
  | 3 => match reduced s n f with
    | some (tw, sel) => sendReq n f 1 tw sel s
    | none => toTrain n f s
  | 2 => toTrain n f s
  | _ => s

end Sys2Proof.Machine
end

