-- ==== Sys2Proof/Machine/TlpOps.lean ====
section
/-! DEFINITION. TLPs within a partition: routing as its switch routes, the window and peer-to-peer
checks, shared functions, and the hand-over to an egress (R207, R316 to R324, R336, R361). -/

namespace Sys2Proof.Machine

/-- Where the partition's switch sends a TLP. -/
inductive Hop where
  | up
  | bridge (i : Nat) (b : Bridge)
  /-- A function of the FM9192 itself. -/
  | self
  | nowhere
  /-- An ACS control forbids it. -/
  | violation
  /-- A broadcast from the root complex goes to every bridge. -/
  | all
  /-- An INTx message of a device ends at its bridge, device `i` (R197). -/
  | wire (i : Nat) (pin : Fin 4) (on : Bool)
  deriving DecidableEq, Repr

/-- Does a bridge function claim a memory address by its windows (PCI Express Base Specification 7.0)? -/
def memHit (s : State) (q fn a : Nat) : Bool :=
  let m := (s.cfgR q fn .memWindow).toNat
  let p := (s.cfgR q fn .prefWindow).toNat
  let lo := (s.cfgR q fn .prefBaseHi).toNat * 2 ^ 32
  let hi := (s.cfgR q fn .prefLimitHi).toNat * 2 ^ 32
  bit (s.cfgR q fn .command).toNat 1 &&
  ((decide (bits m 4 12 * 2 ^ 20 ≤ a) && decide (a < (bits m 20 12 + 1) * 2 ^ 20)) ||
   (decide (lo + bits p 4 12 * 2 ^ 20 ≤ a) && decide (a < hi + (bits p 20 12 + 1) * 2 ^ 20)))

/-- The identifier by which a TLP is routed: the requester of a completion, else its target. -/
def routeId (t : Tlp) : Nat := if t.isCpl then t.req else t.cid

/-- Is a TLP routed by address? -/
def byAddr (t : Tlp) : Bool :=
  match t.kind with
  | .memRd | .memRdLock | .memWr | .atomic => true
  | _ => false

/-- Does function `fn` of partition `q` claim a TLP? -/
def claims (s : State) (q fn : Nat) (t : Tlp) : Bool :=
  if byAddr t then memHit s q fn t.addr else busHit s q fn (routeId t / 256)

/-- Is a TLP a configuration request? -/
def isCfg (t : Tlp) : Bool := t.kind == .cfgRd || t.kind == .cfgWr

/-- The ACS controls of the bridge of device `i` in partition `q` (R184, R317; PRESUMED, log entry 8). -/
def acsCtl (s : State) (q i : Nat) : Nat := (s.cfgR q (2 + i) .acs).toNat / 2 ^ 16

/-- Does the bridge that a TLP enters at block it: Source Validation (bit 0), or Translation Blocking (bit 1)? -/
def acsBlocks (s : State) (q i : Nat) (t : Tlp) : Bool :=
  (!t.isCpl && bit (acsCtl s q i) 0 && !busHit s q (2 + i) (t.req / 256)) || (t.translated && bit (acsCtl s q i) 1)

/-- Where a TLP from device `i` that the bridge `b` of device `j` claims goes under the ACS controls: completions may be
redirected (bit 3); a translated request goes direct (bit 6); P2P Egress Control (bit 5) lets its vector choose; else
requests may be redirected (bit 2). -/
def acsPeer (s : State) (q i j : Nat) (b : Bridge) (t : Tlp) : Hop :=
  let c := acsCtl s q i
  if t.isCpl then (if bit c 3 then .up else .bridge j b)
  else if t.translated && bit c 6 then .bridge j b
  else if bit c 5 then
    (if !bit (s.cfgR q (2 + i) .acsVector).toNat j then .bridge j b else if bit c 2 then .up else .violation)
  else if bit c 2 then .up else .bridge j b

/-- Does function `fn` pass a memory request upstream: Bus Master Enable of its Command register (log entry 8)? -/
def masterOn (s : State) (q fn : Nat) (t : Tlp) : Bool := !byAddr t || bit (s.cfgR q fn .command).toNat 2

/-- How the partition's switch routes a TLP (R317); configuration requests go downstream alone (PRESUMED, log entry 8). -/
def route (s : State) (q : Nat) (e : Entrance) (t : Tlp) : Hop :=
  let bs := bridges s.regs.active q
  let down (skip : Nat) : Option (Nat × Bridge) :=
    (bs.zipIdx.find? (fun b => b.2 != skip && claims s q (2 + b.2) t)).map (fun b => (b.2, b.1))
  match entryIndex s q e with
  | none =>
    if t.kind == .msgUp || t.kind matches .intx .. then .nowhere
    else if t.kind == .msgDown then .all
    else if !byAddr t && (routeId t / 256 == bits (s.cfgR q 0 .busNumbers).toNat 0 8 ||
        (isCfg t && !claims s q 0 t)) then .self
    else if claims s q 0 t then
      match down 64 with
      | some (i, b) => .bridge i b
      | none => if byAddr t then .nowhere else .self
    else if byAddr t && decide ((s.cfgR q 1 (.bar 0)).toNat / 2 ^ 24 * 2 ^ 24 +
        (s.cfgR q 1 (.bar 1)).toNat * 2 ^ 32 = t.addr / 2 ^ 24 * 2 ^ 24) then .self
    else .nowhere
  | some i =>
    match t.kind with
    | .intx pin on => .wire i pin on
    | _ =>
    if acsBlocks s q i t then .violation
    else if t.kind == .msgUp then .up
    else if t.kind == .msgDown || isCfg t || !masterOn s q (2 + i) t then .nowhere
    else
      let north : Hop := if masterOn s q 0 t then .up else .nowhere
      match down i with
      | some (j, b) => if acsPeer s q i j b t = .up then north else acsPeer s q i j b t
      | none =>
        -- Upstream Forwarding (bit 4) sends on what its own bridge would claim
        if claims s q 0 t && byAddr t && !(bit (acsCtl s q i) 4 && claims s q (2 + i) t) then .nowhere else north

/-- Does one enabled window of partition `q` hold every byte of a request to a port or import (R318)? -/
def inWindow (s : State) (q kind target : Nat) (t : Tlp) : Bool :=
  (List.range 32).any (fun w =>
    let w0 := (s.act (Reg.GLB_PWIN q w 0)).toNat
    let base := w0 / 2 ^ 12 * 2 ^ 12 + (s.act (Reg.GLB_PWIN q w 1)).toNat * 2 ^ 32
    let lim := (s.act (Reg.GLB_PWIN q w 2)).toNat / 2 ^ 12 * 2 ^ 12 + 0xFFF + (s.act (Reg.GLB_PWIN q w 3)).toNat * 2 ^ 32
    bit w0 0 && bits w0 1 1 == kind && bits w0 2 8 == target && decide (base ≤ t.addr) &&
    decide (t.addr + (t.span - 1) ≤ lim))

/-- Does the peer-to-peer matrix of `q` permit bridge `i` to reach bridge `j` (R320)? -/
def p2pOk (s : State) (q i j : Nat) : Bool := decide (i < 32) && bit (s.act (Reg.GLB_P2P q i)).toNat j

/-- DBAR `j` of a binding: size exponent and device address (R322). -/
def dbar (s : State) (b j : Nat) : Nat × Nat :=
  let lo := (s.act (Reg.GLB_VFB b (2 + 2 * j))).toNat
  (bits lo 0 6, lo / 2 ^ 12 * 2 ^ 12 + (s.act (Reg.GLB_VFB b (3 + 2 * j))).toNat * 2 ^ 32)

/-- The binding of partition `q` on port `x` whose emulated BAR an address falls in, with the address that
the device sees (R322). -/
def vfAddr (s : State) (q x a : Nat) : Option (Binding × Nat) :=
  ((bindings s.regs.active).filter (fun b => b.part == q && b.port == x)).findSome? (fun b =>
    (List.range 2).findSome? (fun j =>
      let d := dbar s b.idx j
      let host := Tab.get 0 s.parts.vfbar (2 * b.idx + j)
      if 12 ≤ d.1 ∧ host ≤ a ∧ a < host + 2 ^ d.1 then some (b, a - host + d.2) else none))

/-- Does the owner's request fall in a bound function's DBAR range, or name a bound function (R324)? -/
def boundHit (s : State) (x : Nat) (t : Tlp) : Bool :=
  (bindings s.regs.active).any (fun b => b.port == x &&
    (if byAddr t then (List.range 2).any (fun j =>
        let d := dbar s b.idx j
        decide (12 ≤ d.1) && decide (d.2 ≤ t.addr) && decide (t.addr < d.2 + 2 ^ d.1))
      else isCfg t && t.cid == b.vfid))

/-! ## Leaving the partition's switch -/

/-- The station and port at which an entrance lies: an import's traffic leaves and enters at the port of the
upstream station. -/
def entranceFn (s : State) (q : Nat) (e : Entrance) : Nat :=
  match entryIndex s q e with
  | none => 0
  | some i => 2 + i

/-- A TLP leaves by import `k` of partition `q` (R336). -/
def sendImport (src : Nat) (o : Origin) (q k colour : Nat) (lock : Bool) (t : Tlp) (s : State) : State :=
  let (_, node, dport, domain) := importOf s k
  let (p, r) := wrap s node dport (upPort s q) { domain := domain, part := q, lock := lock } colour t
  sendPkt src o p r s

/-- The exported port's side: a TLP from port `x` leaves for its importing partition (R336). -/
def sendExport (src : Nat) (o : Origin) (x : Nat) (t : Tlp) (s : State) : State :=
  let w := (s.act (Reg.GLB_EXP x 0)).toNat
  let dom := (s.act (Reg.GLB_EXP x 1)).toNat % 2 ^ 16
  let lock := (s.eport x).lock matches .remote ..
  let (p, r) := wrap s (bits w 0 12) (bits w 18 7) x { domain := dom, part := bits w 12 6, lock := lock && t.isCpl } 0 t
  sendPkt src o p r s

/-- A completion returns to where its request entered: by the port that received it, an exported one too, or through the
import's tunnel. -/
def reply (src q : Nat) (e : Entrance) (t : Tlp) (s : State) : State :=
  match e with
  | .port x => sendLocal src .internal q x 0 (vfReq s q x t) s
  | .imp k => sendImport src .internal q k 0 false t s

/-- A request is refused: a non-posted one is completed with `status`, a posted one discarded; at the
far edge of a tunnel with a notice of CAUSE `cause` (R319, R343; for an ACS Violation and a request that nothing claims
log entry 120). -/
def refuse (src q : Nat) (e : Entrance) (status cause : Nat) (t : Tlp) (s : State) : State :=
  if t.nonPosted then reply src q e (complete t status) s
  else match e with
    | .imp k => if t.posted then sendPfn src (importOf s k).2.1 q t cause s else s
    | .port _ => s

/-- ISO_REJECT: the request fails the window or peer-to-peer check (R319, R324). -/
def isoReject (src q : Nat) (e : Entrance) (t : Tlp) (s : State) : State :=
  let s := refuse src q e 1 7 t s
  let s := aerError q (entranceFn s q e) aerUnsupported 1 s
  (s.bump Reg.GLB_ISOCNT).raise (gEvt 14) (some q)

/-- DPC is triggered at port `x` (PORT_STAT.DPC). -/
def dpcOn (s : State) (x : Nat) : Bool := s.livB (Reg.PORT_STAT (x / 4) (x % 4)) Fld.PORT_STAT_DPC

/-- The completion status that DPC Completion Control selects at function `fn` (R206): bit 2 of DPC
Control, 1 for Unsupported Request. -/
def dpcStatus (s : State) (q fn : Nat) : Nat := if s.cfgB q fn .dpcCtl 18 then 1 else 4

/-- An egress port is locked or released; PORT_STAT.LOCKED shows it (R207). -/
def setLock (x : Nat) (l : Lock) (s : State) : State :=
  (s.onEport x (fun e => { e with lock := l })).setLivF (Reg.PORT_STAT (x / 4) (x % 4)) Fld.PORT_STAT_LOCKED
    (b2n (l != .free))

/-- A Memory Read Lock from a local port locks an egress port that is free (R207). -/
def lockFor (o : Origin) (x : Nat) (t : Tlp) (s : State) : State :=
  match o with
  | .pcie p => if t.kind = .memRdLock ∧ (s.eport x).lock = .free then setLock x (.byPort p) s else s
  | _ => s

/-- A LOCK_REQ of a sequence leaves for its far edge (R347). -/
def lockReq (l : LockSeq) (op : Nat) (s : State) : State :=
  sendShort (l.up / 4) [.lockReq l.node l.dport s.node l.up l.part l.ltag op] s

/-- A TLP of a sequence leaves for its far edge, from upstream port `x` (R347). -/
def lockSend (x : Nat) (l : LockSeq) (t : Tlp) (s : State) : State :=
  let (p, r) := wrap s l.node l.dport l.up { domain := l.domain, part := l.part, lock := true } 0 t
  sendPkt (x / 4) (.pcie x) p r s

/-- The unit `id`, made last, waits. -/
def waitUnit (id : Nat) (w : UWait) (s : State) : State :=
  match s.unit id with
  | none => s
  | some u => s.setUnit id { u with wait := w }

/-- A Memory Read Lock request of the upstream port for import `k` (R347): it leaves with its sequence when that is
granted, else it waits in the ingress cell buffer, wrapped and routed as it was classified (R70), and the first asks for
the lock. -/
def lockAsk (src : Nat) (o : Origin) (q k colour : Nat) (t : Tlp) (s : State) : State :=
  let (_, node, dport, domain) := importOf s k
  let (p, r) := wrap s node dport (upPort s q) { domain := domain, part := q, lock := true } colour t
  match forward src o p r s with
  | none => undeliverable src p 5 (s.bump Reg.GLB_NOROUTECNT)
  | some u =>
    match s.dp.fab.locks.find? (fun l => l.part == q && l.imp == k) with
    | some l => if l.granted then u else waitUnit s.dp.uid (.lock q k) u
    | none =>
      let l : LockSeq :=
        { part := q, imp := k, up := upPort s q, node := node, dport := dport, domain := domain, ltag := s.dp.fab.ltag }
      lockReq l 0 ((waitUnit s.dp.uid (.lock q k) u).onFab (fun f => { f with
        ltag := (f.ltag + 1) % 256
        locks := f.locks ++ [l] }))

/-- The units that wait for the lock of partition `q` through import `k`, oldest first. -/
def lockWaiting (s : State) (q k : Nat) : List Nat :=
  (s.dp.units.filter (fun e => e.2.wait == .lock q k)).map (fun e => e.1)

/-- A unit is taken out of the ingress cell buffer, and its half-cells are free. -/
def withdraw (id : Nat) (s : State) : State :=
  match s.unit id with
  | none => s
  | some u =>
    let key := listKey u.dst u.queue
    doneUnit id (freeUnit id (s.onIng u.src (fun i =>
      { i with lists := Tab.set [] i.lists key ((Tab.get [] i.lists key).filter (fun j => j != id)) })))

/-- Does partition `q` hold a granted lock through import `k`? -/
def lockHeld (s : State) (q k : Nat) : Bool :=
  s.dp.fab.locks.any (fun l => l.part == q && l.imp == k && l.granted)

/-- What keeps a TLP from the downstream port `x`, as a completion status and a CAUSE: DPC contains it, the link is not
up, it is poisoned and the port blocks it (R204, R206, R337). -/
def portBlocks (s : State) (x : Nat) (t : Tlp) : Option (Nat × Nat) :=
  let f := bridgeFn s x
  if dpcOn s x then some (dpcStatus s f.1 f.2, 3)
  else if !s.dlUp (x / 4) (x % 4) then some (1, 2)
  else if t.ep && s.cfgB f.1 f.2 .dpcCtl 21 then some (1, 4)
  else none

/-- A TLP of partition `q` reaches the downstream port `x`: it is refused with `no`, or handed over. -/
def toPort (src : Nat) (o : Origin) (q x colour : Nat) (no : Nat → Nat → State → State) (t : Tlp) (s : State) : State :=
  match portBlocks s x t with
  | some (status, cause) => no status cause s
  | none => sendLocal src o q x colour t (lockFor o x t s)

/-- The identifier under which a bound function appears to its host: the shared bridge's secondary bus and
FN (R324). -/
def sharedId (s : State) (q i fn : Nat) : Nat := (busRange s q (2 + i)).1 * 256 + fn % 256

/-- A tag of the shared port's pool for a non-posted request (R323). -/
def poolTag (s : State) (x : Nat) : Option Nat :=
  firstBelow 1024 (fun g => !(s.eport x).tags.any (fun e => e.1 == g))

/-- Each request that waits for a tag of shared port `x` takes a free one, the oldest first, while the pool holds one
(R323). -/
def tagGive (x : Nat) (s : State) : State :=
  (s.dp.units.filter (fun e => e.2.dst == x)).foldl (fun s e =>
    match e.2.wait, e.2.body, poolTag s x with
    | .tag q req tag, .tlp p c t, some g =>
      (s.onEport x (fun y => { y with tags := y.tags ++ [(g, q, req, tag)] })).setUnit e.1
        { e.2 with wait := .none, body := .tlp p c { t with tag := g } }
    | _, _, _ => s) s

/-- A configuration read is answered with a dword of which the bits of the second word are given; the others, which
no rule gives, are free (log entry 8). -/
def cfgAnswer (src q : Nat) (e : Entrance) (v : Word × Word) (t : Tlp) (s : State) : State :=
  reply src q e { complete t 0 with data := toBytes 4 (fillFree s v).toNat } s.draw

/-- Dword `i` of the emulated BARs of binding `b`, and which of its bits are given (R322): two pairs of 64-bit memory
BARs, a pair whose SIZE is below 12 absent; BAR4 and BAR5 are zero. Whether a BAR is prefetchable is free. -/
def vfBarShown (s : State) (b i : Nat) : Word × Word :=
  let host := Tab.get 0 s.parts.vfbar (2 * b + i / 2)
  if 4 ≤ i ∨ (dbar s b (i / 2)).1 < 12 then (0, 0xFFFFFFFF)
  else if i % 2 = 0 then (lo32 host ||| 4, 0xFFFFFFF7) else (hi32 host, 0xFFFFFFFF)

/-- The function of the FM9192 that a configuration request at the upstream port of partition `q` names (R191): on the
internal bus the bridge of a device, else function 0 or 1 of the upstream port's device. -/
def ownFn (s : State) (q : Nat) (t : Tlp) : Option Nat :=
  let d := t.cid % 256
  if claims s q 0 t && t.cid / 256 != bits (s.cfgR q 0 .busNumbers).toNat 0 8 then
    if t.cid / 256 = (busRange s q 0).1 ∧ d % 8 = 0 ∧ d / 8 < (bridges s.regs.active q).length then some (2 + d / 8)
    else none
  else if d < 2 then some d else none

/-- A TLP of partition `q` for a bound function behind shared port `x` (R322, R323): addresses and the target are translated,
of a non-posted request the requester and tag replaced, of a completion the requester is the function again (R324); the
function's BARs are emulated. -/
def toShared (src : Nat) (o : Origin) (q : Nat) (e : Entrance) (x colour : Nat) (no : Nat → Nat → State → State)
    (t : Tlp) (s : State) : State :=
  let bar := isCfg t && decide (0x10 ≤ t.addr % 4096) && decide (t.addr % 4096 < 0x28)
  let hit : Option (Binding × Tlp) :=
    if byAddr t then (vfAddr s q x t.addr).map (fun (b, a) => (b, { t with addr := a }))
    else (bindingOf s q x (routeId t % 256)).map (fun b => (b, if t.isCpl then { t with req := b.vfid } else { t with cid := b.vfid }))
  match hit with
  | none => no 1 2 s
  | some (b, t') =>
    if bar then
      if t.kind = .cfgRd then cfgAnswer src q e (vfBarShown s b.idx (t.addr / 4 % 1024 - 4)) t s else s
    else
      let t' := if t.nonPosted then { t' with req := b.pxid } else t'
      match portBlocks s x t with
      | some (status, cause) => no status cause s
      | none =>
        if t.nonPosted then
          tagGive x (waitUnit s.dp.uid (.tag q t.req t.tag) (sendLocal src o s.fmPart x colour t' (lockFor o x t s)))
        else sendLocal src o s.fmPart x colour t' (lockFor o x t s)

/-- A TLP goes to a bridge of its partition, after the window and peer-to-peer checks (R318 to R320). -/
def toBridge (src : Nat) (o : Origin) (q : Nat) (e : Entrance) (i : Nat) (b : Bridge) (colour : Nat) (t : Tlp)
    (s : State) : State :=
  let request := !t.isCpl
  let peer := match entryIndex s q e with
    | some j => request && !p2pOk s q j i
    | none => false
  let window := match b with
    | .loc x => request && byAddr t && !inWindow s q 0 x t
    | .imp k => request && byAddr t && !inWindow s q 1 k t
    | .shr _ => false
  let no (status cause : Nat) (s : State) : State := refuse src q e status cause t s
  if peer || window then isoReject src q e t s
  else match b with
    | .loc x => if request && boundHit s x t then isoReject src q e t s else toPort src o q x colour no t s
    | .imp k =>
      let own := (entryIndex s q e).isNone
      if own && t.kind == .memRdLock then lockAsk src o q k colour t s
      else sendImport src o q k colour (own && request && lockHeld s q k) t s
    | .shr x => toShared src o q e x colour no t s

/-- A device asserts or deasserts pin `pin` at the bridge of device `i` of partition `q` (R197). -/
def deviceWire (q i : Nat) (pin : Fin 4) (on : Bool) (s : State) : State :=
  let l := s.parts.devInt.filter (fun e => e != (q, i, pin.val))
  State.intx { s with parts := { s.parts with devInt := if on then (q, i, pin.val) :: l else l } }

/-- The units from number `id` on entered their partition at a function (R204). -/
def markEntry (f : Nat × Nat) (id : Nat) (s : State) : State :=
  s.onDp (fun d => { d with units := Tab.mapVals (fun k u => if id ≤ k then { u with entry := some f } else u) d.units })

/-- A TLP in partition `q` goes where its switch routes it (R316, R317). A request to a function of the
FM9192 itself is served by the commands of its own, but for a configuration read, which is answered at once
(R192); a request that no function claims is an Unsupported Request. -/
def inPartition (src : Nat) (o : Origin) (q : Nat) (e : Entrance) (colour : Nat) (t : Tlp) (s : State) : State :=
  markEntry (q, entranceFn s q e) s.dp.uid (
  match route s q e t with
  | .up => match upstreamOf s.act q with
    | some (n, p) => sendLocal src o q (4 * n + p) colour t s
    | none => s
  | .bridge i b => toBridge src o q e i b colour t s
  | .self =>
    if isCfg t then
      match ownFn s q t with
      | none => unclaimed t s
      | some fn => if t.kind = .cfgRd then cfgAnswer src q e (cfgShown s q fn (t.addr / 4 % 1024)) t s else s
    else s
  | .nowhere => unclaimed t s
  | .all => (bridges s.regs.active q).foldl (fun s b => match b with
    | .loc x => toPort src o q x colour (fun _ _ s => s) t s
    | .imp k => sendImport src o q k colour false t s
    | .shr _ => s) s
  | .wire i pin on => deviceWire q i pin on s
  | .violation => refuse src q e 4 7 t (aerError q (entranceFn s q e) aerAcs 1 s))
where
  /-- No function claims it. -/
  unclaimed (t : Tlp) (s : State) : State :=
    refuse src q e 1 2 t (if t.isCpl then s else aerError q (entranceFn s q e) aerUnsupported 1 s)

end Sys2Proof.Machine
end

