-- ==== Sys2Proof/Machine/SpcOps.lean ====
section
/-! DEFINITION. The Slot Power Controllers: settings, feeds, gates, trips, removal, power-good, meters and capture
windows (R488 to R515). -/

namespace Sys2Proof.Machine

/-- SPC `n`. -/
def State.spc (s : State) (n : Nat) : Spc := Tab.get {} s.pow.spc n

/-- Changes SPC `n`. -/
def State.onSpc (s : State) (n : Nat) (f : Spc → Spc) : State :=
  { s with pow := { s.pow with spc := Tab.set {} s.pow.spc n (f (Tab.get {} s.pow.spc n)) } }

/-! ## Settings and state (R513) -/

/-- A field of SPC_CFG. -/
def spcCfg (s : State) (n : Nat) (f : Fld) : Nat := s.actF (Reg.SPC_CFG n) f
/-- A field of SPC_STAT. -/
def spcStat (s : State) (n : Nat) (f : Fld) : Nat := s.livF (Reg.SPC_STAT n) f
/-- Writes a field of SPC_STAT. -/
def setSpc (n : Nat) (f : Fld) (v : Nat) (s : State) : State := s.setLivF (Reg.SPC_STAT n) f v
/-- STATE: 0 OFF, 1 QUAL, 2 RAMP, 3 ON, 4 SWITCH, 5 RETRYWAIT, 6 FEEDLOSS, 7 LOCKOUT. -/
def spcState (s : State) (n : Nat) : Nat := spcStat s n Fld.SPC_STAT_STATE
/-- Writes STATE. -/
def toState (n st : Nat) (s : State) : State := setSpc n Fld.SPC_STAT_STATE st s
/-- RSHUNT in µΩ. -/
def rshunt (s : State) (n : Nat) : Nat := max 100 (bits (s.act (Reg.SPC_CFGX n)).toNat 0 16)
/-- RETRYWAIT in ns. -/
def retryWait (s : State) (n : Nat) : Nat := max 1 (bits (s.act (Reg.SPC_CFGX n)).toNat 16 8) * 10000000
/-- PERSTDLY in ns. -/
def perstDly (s : State) (n : Nat) : Nat := max 100 (bits (s.act (Reg.SPC_CFGX n)).toNat 24 8) * 1000000
/-- Is a VIN code within UVLO to OVLO? -/
def inRange (s : State) (n c : Nat) : Bool :=
  let w := (s.act (Reg.SPC_FEEDCFG n)).toNat
  decide (bits w 0 12 ≤ c) && decide (c ≤ bits w 12 12)
/-- QUAL in ns. -/
def qualNs (s : State) (n : Nat) : Nat := max 1 (bits (s.act (Reg.SPC_FEEDCFG n)).toNat 24 8) * 1000000
/-- RAMPMAX in ns. -/
def rampMax (s : State) (n : Nat) : Nat := max 1 (spcCfg s n Fld.SPC_CFG_RAMPMAX) * 1000000
/-- Steps of PGDLY. -/
def pgDly (s : State) (n : Nat) : Nat := max 1 (spcCfg s n Fld.SPC_CFG_PGDLY * 100)
/-- Is curve point `k` enabled? -/
def ptOn (s : State) (n k : Nat) : Bool := bit (s.act (Reg.SPC_CURVE n k 0)).toNat 31
/-- ITHR of point `k` in mA. -/
def ithr (s : State) (n k : Nat) : Nat := bits (s.act (Reg.SPC_CURVE n k 0)).toNat 0 16
/-- TLIM of point `k` in steps. -/
def tlim (s : State) (n k : Nat) : Nat := max 1 (bits (s.act (Reg.SPC_CURVE n k 1)).toNat 0 24)
/-- Does the SPC run in MODE 1? -/
def mode1 (s : State) (n : Nat) : Bool := spcCfg s n Fld.SPC_CFG_MODE == 1
/-- FASTTHR in mA. -/
def fastThr (s : State) (n : Nat) : Nat := (s.act (Reg.SPC_FAST n)).toNat % 2 ^ 16
/-- Does curve point `k` act (R503)? -/
def ptActs (s : State) (n k : Nat) : Bool := ptOn s n k && (!mode1 s n || k == 0)

/-- Is PRSNT_N an input at station `n` (R108)? -/
def prsntInput (s : State) (n : Nat) : Bool :=
  match stnKind s.act n with
  | .fabric => true
  | .pcie => !isPairOdd s.act n && (List.range 4).any (fun p => pciePort s.act n p && !isUpstream s.act n p)
  | .unused => false

/-- The enabled downstream ports that slot `n` serves. -/
def slotPorts (s : State) (n : Nat) : List Nat :=
  let h := homeStn s.act n
  (List.range 4).filter (fun p => pciePort s.act h p && !isUpstream s.act h p)

/-- The hot-plug functions of slot `n` (R201): partition and function. -/
def slotFns (s : State) (n : Nat) : List (Nat × Nat) :=
  if isPairOdd s.act n ∨ (s.stnRec n).slotw = 0 then []
  else ((slotPorts s n).filter (fun p => s.actB (Reg.PORT_CFG n p) Fld.PORT_CFG_HP)).filterMap (fun p =>
    let x := 4 * n + p
    if isExported s.act x then some (63, x)
    else (entryIndex s (portPart s.act n p) (.port x)).map (fun i => (portPart s.act n p, 2 + i)))

/-- Sets bits of the Slot Status of the functions of slot `n` (log entry 8). -/
def slotStatus (n set : Nat) (s : State) : State :=
  (slotFns s n).foldl (fun s f =>
    s.setCfg f.1 f.2 .slotCtl (s.cfgR f.1 f.2 .slotCtl ||| BitVec.ofNat 32 (set * 2 ^ 16))) s

/-- PCIE_HOTPLUG of station `n` (R214, R515). -/
def hotplug (n : Nat) (s : State) : State :=
  if stnKind s.act n = .pcie then s.raiseStn n 14 ((slotPorts s n).headD 0) else s

/-- Raises an SPC event, with PCIE_HOTPLUG on a PCI Express station and Power Fault Detected when `fault` (R515). -/
def spcEvent (n g : Nat) (fault : Bool) (s : State) : State :=
  let s := s.raise (gEvt g) (slotOwner s n)
  if fault then hotplug n (slotStatus n 2 s) else s

/-- Pulses SPC_CUE.LINE when bit `b` of SPC_CUE names the moment (R512). -/
def spcCue (n b : Nat) (s : State) : State :=
  let w := (s.act (Reg.SPC_CUE n)).toNat
  if bit w b then cuePulse none (bits w 0 8) s else s

/-! ## Capture windows (R511) -/

/-- A capture window. -/
def winOf (s : State) (n k : Nat) : Window := Tab.get {} (s.spc n).caps k

/-- Changes a capture window. -/
def onWin (n k : Nat) (f : Window → Window) (s : State) : State :=
  s.onSpc n (fun x => { x with caps := Tab.set {} x.caps k (f (Tab.get {} x.caps k)) })

/-- A window opens, or restarts: its record is cleared. -/
def openWin (n k : Nat) (s : State) : State :=
  let s := s.setLivN (Reg.SPC_CAP n k 0) 0xFFFF
  let s := ((s.setLivN (Reg.SPC_CAP n k 1) 0).setLivN (Reg.SPC_CAP n k 2) 0).setLivN (Reg.SPC_CAP n k 3) 0
  onWin n k (fun _ => { isOpen := true, start := s.now }) s

/-- DUR of an open window follows the time. -/
def winDur (n k : Nat) (s : State) : State :=
  let w := winOf s n k
  if w.isOpen then
    let (d, s) := s.fit 16 ((s.now - w.start) / 1000000)
    s.setLivF (Reg.SPC_CAP n k 1) ⟨16, 16⟩ d
  else s

/-- A window closes. -/
def closeWin (n k : Nat) (s : State) : State := onWin n k (fun w => { w with isOpen := false }) (winDur n k s)

/-- START and RECOVERY close. -/
def closeRuns (n : Nat) (s : State) : State := closeWin n 2 (closeWin n 0 s)

/-- An open window takes in one step: VOUT in mV, I in mA, power in µW, and whether power-good is asserted. -/
def winStep (n v i uw : Nat) (pg : Bool) (k : Nat) (s : State) : State :=
  if (winOf s n k).isOpen then
    let w0 := (s.liv (Reg.SPC_CAP n k 0)).toNat
    let vmin := if pg then min v (w0 % 2 ^ 16) else w0 % 2 ^ 16
    let s := s.setLivN (Reg.SPC_CAP n k 0) (vmin + max v (w0 / 2 ^ 16) * 2 ^ 16)
    let (pk, s) := s.fit 16 (max i (bits (s.liv (Reg.SPC_CAP n k 1)).toNat 0 16))
    let s := winDur n k (s.setLivF (Reg.SPC_CAP n k 1) ⟨0, 16⟩ pk)
    let s := s.setLivN (Reg.SPC_CAP n k 2) (max (uw / 1000) (s.liv (Reg.SPC_CAP n k 2)).toNat)
    let s := onWin n k (fun w => { w with energy := w.energy + uw / 1000 }) s
    let (mj, s) := s.fit 32 ((winOf s n k).energy / 1000000)
    s.setLivN (Reg.SPC_CAP n k 3) mj
  else s

/-! ## Gates, power-good, states -/

/-- Both gates are turned off: the curve counters are cleared. -/
def gatesOff (n : Nat) (s : State) : State :=
  s.onSpc n (fun x => { x with drive := none, full := false, ck := [], rev := 0, pgcnt := 0, sw := .none, fast := false })

/-- PERST_N of station `n` falls, where it is driven at all (R108, R109). -/
def perstFall (n : Nat) (s : State) : State :=
  s.onSpc n (fun x => { x with perst := if x.perst = .z then .z else .low })

/-- PERST_N of station `n` rises, where it is driven. -/
def perstRise (n : Nat) (s : State) : State :=
  s.onSpc n (fun x => { x with perst := if x.perst = .z then .z else .high })

/-- Power-good and PERST_N fall. -/
def pgDown (n : Nat) (s : State) : State :=
  setSpc n Fld.SPC_STAT_PG 0 ((perstFall n s).onSpc n (fun x => { x with pgcnt := 0 }))

/-- The feeds that FEEDPRI allows, in order: 0 A, 1 B (R498). -/
def feedOrder (s : State) (n : Nat) : List Nat :=
  match spcCfg s n Fld.SPC_CFG_FEEDPRI with
  | 0 => [0, 1] | 1 => [1, 0] | 2 => [0] | _ => [1]

/-- Is feed `x` valid? -/
def feedValid (s : State) (n x : Nat) : Bool :=
  spcStat s n (if x = 0 then Fld.SPC_STAT_AVALID else Fld.SPC_STAT_BVALID) == 1

/-- The chosen feed: the first valid feed in order. -/
def chosenFeed (s : State) (n : Nat) : Option Nat := (feedOrder s n).find? (fun x => feedValid s n x)

/-- The gate drive of feed `x` starts (R495, R499); none once THERMTRIP_N is low (R117). -/
def driveGate (n x : Nat) (s : State) : State :=
  setSpc n Fld.SPC_STAT_FEED x (s.onSpc n (fun y => { y with drive := if s.rst.thermtrip then none else some s.now, full := false, ck := [], rev := 0, pgcnt := 0 }))

/-- The ramp starts on feed `x`, and with it an attempt (R506). -/
def startRamp (n x : Nat) (s : State) : State :=
  toState n 2 ((driveGate n x s).onSpc n (fun y => { y with tryAt := s.now }))

/-- FREC takes a fault with its cause and point (R505, R508). A negative current has no field: its value is free. -/
def faultRecord (n cause point : Nat) (s : State) : State :=
  let x := s.spc n
  let (i, s) := s.fit 16 (if x.cur < 0 then 2 ^ 16 else x.cur.toNat)
  let s := s.setLivN (Reg.SPC_FREC n 0) (cause + point * 16 + spcStat s n Fld.SPC_STAT_RETRIES * 2 ^ 7)
  (s.setLivN (Reg.SPC_FREC n 1) (i + x.vout % 2 ^ 16 * 2 ^ 16)).setLiv64 (Reg.SPC_FREC n 2) s.ft

/-- Sets bit `n` of a GLB word of flags. -/
def flagStn (a n : Nat) (s : State) : State := s.setLiv a (s.liv a ||| BitVec.ofNat 32 (2 ^ n))

/-- A DEVICE entry about SPC `n` with word 0 of SPC_FREC (R512). -/
def spcLog (n g : Nat) (s : State) : State := s.logDevice (gEvt g) n (s.liv (Reg.SPC_FREC n 0)).toNat

/-- Entry into OFF: the claim is freed (R494), TEST closes (R511), OFFCUE. -/
def enterOff (n : Nat) (s : State) : State :=
  let s := setSpc n Fld.SPC_STAT_LOADW 0 (toState n 0 s)
  let s := s.onSpc n (fun x => { x with disAt := none, retryAt := none })
  spcCue n 10 (closeWin n 1 s)

/-- Entry into LOCKOUT (R507). -/
def enterLockout (n : Nat) (s : State) : State :=
  let s := setSpc n Fld.SPC_STAT_LOADW 0 (toState n 7 s)
  spcCue n 10 (spcLog n 25 (spcEvent n 25 true s))

/-- A trip (R505 to R507): causes 1 CURVE, 2 FAST, 3 RAMP, 4 REVERSE, 7 THERM. An attempt runs from its ramp, through
switchovers (log entry 80). -/
def trip (n cause point : Nat) (s : State) : State :=
  let on := s.now - (s.spc n).tryAt
  let s := pgDown n (gatesOff n (faultRecord n cause point s))
  let s := closeRuns n (setSpc n Fld.SPC_STAT_TRIPPED 1 (s.bump (Reg.SPC_TRIPCNT n)))
  let s := flagStn Reg.GLB_SPC_TRIP n s
  let s := spcCue n 9 (spcLog n 23 (spcEvent n 23 true s))
  if cause ≤ 3 ∧ spcStat s n Fld.SPC_STAT_RETRIES < spcCfg s n Fld.SPC_CFG_RETRYMAX then
    toState n 5 (s.onSpc n (fun x => { x with retryAt := some (s.now + max (retryWait s n) (99 * on)) }))
  else enterLockout n s

/-- Entry into FEEDLOSS (R501). -/
def enterFeedLoss (n : Nat) (s : State) : State :=
  let s := faultRecord n 5 0 s
  let s := openWin n 2 (toState n 6 (pgDown n (gatesOff n s)))
  spcLog n 24 (spcEvent n 24 true (flagStn Reg.GLB_SPC_FEED n s))

/-- A switchover to feed `x` begins (R499, R511). -/
def enterSwitch (n x : Nat) (s : State) : State :=
  let s := s.onSpc n (fun y => { y with drive := none, full := false, ck := [], pgcnt := 0, sw := .pulling x })
  openWin n 2 (toState n 4 s)

/-- An SPC comes to its ramp again: without a valid feed it enters FEEDLOSS. -/
def rampAgain (n : Nat) (s : State) : State :=
  match chosenFeed s n with
  | some x => startRamp n x s
  | none => enterFeedLoss n s

/-- T_w has passed (R506): one retry more, and RECOVERY opens. -/
def retryNow (n : Nat) (s : State) : State :=
  let s := setSpc n Fld.SPC_STAT_RETRIES (spcStat s n Fld.SPC_STAT_RETRIES + 1) s
  rampAgain n (openWin n 2 (s.onSpc n (fun x => { x with retryAt := none })))

/-- The gate is fully on (R495, R499): ON, which completes a ramp or a switchover. -/
def gateFull (n : Nat) (s : State) : State :=
  let was := spcState s n
  let s := toState n 3 (s.onSpc n (fun x => { x with full := true, sw := .none }))
  if was = 4 then
    let pg := spcStat s n Fld.SPC_STAT_PG == 1
    let s := flagStn Reg.GLB_SPC_FEED n s
    let s := spcEvent n 24 (!pg) s
    spcCue n 11 (s.logDevice (gEvt 24) n (spcStat s n Fld.SPC_STAT_FEED))
  else s

/-- Power-good rises (R496). -/
def pgUp (n : Nat) (s : State) : State :=
  spcCue n 8 (setSpc n Fld.SPC_STAT_PG 1 (s.onSpc n (fun x => { x with pgAt := s.now })))

/-- Does a reset of its partition hold PERST_N of slot `n` low (R203)? -/
def perstHeld (s : State) (n : Nat) : Bool :=
  (slotPorts s n).isEmpty || s.rst.warm != .idle ||
  (slotPorts s n).any (fun p =>
    if isExported s.act (4 * homeStn s.act n + p) then s.parts.portRst.contains (4 * homeStn s.act n + p)
    else s.parts.inReset.contains (portPart s.act (homeStn s.act n) p))

/-- A card is present or absent (R508); a removal turns the slot off from any state but OFF, and its Power Controller
Control reads 1 (R202). -/
def presence (n : Nat) (here : Bool) (s : State) : State :=
  let s := setSpc n Fld.SPC_STAT_PRSNT (b2n here) (s.onSpc n (fun x => { x with prs := 0 }))
  let s := hotplug n (slotStatus n 0x08 s)
  let s := if here then s else (slotFns s n).foldl (fun s f => cfgBit f.1 f.2 10 .slotCtl s) s
  if !here ∧ spcCfg s n Fld.SPC_CFG_PRSEN = 1 ∧ spcState s n ≠ 0 then
    let s := setSpc n Fld.SPC_STAT_RETRIES 0 (pgDown n (gatesOff n (faultRecord n 6 0 s)))
    let s := flagStn Reg.GLB_SPC_TRIP n (closeRuns n s)
    enterOff n (spcLog n 23 (spcEvent n 23 true s))
  else s

/-- A feed's record. -/
def feedOf (x : Spc) (k : Nat) : Feed := if k = 0 then x.a else x.b

/-- Changes a feed's record. -/
def onFeed (n k : Nat) (f : Feed → Feed) (s : State) : State :=
  s.onSpc n (fun x => if k = 0 then { x with a := f x.a } else { x with b := f x.b })

/-- Writes AVALID or BVALID. -/
def setValid (n k : Nat) (v : Bool) (s : State) : State :=
  let s := setSpc n (if k = 0 then Fld.SPC_STAT_AVALID else Fld.SPC_STAT_BVALID) (b2n v) s
  onFeed n k (fun f => if v then { f with validAt := s.now } else { f with since := none }) s

/-- What follows when feed `k` has become invalid (R499, R501). -/
def feedLost (n k : Nat) (s : State) : State :=
  let st := spcState s n
  match chosenFeed s n with
  | none => if 1 ≤ st ∧ st ≤ 4 ∧ (feedOrder s n).contains k then enterFeedLoss n s else s
  | some y => if st = 3 ∧ spcStat s n Fld.SPC_STAT_FEED = k then enterSwitch n y s else s

/-- What follows when a feed is valid (R495, R501): a waiting ramp starts. -/
def feedFound (n : Nat) (s : State) : State :=
  match chosenFeed s n with
  | none => s
  | some x =>
    let st := spcState s n
    if st = 1 then startRamp n x s
    else if st = 6 then startRamp n x (openWin n 2 s)
    else s

/-- The wait of a DISABLE from ON ends (R497). -/
def disableEnd (n : Nat) (s : State) : State := enterOff n (closeRuns n (pgDown n (gatesOff n s)))

/-! ## The evaluation step (R492) -/

/-- Takes the inputs of a sample: VOUT in mV and I in mA, rounded toward zero (R490, R491). -/
def takeSpcSample (n : Nat) (m : SpcSample) (s : State) : State :=
  s.onSpc n (fun x => { x with
    at_ := s.now
    vout := m.vout.val * 4
    cur := (m.shunt.toInt * 12500).tdiv (rshunt s n) })

/-- Item 1: presence. -/
def presenceStep (n : Nat) (m : SpcSample) (s : State) : State :=
  if !prsntInput s n then s
  else if m.prsnt = (spcStat s n Fld.SPC_STAT_PRSNT == 1) then s.onSpc n (fun x => { x with prs := 0 })
  else
    let s := s.onSpc n (fun x => { x with prs := x.prs + 1 })
    if 100 ≤ (s.spc n).prs then presence n m.prsnt s else s

/-- Item 2 for feed `k` with VIN code `c`: whether it becomes invalid in this step, two steps out of range behind it,
and the state after it. -/
def feedStep (n k c : Nat) (s : State) : Bool × State :=
  let gone := feedValid s n k && decide (2 ≤ (feedOf (s.spc n) k).out)
  let s := if gone then setValid n k false s else s
  if inRange s n c then
    let s := onFeed n k (fun f => { f with since := if f.since.isSome then f.since else some s.now, out := 0 }) s
    let since := (feedOf (s.spc n) k).since.getD s.now
    (gone, if !feedValid s n k && decide (since + qualNs s n ≤ s.now) then setValid n k true s else s)
  else (gone, onFeed n k (fun f => { f with since := none, out := f.out + 1 }) s)

/-- The curve counters move (R503). -/
def curveStep (n : Nat) (s : State) : State :=
  (List.range 8).foldl (fun s k =>
    if ptActs s n k then
      s.onSpc n (fun x =>
        let c := Tab.get 0 x.ck k
        { x with ck := Tab.set 0 x.ck k (if (ithr s n k : Int) ≤ x.cur then c + 1 else c - 1) })
    else s) s

/-- Is a gate driven: RAMP, ON or SWITCH? -/
def spcLive (s : State) (n : Nat) : Bool := 2 ≤ spcState s n && spcState s n ≤ 4

/-- Has the ramp timed out (R495)? -/
def rampLate (s : State) (n : Nat) : Bool :=
  match (s.spc n).drive with
  | some t => !(s.spc n).full && decide (t + rampMax s n ≤ s.now)
  | none => false

/-- Item 3: protection. -/
def protectStep (n : Nat) (s : State) : State :=
  if !spcLive s n then s
  else
    let s := curveStep n s
    let rct := bits (s.act (Reg.SPC_VCFG n)).toNat 24 8
    let s := s.onSpc n (fun x => { x with rev := if x.cur < -((rct * 100 : Nat) : Int) then x.rev + 1 else 0 })
    let x := s.spc n
    if x.fast then trip n 2 0 s
    else match firstBelow 8 (fun k => ptActs s n k && decide (tlim s n k ≤ Tab.get 0 x.ck k)) with
      | some k => trip n 1 k s
      | none =>
        if 2 ≤ x.rev then trip n 4 0 s
        else if rampLate s n then trip n 3 0 s
        else s

/-- Is the gate of the feed in use fully on, by a sample (R495)? -/
def fullBy (s : State) (n : Nat) (m : SpcSample) : Bool :=
  let b := spcStat s n Fld.SPC_STAT_FEED == 1
  let gs := if b then m.gsB.val else m.gsA.val
  let vin := if b then m.vinB.val else m.vinA.val
  decide (9000 ≤ gs * 60) && decide (vin ≤ m.vout.val + bits (s.act (Reg.SPC_VCFG n)).toNat 0 12)

/-- The feed to which AUTORET moves the slot (R502). -/
def autoFeed (s : State) (n : Nat) : Option Nat :=
  match feedOrder s n with
  | x :: _ =>
    if spcState s n = 3 ∧ spcCfg s n Fld.SPC_CFG_AUTORET = 1 ∧ spcStat s n Fld.SPC_STAT_FEED ≠ x ∧ feedValid s n x
    then some x else none
  | [] => none

/-- The switchover goes on (R499). -/
def switchStep (n : Nat) (m : SpcSample) (s : State) : State :=
  match (s.spc n).sw with
  | .pulling x =>
    let gs := if spcStat s n Fld.SPC_STAT_FEED = 1 then m.gsB.val else m.gsA.val
    if gs * 60 < 1000 then s.onSpc n (fun y => { y with sw := .dead x (s.now + 2000) }) else s
  | .dead x t => if t ≤ s.now then driveGate n x (s.onSpc n (fun y => { y with sw := .driving })) else s
  | .driving => if fullBy s n m then gateFull n s else s
  | .none => s

/-- Item 5: gate control. -/
def gateStep (n : Nat) (m : SpcSample) (s : State) : State :=
  match spcState s n with
  | 1 => feedFound n s
  | 6 => feedFound n s
  | 2 => if fullBy s n m then gateFull n s else s
  | 3 => match autoFeed s n with
    | some x => if (feedOf (s.spc n) x).validAt + 1000000000 ≤ s.now then enterSwitch n x s else s
    | none => s
  | 4 => switchStep n m s
  | 5 => match (s.spc n).retryAt with
    | some t => if t ≤ s.now then retryNow n s else s
    | none => s
  | _ => s

/-- The end of a DISABLE's wait is due. -/
def disableStep (n : Nat) (s : State) : State :=
  match (s.spc n).disAt with
  | some t => if t ≤ s.now then disableEnd n s else s
  | none => s

/-- Are the curve counters that act zero? -/
def curveIdle (s : State) (n : Nat) : Bool := (List.range 8).all (fun k => !ptActs s n k || Tab.get 0 (s.spc n).ck k == 0)

/-- Item 6: power-good and PERST_N, with what runs from the rise of power-good (R496, R497, R500, R507, R511). -/
def pgStep (n : Nat) (s : State) : State :=
  let vmin := bits (s.act (Reg.SPC_VCFG n)).toNat 12 12 * 4
  let s := s.onSpc n (fun x => { x with low := if x.vout < vmin then x.low + 1 else 0 })
  let pg := spcStat s n Fld.SPC_STAT_PG == 1
  if pg then
    if 2 ≤ (s.spc n).low then pgDown n s
    else
      let t := (s.spc n).pgAt
      let s := if t + perstDly s n ≤ s.now ∧ !perstHeld s n ∧ (s.spc n).disAt.isNone then perstRise n s else s
      let s := if t + 250000000 ≤ s.now then closeRuns n s else s
      if t + 10000000000 ≤ s.now then setSpc n Fld.SPC_STAT_RETRIES 0 s else s
  else
    let run := spcState s n == 3 && (s.spc n).full && curveIdle s n && decide ((s.spc n).low < 2) && (s.spc n).disAt.isNone
    let s := s.onSpc n (fun x => { x with pgcnt := if run then x.pgcnt + 1 else 0 })
    if run ∧ pgDly s n ≤ (s.spc n).pgcnt then pgUp n s else s

/-- The means over 1,000 steps are written (R510). -/
def meterUpdate (n : Nat) (s : State) : State :=
  let k := (s.spc n).sums
  if k.n < 1000 then s
  else
    let s := s.onSpc n (fun x => { x with sums := {} })
    let (i, s) := s.fit 16 (k.i / k.n)
    let s := s.setLivN (Reg.SPC_V n) (k.vout / k.n + k.vin / k.n * 2 ^ 16)
    let s := s.setLivN (Reg.SPC_VIN n) (k.vinA / k.n + k.vinB / k.n * 2 ^ 16)
    (s.setLivN (Reg.SPC_I n) i).setLivN (Reg.SPC_P n) (k.p / k.n)

/-- A step's meters: energy, sums, capture windows (R510, R511). -/
def meterStep (n : Nat) (m : SpcSample) (s : State) : State :=
  let s := meterUpdate n s
  let x := s.spc n
  let i := x.cur.toNat
  let uw := x.vout * i
  let b := spcStat s n Fld.SPC_STAT_FEED == 1
  let nj := x.nj + uw / 1000
  let s := (s.bump64 (Reg.SPC_E_LO n) (nj / 1000)).onSpc n (fun x => { x with
    nj := nj % 1000
    sums := {
      n := x.sums.n + 1
      vout := x.sums.vout + x.vout
      vin := x.sums.vin + 4 * (if b then m.vinB.val else m.vinA.val)
      vinA := x.sums.vinA + 4 * m.vinA.val
      vinB := x.sums.vinB + 4 * m.vinB.val
      i := x.sums.i + i
      p := x.sums.p + uw / 1000 } })
  forUpto 3 (fun k s => winStep n x.vout i uw (spcStat s n Fld.SPC_STAT_PG == 1) k s) s

/-- One evaluation step with its sample. -/
def spcStep (n : Nat) (m : SpcSample) (s : State) : State :=
  let s := presenceStep n m (takeSpcSample n m s)
  let (la, s) := feedStep n 0 m.vinA s
  let (lb, s) := feedStep n 1 m.vinB s
  let s := protectStep n s
  let s := if la then feedLost n 0 s else s
  let s := if lb then feedLost n 1 s else s
  let s := gateStep n m s
  meterStep n m (pgStep n (disableStep n s))

end Sys2Proof.Machine
end

