-- ==== Sys2Proof/Machine/ResetOps.lean ====
section
/-! DEFINITION. What the resets do (R126 to R134, R617), and the failure of the boot (R140). -/

namespace Sys2Proof.Machine

/-! ## Cold reset -/

/-- The state that a cold reset leaves (R130): everything at reset but the OTP and the passing of time; `cause` is the
bit of GLB_RSTCAUSE. Commands that wait and what has been sent out are not the device's state. -/
def coldState (cause : Nat) (rst : Resets) (s : State) : State :=
  let s := otpCut s
  { State.reset with
    pending := s.pending
    now := s.now
    fresh := s.fresh
    out := s.out
    regs := { live := [(Reg.GLB_RSTCAUSE, BitVec.ofNat 32 (2 ^ cause))] }
    slate := { chain := chainHash (s.sec.idpub.flatMap (fun w => toBytes 4 w.toNat)) }
    scrub := { cfg := s.now, key := s.now, pass := s.now }
    sec := { s.sec with cmd := none, waits := [] }
    rst := rst
    boot := { step := 0 } }

/-- The boot begins once neither COLD_RST_N nor a rail holds the device (R127, R128, R135): the straps are sampled (R114),
and the timebase counts from here (R517). -/
def coldStart (x : Straps) (s : State) : State :=
  if s.rst.cold || s.rst.rail then s
  else
    let s := s.setLivN Reg.GLB_STRAP (b2n x.spiq + 2 * x.i3ca.val + 16 * b2n x.test)
    let s := s.onFcst (fun f => { f with base := s.now, evalAt := s.now, sampled := s.now })
    { s with boot := { step := 1 } }

/-! ## Warm reset -/

/-- The words of station registers that a warm and a station reset keep: SPC registers and LN_REC (R130, R617). -/
def keptInStn (a : Nat) : Bool :=
  let off := a % 0x10000
  decide (0x2800 ≤ off) && decide (off < 0x2940) ||
  decide (0x2008 ≤ off) && decide (off < 0x2008 + 9 * 0x20) && off % 0x20 == 8

/-- Is `a` a word of a station? -/
def isStnWord (a : Nat) : Bool := decide (0x100000 ≤ a) && decide (a < 0x280000)

/-- The live words that a warm reset keeps (R130). -/
def warmKeeps (a : Nat) : Bool :=
  [Reg.GLB_STRAP, Reg.GLB_RSTCAUSE, Reg.GLB_SLATE_HEAD, Reg.GLB_SLATE_RD, Reg.GLB_SLATE_CKPT, Reg.GLB_SLATE_LOST,
    Reg.GLB_SLATE_STAT, Reg.GLB_SPC_TRIP, Reg.GLB_SPC_FEED].contains a ||
  (isStnWord a && keptInStn a)

/-- The state that step 5 of R131 leaves. -/
def warmState (s : State) : State :=
  let keep (t : Tab Word) : Tab Word := Tab.keep (fun a => isStnWord a && keptInStn a) t
  otpReport { State.reset with
    pending := s.pending
    now := s.now
    fresh := s.fresh
    out := s.out
    regs := { active := keep s.regs.active, shadow := keep s.regs.shadow, live := Tab.keep warmKeeps s.regs.live }
    slate := s.slate
    scrub := { cfg := s.now, key := s.now, pass := s.now }
    sec := { s.sec with waits := [] }
    pow := { spc := s.pow.spc, avs := s.pow.avs }
    dp := { recs := s.dp.recs }
    rst := { s.rst with station := none, holdAt := none }
    boot := { step := 0, readable := s.boot.readable, retry := s.boot.retry } }

/-- Every link ends (step 1 of R131): fabric ports go to DOWN, PCI Express ports to Detect, lanes off. -/
def endLinks (s : State) : State :=
  State.onDp (f := fun d => { d with bring := [] }) <| (List.range 24).foldl (fun s n =>
    let s := (List.range 9).foldl (fun s l => s.setLivF (Reg.LN_STAT n l) Fld.LN_STAT_STATE 0) s
    let s := (List.range 2).foldl (fun s f => s.setLivF (Reg.FL_STAT n f) Fld.FL_STAT_STATE 0) s
    (List.range 4).foldl (fun s p => s.setLiv (Reg.PORT_STAT n p) 0) s) s

/-- PERST_N of every downstream station is low. -/
def perstLow (s : State) : State := (List.range 24).foldl (fun s n => perstFall n s) s

/-- The executing take ends without an answer, a long operation is abandoned (step 2 of R131). -/
def dropTake (s : State) : State := { s with dir := { s.dir with take := none, longop := none } }

/-- A pending CUTAT is cancelled with FAILED (step 3 of R131). -/
def cancelCut (s : State) : State :=
  match s.dir.cutAt with
  | none => s
  | some _ =>
    let s := { s with dir := { s.dir with cutAt := none } }
    s.log { kind := 6, failed := true, new := s.liv64 Reg.GLB_CUTTIME_LO }

/-- A CHECKPOINT covers what none covers yet (step 4 of R131). -/
def coverAll (s : State) : State := if s.slate.uncovered.isSome then checkpoint s else s

/-- A warm reset starts (R131): steps 1 to 4, up to the wait for signatures and for an OTP command. -/
def warmBegin (s : State) : State :=
  let s := dropTake (perstLow (endLinks s))
  let s := { s with boot := { s.boot with step := 0 }, rst := { s.rst with warm := .draining } }
  coverAll (cancelCut s)

/-- The boot restarts at step 4 (step 6 of R131), from copy B after a failure of copy A (R140); a device that sampled
STRAP_TEST high does not boot (R114, R115). DESIGN CHOICE (log entry 100): it does so too where WARM_RST_N fell before step 2
of the cold boot had ended, and direct reads then stay zero. -/
def warmBoot (s : State) : State :=
  let b := s.boot.retry.isSome
  let s := s.setLivF Reg.GLB_RSTCAUSE Fld.GLB_RSTCAUSE_FALLBACK (b2n b)
  let s := s.onFcst (fun f => { f with base := s.now, evalAt := s.now, sampled := s.now })
  let step := if s.livB Reg.GLB_STRAP Fld.GLB_STRAP_TEST then 10 else 4
  { s with boot := { step := step, readable := s.boot.readable, copyB := b }, rst := { s.rst with warm := .idle } }

/-! ## Failure of the boot (R140) -/

/-- CODEA or CODEB takes a failure code. -/
def bootCode (code : Nat) (s : State) : State :=
  s.setLivF Reg.GLB_BOOTSTAT (if s.boot.copyB then Fld.GLB_BOOTSTAT_CODEB else Fld.GLB_BOOTSTAT_CODEA) code

/-- The boot has failed: M5, every lane off, every GATE pin off. -/
def bootFail (code : Nat) (s : State) : State :=
  let s := bootCode code s
  let w := s.liv Reg.GLB_BOOTSTAT
  let s := warmState (coverAll (cancelCut (dropTake s)))
  let s := s.setLivF Reg.SEC_OTP_STAT Fld.SEC_OTP_STAT_BUSY (b2n s.sec.cmd.isSome)
  let s := s.setLiv Reg.GLB_BOOTSTAT (fset w Fld.GLB_BOOTSTAT_STATE 2)
  let s := (List.range 24).foldl (fun s n => if spcState s n = 0 then s else disableEnd n s) s
  { s with boot := { step := 10, readable := s.boot.readable, copyB := s.boot.copyB } }

/-- A failure at step 5, 7 or 8: copy A leads to a reset as for a warm reset and to copy B. -/
def bootRetry (code : Nat) (s : State) : State :=
  if s.boot.copyB then bootFail code s
  else
    let s := bootCode code s
    warmBegin { s with boot := { s.boot with retry := some code } }

/-! ## Pins that follow the state -/

/-- FAULT_N is low (R563): an event whose present class is FATAL is pending, or the boot has failed. -/
def State.faultLow (s : State) : Bool :=
  s.bootFailed ||
  (List.range 512).any (fun g => bit (s.liv (Reg.GLB_EVT_PEND (g / 32))).toNat (g % 32) && s.classOf g == 4)

/-- SMB_ALERT_N is low (R112): MBOX[49] holds a packet for the I3C or SMBus host. -/
def State.smbAlert (s : State) : Bool := decide (1 ≤ pktCount (s.mb 49).outq)

/-- SMB_ALERT_N's condition raises an in-band interrupt in I3C mode (R112). -/
def State.inBandIrq (s : State) : Bool := s.rst.i3c && s.smbAlert

/-- The 7-bit address that the target interface answers (R112). -/
def State.targetAddr (s : State) : Nat :=
  s.rst.i3cDyn.getD (0x58 + s.livF Reg.GLB_STRAP Fld.GLB_STRAP_I3CA)

/-- PERST_N of station `n`: high impedance, driven low, or driven high (R108, R109, R127, R497). -/
def State.perstPin (s : State) (n : Nat) : Perst := (s.spc n).perst

/-- PG of station `n` is high (R108, R117, R127): only the pin of a station that drives PERST_N rises, with power-good. -/
def State.pgHigh (s : State) (n : Nat) : Bool :=
  s.perstPin n != .z && spcStat s n Fld.SPC_STAT_PG == 1 && !s.rst.thermtrip

/-- The SPI pins are driven (R111): they are in high impedance while COLD_RST_N is low, or behaves so (R128). -/
def State.spiDriven (s : State) : Bool := !(s.rst.cold || s.rst.rail)

end Sys2Proof.Machine
end

