-- ==== Sys2Proof/Machine/Boot.lean ====
section
/-! DEFINITION. The boot sequence, the reel and the environment declaration (R135 to R142). -/

namespace Sys2Proof.Machine

/-! ## The reel (R137, R138) -/

/-- The read command that the boot ROM uses (R111): 4-byte-address Fast Read, or Quad Output Fast Read with STRAP_SPIQ. -/
def flashRead (s : State) : Nat := if s.livB Reg.GLB_STRAP Fld.GLB_STRAP_SPIQ then 0x6C else 0x0C

/-- Where a copy lies in the flash (R137). Copy B ends at most 256 MiB from its start (R111). -/
def reelAddr (copyB : Bool) : Nat := if copyB then 0x8000000 else 0

/-- `n` bytes from offset `o` of a copy as the flash holds it. -/
def reelBytes (r : List Byte) (o n : Nat) : List Byte := (r.drop o).take n

/-- A little-endian field of the header. -/
def reelF (r : List Byte) (o n : Nat) : Nat := ofBytes (reelBytes r o n)

/-- KEYSLOT. -/
def reelKeyslot (r : List Byte) : Nat := reelF r 0x06 2
/-- ROLLBACK. -/
def reelRollback (r : List Byte) : Nat := reelF r 0x08 4
/-- PART. -/
def reelPart (r : List Byte) : Nat := reelF r 0x0C 4
/-- BODYLEN. -/
def reelBodylen (r : List Byte) : Nat := reelF r 0x10 4
/-- ENVOFF. -/
def reelEnvoff (r : List Byte) : Nat := reelF r 0x14 4
/-- TAKEOFF. -/
def reelTakeoff (r : List Byte) : Nat := reelF r 0x1C 4
/-- TAKECNT. -/
def reelTakecnt (r : List Byte) : Nat := reelF r 0x20 4
/-- PUBKEY. -/
def reelPubkey (r : List Byte) : List Byte := reelBytes r 0x40 1952
/-- SIG. -/
def reelSig (r : List Byte) : List Byte := reelBytes r 0x7E0 3309
/-- The body. -/
def reelBody (r : List Byte) : List Byte := reelBytes r 0x2000 (reelBodylen r)

/-- The reel digest D, byte 0 in bits [7:0] (R138). -/
def reelDigest (r : List Byte) : BitVec 512 := Config.shake256 (reelBytes r 0 0x7E0 ++ reelBody r)

/-- The first 32 B of SHAKE256 of PUBKEY, as the OTP holds a key hash (R138). -/
def reelKeyHash (r : List Byte) : Nat := ((Config.shake256 (reelPubkey r)).extractLsb' 0 256).toNat

/-- Are the header's constants, zero fields and lengths as R137 gives them, for this part and stepping? -/
def headerOk (s : State) (r : List Byte) : Bool :=
  let id := s.rd Reg.GLB_ID
  let part := reelPart r
  let len := reelBodylen r
  let zero (o n : Nat) : Bool := (reelBytes r o n).all (fun b => b == 0)
  reelF r 0 4 == 0x464C524C && reelF r 4 2 == 1 && zero 0x24 28 && zero 0x14CD 2867 &&
  part % 2 ^ 16 == fget id Fld.GLB_ID_PART && decide (bits part 16 8 ≤ fget id Fld.GLB_ID_STEP) && bits part 24 8 == 0 &&
  len % 8 == 0 && decide (8 ≤ len) && decide (len ≤ 0x7FFE000) && decide (0x2000 + len ≤ r.length) &&
  reelEnvoff r % 8 == 0 && reelF r 0x18 4 == 400 && decide (reelEnvoff r + 400 ≤ len) &&
  reelTakeoff r % 8 == 0 && decide (1 ≤ reelTakecnt r) && decide (reelTakecnt r ≤ 65535)

/-- The boot takes, back to back from TAKEOFF (R139): none when they do not lie within the body. -/
def cutTakes : Nat → List DWord → Option (List (List DWord))
  | 0, _ => some []
  | _ + 1, [] => none
  | k + 1, h :: l =>
    let n := ceilDiv (bits h.toNat 32 13) 2
    if l.length < n then none else (cutTakes k (l.drop n)).map (fun r => (h :: l.take n) :: r)

/-- Eight bytes at a time as words, least significant byte first. -/
def leWords : Nat → List Byte → List DWord
  | 0, _ => []
  | k + 1, l => BitVec.ofNat 64 (ofBytes (l.take 8)) :: leWords k (l.drop 8)

/-- The boot takes of a reel. -/
def reelTakes (r : List Byte) : Option (List (List DWord)) :=
  let b := (reelBody r).drop (reelTakeoff r)
  cutTakes (reelTakecnt r) (leWords (b.length / 8) b)

/-- What the checks of R138 say of what the flash holds: the first failure's code, or the reel. -/
def checkReel (s : State) (img : Option (List Byte)) : Nat × Option Reel :=
  match img with
  | none => (9, none)
  | some r =>
    if !headerOk s r then (1, none)
    else match reelTakes r with
      | none => (1, none)
      | some ts =>
        let k := keySlot s (reelKeyslot r)
        let d := reelDigest r
        if 3 < reelKeyslot r ∨ k.hash = 0 ∨ k.hash ≠ reelKeyHash r then (2, none)
        else if k.dead then (3, none)
        else if reelRollback r < s.sec.min then (4, none)
        else if !Config.verify (reelPubkey r) (toBytes 64 d.toNat) (reelSig r) then (5, none)
        else (0, some { keyslot := reelKeyslot r, rollback := reelRollback r, digest := d.toNat,
                        env := ((reelBody r).drop (reelEnvoff r)).take 400, takes := ts })

/-- The flash commands of step 5 (R111): Read SFDP; where that is answered, the header; where that is good, the body. -/
def readReel (img : Option (List Byte)) (s : State) : State :=
  let a := reelAddr s.boot.copyB
  let op := flashRead s
  let t := s.emit .flashSfdp
  match img with
  | none => t
  | some r =>
    let t := t.emit (.flash op a 0x2000)
    if headerOk s r then t.emit (.flash op (a + 0x2000) (reelBodylen r)) else t

/-- SEC shows the reel in use (R556). -/
def reelReport (r : Reel) (s : State) : State :=
  let s := s.setLivN Reg.SEC_BOOT (r.keyslot % 4 + Config.romVersion % 2 ^ 16 * 2 ^ 16)
  let s := s.setLivN Reg.SEC_ROLLBACK r.rollback
  forUpto 16 (fun i s => s.setLivN (Reg.SEC_REELDIG i) (r.digest / 2 ^ (32 * i))) s

/-! ## The environment declaration (R141) -/

/-- A little-endian field of the declaration. -/
def envF (b : List Byte) (off n : Nat) : Nat := ofBytes ((b.drop off).take n)

/-- The record of station `n`. -/
def envRec (b : List Byte) (n : Nat) : StnRec :=
  let o := 16 + 16 * n
  { kind := envF b o 1
    pnode := envF b (o + 2) 2
    pstn := envF b (o + 4) 1
    medium := envF b (o + 5) 1
    length := envF b (o + 6) 2
    loss := envF b (o + 8) 2
    slotw := envF b (o + 10) 2
    spareWired := bit (envF b (o + 12) 1) 0
    pair := bit (envF b (o + 12) 1) 1 }

/-- Is every field of the record of station `n` in its range (R141, R165)? -/
def recOk (b : List Byte) (node n : Nat) : Bool :=
  let o := 16 + 16 * n
  let r := envRec b n
  decide (r.kind ≤ 4) && envF b (o + 1) 1 == 0 && decide (r.pnode < 2 ^ 12) && (r.kind == 4 || r.pnode == 0) &&
  (r.kind != 4 || (decide (r.pstn < 24) && decide (r.loss ≤ 340))) && decide (r.medium ≤ 3) && decide (envF b (o + 12) 1 < 4) &&
  envF b (o + 13) 3 == 0 && !(r.kind == 4 && r.pnode == node)

/-- Do stations 2k and 2k + 1 agree on being a pair? -/
def pairOk (b : List Byte) (k : Nat) : Bool :=
  let x := envRec b (2 * k)
  let y := envRec b (2 * k + 1)
  x.pair == y.pair && (!x.pair || (x.kind == y.kind && decide (1 ≤ x.kind) && decide (x.kind ≤ 3)))

/-- The device power ceiling of a cooling class, in W. -/
def coolCeiling : Nat → Nat
  | 0 => 120 | 1 => 160 | _ => 205

/-- The declaration, where it passes. -/
def checkEnv (b : List Byte) : Option EnvDecl :=
  let node := envF b 4 2
  let cool := envF b 6 1
  let fit := envF b 10 1
  if envF b 0 2 = 0x454E ∧ envF b 2 2 = 1 ∧ node < 2 ^ 12 ∧ cool ≤ 2 ∧ envF b 7 1 = 24 ∧ fit < 4 ∧ envF b 11 5 = 0 ∧
      envF b 8 2 ≤ coolCeiling cool ∧ (List.range 24).all (recOk b node) ∧ (List.range 12).all (pairOk b) then
    some { node := node, cool := cool, devcap := envF b 8 2, refBFit := bit fit 0, frefFit := bit fit 1,
           stations := (List.range 24).map (envRec b) }
  else none

/-- The watch of REFCLK_B begins at step 7. With REFCLK_A lost before, REFCLK_B takes over now if it reads valid; otherwise
both are lost (R569, log entry 122). -/
def refJoin (s : State) : State :=
  if s.livB Reg.GLB_CLK_STAT Fld.GLB_CLK_STAT_AOK then s
  else if s.livB Reg.GLB_CLK_STAT Fld.GLB_CLK_STAT_USE then s
  else if s.livB Reg.GLB_CLK_STAT Fld.GLB_CLK_STAT_BOK then
    (s.setLivF Reg.GLB_CLK_STAT Fld.GLB_CLK_STAT_USE 1).logDevice (gEvt 31)
  else (s.setLivF Reg.GLB_ERR_STAT Fld.GLB_ERR_STAT_NOREF 1).devErr Fld.GLB_ERR_STAT_REFA

/-- GLB_CLK_STAT shows a reference that is not fitted (R568); without FREFCLK the fabric lanes run on the synthesised
frequency (R106). -/
def refsFitted (e : EnvDecl) (s : State) : State :=
  let a := Reg.GLB_CLK_STAT
  let s := if e.refBFit then s else (s.setLivF a Fld.GLB_CLK_STAT_BOK 0).setLivF a Fld.GLB_CLK_STAT_BNF 1
  let s := refJoin s
  if e.frefFit then s
  else ((s.setLivF a Fld.GLB_CLK_STAT_FOK 0).setLivF a Fld.GLB_CLK_STAT_FNF 1).setLivF a Fld.GLB_CLK_STAT_FSYN 1

/-! ## The steps (R135) -/

/-- The boot goes to a step. -/
def toStep (k : Nat) (s : State) : State := { s with boot := { s.boot with step := k } }

/-- Step 1 ends: with STRAP_TEST the device does not boot (R114). -/
def step1 (s : State) : State := toStep (if s.livB Reg.GLB_STRAP Fld.GLB_STRAP_TEST then 10 else 2) s

/-- Step 2 ends: the OTP has been read, and direct reads return values from now on (R136). -/
def step2 (s : State) : State :=
  let s := otpReport s
  { s with boot := { s.boot with step := 3, readable := true } }

/-- Step 4 ends: spare rows left and used (R567). -/
def step4 (ok : Bool) (left used : Nat) (s : State) : State :=
  let s := s.setLivN Reg.GLB_DRIFT_SPARE (left + used * 2 ^ 16)
  let s := s.setLivF Reg.GLB_ERR_STAT Fld.GLB_ERR_STAT_SPARELOW (b2n (decide (left < 64)))
  if ok then toStep 5 s else bootFail 0xB s

/-- Step 5 ends: the copy is accepted, or fails. -/
def step5 (img : Option (List Byte)) (s : State) : State :=
  let s := readReel img s
  match checkReel s img with
  | (_, some r) => reelReport r (toStep 6 { s with boot := { s.boot with reel := some r } })
  | (code, none) => bootRetry code s

/-- Step 6 ends: the BOOT entry (R138). -/
def step6 (s : State) : State :=
  let d := match s.boot.reel with
    | some r => r.digest
    | none => 0
  toStep 7 (s.log { kind := 7, old := d / 2 ^ 64 % 2 ^ 64, new := d % 2 ^ 64 })

/-- Step 7 ends: the declaration is in force, and the first boot take is placed in MBOX[51] (R139). -/
def step7 (s : State) : State :=
  match s.boot.reel with
  | none => bootRetry 6 s
  | some r =>
    match checkEnv r.env with
    | none => bootRetry 6 s
    | some e =>
      let s := refsFitted e { s with env := e }
      let s := s.setMb 51 { s.mb 51 with inq := asPacket (r.takes.headD []) }
      { s with boot := { s.boot with step := 8, left := r.takes.tail, index := 0, answer := none } }

/-- Step 8 ends with the answer of the last boot take that ran (R139), and step 9 follows: DEV_READY rises. -/
def step8 (s : State) : State :=
  match s.boot.answer with
  | none => s
  | some code =>
    if code ≠ 0 then bootRetry 7 (s.setLivF Reg.GLB_BOOTSTAT Fld.GLB_BOOTSTAT_TAKEIDX s.boot.index)
    else if s.dir.cutAt.isSome then bootRetry 8 s
    else toStep 9 (s.setLivF Reg.GLB_BOOTSTAT Fld.GLB_BOOTSTAT_STATE 1)

/-- BOOT_STEP_DONE (R135, R140): the step in progress ends. `ok` is the result of the self-tests of step 3 and of the Drift
store's training in step 4, `left` and `used` its spare rows, `img` the bytes from the copy's first one on that step 5 reads from the
flash (none: no valid SFDP answer). -/
def execBootStepDone (ok : Bool) (left used : Fin 65536) (img : Option (List Byte)) (s : State) :
    Host.Outcome State Fault Refusal :=
  .next (match s.boot.step with
    | 1 => step1 s
    | 2 => step2 s
    | 3 => if ok then toStep 4 s else bootFail 0xA s
    | 4 => step4 ok left.val used.val s
    | 5 => step5 img s
    | 6 => step6 s
    | 7 => step7 s
    | 8 => step8 s
    | _ => s)

end Sys2Proof.Machine
end

