-- ==== Sys2Proof/Machine/PortOps.lean ====
section
/-! DEFINITION. TLPs entering at PCI Express ports, the flow that a policer or a hold keeps back, and ports
that go down (R147, R187, R203 to R207, R317 to R324, R354, R373). -/

namespace Sys2Proof.Machine

/-! ## TLPs of a port -/

/-- Gives back the tag of a shared port's pool. -/
def tagFree (x g : Nat) (s : State) : State :=
  s.onEport x (fun e => { e with tags := e.tags.filter (fun m => m.1 != g) })

/-- The index of shared port `x` among the bridges of partition `q`. -/
def sharedIndex (s : State) (q x : Nat) : Nat :=
  ((bridges s.regs.active q).findIdx? (fun b => b == .shr x)).getD 0

/-- A completion for a request under tag `g` of shared port `x` goes back to its partition with the
original requester ID and tag (R323, R324). -/
def sharedCpl (x g : Nat) (t : Tlp) (s : State) : State :=
  match (s.eport x).tags.find? (fun m => m.1 == g) with
  | none => s
  | some (_, q, req, tag) =>
    let fn := ((bindings s.regs.active).find? (fun b => b.port == x && b.part == q && b.vfid == t.cid)).elim 0 (fun b => b.fn)
    let id := sharedId s q (sharedIndex s q x) fn
    let s := inPartition (x / 4) (.pcie x) q (.port x) 0 { t with req := req, tag := tag, cid := id } (tagFree x g s)
    tagGive x s

/-- A TLP from a device on shared port `x` (R324): of a bound function, into its partition as if at its shared
bridge; of any other, into the owner's. -/
def sharedIn (x : Nat) (t : Tlp) (s : State) : State :=
  let id := if t.isCpl then t.cid else t.req
  match (bindings s.regs.active).find? (fun b => b.port == x && b.vfid == id) with
  | some b =>
    if t.isCpl then sharedCpl x t.tag t s
    else inPartition (x / 4) (.pcie x) b.part (.port x) 0 { t with req := sharedId s b.part (sharedIndex s b.part x) b.fn } s
  | none => inPartition (x / 4) (.pcie x) s.fmPart (.port x) 0 t s

/-- Is `x` a shared port (R321)? -/
def isShared (s : State) (x : Nat) : Bool := (bindings s.regs.active).any (fun b => b.port == x)

/-- An Unlock message of upstream port `x` (R207, R347): it releases the egress ports that the port
has locked, goes out by them, and follows granted sequences through their imports. -/
def unlockIn (x : Nat) (t : Tlp) (s : State) : State :=
  let n := x / 4
  let q := portPart s.act n (x % 4)
  let s := (List.range 96).foldl (fun s y =>
    if (s.eport y).lock = .byPort x then sendLocal n (.pcie x) q y 0 t (setLock y .free s) else s) s
  s.dp.fab.locks.foldl (fun s l =>
    if l.part = q ∧ l.granted then lockSend x l t s else s) s

/-- A TLP that has been classified at port `x` goes on with its colour (R187, R207, R317, R336). -/
def admitTlp (x colour : Nat) (t : Tlp) (s : State) : State :=
  let n := x / 4
  let q := portPart s.act n (x % 4)
  if t.kind = .io ∨ (t.kind = .memRdLock ∧ !isUpstream s.act n (x % 4)) then refuse n q (.port x) 1 2 t s
  else if t.kind = .unlock ∧ isUpstream s.act n (x % 4) then unlockIn x t s
  else if isExported s.act x then markEntry (bridgeFn s x) s.dp.uid (sendExport n (.pcie x) x t s)
  else if isShared s x then sharedIn x t s
  else inPartition n (.pcie x) q (.port x) colour t s

/-- The TLPs kept back at port `x`. -/
def flowOf (s : State) (x : Nat) : List Tlp := Tab.get [] (s.ing (x / 4)).flow x

/-- Half-cells of the TLPs kept back at a port. -/
def flowHalves (l : List Tlp) : Nat := l.foldl (fun k t => k + halvesOf t.length) 0

/-- Writes the TLPs kept back at port `x`, which lie in its station's ingress cell buffer (R147). -/
def setFlow (x : Nat) (l : List Tlp) (s : State) : State :=
  let old := flowOf s x
  let s := s.onIng (x / 4) (fun i => { i with flow := Tab.set [] i.flow x l })
  ingUse (x / 4) false ((flowHalves l : Int) - (flowHalves old : Int)) s

/-- The units from number `id` on with origin `o`, the first of them first. -/
def newUnits (s : State) (id : Nat) (o : Origin) : List Nat :=
  (s.dp.units.filter (fun e => decide (id ≤ e.1) && decide (e.2.origin = o))).map (fun e => e.1)

/-- Units that only copy a broadcast hold no credit. -/
def markCopies (l : List Nat) (s : State) : State :=
  s.onDp (fun d => { d with units := Tab.mapVals (fun k u => if l.contains k then { u with copy := true } else u) d.units })

/-- A TLP that port `x` received goes on by `go`: the unit that it becomes holds its credits, which return at once where it
becomes none (R17). -/
def admitted (x : Nat) (t : Tlp) (go : State → State) (s : State) : State :=
  let id := s.dp.uid
  let s := go s
  match newUnits s id (.pcie x) with
  | [] => pcieBack x (fcType t) 1 (fcData t) s
  | [_] => s
  | _ :: l => markCopies l s

/-- Whether the TLP at the head of a port's flow has been counted in HELD (R373). -/
def heldMark (x : Nat) (b : Bool) (s : State) : State :=
  s.onIng (x / 4) (fun i => { i with heldOnce := Tab.set false i.heldOnce x b })

/-- Is the TLP at the head of a port's flow a red one? -/
def heldRed (s : State) (x : Nat) : Bool := Tab.get false (s.ing (x / 4)).heldOnce x

/-- The partition whose policer meters what enters at port `x` (R370). -/
def meteredAs (s : State) (x : Nat) : Option Nat :=
  if isUpstream s.act (x / 4) (x % 4) && !isExported s.act x then some (portPart s.act (x / 4) (x % 4)) else none

/-- Tries to let a TLP of port `x` through: a request waits under a hold (R147), and a red TLP waits, counted
once in HELD (R373). -/
def letIn (x : Nat) (t : Tlp) (s : State) : Bool × State :=
  if s.holdsAt (x / 4) && !t.isCpl then (false, s)
  else match meteredAs s x with
    | none => (true, admitted x t (admitTlp x 0 t) s)
    | some q =>
      let (c, s) := policeTlp q t s
      if c = .red then
        (false, if heldRed s x then s
          else
            let o : Occ := { master := some q, cls := some (t.tc % 8), addr := memAddr t }
            heldMark x true (perf (x / 4) 0x0C (some (x % 4)) 1 o (s.bump (Reg.GLB_PPOL q 7))))
      else (true, admitted x t (admitTlp x c.code t) (heldMark x false s))

/-- Lets through, in order, the TLPs kept back at port `x`, up to the first that still waits. -/
def runFlow (x : Nat) : List Tlp → State → State
  | [], s => setFlow x [] s
  | t :: l, s =>
    match letIn x t s with
    | (true, s) => runFlow x l s
    | (false, s) => setFlow x (t :: l) s

/-- TLPs kept under a hold are classified once it has cleared (R147). -/
def releaseFlows (s : State) : State :=
  (List.range 96).foldl (fun s x => if flowOf s x = [] then s else runFlow x (flowOf s x) s) s

/-- A TLP arrives at port `x` (R204, R317): poison is counted, and the TLP passes, or waits behind one that
waits. A completion passes a hold. -/
def tlpIn (x : Nat) (t : Tlp) (s : State) : State :=
  let n := x / 4
  let s := if t.ep then
      aerPoison (bridgeFn s x).1 (bridgeFn s x).2 ((s.bump (Reg.PORT_POISCNT n (x % 4))).raiseStn n 15 (x % 4))
    else s
  let s := pcieSpend x t s
  let s := if t.isCpl then npCpl x t s else s
  let fl := flowOf s x
  if fl = [] ∨ (t.isCpl ∧ !heldRed s x) then
    match letIn x t s with
    | (true, s) => s
    | (false, s) => setFlow x (fl ++ [t]) s
  else setFlow x (fl ++ [t]) s

/-! ## Ports that go down -/

/-- The partition and the node that a unit came from by tunnel, by the bridge at which it entered. -/
def importNode (s : State) (u : CUnit) : Option (Nat × Nat) :=
  u.entry.bind (fun e => match bridgeAt s e.1 e.2 with
    | some (.imp k) => some (e.1, (importOf s k).2.1)
    | _ => none)

/-- A TLP in the queues of a PCI Express port whose link is not up, or that DPC contains (R204, R206, R342):
a non-posted request is completed, a posted one discarded, with a notice when it came by tunnel. -/
def loseTlp (x : Nat) (u : CUnit) (s : State) : State :=
  if u.job.isSome then jobLost u s else
  match u.body with
  | .tlp q _ t =>
    let n := x / 4
    let ex := isExported s.act x
    let f := bridgeFn s x
    let status := if dpcOn s x then dpcStatus s f.1 f.2 else 1
    let cause := if dpcOn s x then 3 else 2
    if t.isCpl then s
    else if t.posted then
      if ex then sendPfn n ((s.act (Reg.GLB_EXP x 0)).toNat % 2 ^ 12) q t cause s
      else match u.origin with
        | .fabric .. => match importNode s u with
          | some (q, d) => sendPfn n d q t cause s
          | none => s
        | _ => s
    else if isShared s x ∧ (s.eport x).tags.any (fun m => m.1 == t.tag) then sharedCpl x t.tag (complete t status) s
    else if ex then sendExport n .internal x (complete t status) s
    else inPartition n .internal q (.port x) 0 (complete t status) s
  | _ => s

/-- What becomes of a unit that finds its egress port down or withdrawn (R354). -/
def loseAny (x : Nat) (u : CUnit) (s : State) : State :=
  match u.body with
  | .tlp .. => loseTlp x u s
  | _ => loseUnit (x / 4) u s

/-- Can an egress port send nothing that reaches its queues: a fabric port withdrawn or not enabled, a PCI
Express port whose Data Link Layer is not active? -/
def portDead (s : State) (x : Nat) : Bool :=
  if stnKind s.act (x / 4) = .fabric then withdrawn s (x / 4) (x % 4) || !fabPort s.act (x / 4) (x % 4)
  else !s.dlUp (x / 4) (x % 4)

/-- The wires that devices held asserted at the bridges of port `x` fall with its link, as the family's rule for DL_Down has
it (log entry 8). -/
def wiresDown (x : Nat) (s : State) : State :=
  { s with parts := { s.parts with devInt := s.parts.devInt.filter (fun e =>
      entryIndex s e.1 (.port x) != some e.2.1) } }

/-- A PCI Express port's Data Link Layer leaves the active state, its LTSSM in state `st` (R214): the long
operation on it ends (R212), outstanding requests of a shared port are completed with Unsupported Request
(R323), and what its queues hold is answered. -/
def pcieDown (x st : Nat) (s : State) : State :=
  let n := x / 4
  let p := x % 4
  let up := s.dlUp n p
  let a := Reg.PORT_STAT n p
  let s := s.setLivN a (st + (s.liv a).toNat / 2 ^ 16 % 4 * 2 ^ 16)
  let s := s.onPp x (fun _ => {})
  let s := s.onDp (fun d => { d with np := d.np.filter (fun e => e.via != x) })
  let s := if up then s.raiseStn n 9 p else s
  let s := clearQueues x (loseTlp x) s
  let s := (s.eport x).tags.foldl (fun s m =>
    sharedCpl x m.1 { kind := .cpl, hdr := 12, req := m.2.2.1, tag := m.1, status := 1 } s) s
  let s := if longOnPort s n p then endLong s else s
  (wiresDown x s).intx

/-- The station of the upstream port of partition `q`. -/
def upStation (s : State) (q : Nat) : Nat := ((upstreamOf s.act q).getD (0, 0)).1

/-- Changes the sequence with an LTAG. -/
def onLock (ltag : Nat) (g : LockSeq → LockSeq) (s : State) : State :=
  s.onFab (fun f => { f with locks := f.locks.map (fun l => if l.ltag = ltag then g l else l) })

/-- A sequence ends. -/
def endLock (ltag : Nat) (s : State) : State :=
  s.onFab (fun f => { f with locks := f.locks.filter (fun l => l.ltag != ltag) })

/-- Every locked sequence of partition `q` is abandoned: its waiting requests go, and LOCK_REQ with OP = 1 goes out
(R347). -/
def abandonLocks (q : Nat) (s : State) : State :=
  s.dp.fab.locks.foldl (fun s l =>
    if l.part = q then
      lockReq l 1 (endLock l.ltag ((lockWaiting s q l.imp).foldl (fun s id => withdraw id s) s))
    else s) s

/-- The Function Level Resets of partition `q`'s bound VFs are initiated by configuration writes; where the register lies
the spec does not tell (R325, log entry 7). -/
def flrVf (b : Binding) (s : State) : State :=
  let a := Config.free s.fresh % 4096
  if !s.dlUp (b.port / 4) (b.port % 4) then s
  else sendLocal (b.port / 4) .internal b.part b.port 0
    { kind := .cfgWr, addr := a, span := 4, cid := b.vfid, data := toBytes 4 (2 ^ 15) } s.draw

/-- The locks of partition `q`: remote sequences are abandoned (R347), local ones released. -/
def resetLocks (q x : Nat) (s : State) : State :=
  (List.range 96).foldl (fun s y => if (s.eport y).lock = .byPort x then setLock y .free s else s) (abandonLocks q s)

/-- The origin of a packet in the ingress buffer. -/
def pktOrigin (f : Nat) (p : Packet) (rest : Option Packet) : Origin :=
  .fabric f (p.vc % 8) (pktUnits p + match rest with
    | some r => pktUnits r
    | none => 0)

/-- Marks the units from `id` on as part of a locked sequence. -/
def markLocked (lock : Bool) (id : Nat) (s : State) : State :=
  if lock then
    s.onDp (fun d => { d with units := Tab.mapVals (fun k u => if id ≤ k then { u with locked := true } else u) d.units })
  else s

/-- A terminating TLP packet (R337). -/
def terminateTlp (n : Nat) (o : Origin) (p : Packet) (d : Dom) (t : Tlp) (s : State) : State :=
  let s := if t.isCpl then npCpl (128 + p.snode) t s else s
  markLocked d.lock s.dp.uid (
  let x := p.dport
  let e := (s.act (Reg.GLB_EXP x 0)).toNat
  let no (status cause : Nat) (s : State) : State := undeliverable n p cause s status
  if isExported s.act x then
    if bits e 0 12 = p.snode ∧ bits e 12 6 = d.part ∧ (s.act (Reg.GLB_EXP x 1)).toNat % 2 ^ 16 = d.domain then
      if pciePort s.act (x / 4) (x % 4) then toPort n o d.part x p.colour no t s else no 1 2 s
    else undeliverable n p 1 ((s.bump Reg.GLB_ISOCNT).raise (gEvt 14))
  else
    match (imports s.regs.active).find? (fun i =>
        upstreamOf s.act i.2.1 == some (x / 4, x % 4) && i.2.2.1 == p.snode && i.2.2.2.1 == p.sport &&
        i.2.2.2.2 == d.domain && d.part == i.2.1) with
    | some (k, q, _) =>
      if s.dlUp (x / 4) (x % 4) then inPartition n o q (.imp k) p.colour t s else no 1 2 s
    | none => undeliverable n p 1 ((s.bump Reg.GLB_ISOCNT).raise (gEvt 14)))

/-- A packet joined with the REST of its pair: its data, and the poison of either (R259). -/
def joined (p : Packet) (rest : Option Packet) : Packet :=
  match rest with
  | none => p
  | some r =>
    { p with
      poison := p.poison || r.poison
      body := match p.body, r.body with
        | PBody.tlp d t, PBody.tlpRest _ l => .tlp { d with cont := false } { t with data := t.data ++ l }
        | PBody.fme h l, PBody.fme _ m => .fme { h with cont := false } (l ++ m)
        | b, _ => b }

/-- Is a packet an MGMT packet of a known OP, held until it is served (R340)? -/
def isMgmt (p : Packet) : Bool := match p.body with
  | .mgmt op .. => decide (1 ≤ op) && decide (op ≤ 3)
  | _ => false

/-- A packet for this node (R326, R337, R340, R439, R621). -/
def terminate (n : Nat) (o : Origin) (p : Packet) (s : State) : State :=
  match p.body with
  | .tlp d t => terminateTlp n o p d { t with ep := t.ep || p.poison } s
  | .tlpRest _ _ => s.bump Reg.GLB_TUNERRCNT
  | .fme h _ =>
    if h.pt = 0 ∨ 8 ≤ h.pt then s.bump (Reg.FME_PAIRERR (fmeServing h % 48 / 2))
    else fmeArrive (fmeServing h % 48) p s
  | .mgmt .. =>
    if isMgmt p then
      ingUse n (o == .internal) (halvesOf (32 * p.len)) (s.onFab (fun g => { g with mgmt := g.mgmt ++ [(p, o, n)] }))
    else s.bump Reg.GLB_TUNERRCNT

/-- A packet is classified, its pair joined, and goes on (R326, R330). Credit that no unit in the ingress buffer holds
returns at once (R235). -/
def classify (n f : Nat) (p : Packet) (rest : Option Packet) (s : State) : State :=
  let o := pktOrigin f p rest
  let id := s.dp.uid
  if p.dnode = s.node then
    let s := terminate n o (joined p rest) s
    match newUnits s id o with
    | [] => if isMgmt p then s else giveBack n o s
    | [_] => s
    | _ :: l => markCopies l s
  else match forward n o p rest s with
    | some s => s
    | none => giveBack n o (undeliverable n (joined p rest) 5 (s.bump Reg.GLB_NOROUTECNT))

/-- Is a packet a request that station `n` keeps unclassified (R147): a tunnelled one, or an FME's in transit? One for an
FME of this node is answered by a NAK. -/
def keptPkt (s : State) (n : Nat) (p : Packet) : Bool :=
  s.holdsAt n && match p.body with
    | .tlp _ t => !t.isCpl
    | .fme h _ => p.dnode != s.node && (h.pt == 1 || h.pt == 2 || h.pt == 4)
    | _ => false

/-- An accepted packet is classified, or kept in the ingress cell buffer until the hold clears (R145, R147). -/
def acceptPkt (n f : Nat) (p : Packet) (rest : Option Packet) (s : State) : State :=
  if keptPkt s n p then
    ingUse n false (halvesOf (pktBytes p rest)) (s.onLnk n f (fun l => { l with held := l.held ++ [(p, rest)] }))
  else classify n f p rest s

/-- The packets kept at fabric port `f` of station `n` are classified, oldest first, under the present Active Set (R147). -/
def releaseHeld (n f : Nat) (s : State) : State :=
  let l := (s.lnk n f).held
  l.foldl (fun s e => classify n f e.1 e.2 (ingUse n false (-(halvesOf (pktBytes e.1 e.2) : Int)) s))
    (s.onLnk n f (fun l => { l with held := [] }))

end Sys2Proof.Machine
end

