-- ==== Sys2Proof/Machine/CutCheck.lean ====
section
/-! DEFINITION. The conditions of a cut on the set that it would make the Active Set (R14, R15, R55, R74, R75, R142 to
R144, R190, R191, R236, R290, R321, R332, R333, R346, R352, R390, R409, R454, R467, R474). Every function here answers
true where the cut is refused. -/

namespace Sys2Proof.Machine

/-! ## Stations and ports -/

/-- The enabled ports of station `n` in a set. -/
def portsOn (v : View) (n : Nat) : List Nat := (List.range 4).filter (fun p => portEnabled v n p)

/-- How many of a station's enabled ports are upstream ones; those of a x16 pair are its home station's. -/
def upsOn (v : View) (n : Nat) : Nat := ((portsOn v n).filter (fun p => isUpstream v (homeStn v n) p)).length

/-- LINK_CTL's layout fields: KIND, PAIR, WIDTH and FLRATE (R75). -/
def layoutOf (v : View) (n : Nat) : Nat × Nat × Nat × Nat :=
  let w := v (Reg.LINK_CTL n)
  (fget w Fld.LINK_CTL_KIND, fget w Fld.LINK_CTL_PAIR, fget w Fld.LINK_CTL_WIDTH, fget w Fld.LINK_CTL_FLRATE)

/-- A layout that R13, R14 or R190 does not allow. -/
def badLayout (v : View) (n : Nat) : Bool :=
  let w := stnWidth v n
  decide (5 ≤ w) || decide (2 ^ (layout w).length ≤ fget (v (Reg.LINK_CTL n)) Fld.LINK_CTL_EN) ||
  (decide (stnKind v n = .fabric) && decide (2 ≤ w))

/-- A x16 pair that breaks R189. A pair whose ports are both disabled is whole, so that it can be made and taken apart
under R75 (DEDUCED, log entry 45). -/
def badPair (v : View) (n : Nat) : Bool :=
  let a := v (Reg.LINK_CTL n)
  let b := v (Reg.LINK_CTL (if n % 2 = 0 then n + 1 else n - 1))
  if fget a Fld.LINK_CTL_PAIR = 0 then false
  else
    let one (w : Word) : Bool := fget w Fld.LINK_CTL_PAIR == 1 && fget w Fld.LINK_CTL_KIND == 1 &&
      fget w Fld.LINK_CTL_WIDTH == 0
    !(one a && one b && fget a Fld.LINK_CTL_MAXRATE == fget b Fld.LINK_CTL_MAXRATE &&
      fget a Fld.LINK_CTL_EN == fget b Fld.LINK_CTL_EN)

/-- Ports of station `n` that do not match the declaration (R142). A station without enabled ports matches any KIND
(DEDUCED, log entry 45). -/
def badKind (r : StnRec) (v : View) (n : Nat) : Bool :=
  let ports := (portsOn v n).length
  let ups := upsOn v n
  (isPair v n && !r.pair) ||
  (decide (ports ≠ 0) &&
    !(if stnKind v n = .fabric then r.kind == 4
      else match r.kind with
        | 1 => ups == 0
        | 2 => ups == 1 && ports == 1
        | 3 => ups == 1 && decide (2 ≤ ports)
        | _ => false))

/-- The half-cells that the enabled ports of station `n` are charged (R236, R290); a x16 pair at its home station. -/
def chargeOf (v : View) (n : Nat) : Nat :=
  (portsOn v n).foldl (fun k p =>
    if stnKind v n = .fabric then
      (List.range 8).foldl (fun k c =>
        k + min 32767 (bits (v (Reg.FL_VCLIM n p (c / 2))).toNat (16 * (c % 2)) 16)) k
    else if isPairOdd v n then k
    else k + (v (Reg.BUF_PCIR n p)).toNat % 2 ^ 16) 0

/-- Stations and ports that refuse a cut from the set `v` to the set `u`. -/
def badStations (s : State) (v u : View) : Bool :=
  (List.range 24).any (fun n =>
    badLayout u n || badPair u n || badKind (s.stnRec n) u n || decide (2 ≤ upsOn u n) ||
    decide (57344 < chargeOf u n) || (layoutOf v n != layoutOf u n && !stnDisabled v n))

/-- Does a list hold an element twice? -/
def hasTwins {α : Type} [BEq α] : List α → Bool
  | [] => false
  | x :: l => l.contains x || hasTwins l

/-- Partitions that refuse a cut to the set `t`: two upstream ports (R190), or more than 32 bridges (R191). -/
def badParts (t : Tab Word) : Bool :=
  let ps := enabledParts (viewOf t)
  hasTwins ps || ps.any (fun q => decide (32 < (bridges t q).length))

/-! ## Tables -/

/-- Is logical port `x` an enabled downstream PCI Express port of a set? -/
def isDownIn (v : View) (x : Nat) : Bool :=
  decide (x < 96) && pciePort v (x / 4) (x % 4) && !isUpstream v (x / 4) (x % 4)

/-- Bindings that refuse a cut (R321). -/
def badBindings (t : Tab Word) : Bool :=
  let v := viewOf t
  let own := (v Reg.GLB_FMPART).toNat % 2 ^ 6
  let bs := bindings t
  bs.any (fun b => !isDownIn v b.port || portPart v (b.port / 4) (b.port % 4) != own || !partEnabled v b.part ||
    b.part == own) ||
  hasTwins (bs.map (fun b => (b.port, b.vfid))) || hasTwins (bs.map (fun b => (b.port, b.pxid))) ||
  hasTwins (bs.map (fun b => (b.part, b.port, b.fn)))

/-- Exports and imports that refuse a cut (R332, R333). -/
def badTunnels (t : Tab Word) : Bool :=
  let v := viewOf t
  let shared := (bindings t).map (fun b => b.port)
  (List.range 96).any (fun x => isExported v x && (!isDownIn v x || shared.contains x)) ||
  (imports t).any (fun m => !partEnabled v m.2.1 || m.2.2.1 == (v Reg.GLB_NODE).toNat % 2 ^ 12)

/-- Virtual channels that refuse a cut (R346, R454). -/
def badVcs (v : View) : Bool :=
  let w := v Reg.GLB_TUN_CFG
  let lvc := fget w Fld.GLB_TUN_CFG_LVC
  let mvc := fget w Fld.GLB_TUN_CFG_MVC
  lvc == mvc || (List.range 8).any (fun c => bits (v Reg.GLB_TCVC).toNat (3 * c) 3 == lvc) ||
  (List.range 64).any (fun c =>
    let x := fget (v (Reg.CH_RMT c)) Fld.CH_RMT_VC
    x == lvc || x == mvc)

/-- The roles of a station's sideband pins (R108). -/
inductive PinRole where
  | unused | fabric | up | down
  deriving DecidableEq, Repr

/-- The role of station `n`: a station with both upstream and downstream ports takes the downstream one (R108). -/
def pinRole (v : View) (n : Nat) : PinRole :=
  match stnKind v n with
  | .unused => .unused
  | .fabric => .fabric
  | .pcie =>
    if isPairOdd v n ∨ portsOn v n = [] then .unused
    else if upsOn v n = (portsOn v n).length then .up else .down

/-- The pins of station `n` that its role makes inputs, of 0 WIRE_A, 1 WIRE_B, 2 WAKE_N, 3 PRSNT_N (R108, R352). -/
def pinInputs (v : View) (n : Nat) : List Nat :=
  match pinRole v n with
  | .unused => []
  | .fabric => [0, 1, 3]
  | .up => [0, 1]
  | .down => [0, 1, 2, 3]

/-- Wires that refuse a cut (R352). -/
def badWires (t : Tab Word) : Bool :=
  (listed t (Reg.GLB_WIRE 0) 4 256).any (fun e =>
    let w := e.2.toNat
    let pins := pinInputs (viewOf t) (bits w 2 5)
    let pin := bits w 7 2
    bit w 0 && (if bit w 1 then decide (2 ≤ pin) || !pins.contains pin else !pins.contains pin))

/-- The queue ranges of two partitions overlap (R409). -/
def badRanges (v : View) : Bool :=
  let rs := ((List.range 48).map (fun q =>
    let w := (v (Reg.GLB_QRANGE q)).toNat
    (bits w 0 16, bits w 16 16))).filter (fun r => decide (r.1 ≤ r.2))
  go rs
where
  /-- Some range overlaps a later one. -/
  go : List (Nat × Nat) → Bool
  | [] => false
  | r :: l => l.any (fun k => decide (r.1 ≤ k.2) && decide (k.1 ≤ r.2)) || go l

/-- The line that a line forwards to. -/
def fwdOf (v : View) (l : Nat) : Option Nat :=
  let w := (v (Reg.CUE_ROUTE l)).toNat
  if bit w 7 then some (bits w 8 8) else none

/-- Does a line forward for more than `fuel` links? -/
def fwdLong (v : View) : Nat → Nat → Bool
  | 0, _ => true
  | fuel + 1, l => match fwdOf v l with
    | none => false
    | some m => fwdLong v fuel m

/-- Cue lines that refuse a cut (R467): a cycle of forwarding links is a chain of more than 256. -/
def badCues (t : Tab Word) : Bool :=
  let v := viewOf t
  (listed t (Reg.CUE_ROUTE 0) 4 256).any (fun e =>
    match fwdOf v e.1 with
    | none => false
    | some m =>
      let w := e.2.toNat
      (bit w 6 && !cueOwnedBy v m (bits w 0 6)) || fwdLong v 256 m)

/-- DMA channels that refuse a cut (R454). -/
def badChans (s : State) (v u : View) : Bool :=
  (List.range 64).any (fun c =>
    chState s c != 0 && (chOwnerIn v c != chOwnerIn u c || v (Reg.CH_RMT c) != u (Reg.CH_RMT c)))

/-! ## Slices (R390, R474) -/

/-- The slices that a set binds: number, PART, PASID. -/
def boundIn (t : Tab Word) : List (Nat × Nat × Nat) :=
  (listed t (Reg.GLB_SLICE 0 0) 0x20 4096).filterMap (fun e =>
    let w := e.2.toNat
    if bit w 0 then some (e.1, bits w 1 6, bits w 7 20) else none)

/-- May the binding of slice `t` change? -/
def sliceFixed (s : State) (t : Nat) : Bool :=
  (s.sl t).st != 0 || (s.sl t).resetting || !(queuesOf s (isSlice t)).isEmpty ||
  (chansOf s (isSlice t)).any (fun c => chState s c != 0) || Tab.get 0 s.eng.keys.scnt t != 0

/-- The numbers of the slices of which either set lists a word. -/
def slicesIn (a b : Tab Word) : List Nat :=
  (listed a (Reg.GLB_SLICE 0 0) 4 32768 ++ listed b (Reg.GLB_SLICE 0 0) 4 32768).map (fun e => e.1 / 8)

/-- Slices that refuse a cut from the set `a` to the set `b`. -/
def badSlices (s : State) (a b : Tab Word) : Bool :=
  let v := viewOf a
  let u := viewOf b
  let bs := boundIn b
  let mode := fget (u Reg.GLB_MODE) Fld.GLB_MODE_MODE
  bs.any (fun e => !partEnabled u e.2.1) || hasTwins (bs.map (fun e => e.2)) ||
  (!bs.isEmpty && mode != 2 && mode != 3) ||
  (slicesIn a b).any (fun t =>
    let x := (v (Reg.GLB_SLICE t 0)).toNat
    let y := (u (Reg.GLB_SLICE t 0)).toNat
    (bits x 0 27 != bits y 0 27 && sliceFixed s t) ||
    (bit x 27 && bit y 27 && (List.range 6).any (fun w => v (Reg.GLB_SLICE t (w + 1)) != u (Reg.GLB_SLICE t (w + 1)))))

/-! ## The mode and the node (R75, R142 to R144) -/

/-- A set that does not meet the conditions of its own mode (R144). -/
def badTarget (t : Tab Word) : Bool :=
  let u := viewOf t
  let fabric := (List.range 24).any (fun n => (List.range 2).any (fun f => fabPort u n f))
  let vf := !(bindings t).isEmpty
  let sl := !(boundIn t).isEmpty
  match fget (u Reg.GLB_MODE) Fld.GLB_MODE_MODE with
  | 0 => (enabledParts u).length != 1 || fabric || vf || sl
  | 1 => fabric || vf || sl
  | 2 => fabric
  | 3 => false
  | 4 => !(pciePorts u).isEmpty || vf || sl
  | 5 => false
  | _ => true

/-- A change of mode that R22 and R55 do not allow now; `origin` is that of the take. -/
def badMode (s : State) (origin : Nat) (t : Tab Word) : Bool :=
  let m := fget (viewOf t Reg.GLB_MODE) Fld.GLB_MODE_MODE
  decide (6 ≤ m) ||
  (m != s.mode &&
    (drainStat s % 2 == 0 || badTarget t ||
      !(s.livF Reg.GLB_BOOTSTAT Fld.GLB_BOOTSTAT_STATE == 1 || (origin == 51 && s.boot.step == 8))))

/-- A change of the node identifier that is not allowed (R142). DESIGN CHOICE (log entry 101): a cut that leaves the
identifier as it is sets it to nothing, and is allowed at a value that is not the declared one. -/
def badNode (s : State) (u : View) : Bool :=
  let k := (u Reg.GLB_NODE).toNat % 2 ^ 12
  k != s.node && (s.mode != 5 || k != s.env.node)

/-! ## A cut -/

/-- Is a cut to the set `t` refused? -/
def cutRefused (s : State) (origin : Nat) (t : Tab Word) : Bool :=
  let a := s.regs.active
  let v := viewOf a
  let u := viewOf t
  badMode s origin t || badNode s u || badStations s v u || badParts t || badBindings t || badTunnels t || badVcs u ||
  badWires t || badRanges u || badCues t || badChans s v u || badSlices s a t

/-- The Shadow Set with a journal laid over it. -/
def overlaid (s : State) (j : List (Nat × Word)) : Tab Word :=
  j.foldl (fun t e => Tab.set (resetVal e.1) t e.1 e.2) s.regs.shadow

end Sys2Proof.Machine
end

