-- ==== Sys2Proof/Machine/FcstOps.lean ====
section
/-! DEFINITION. The Forecaster's accounts: whose cells cross the planes, windows, charges, energy budgets (R516 to R518,
R528). -/

namespace Sys2Proof.Machine

/-- A cell of unit `u` crosses a plane. -/
def countCell (u : Option CUnit) (s : State) : State :=
  match u with
  | none => s
  | some u =>
    let k := (unitPart s u).getD 48
    s.onFcst (fun f => { f with cells := Tab.set 0 f.cells k (Tab.get 0 f.cells k + 1) })

/-- The energy of slot `n` in nJ, which wraps with SPC_E. -/
def slotNj (s : State) (n : Nat) : Nat := s.liv64 (Reg.SPC_E_LO n) * 1000 + (Tab.get {} s.pow.spc n).nj

/-- The energy of slot `n` in the window so far, in nJ. -/
def slotWin (s : State) (n : Nat) : Nat :=
  (slotNj s n + 2 ^ 64 * 1000 - Tab.get 0 s.pow.fcst.slot0 n) % (2 ^ 64 * 1000)

/-- The device's energy in the window so far, in nJ. -/
def devWin (s : State) : Nat := (List.range 6).foldl (fun k r => k + Tab.get 0 s.pow.fcst.win r) 0

/-- The charge of partition `p` for the window, in nJ (R518). -/
def charge (s : State) (p : Nat) : Nat :=
  let idle := bits (s.act Reg.FCST_BASE).toNat 18 10 * 10000000
  let f := s.pow.fcst
  let all := f.cells.foldl (fun k e => k + e.2) 0
  let slots := (List.range 24).foldl (fun k n =>
    let w := slotWin s n
    if w ≠ 0 ∧ slotOwner s n = some p then k + w else k) 0
  slots + (if all = 0 then 0 else (devWin s - idle) * Tab.get 0 f.cells p / all)

/-- The device energy budget in nJ (R523). -/
def energyBudget (s : State) : Nat :=
  let j := bits (s.act Reg.FCST_DEV).toNat 12 16
  (if j = 0 then deviceBudget s * 10 else j) * 1000000

/-- Writes the figures of the window: mean power by rail and device energy (R517, R530). -/
def windowFigures (s : State) : State :=
  let (e, s) := s.fit 24 (devWin s / 1000)
  forUpto 6 (fun r s => s.setLivN (Reg.FCST_RAILP r) (Tab.get 0 s.pow.fcst.win r / 10000)) (s.setLivN Reg.FCST_DEVE e)

/-- The budget checks at the end of a window (R528), with the partitions' charges. -/
def windowChecks (charges : Tab Nat) (s : State) : State :=
  let exceed (f : Fld) (g : Nat) (q : Option Nat) (s : State) : State := (s.setLivF Reg.FCST_STAT f 1).raise (gEvt g) q
  let s := if energyBudget s < devWin s then exceed Fld.FCST_STAT_DEVOVER 26 none s else s
  let s := (List.range 24).foldl (fun s n =>
    let j := bits (s.act (Reg.FCST_SLOT n)).toNat 12 16
    if j ≠ 0 ∧ j * 1000000 < slotWin s n then exceed Fld.FCST_STAT_SLOTOVER 26 none s else s) s
  (List.range 48).foldl (fun s p =>
    let j := (s.act (Reg.FCST_PART p 1)).toNat
    if j ≠ 0 ∧ j * 1000000 < Tab.get 0 charges p then
      exceed Fld.FCST_STAT_PARTOVER 27 (some p) (s.bump (Reg.FCST_PACC p 1))
    else s) s

/-- The window in progress ends: its figures, its checks, its charges for the sweep; the next window begins. -/
def endWindow (s : State) : State :=
  let charges := forUpto 48 (fun p t => Tab.set 0 t p (charge s p)) []
  let s := windowChecks charges (windowFigures s)
  s.onFcst (fun f => { f with
    win := [], cells := [], slot0 := forUpto 24 (fun n t => Tab.set 0 t n (slotNj s n)) []
    sweeps := f.sweeps ++ [{ at_ := s.now, charges := charges }] })

/-- ns from the present to the end of the window in progress (R517). -/
def windowLeft (s : State) : Nat :=
  let t := if s.livB Reg.GLB_FT_STAT Fld.GLB_FT_STAT_VALID then s.ft else s.now - s.pow.fcst.base
  10000000 - t % 10000000

/-- The planning level. -/
def fcstLevel (s : State) : Nat := s.livF Reg.FCST_STAT Fld.FCST_STAT_LEVEL

/-- May a port be in L1 or L0p, by the Forecaster's hold (R525)? -/
def linkReleased (s : State) : Bool :=
  match s.actF Reg.FCST_CFG Fld.FCST_CFG_IDLE with
  | 0 => false
  | 2 => decide (2 ≤ fcstLevel s)
  | _ => true

/-- Cells in 10^3 per second that a PCI Express lane needs at a rate code (R282). -/
def pcieNeed : Nat → Nat
  | 6 => 233000 | 5 => 117000 | 4 => 62000 | 3 => 31000 | 2 => 16000 | 1 => 8000 | _ => 4000

/-- NEED of station `n` in 10^3 cells per second (R282): widths in use; 8 lanes at each station of a pair. DEDUCED (log entry
104): a PCI Express lane's rate is MAXRATE, as R618 says, where R282 calls it the trained rate. -/
def stnNeed (s : State) (n : Nat) : Nat :=
  match stnKind s.act n with
  | .unused => 0
  | .fabric => (List.range 2).foldl (fun k f =>
      if fabPort s.act n f then
        k + (s.lnk n f).use.length * (if s.actB (Reg.LINK_CTL n) Fld.LINK_CTL_FLRATE then 400000 else 200000)
      else k) 0
  | .pcie => (List.range 4).foldl (fun k p =>
      if portEnabled s.act n p then
        let a := Reg.PORT_STAT (homeStn s.act n) p
        let x := 4 * homeStn s.act n + p
        let w := if s.livB a Fld.PORT_STAT_DLUP then min 8 (2 ^ (s.livF a Fld.PORT_STAT_LWIDTH - (s.pp x).narrow)) else 0
        k + w * pcieNeed (maxRate s x)
      else k) 0

/-- T_MAX in ps for a largest need in 10^3 cells per second (R283). -/
def tMaxOf (s : State) (need : Nat) : Nat :=
  let cfg := min 620 (max 400 ((s.act Reg.GLB_CORE_CFG).toNat % 2 ^ 10))
  if need = 0 then cfg else min cfg (2000000000 / need)

/-- T_MAX: GLB_CORE_SPEED.TLIM, or before the first cut the value without any port. -/
def tMax (s : State) : Nat :=
  let t := s.livF Reg.GLB_CORE_SPEED Fld.GLB_CORE_SPEED_TLIM
  if t = 0 then tMaxOf s 0 else t

/-- THS above T_MAX sets SLOW and raises CORE_SLOW once (R285). -/
def slowCheck (s : State) : State :=
  if tMax s < s.livF Reg.GLB_CORE_SPEED Fld.GLB_CORE_SPEED_THS ∧ !s.livB Reg.GLB_CORE_STAT Fld.GLB_CORE_STAT_SLOW then
    (s.setLivF Reg.GLB_CORE_STAT Fld.GLB_CORE_STAT_SLOW 1).raise (gEvt 9)
  else s

/-- At a cut NEED_max, its station and T_MAX are computed afresh (R283, R285). -/
def coreLimit (s : State) : State :=
  let best := (List.range 24).foldl (fun m n => if m.1 < stnNeed s n then (stnNeed s n, n) else m) (0, 0)
  let s := s.setLivN Reg.GLB_CORE_NEED (best.1 / 1000 % 2 ^ 12 + best.2 * 2 ^ 12)
  slowCheck (s.setLivF Reg.GLB_CORE_SPEED Fld.GLB_CORE_SPEED_TLIM (tMaxOf s best.1))

end Sys2Proof.Machine
end

