-- ==== Sys2Proof/Machine/CutOps.lean ====
section
/-! DEFINITION. What a cut does: the exchange of the Active and the Shadow Set and all that it brings about; the swap of a
CUTAT; and what every command brings to its end (R53 to R59, R70 to R78, R146, R403, R565). -/

namespace Sys2Proof.Machine

/-! ## Before the exchange, under the old set -/

/-- A cut to M0, M4 or M5 stops every ACTIVE queue and pauses every channel in RUN or WAITGO (R146). -/
def modeStop (s : State) : State :=
  let qs := (s.eng.qs.filter (fun e => e.2.st == .active)).map (fun e => e.1)
  let s := qs.foldl (fun s i => stopQueue i false s) s
  (List.range 64).foldl (fun s c => if chState s c = 1 ∨ chState s c = 2 then pauseChan c s else s) s

/-- Every lane of fabric port `f` goes off with it (R188, R242). -/
def fabOff (n f : Nat) (s : State) : State :=
  let ls := fabLanes s n f
  let s := toDown n f s
  let s := ls.foldl (fun s l => setLaneState n l 0 s) s
  let s := if f = 0 then spareTrain n 0 s else s
  s.setBring n f {}

/-- A PCI Express port that the cut disables: its link ends, the locks held from it and on it are released. -/
def pcieOff (x : Nat) (s : State) : State :=
  let n := x / 4
  let p := x % 4
  let s := if isUpstream s.act n p then resetLocks (portPart s.act n p) x s else s
  let s := setLock x .free (pcieDown x 0 s)
  let s := (pcieLanes s.act n p).foldl (fun s e => s.setLivF (Reg.LN_STAT e.1 e.2) Fld.LN_STAT_STATE 0) s
  s.setLivN (Reg.PORT_STAT n p) 0

/-- The ports that the set `u` no longer enables. -/
def portsOff (u : View) (s : State) : State :=
  allPorts.foldl (fun s e =>
    let n := e.1
    let p := e.2
    if fabPort s.act n p && !fabPort u n p then fabOff n p s
    else if pciePort s.act n p && !pciePort u n p then pcieOff (4 * n + p) s
    else s) s

/-- The level of every shaper and policer that is on is noted as of the instant of the exchange, under the old set, that
of one without a record included (R72). -/
def levelsNow (s : State) : State :=
  let a := s.regs.active
  let pol (base : Nat) (count : Nat) (t : Tab Bucket) : Tab Bucket :=
    (listed a base 0x20 count).foldl (fun t e =>
      let p := policerAt s.act (base + 0x20 * e.1)
      if p.en then Tab.put t e.1 (refill p (Tab.find t e.1) s.now) else t) t
  let s := (listed a (Reg.GLB_SHP 0 0 0 0) 8 1536).foldl (fun s e =>
    match shpCredit s (e.1 / 16) (e.1 % 16) with
    | none => s
    | some v => s.onEport (e.1 / 16) (fun y => { y with shp := Tab.put y.shp (e.1 % 16) (v, s.now) })) s
  s.onDp (fun d => { d with
    ppol := pol (Reg.GLB_PPOL 0 0) 48 d.ppol
    spol := pol (Reg.GLB_SPOL 0 0) 4096 d.spol })

/-- A hold has cleared (R147): what was kept at the ports is classified, withheld credits return, and the FMEs read
descriptors again. -/
def unhold (s : State) : State :=
  let s := releaseFlows s
  let s := (List.range 24).foldl (fun s n => (List.range 2).foldl (fun s f =>
    if (s.lnk n f).held = [] then s else releaseHeld n f s) s) s
  let s := (s.dp.pports.map (fun e => e.1)).foldl (fun s x => pcieRelease x s) s
  ((s.eng.qs.filter (fun e => e.2.st == .active)).map (fun e => e.1)).foldl (fun s i => pumpRing i s) s

/-! ## The exchange -/

/-- The sets change places (R70), and the words that the journal wrote hold no error any more (R565). -/
def exchange (wrote : List Nat) (s : State) : State :=
  let bad := s.regs.badA.filter (fun a => !wrote.contains a)
  let s := { s with regs := { s.regs with active := s.regs.shadow, shadow := s.regs.active, badA := bad } }
  if bad = [] then s.setLivF Reg.GLB_ERR_STAT Fld.GLB_ERR_STAT_CFGUE 0 else s

/-! ## After the exchange -/

/-- Each level is clipped to its new burst (R72); a policer whose EN rises starts from full buckets (R371). -/
def levelsClip (old : View) (s : State) : State :=
  let shp (x : Nat) (t : Tab (Int × Nat)) : Tab (Int × Nat) :=
    t.filterMap (fun e => (shpCredit s x e.1).map (fun v => (e.1, v, s.now)))
  let pol (base : Nat → Nat) (t : Tab Bucket) : Tab Bucket :=
    t.filterMap (fun e =>
      let p := policerAt s.act (base e.1)
      if p.en && !(policerAt old (base e.1)).en then none
      else some (e.1, { e.2 with c := min p.cbs e.2.c, e := min p.ebs e.2.e }))
  s.onDp (fun d => { d with
    eport := Tab.mapVals (fun x e => { e with shp := shp x e.shp }) d.eport
    ppol := pol (fun q => Reg.GLB_PPOL q 0) d.ppol
    spol := pol (fun t => Reg.GLB_SPOL t 0) d.spol })

/-- The fabric ports that the cut enables begin bring-up (R163, R242); the lanes of the PCI Express ports that it enables
are under the LTSSM (R149, R163). -/
def portsStart (old : View) (s : State) : State :=
  allPorts.foldl (fun s e =>
    if fabPort s.act e.1 e.2 && !fabPort old e.1 e.2 then fabEnable e.1 e.2 s
    else if pciePort s.act e.1 e.2 && !pciePort old e.1 e.2 then
      (pcieLanes s.act e.1 e.2).foldl (fun s l => s.setLivF (Reg.LN_STAT l.1 l.2) Fld.LN_STAT_STATE 11) s
    else s) s

/-- The held configuration writes of partition `q` are dropped with its functions; a take that they held goes on. -/
def dropHeld (q : Nat) (s : State) : State :=
  let s := (s.parts.held.filter (fun w => w.part == q)).foldl (fun s w => freeCfg w s) s
  let s := { s with parts := { s.parts with held := s.parts.held.filter (fun w => w.part != q) } }
  if s.parts.held = [] then endStall s else s

/-- Partitions that the cut enables or no longer enables: their functions are made afresh, or cease to exist (R196,
R315). Ports that are no longer exported leave the reset of a PRESET packet. -/
def partsCut (old : View) (s : State) : State :=
  (List.range 48).foldl (fun s q =>
    if partEnabled s.act q = partEnabled old q then s
    else
      let s := dropHeld q (s.resetCfg q)
      { s with parts := { s.parts with
        aerLog := Tab.del s.parts.aerLog q
        inReset := s.parts.inReset.filter (fun r => r != q)
        rstAt := Tab.del s.parts.rstAt q } })
    { s with parts := { s.parts with portRst := s.parts.portRst.filter (fun x => isExported s.act x) } }

/-- Does the set still hold a binding? -/
def keepsBinding (t : Tab Word) (b : Binding) : Bool :=
  (bindings t).any (fun c => c.idx == b.idx && c.port == b.port && c.part == b.part && c.vfid == b.vfid)

/-- A binding that the cut disables: an FLR of its VF, and its emulated BARs cease (R322, R325). -/
def bindingsCut (old : Tab Word) (s : State) : State :=
  ((bindings old).filter (fun b => !keepsBinding s.regs.active b)).foldl (fun s b =>
    flrVf b { s with parts := { s.parts with vfbar := Tab.del (Tab.del s.parts.vfbar (2 * b.idx)) (2 * b.idx + 1) } }) s

/-- Slices that the cut binds are in LULL (R476); where it sets LOGEN, bitmap A is active and LOGBAD clears (R483). -/
def slicesCut (old : Tab Word) (s : State) : State :=
  let was := viewOf old
  (slicesIn old s.regs.active).foldl (fun s t =>
    let x := (was (Reg.GLB_SLICE t 0)).toNat
    let y := (s.act (Reg.GLB_SLICE t 0)).toNat
    let s := if bit y 0 && !bit x 0 then s.onSl t (fun e => { e with st := 0 }) else s
    if bit y 27 && !bit x 27 then s.onSl t (fun e => { e with logsel := false, logbad := false }) else s) s

/-- PERST_N follows the role that the cut assigns a station (R108, R109): it is driven, low at first, on a downstream one, and
is an input or in high impedance on any other. On a PCI Express station whose ports are all disabled a pin that is driven
stays low (R130, log entry 102). -/
def pinsCut (old : View) (s : State) : State :=
  (List.range 24).foldl (fun s n =>
    let pin (p : Perst) : State := s.onSpc n (fun x => { x with perst := p })
    let r := pinRole s.act n
    if r = .down then (if (s.spc n).perst = .z then pin .low else s)
    else if r = pinRole old n then s
    else if r = .unused ∧ stnKind s.act n = .pcie ∧ !isPairOdd s.act n then perstFall n s
    else pin .z) s

/-- What depends on the Active Set as a whole: T_MAX (R283), the claims (R519, R521), SYNC of a source (R249), the digest
that is no longer that of the Active Set (R553). -/
def wholeCut (s : State) : State :=
  let s := claimReport (coreLimit s)
  let s := if overclaimed s then s.setLivF Reg.FCST_STAT Fld.FCST_STAT_OVERCLAIM 1 else s
  (sourceSync s).setLivN Reg.SEC_ASSTAT 0

/-- The swap of a cut (R70 to R72, R146, R565): `wrote` are the addresses of its journal. A margin sweep ends, without DONE,
when the mode is no longer M5 (R181; DESIGN CHOICE, log entry 110). -/
def swap (wrote : List Nat) (s : State) : State :=
  let old := s.regs.active
  let was := viewOf old
  let u := viewOf s.regs.shadow
  let held := (List.range 24).filter (fun n => s.holdsAt n)
  let m := fget (u Reg.GLB_MODE) Fld.GLB_MODE_MODE
  let s := if m ≠ s.mode ∧ (m = 0 ∨ m = 4 ∨ m = 5) then modeStop s else s
  let s := exchange wrote (levelsNow (portsOff u s))
  let s := levelsClip was (s.bump Reg.GLB_CUTCNT)
  let s := wholeCut (slicesCut old (bindingsCut old (partsCut was (portsStart was (pinsCut was s)))))
  let s := if s.mode = 5 then s else s.onDp (fun d => { d with margin := [] })
  let s := if held.any (fun n => !s.holdsAt n) then unhold s else s
  settleFor 4096 s.intx

/-- The CUT entry of a swap (R81, R82). -/
def logCut (origin serial pc : Nat) (at_ : Bool) (s : State) : State :=
  s.log { origin := origin, serial := serial, kind := 4, at_ := at_, pc := pc,
          old := s.slate.cut.getD s.slate.first, new := s.slate.commits }

/-! ## The swap of a CUTAT -/

/-- A CUTAT that fails its later check (R78). -/
def cutFails (s : State) : State :=
  (s.log { kind := 6, failed := true, new := cutTime s }).raise (gEvt 2)

/-- The swap of the pending CUTAT `c`, whose time has come, or its failure (R59, R75 to R78). -/
def fireCut (c : CutAt) (s : State) : State :=
  let s := { s with dir := { s.dir with cutAt := none } }
  if !s.regs.badS.isEmpty || cutRefused s c.origin s.regs.shadow then cutFails s
  else
    let s := logCut c.origin c.serial c.pc true s
    let s := if s.livB Reg.GLB_FT_STAT Fld.GLB_FT_STAT_SYNC then s else s.raise (gEvt 1)
    startLong .cut false (swap c.wrote s)

/-- A CUTAT whose time came during a long operation swaps as soon as that operation has ended (R59). -/
def dueCut (s : State) : State :=
  match s.dir.cutAt, s.dir.longop with
  | some c, none => if c.due then fireCut c s else s
  | _, _ => s

/-- What every command brings to its end: the MGMT packets that the reserve now takes leave (R292); then the effects of the
host requests that have ended; then the swap that waited
for the end of a long operation, or the hold of a take for the configuration writes that waited for it (R194). -/
def settle (s : State) : State := stallTake (dueCut (settleFor 4096 (mgmtGo s)))

end Sys2Proof.Machine
end

