-- ==== Sys2Proof/Machine/FabricLink.lean ====
section
/-! DEFINITION. The fabric link layer: packets and short packets received and sent, replay, retrain and
width change (chapter 8). -/

namespace Sys2Proof.Machine

/-! ## Packets received (R226, R235, R237 to R240, R335) -/

/-- Is a packet's header in error (R226)? -/
def headerError (p : Packet) : Bool :=
  p.type == 0 || decide (5 ≤ p.type) || decide (8 ≤ p.vc) || p.len == 0 || decide (128 < p.len) ||
  decide (95 < p.dport) || decide (95 < p.sport)

/-- A NAK is due (R240), unless one has been sent for this value of NES within the replay time. -/
def nakDue (n f : Nat) (s : State) : State :=
  let l := s.lnk n f
  let wait := max 1 (s.actF (Reg.FL_CFG n f) Fld.FL_CFG_RPLTIME) * 100
  let sent := match l.nakSent with
    | some (v, t) => v == l.nes && decide (s.now < t + wait)
    | none => false
  if sent then s else s.setLnk n f { l with nak := true }

/-- NES advances; a NAK for the value it had is due no more. -/
def nesUp (n f : Nat) (s : State) : State :=
  syncFl n f (s.onLnk n f (fun l => { l with nes := (l.nes + 1) % 2 ^ 16, nak := false }))

/-- A FIRST that finds no REST is discarded and counted (R335, R437). -/
def dropFirst (n f : Nat) (s : State) : State :=
  match (s.lnk n f).first with
  | none => s
  | some p =>
    let s := s.onLnk n f (fun l => { l with first := none })
    let s := giveBack n (pktOrigin f p none) s
    match p.body with
    | .fme .. => s.bump (Reg.FME_PAIRERR n)
    | _ => s.bump Reg.GLB_TUNERRCNT

/-- Is a packet the FIRST of a pair? -/
def isFirst (p : Packet) : Bool :=
  match p.body with
  | .tlp d _ => d.cont
  | .fme h _ => h.cont
  | _ => false

/-- Is `r` the REST of `p` (R335)? -/
def isRestOf (p r : Packet) : Bool :=
  r.dnode == p.dnode && r.snode == p.snode && r.vc == p.vc &&
  match p.body, r.body with
  | .tlp .., .tlpRest .. => true
  | .fme h _, .fme k _ => h.mid == k.mid && h.sfme == k.sfme && h.pidx == k.pidx && !k.cont
  | _, _ => false

/-- A packet accepted and good (R239, R335). -/
def goodPkt (n f : Nat) (p : Packet) (s : State) : State :=
  match (s.lnk n f).first with
  | some q =>
    if isRestOf q p then acceptPkt n f q (some p) (s.onLnk n f (fun l => { l with first := none }))
    else alone (dropFirst n f s)
  | none => alone s
where
  /-- The packet on its own: a FIRST waits for its REST. -/
  alone (s : State) : State :=
    if isFirst p then s.onLnk n f (fun l => { l with first := some p }) else acceptPkt n f p none s

/-- The copy of a packet in transit that cut-through has begun to send, when an error is found at the packet's end (R227): it
leaves stomped, and gives no credit back. A REST takes its FIRST with it. -/
def stompCopy (n f : Nat) (p : Packet) (s : State) : State :=
  let (p, r) := match (s.lnk n f).first with
    | some q => if isRestOf q p then (q, some p) else (p, none)
    | none => (p, none)
  if p.dnode = s.node ∨ keptPkt s n p then s
  else
    let id := s.dp.uid
    match forward n (pktOrigin f p r) p r s with
    | some s => s.onDp (fun d => { d with units := Tab.mapVals (fun k u =>
        if k = id then { u with copy := true, stomp := true } else u) d.units })
    | none => s

/-- FABRIC_PACKET_RECEIVE (R239): the receiver's action on what port `f` of station `n` reads. While framing is lost the
stream is discarded (R223). A group that cannot be corrected counts in every state in which the lanes carry data (R219).
DESIGN CHOICE (log entry 112): a stomped packet with a header error is treated as stomped. -/
def execFabricPacketReceive (n : Fin 24) (f : Fin 2) (rx : Reception) (pkt : Packet) (s : State) :
    Host.Outcome State Fault Refusal :=
  let n := n.val
  let f := f.val
  .next (
    if !fabPort s.act n f || decide (s.flState n f < 2) then s
    else match rx with
      | .groupBad =>
        let s := s.bump (Reg.FL_UNCORR n f)
        if s.flState n f < 3 then s else nakDue n f s
      | .framingLost =>
        if s.flState n f < 3 ∨ (s.lnk n f).lost then s
        else nakDue n f ((s.bump (Reg.FL_HCRCERR n f)).onLnk n f (fun l => { l with lost := true }))
      | _ =>
        if s.flState n f < 3 ∨ (s.lnk n f).lost then s else
        let s := if pkt.ackv then ackTo n f pkt.ack s else s
        let nes := (s.lnk n f).nes
        let behind := (nes + 2 ^ 16 - pkt.seq % 2 ^ 16) % 2 ^ 16
        let free (s : State) : State := if pkt.vc < 8 then giveBack n (pktOrigin f pkt none) s else s
        if pkt.seq = nes then
          if rx = .stomped then free (dropFirst n f (nesUp n f (s.bump (Reg.FL_STOMPCNT n f))))
          else if headerError pkt then
            (free (dropFirst n f (nesUp n f (s.bump (Reg.FL_TYPEERR n f))))).raiseStn n 12 f
          else match rx with
            | .crcBad begun =>
              let s := nakDue n f (s.bump (Reg.FL_CRCERR n f))
              if begun then stompCopy n f pkt s else s
            | _ => goodPkt n f pkt (nesUp n f s)
        else
          let s := s.bump (Reg.FL_DUPCNT n f)
          if 1 ≤ behind ∧ behind ≤ 32767 then s else nakDue n f s)

/-! ## Acknowledgement and replay (R237, R241) -/

/-- A replay is counted; after RPLMAX in succession FL_REPLAY is raised and a retrain requested (R241,
R242). -/
def countReplay (n f : Nat) (s : State) : State :=
  let s := s.bump (Reg.FL_RPLCNT n f)
  let l := s.lnk n f
  if max 1 (s.actF (Reg.FL_CFG n f) Fld.FL_CFG_RPLMAX) ≤ l.inRow + 1 then
    let s := (s.setLnk n f { l with inRow := 0 }).raiseStn n 11 f
    if s.flState n f = 3 then sendReq n f 0 (laneCode l.use.length) 0 s else s
  else s.setLnk n f { l with inRow := l.inRow + 1 }

/-- Short packets of subtypes that are sequenced (R230). -/
def sequenced : ShortBody → Bool
  | .ack .. | .credit .. | .timeSync .. => false
  | _ => true

/-- BACK acknowledges entries of the bypass replay region (R231). -/
def backTo (n f b : Nat) (s : State) : State :=
  let l := s.lnk n f
  let acked (x : Short) : Bool :=
    let d := (b + 256 - x.bseq) % 256
    decide (1 ≤ d) && decide (d ≤ 127)
  let rest := l.bypass.filter (fun x => !acked x)
  if rest.length = l.bypass.length then s else s.setLnk n f { l with bypass := rest, bAt := s.now }

/-- The BOUND of slot 0 shows the next boundary: a receiver that has lost framing resumes there (R223). -/
def takeBound (n f : Nat) (h : ShortHdr) (s : State) : State :=
  if h.slot = 0 ∧ h.bound ≠ 0x1FF then s.onLnk n f (fun l => { l with lost := false }) else s

/-- A short packet whose CRC checks arrives on a port that is not DOWN (R231): BOUND and BACK are taken, and a sequenced
one is accepted only in order, or when it carries the first INIT since TRAIN. -/
def shortIn (n f : Nat) (h : ShortHdr) (seqd ini : Bool) (k : State → State) (s : State) : State :=
  if fabPort s.act n f && decide (1 ≤ s.flState n f) then
    let s := backTo n f h.back (takeBound n f h s)
    if !seqd then k s
    else if ini && !(s.lnk n f).inited then k s
    else if h.bseq = (s.lnk n f).bnes then k (s.onLnk n f (fun l => { l with bnes := (l.bnes + 1) % 256 }))
    else s
  else s

/-- ACK_RECEIVE (R237). -/
def execAckReceive (n : Fin 24) (f : Fin 2) (h : ShortHdr) (nes : Nat) (s : State) :
    Host.Outcome State Fault Refusal :=
  .next (shortIn n.val f.val h false false (ackTo n.val f.val nes) s)

/-- An error in what the port keeps for its link cannot be corrected: the port goes through DOWN with INIT, and its routes are
withdrawn (R564). -/
def linkLost (n f loc : Nat) (s : State) : State := fabEnable n f (toDown n f (toTrain n f (sramUe 1 n loc s)))

/-- Replays from sequence number `a`; `err` is the check of the replay buffer at the first copy (R564): with a payload
error it leaves poisoned, with a header error the port goes through DOWN with INIT and its routes are withdrawn. -/
def replayFrom (n f a : Nat) (err : CellErr) (s : State) : State :=
  match err with
  | .header loc => linkLost n f loc s
  | .payload loc =>
    let s := (sramUe 1 n loc s).onLnk n f (fun l => { l with replay := l.replay.map (fun x =>
      if x.pkt.seq = a then { x with pkt := { x.pkt with poison := true } } else x) })
    countReplay n f (resendFrom n f a s)
  | .corrected => countReplay n f (resendFrom n f a (s.bump Reg.GLB_CECC_CNT))
  | .none => countReplay n f (resendFrom n f a s)

/-- NAK_RECEIVE (R241): the sender resends every unacknowledged packet from NES on, unless it is doing so already; a port
whose data has stopped resends as it returns to UP (R242). -/
def execNakReceive (n : Fin 24) (f : Fin 2) (h : ShortHdr) (nes : Nat) (err : CellErr) (s : State) :
    Host.Outcome State Fault Refusal :=
  .next <| settle (shortIn n.val f.val h false false (fun s =>
    let s := ackTo n.val f.val nes s
    let l := s.lnk n.val f.val
    if carries s n.val f.val && l.replay.any (fun x => x.pkt.seq == nes) && !l.rplRun.any (fun e => e.1 == nes) then
      replayFrom n.val f.val nes err s
    else s) s)

/-- REPLAY_TIMER_EXPIRE (R241): the replay timer expires. -/
def execReplayTimerExpire (n : Fin 24) (f : Fin 2) (err : CellErr) (s : State) : Host.Outcome State Fault Refusal :=
  let n := n.val
  let f := f.val
  let l := s.lnk n f
  .next <| settle (
    if l.replay ≠ [] ∧ carries s n f then
      let s := s.reach (l.rplAt + max 1 (s.actF (Reg.FL_CFG n f) Fld.FL_CFG_RPLTIME) * 100)
      let s := s.onLnk n f (fun l => { l with rplAt := s.now })
      match l.replay with
      | [] => s
      | x :: _ => replayFrom n f x.pkt.seq err s
    else s)

/-- CREDIT_RECEIVE (R234, R235): cumulative counts of one half. -/
def execCreditReceive (n : Fin 24) (f : Fin 2) (h : ShortHdr) (half : Fin 2) (c0 c1 c2 c3 : Nat) (s : State) :
    Host.Outcome State Fault Refusal :=
  .next (shortIn n.val f.val h false false (fun s =>
    let l := s.lnk n.val f.val
    let cs := [c0, c1, c2, c3].zipIdx
    let tooFar := cs.any (fun c =>
      decide (32767 < (c.1 + 2 ^ 16 - Tab.get 0 l.sent (4 * half.val + c.2)) % 2 ^ 16))
    if tooFar then s.raiseStn n.val 14 f.val
    else resched (4 * n.val + f.val) (s.setLnk n.val f.val { l with
      cumRx := cs.foldl (fun t c => Tab.put t (4 * half.val + c.2) (some (c.1 % 2 ^ 16))) l.cumRx })) s)

/-! ## Retrain and width (R242 to R248) -/

/-- The port answers a request with RETRAIN_ACK, begins no further packet, and pauses once the answer has been sent. -/
def ackRequest (n f op tw sel : Nat) (s : State) : State :=
  if (s.lnk n f).pausing.isSome then s
  else (ctrlSend n f (.retrainAck op tw sel s.node) s).onLnk n f (fun l => { l with pausing := some (op, tw, sel) })

/-- RETRAIN_REQ_RECEIVE (R242, R244). -/
def execRetrainReqReceive (n : Fin 24) (f : Fin 2) (h : ShortHdr) (op : Fin 2) (tw : Fin 8) (sel : Fin 2) (node : Nat)
    (s : State) : Host.Outcome State Fault Refusal :=
  .next (shortIn n.val f.val h true false (fun s =>
    match s.flState n.val f.val with
    | 3 => ackRequest n.val f.val op.val tw.val sel.val s
    | 4 =>
      if s.node < node then
        ackRequest n.val f.val op.val tw.val sel.val
          (s.setLivF (Reg.FL_STAT n.val f.val) Fld.FL_STAT_WITHDRAWN 1)
      else s
    | _ => s) s)

/-- RETRAIN_ACK_RECEIVE (R242). -/
def execRetrainAckReceive (n : Fin 24) (f : Fin 2) (h : ShortHdr) (op : Fin 2) (tw : Fin 8) (sel : Fin 2) (node : Nat)
    (s : State) : Host.Outcome State Fault Refusal :=
  .next (shortIn n.val f.val h true false (fun s =>
    if s.flState n.val f.val = 4 ∧ node ≠ s.node then enterPause n.val f.val op.val tw.val sel.val s else s) s)

/-- WIDTH_RECEIVE (R242, R243): FL_STAT shows the partner; before CHECK the word is kept. -/
def execWidthReceive (n : Fin 24) (f : Fin 2) (h : ShortHdr) (node stn port w nes : Nat) (ini : Bool) (s : State) :
    Host.Outcome State Fault Refusal :=
  .next <| settle (shortIn n.val f.val h true ini (fun s =>
    let s := s.setLivF (Reg.FL_STAT n.val f.val) Fld.FL_STAT_PNODE node
    let s := s.setLivF (Reg.FL_STAT n.val f.val) Fld.FL_STAT_PSTN stn
    let s := s.setLivF (Reg.FL_STAT n.val f.val) Fld.FL_STAT_PPORT port
    if s.flState n.val f.val = 1 ∧ w < 4 then
      s.onLnk n.val f.val (fun l => { l with peer := some (node, stn, port, nes, ini) })
    else applyWidth n.val f.val node stn port nes ini s) s)

/-- RETRAIN_REQ_TIMEOUT (R242): RQTIME passes in REQ; FL_LINKDOWN, and the port goes to TRAIN. -/
def execRetrainReqTimeout (n : Fin 24) (f : Fin 2) (s : State) : Host.Outcome State Fault Refusal :=
  .next <| settle (if s.flState n.val f.val = 4 then
      toTrain n.val f.val (s.reach ((s.lnk n.val f.val).since +
        max 1 (s.actF (Reg.FL_CFG n.val f.val) Fld.FL_CFG_RQTIME) * 1000))
    else s)

/-- PAUSE_TIMEOUT (R242): 10 µs pass in PAUSE; FL_LINKDOWN, and the port goes to TRAIN. -/
def execPauseTimeout (n : Fin 24) (f : Fin 2) (s : State) : Host.Outcome State Fault Refusal :=
  .next <| settle (if s.flState n.val f.val = 5 then toTrain n.val f.val (s.reach ((s.lnk n.val f.val).since + 10000)) else s)

/-- RESERVED_SUBTYPE (R230): a short packet of a reserved subtype is discarded and counted, and raises
FL_PROTO; its BOUND counts as any other's (R223). -/
def execReservedSubtype (n : Fin 24) (f : Fin 2) (h : ShortHdr) (sub : Fin 16) (s : State) :
    Host.Outcome State Fault Refusal :=
  .next (if fabPort s.act n.val f.val && decide (1 ≤ s.flState n.val f.val) && (sub.val == 0 || decide (11 ≤ sub.val))
    then ((takeBound n.val f.val h s).bump (Reg.FL_TYPEERR n.val f.val)).raiseStn n.val 14 f.val else s)

/-! ## Reserved positions (R231, R232, R240) -/

/-- The next item of the rotation ACK, CREDIT 0, ACK, CREDIT 1; an ACK carries a pending NAK. While data
credits are withheld, a CREDIT repeats the last values (R147, R273). -/
def rotation (n f : Nat) (s : State) : ShortBody × State :=
  let l := s.lnk n f
  let s := s.setLnk n f { l with rot := (l.rot + 1) % 4 }
  if l.rot % 2 = 0 then ackItem n f s
  else
    let half := l.rot / 2
    let hold := s.holdsAt n || s.livB Reg.GLB_CORE_STAT Fld.GLB_CORE_STAT_DOWN
    let s := if hold then s else s.onLnk n f (fun l => { l with cumAdv := l.cum })
    (.credit half ((List.range 4).map (fun v => Tab.get 0 (s.lnk n f).cumAdv (4 * half + v))), s)
where
  /-- An ACK, with NAK when one is pending; a NAK is counted. -/
  ackItem (n f : Nat) (s : State) : ShortBody × State :=
    let l := s.lnk n f
    let s := if l.nak then (s.setLnk n f { l with nak := false, nakSent := some (l.nes, s.now) }).bump (Reg.FL_NAKCNT n f) else s
    (.ack l.nes l.nak, s)

/-- A sequenced short packet leaves with its BSEQ and is kept until acknowledged (R231). -/
def sendSeq (n f : Nat) (b : ShortBody) (s : State) : Short × State :=
  let l := s.lnk n f
  let p : Short := ⟨l.bseq, l.bnes, b⟩
  (p, s.setLnk n f { l with
    bseq := (l.bseq + 1) % 256
    bypass := l.bypass ++ [p]
    bAt := if l.bypass = [] then s.now else l.bAt })

/-- The next routed short packet of the port's QUEUE 8 queue leaves it. -/
def nextRouted (n f : Nat) (s : State) : Option (ShortBody × State) :=
  let l := s.lnk n f
  match l.seg1 with
  | some b => some (b, s.setLnk n f { l with seg1 := none })
  | none =>
    let x := 4 * n + f
    match (s.eq x (qKey 48 8)).ready with
    | [] => none
    | c :: _ =>
      match s.unit c.1 with
      | some u =>
        match u.body with
        | .short (b :: r) =>
          let s := doneUnit c.1 (dropCell x (qKey 48 8) s)
          some (b, s.onLnk n f (fun l => { l with seg1 := r.head? }))
        | _ => none
      | none => none

/-- What slot 1 carries (R232). -/
def slot1 (n f : Nat) (credit0 : Bool) (s : State) : Short × State :=
  let l := s.lnk n f
  let plain (b : ShortBody × State) : Short × State := (⟨0, l.bnes, b.1⟩, b.2)
  let room := decide (l.bypass.length < 127)
  if credit0 && l.nak then plain (rotation.ackItem n f s)
  else match l.bResend.bind (fun b => l.bypass.find? (fun x => decide ((x.bseq + 256 - b) % 256 < 128))) with
    | some x =>
      let after := (l.bypass.dropWhile (fun y => y.bseq != x.bseq)).drop 1
      ({ x with back := l.bnes }, s.setLnk n f { l with bResend := after.head?.map (fun y => y.bseq) })
    | none =>
      match l.ctrl, room with
      | b :: r, true => sendSeq n f b (s.setLnk n f { l with ctrl := r, bResend := none })
      | _, _ =>
        match if room then nextRouted n f s else none with
        | some (b, s) => sendSeq n f b s
        | none =>
          match l.tsResp with
          | t :: r =>
            let turn := s.ft - t.t2
            let b := ShortBody.timeSync true t.tag (s.livB Reg.GLB_FT_STAT Fld.GLB_FT_STAT_SYNC) t.t2 (min 0xFFFF turn)
            plain (b, s.setLnk n f { l with tsResp := r })
          | [] =>
            if l.tsReq then
              plain (.timeSync false l.tsTag false s.ft 0,
                s.setLnk n f { l with tsReq := false, tsT1 := some s.ft })
            else plain (rotation n f s)

/-- What is left of packets after `k` bytes of the stream have been sent. -/
def pass : Nat → List Nat → List Nat
  | _, [] => []
  | k, a :: l => if a ≤ k then pass (k - a) l else (a - k) :: l

/-- BOUND at a reserved position with `l` still to be sent: none before the next reserved position, 2,016 bytes on, is 0x1FF
(R223). -/
def boundOf (l : List Nat) : Nat :=
  match l with
  | [] => 0
  | a :: _ => if 2016 ≤ a then 0x1FF else a / 4

/-- The stream runs to the next unit position with UPN 63 and past it (R220). DESIGN CHOICE (log entry 115): the packets given
to it since the last one stand back to back from there, and idle words follow them. -/
def toReserved (n f : Nat) (s : State) : State :=
  s.onLnk n f (fun l => { l with
    upn := (l.upn / 64 + 1) * 64
    stream := pass 2016 l.stream
    rplRun := l.rplRun.bind (fun e => if e.2 ≤ 2016 then none else some (e.1, e.2 - 2016)) })

/-- RESERVED_POSITION_SEND (R220, R223, R232): a reserved position of port `f`, with UPN 63, leaves with two short packets; a
port that has answered a request pauses once its RETRAIN_ACK has left (R242). -/
def execReservedPositionSend (n : Fin 24) (f : Fin 2) (s : State) : Host.Outcome State Fault Refusal :=
  let n := n.val
  let f := f.val
  .next (
    if fabPort s.act n f && decide (2 ≤ s.flState n f) && decide (s.flState n f ≤ 4) then
      let s := toReserved n f s
      let bound := boundOf (s.lnk n f).stream
      let credit0 := (s.lnk n f).rot % 2 == 1
      let (b0, s) := rotation n f s
      let p0 : Short := ⟨0, (s.lnk n f).bnes, b0⟩
      let (p1, s) := slot1 n f credit0 s
      let s := s.emit (.reserved n f bound p0 p1)
      match (s.lnk n f).pausing, p1.body with
      | some (op, tw, sel), .retrainAck .. => enterPause n f op tw sel s
      | _, _ => s
    else s)

/-- BYPASS_REPLAY_EXPIRE (R231, R564): BACK has not advanced for BTIME; every outstanding sequenced short packet
is sent again. `err` is the check of the region at the first of them. DESIGN CHOICE (log entry 118): a short packet has no
poison bit, and an error that is not correctable takes the port through DOWN as one in a header does. -/
def execBypassReplayExpire (n : Fin 24) (f : Fin 2) (s : State) (err : CellErr := .none) :
    Host.Outcome State Fault Refusal :=
  let n := n.val
  let f := f.val
  .next <| settle (match (s.lnk n f).bypass with
    | [] => s
    | x :: _ =>
      let s := s.reach ((s.lnk n f).bAt + max 1 (s.actF (Reg.FL_CFG n f) Fld.FL_CFG_BTIME) * 100)
      let again (s : State) : State :=
        (s.bump (Reg.FL_BPLCNT n f)).onLnk n f (fun l => { l with bResend := some x.bseq, bAt := s.now })
      match err with
      | .none => again s
      | .corrected => again (s.bump Reg.GLB_CECC_CNT)
      | .payload loc | .header loc => linkLost n f loc s)

end Sys2Proof.Machine
end

