-- ==== Sys2Proof/Machine/FabricTime.lean ====
section
/-! DEFINITION. Fabric time: exchanges with a parent, loading a source, PPS (R107, R249 to R252). -/

namespace Sys2Proof.Machine

/-- Fabric time is loaded (R249, R252); the window in progress ends (R517). -/
def loadFt (t : Nat) (s : State) : State :=
  let s := endWindow s
  let s := { s with ft := t % 2 ^ 64 }
  let s := s.onTime (fun r => { r with loaded := true, waitLoad := none, slew := 0, acc := 0 })
  sourceSync (s.setLivF Reg.GLB_FT_STAT Fld.GLB_FT_STAT_VALID 1)

/-- GLB_FT_SET_HI: a source loads its time at once, or at the next rising edge of PPS_IN when PPSEN is 1;
on a follower the register is only stored (R249). -/
def ftSetRule : LiveRule where
  sel := fun a _ => a == Reg.GLB_FT_SET_HI
  eff := fun _ _ a v =>
    { act := fun s =>
        let s := s.setLiv a v
        let t := s.liv64 Reg.GLB_FT_SET_LO
        if !isSource s then s
        else if ppsEn s then s.onTime (fun r => { r with waitLoad := some t })
        else loadFt t s }

/-- FT_SET_WRITE. -/
def execFtSetWrite (s : State) : Host.Outcome State Fault Refusal := liveStep ftSetRule s

/-- Time is slewed by a phase, and its rate corrected: the new rate, within 100 ppm of the free-running value, is a free
value, as R251 gives no figure (log entry 63). -/
def slewBy (phase : Int) (s : State) : State :=
  let r : Int := (Config.free s.fresh % 200001 : Nat) - 100000
  s.draw.onTime (fun t => { t with slew := phase, rate := r })

/-- Nanoseconds from a fabric time to the nearest whole second. -/
def toSecond (t : Nat) : Int :=
  let r := t % 1000000000
  if r < 500000000 then -(r : Int) else 1000000000 - (r : Int)

/-- PPS_IN_EDGE (R249, R252): a rising edge of PPS_IN. -/
def execPpsInEdge (s : State) : Host.Outcome State Fault Refusal :=
  let s := s.setLivF Reg.GLB_FT_STAT Fld.GLB_FT_STAT_PPSOK 1
  let s := s.onTime (fun r => { r with ppsAt := some s.now })
  .next (
    if isSource s && ppsEn s then
      match s.dp.time.waitLoad with
      | some t => loadFt t s
      | none => sourceSync (if s.dp.time.loaded then slewBy (toSecond s.ft) s else s)
    else sourceSync s)

/-- PPSOK_EXPIRE (R252): 1.1 s have passed since the last rising edge of PPS_IN. -/
def execPpsokExpire (s : State) : Host.Outcome State Fault Refusal :=
  .next (match s.dp.time.ppsAt with
    | none => s
    | some t =>
      if s.livB Reg.GLB_FT_STAT Fld.GLB_FT_STAT_PPSOK then
        sourceSync ((s.reach (t + 1100000000)).setLivF Reg.GLB_FT_STAT Fld.GLB_FT_STAT_PPSOK 0)
      else s)

/-- PPS_OUT_SECOND (R107): fabric time reaches the next whole second, and PPS_OUT gives a pulse. -/
def execPpsOutSecond (s : State) : Host.Outcome State Fault Refusal :=
  let t := (s.ft / 1000000000 + 1) * 1000000000
  let s := s.reachFt t
  .next (s.emit (.pps t))

/-- The parent port of a follower. -/
def parentPort (s : State) : Nat × Nat :=
  let w := s.act Reg.GLB_FT_CTL
  (fget w Fld.GLB_FT_CTL_PSTN, fget w Fld.GLB_FT_CTL_PPORT)

/-- TIME_SYNC_PERIOD (R249, R252): the exchange period passes on a follower. An exchange without a valid
response is a miss; eight in succession clear SYNC. -/
def execTimeSyncPeriod (s : State) : Host.Outcome State Fault Refusal :=
  let (n, f) := parentPort s
  .next (
    if isSource s || decide (24 ≤ n) then s
    else
      let s := s.reach (s.dp.time.at_ + 2 ^ min 10 (s.actF Reg.GLB_FT_CTL Fld.GLB_FT_CTL_PERIOD) * 1000)
      let s := s.onTime (fun r => { r with at_ := s.now })
      let l := s.lnk n f
      let s := if l.tsT1.isSome || l.tsReq then
          let m := s.dp.time.misses + 1
          let s := s.onTime (fun r => { r with misses := m, good := 0 })
          if 8 ≤ m then syncClear s else s
        else s
      if fabPort s.act n f && decide (s.flState n f = 3) then
        s.onLnk n f (fun l => { l with tsReq := true, tsTag := !l.tsTag, tsT1 := none })
      else s)

/-- TIME_SYNC_REQUEST_RECEIVE (R250): the arrival time is kept for the answer of a port that is UP. -/
def execTimeSyncRequestReceive (n : Fin 24) (f : Fin 2) (h : ShortHdr) (tag : Bool) (_time : Nat) (s : State) :
    Host.Outcome State Fault Refusal :=
  .next (shortIn n.val f.val h false false (fun s =>
    if s.flState n.val f.val = 3 then
      s.onLnk n.val f.val (fun l => { l with tsResp := l.tsResp ++ [{ tag := tag, t2 := s.ft }] })
    else s) s)

/-- A signed value held to 32 bits, saturating (GLB_FT_OFFSET). -/
def sat32 (x : Int) : Int := max (-(2 ^ 31)) (min (2 ^ 31 - 1) x)

/-- A valid response: offset and delay are shown, and time is stepped or slewed; SYNC follows (R250 to
R252). -/
def tsMeasure (offset delay : Int) (psync : Bool) (s : State) : State :=
  let s := s.setLivN Reg.GLB_FT_OFFSET (unsigned 32 (sat32 offset))
  let s := s.setLivN Reg.GLB_FT_DELAY (unsigned 32 delay)
  let s := if offset.natAbs ≤ 1000 then slewBy offset s
    else
      let s := endWindow s
      let s := { s with ft := ((s.ft : Int) + offset).toNat % 2 ^ 64 }
      (s.onTime (fun r => { r with slew := 0, acc := 0 })).setLivF Reg.GLB_FT_STAT Fld.GLB_FT_STAT_STEP 1
  let s := s.setLivF Reg.GLB_FT_STAT Fld.GLB_FT_STAT_VALID 1
  let good := if offset.natAbs ≤ 10 ∧ psync then s.dp.time.good + 1 else 0
  let s := s.onTime (fun r => { r with good := good, misses := 0 })
  if !psync then syncClear s
  else if 4 ≤ good then s.setLivF Reg.GLB_FT_STAT Fld.GLB_FT_STAT_SYNC 1
  else s

/-- TIME_SYNC_RESPONSE_RECEIVE (R250 to R252): `time` is t2 and `turn` is t3 - t2; a response to another TAG,
or with TURN = 0xFFFF, is ignored. -/
def execTimeSyncResponseReceive (n : Fin 24) (f : Fin 2) (h : ShortHdr) (tag psync : Bool) (time turn : Nat)
    (s : State) : Host.Outcome State Fault Refusal :=
  let n := n.val
  let f := f.val
  .next (shortIn n f h false false (fun s =>
    let l := s.lnk n f
    match l.tsT1 with
    | none => s
    | some t1 =>
      if isParent s n f && tag == l.tsTag && turn != 0xFFFF then
        let d1 : Int := (time : Int) - t1
        let d2 : Int := (s.ft : Int) - (time + turn : Nat)
        let s := s.setLnk n f { l with tsT1 := none }
        tsMeasure ((d1 - d2) / 2 + signed 16 (s.actF (Reg.FT_ASYM n) Fld.FT_ASYM_ASYM)) ((d1 + d2) / 2) psync s
      else s) s)

end Sys2Proof.Machine
end

