-- ==== Sys2Proof/Machine/Tunnel.lean ====
section
/-! DEFINITION. Wires, locked sequences, posted-failure notices, management packets and route rejoin
(R338 to R351, R355). -/

namespace Sys2Proof.Machine

/-! ## Routed short packets received -/

/-- Can a routed short packet for node `d` go on: for another node, its QUEUE 8 queue has room (R307)? -/
def routedRoom (s : State) (d : Nat) : Bool :=
  if d = s.node then true
  else match selectSlot s d 0 with
    | some (_, (n, f)) => decide ((s.eq (4 * n + f) (qKey 48 8)).tail.length < 12)
    | none => true

/-- A SEG 0 whose SEG 1 does not come next is discarded and counted (R344). -/
def breakSeg (n f : Nat) (s : State) : State :=
  match (s.lnk n f).seg0 with
  | some _ => (s.onLnk n f (fun l => { l with seg0 := none })).bump Reg.GLB_TUNERRCNT
  | none => s

/-- A routed short packet for node `d`: one that finds its queue full does not advance BNES (R307); otherwise
it is taken in order, and breaks a pair in waiting unless it is its SEG 1. -/
def routedIn (n f : Nat) (h : ShortHdr) (d : Nat) (seg1 : Bool) (k : State → State) (s : State) : State :=
  if routedRoom s d then shortIn n f h true false (fun s => k (if seg1 then s else breakSeg n f s)) s
  else if fabPort s.act n f && decide (1 ≤ s.flState n f) then backTo n f h.back (takeBound n f h s)
  else s

/-- WIRE_RECEIVE (R351). -/
def execWireReceive (n : Fin 24) (f : Fin 2) (h : ShortHdr) (dnode wire : Nat) (level : Bool) (wcnt : Nat) (s : State) :
    Host.Outcome State Fault Refusal :=
  .next (routedIn n.val f.val h dnode false
    (fun s => sendShort n.val [.wire dnode 0 wire level wcnt] s (.fabric f.val 0 0)) s)

/-! ## Wires (R350) -/

/-- Wire `w` as the fabric keeps it. -/
def wireOf (s : State) (w : Nat) : Wire := Tab.get {} s.dp.fab.wires w

/-- Sends the present level of source wire `w`. -/
def sendWire (w : Nat) (s : State) : State :=
  let e := (s.act (Reg.GLB_WIRE w)).toNat
  let x := wireOf s w
  sendShort (bits e 2 5) [.wire (bits e 9 12) 0 (bits e 21 8) x.level x.wcnt] s

/-- Writes wire `w`. -/
def setWire (w : Nat) (x : Wire) (s : State) : State :=
  s.onFab (fun f => { f with wires := Tab.set {} f.wires w x })

/-- Is entry `w` an enabled source? -/
def isSourceWire (s : State) (w : Nat) : Bool :=
  let e := (s.act (Reg.GLB_WIRE w)).toNat
  bit e 0 && !bit e 1

/-- WIRE_SAMPLE (R350): a sample of the pin of source entry `w`; a level seen twice in succession is the
wire's. -/
def execWireSample (w : Fin 256) (pin : Bool) (s : State) : Host.Outcome State Fault Refusal :=
  let x := wireOf s w.val
  .next (
    if !isSourceWire s w.val then s
    else if x.last = some pin ∧ x.level ≠ pin then
      sendWire w.val (setWire w.val { x with level := pin, wcnt := (x.wcnt + 1) % 256, last := some pin } s)
    else setWire w.val { x with last := some pin } s)

/-- WIRE_REFRESH (R350): the refresh interval of source entry `w` passes. -/
def execWireRefresh (w : Fin 256) (s : State) : Host.Outcome State Fault Refusal :=
  .next (
    if isSourceWire s w.val then
      let s := s.reach ((wireOf s w.val).at_ + max 1 ((s.act Reg.GLB_WIRE_CFG).toNat % 2 ^ 8) * 10000)
      sendWire w.val (setWire w.val { wireOf s w.val with at_ := s.now } s)
    else s)

/-! ## Locked sequences (R347 to R349) -/

/-- The far edge's answer for port `x`. -/
def lockAnswer (src x node port ltag res : Nat) (s : State) : State :=
  let s := s.onFab (fun f => { f with answers := Tab.put f.answers x ⟨node, port, ltag, res⟩ })
  sendShort src [.lockGnt node port s.node x ltag res] s

/-- A LOCK_REQ at the far edge (R347, R348). OP = 1 releases; a repeat of the last answered request is
answered with the same answer. -/
def lockReqHere (src x snode sport part ltag op : Nat) (s : State) : State :=
  if op = 1 then
    match (s.eport x).lock with
    | .remote a b _ _ => if a = snode ∧ b = sport then setLock x .free s else s
    | _ => s
  else
    let again := (Tab.find s.dp.fab.answers x).filter (fun a => a.node == snode && a.port == sport && a.ltag == ltag)
    match again with
    | some a => lockAnswer src x snode sport ltag a.res s
    | none =>
      let e := (s.act (Reg.GLB_EXP x 0)).toNat
      let ok := isExported s.act x && bits e 0 12 == snode && bits e 12 6 == part
      let own := s.dp.fab.locks.any (fun l => l.outstanding) && decide (snode < s.node)
      if ok && !own && (s.eport x).lock == .free then
        lockAnswer src x snode sport ltag 0 (setLock x (.remote snode sport ltag s.now) s)
      else lockAnswer src x snode sport ltag 1 s

/-- LOCK_REQ_RECEIVE (R347). -/
def execLockReqReceive (n : Fin 24) (f : Fin 2) (h : ShortHdr) (dnode dport snode sport part ltag op : Nat) (s : State) :
    Host.Outcome State Fault Refusal :=
  .next (routedIn n.val f.val h dnode false (fun s =>
    if dnode = s.node then lockReqHere n.val (dport % 96) snode sport part ltag op s
    else sendShort n.val [.lockReq dnode dport snode sport part ltag op] s (.fabric f.val 0 0)) s)

/-- A LOCK_GNT at the originating edge (R347, R349). -/
def lockGntHere (ltag res : Nat) (s : State) : State :=
  match s.dp.fab.locks.find? (fun l => l.ltag == ltag) with
  | none => s
  | some l =>
    match res with
    | 0 =>
      if l.outstanding then
        (lockWaiting s l.part l.imp).foldl (fun s id => waitUnit id .none s)
          (onLock ltag (fun l => { l with granted := true, outstanding := false }) s)
      else s
    | 1 =>
      if l.outstanding then
        let k := l.refusals + 1
        if max 1 (s.actF Reg.GLB_TUN_CFG Fld.GLB_TUN_CFG_LRETRY) ≤ k then
          let s := (endLock ltag s).bump Reg.GLB_LOCKREFCNT
          let s := (lockWaiting s l.part l.imp).foldl (fun s id =>
            match (s.unit id).map (fun u => u.body) with
            | some (Body.pkt p _) => match p.body with
              | PBody.tlp _ t => sendLocal (l.up / 4) .internal l.part l.up 0 (complete t 1) (withdraw id s)
              | _ => s
            | _ => s) s
          s.raise (gEvt 15) (some l.part)
        else
          let wait := max 1 (s.actF Reg.GLB_TUN_CFG Fld.GLB_TUN_CFG_LBACK) * (1 + s.node % 4) * 1000
          onLock ltag (fun l => { l with refusals := k, outstanding := false, backoff := some (s.now + wait) }) s
      else s
    | 2 => endLock ltag s
    | _ => s

/-- LOCK_GNT_RECEIVE (R347). -/
def execLockGntReceive (n : Fin 24) (f : Fin 2) (h : ShortHdr) (dnode dport snode sport ltag res : Nat) (s : State) :
    Host.Outcome State Fault Refusal :=
  .next (routedIn n.val f.val h dnode false (fun s =>
    if dnode = s.node then lockGntHere ltag res s
    else sendShort n.val [.lockGnt dnode dport snode sport ltag res] s (.fabric f.val 0 0)) s)

/-- LOCK_BACKOFF_EXPIRE (R349): the backoff of the oldest refused sequence passes, and a new LOCK_REQ goes out
with a fresh LTAG. -/
def execLockBackoffExpire (s : State) : Host.Outcome State Fault Refusal :=
  .next (match s.dp.fab.locks.find? (fun l => l.backoff.isSome) with
    | none => s
    | some l =>
      let s := s.reach (l.backoff.getD 0)
      let tag := s.dp.fab.ltag
      let s := s.onFab (fun f => { f with ltag := (f.ltag + 1) % 256 })
      let s := onLock l.ltag (fun l => { l with ltag := tag, backoff := none, outstanding := true }) s
      lockReq { l with ltag := tag } 0 s)

/-- LOCK_HOLD_EXPIRE (R349): the far edge has held port `x` for LHOLD ms: it sends the Unlock message itself,
releases, answers with RES = 2 and raises TUN_LOCK. -/
def execLockHoldExpire (x : Fin 96) (s : State) : Host.Outcome State Fault Refusal :=
  .next (match (s.eport x.val).lock with
    | .remote node port ltag t =>
      let s := s.reach (t + max 1 (s.actF Reg.GLB_TUN_CFG Fld.GLB_TUN_CFG_LHOLD) * 1000000)
      let part := bits (s.act (Reg.GLB_EXP x.val 0)).toNat 12 6
      let s := sendLocal (x.val / 4) .internal part x.val 0 { kind := .unlock } (setLock x.val .free s)
      (lockAnswer (x.val / 4) x.val node port ltag 2 s).raise (gEvt 15)
    | _ => s)

/-! ## Posted-failure notices (R344, R345) -/

/-- PFN_RECEIVE (R344, R345): a segment of a notice. SEG 0 waits for the next routed short packet of its port;
a pair is handled here or goes on. -/
def execPfnReceive (n : Fin 24) (f : Fin 2) (h : ShortHdr) (seg : ShortBody) (s : State) :
    Host.Outcome State Fault Refusal :=
  let n := n.val
  let f := f.val
  .next (match seg with
    | .pfn0 _ d _ _ _ _ =>
      routedIn n f h d false (fun s => s.onLnk n f (fun l => { l with seg0 := some seg })) s
    | .pfn1 tag d _ =>
      routedIn n f h d true (fun s =>
        match (s.lnk n f).seg0 with
        | some (.pfn0 g d' q req hi cause) =>
          if g = tag ∧ d' = d then
            sendShort n [.pfn0 g d' q req hi cause, seg] (s.onLnk n f (fun l => { l with seg0 := none })) (.fabric f 0 0)
          else (breakSeg n f s).bump Reg.GLB_TUNERRCNT
        | _ => s.bump Reg.GLB_TUNERRCNT) s
    | _ => s)

/-! ## Management packets (R338 to R341) -/

/-- The oldest MGMT packet of an OP that waits at this node is served by `k`, and its room in the ingress cell
buffer comes back. -/
def mgmtServe (op : Nat) (k : Nat → Bool → Nat → Bool → List DWord → State → State) (s : State) : State :=
  let isOp (e : Packet × Origin × Nat) : Bool := match e.1.body with
    | .mgmt o .. => o == op
    | _ => false
  match takeFirst isOp s.dp.fab.mgmt with
  | none => s
  | some ((p, o, n), rest) =>
    match p.body with
    | .mgmt _ fin port assert ws =>
      let s := ingUse n (o == .internal) (-(halvesOf (32 * p.len) : Int)) (s.onFab (fun f => { f with mgmt := rest }))
      k p.snode fin port assert ws (giveBack n o s)
    | _ => s

/-- The remote manager's mailbox index that a node holds (GLB_RMGR). -/
def rmgrOf (s : State) (node : Nat) : Option Nat :=
  firstBelow 4 (fun i =>
    s.actB (Reg.GLB_RMGR i) Fld.GLB_RMGR_EN && s.actF (Reg.GLB_RMGR i) Fld.GLB_RMGR_NODE == node)

/-- Words placed in a mailbox, the last one with the end mark when `fin` holds. -/
def wordsIn (m : Nat) (fin : Bool) : List DWord → State → State
  | [], s => s
  | [w], s => wordIn m w fin s
  | w :: l, s => wordsIn m fin l (wordIn m w false s)

/-- MGMT_IN_RECEIVE (R340): the words of the oldest IN packet go to the mailbox of the remote manager that
sent it; with no such manager it is discarded and counted. -/
def execMgmtInReceive (s : State) : Host.Outcome State Fault Refusal :=
  .next (mgmtServe 1 (fun node fin _ _ ws s =>
    match rmgrOf s node with
    | some i => if mboxOpen s (52 + i) then wordsIn (52 + i) fin ws s else s
    | none => s.bump Reg.GLB_TUNERRCNT) s)

/-- MGMT_OUT_RECEIVE (R340): the oldest OUT packet goes to GLB_MRX behind a word that describes it, once
there is room. -/
def execMgmtOutReceive (s : State) : Host.Outcome State Fault Refusal :=
  let room := (s.dp.fab.mgmt.find? (fun e => match e.1.body with
    | .mgmt o .. => o == 2
    | _ => false)).elim 0 (fun e => match e.1.body with
      | .mgmt _ _ _ _ ws => ws.length
      | _ => 0)
  .next (
    if s.dp.fab.mrx.length + room + 1 ≤ 1024 then
      mgmtServe 2 (fun node fin _ _ ws s =>
        let head : DWord := BitVec.ofNat 64 (node + ws.length * 2 ^ 12 + b2n fin * 2 ^ 21)
        s.onFab (fun f => { f with mrx := f.mrx ++ (head, true) :: ws.map (fun w => (w, false)) })) s
    else s)

/-- The reset of a slot's port begins or ends on its side of a tunnel (R203, R338). -/
def portReset (x : Nat) (assert : Bool) (s : State) : State :=
  if assert then
    let s := { s with parts := { s.parts with portRst := x :: s.parts.portRst.filter (fun y => y != x) } }
    pcieDown x 9 (perstFall (x / 4) s)
  else { s with parts := { s.parts with portRst := s.parts.portRst.filter (fun y => y != x) } }

/-- MGMT_PRESET_RECEIVE (R338): the oldest PRESET packet acts on the exported port it names when it comes from
the importing node; else it is discarded and counted. -/
def execMgmtPresetReceive (s : State) : Host.Outcome State Fault Refusal :=
  .next <| settle (mgmtServe 3 (fun node _ port assert _ s =>
    if port < 96 ∧ isExported s.act port ∧ (s.act (Reg.GLB_EXP port 0)).toNat % 2 ^ 12 = node
    then portReset port assert s else s.bump Reg.GLB_TUNERRCNT) s)

/-- MGMT_OUT_SEND (R340): up to 511 words of the oldest outbound packet of MBOX[52 + i] leave as an OUT
packet, END on the last of them. -/
def execMgmtOutSend (i : Fin 4) (s : State) : Host.Outcome State Fault Refusal :=
  let m := 52 + i.val
  let q := (s.mb m).outq
  .next (
    if s.actB (Reg.GLB_RMGR i.val) Fld.GLB_RMGR_EN && decide (pktCount q ≠ 0) then
      let ws := (firstPacket q).1.take 511
      let fin := decide ((firstPacket q).1.length ≤ 511)
      let s := s.setMb m { s.mb m with outq := q.drop ws.length }
      sendMgmt (s.actF (Reg.GLB_RMGR i.val) Fld.GLB_RMGR_NODE) 2 fin 0 false (ws.map (fun w => w.word)) s
    else s)

/-- GLB_MTX_HI: the word of the two halves joins the remote send buffer; a full buffer sets OVF (R341). -/
def mtxHiRule : LiveRule where
  sel := fun a _ => a == Reg.GLB_MTX_HI
  eff := fun _ _ a v =>
    { act := fun s =>
        let s := s.setLiv a v
        if s.dp.fab.mtx.length < 511 then
          s.onFab (fun f => { f with mtx := f.mtx ++ [v ++ s.liv Reg.GLB_MTX_LO] })
        else s.setLivF Reg.GLB_MTX_CTL Fld.GLB_MTX_CTL_OVF 1 }

/-- The remote send buffer leaves as one IN packet for node `d` (R341). -/
def mtxSend (d : Nat) (fin : Bool) (s : State) : State :=
  sendMgmt d 1 fin 0 false s.dp.fab.mtx (s.onFab (fun f => { f with mtx := [] }))

/-- GLB_MTX_CTL: with SEND = 1 the buffer leaves as one IN packet and is empty (R341). SEND reads 0. -/
def mtxCtlRule : LiveRule where
  sel := fun a _ => a == Reg.GLB_MTX_CTL
  eff := fun s t a v =>
    let e := plainEffect s t a v
    { e with act := fun s =>
        let s := (e.act s).setLivF Reg.GLB_MTX_CTL Fld.GLB_MTX_CTL_SEND 0
        if fget v Fld.GLB_MTX_CTL_SEND = 1
        then mtxSend (fget v Fld.GLB_MTX_CTL_DNODE) (fget v Fld.GLB_MTX_CTL_END == 1) s else s }

/-- MTX_HI_WRITE. -/
def execMtxHiWrite (s : State) : Host.Outcome State Fault Refusal := liveStep mtxHiRule s

/-- MTX_SEND: the write of GLB_MTX_CTL with SEND = 1. -/
def execMtxSend (s : State) : Host.Outcome State Fault Refusal :=
  liveStep { mtxCtlRule with sel := fun a v => a == Reg.GLB_MTX_CTL && fget v Fld.GLB_MTX_CTL_SEND == 1 } s

/-! ## Rejoin (R355) -/

/-- Port `f` of station `n` rejoins when it is withdrawn and UP, else REJ is set (R355). -/
def rejoin (n f : Nat) (s : State) : State :=
  if n < 24 ∧ withdrawn s n f ∧ s.flState n f = 3 then
    (setWithdrawn n f false s).onFab (fun g => { g with moved := Tab.put g.moved (2 * n + f) s.now })
  else s.setLivF Reg.GLB_RT_REJOIN Fld.GLB_RT_REJOIN_REJ 1

/-- GLB_RT_REJOIN with GO = 1: a withdrawn port that is UP rejoins, else REJ is set. GO reads 0. -/
def rejoinRule : LiveRule where
  sel := fun a _ => a == Reg.GLB_RT_REJOIN
  eff := fun s t a v =>
    let e := plainEffect s t a v
    { e with act := fun s =>
        let s := (e.act s).setLivF Reg.GLB_RT_REJOIN Fld.GLB_RT_REJOIN_GO 0
        if fget v Fld.GLB_RT_REJOIN_GO = 1
        then rejoin (fget v Fld.GLB_RT_REJOIN_STN) (fget v Fld.GLB_RT_REJOIN_PORT) s else s }

/-- RT_REJOIN: the write of GLB_RT_REJOIN with GO = 1. -/
def execRtRejoin (s : State) : Host.Outcome State Fault Refusal :=
  liveStep { rejoinRule with sel := fun a v => a == Reg.GLB_RT_REJOIN && fget v Fld.GLB_RT_REJOIN_GO == 1 } s

/-- MOVEHOLD_EXPIRE (R355): MOVEHOLD passes after the last withdrawal or rejoin of port `f` of station `n`,
and the pinned packets held for it may leave. -/
def execMoveholdExpire (n : Fin 24) (f : Fin 2) (s : State) : Host.Outcome State Fault Refusal :=
  .next (match Tab.find s.dp.fab.moved (2 * n.val + f.val) with
    | some t => s.reach (t + (s.act Reg.GLB_RT_CFG).toNat % 2 ^ 10 * 1000)
    | none => s)

end Sys2Proof.Machine
end

