-- ==== Sys2Proof/Machine/Ports.lean ====
section
/-! DEFINITION. PCI Express ports: link-up and link-down, lane failures, power states, retrain and width commands, DPC,
the reset of a partition (R186, R199 to R214). -/

namespace Sys2Proof.Machine

/-! ## Shared operations -/

/-- Writes a field of PORT_STAT. -/
def setP (x : Nat) (f : Fld) (v : Nat) (s : State) : State := s.setLivF (Reg.PORT_STAT (x / 4) (x % 4)) f v
/-- LTSSM: 0 Detect, 3 L0, 4 Recovery, 5 L1, 7 Disabled, 9 Hot Reset (R213). -/
def ltssm (s : State) (x : Nat) : Nat := pStat s x Fld.PORT_STAT_LTSSM

/-- Data Link Layer State Changed on a hot-plug port (R201, log entry 8). -/
def dllChanged (x : Nat) (s : State) : State := if hasSlot s x then bridgeSet x .slotCtl 0x01000000 s else s

/-- DPC triggers at port `x` for a reason (R206): the link is Disabled, and what waits at the port is answered. -/
def dpcTrigger (x reason : Nat) (s : State) : State :=
  if dpcOn s x then s
  else
    let s := setP x Fld.PORT_STAT_DPC 1 s
    let s := bridgeSet x .dpcStat (1 + 2 * reason) s
    let s := dllChanged x (pcieDown x 7 s)
    s.raiseStn (x / 4) 13 (x % 4)

/-- What a reset of partition `q` does downstream: PERST_N low, Hot Reset, PRESET to imports, FLR of bound VFs. -/
def resetBridges (q : Nat) (s : State) : State :=
  let s := (List.range 24).foldl (fun s n =>
    let h := homeStn s.act n
    if (slotPorts s n).any (fun p => portPart s.act h p == q && !isExported s.act (4 * h + p)) then perstFall n s else s) s
  let s := (bridges s.regs.active q).foldl (fun s b => match b with
    | .loc x => dllChanged x (pcieDown x 9 s)
    | .imp k => sendMgmt (importOf s k).2.1 3 false (importOf s k).2.2.1 true [] s
    | .shr _ => s) s
  ((bindings s.regs.active).filter (fun b => b.part == q)).foldl (fun s b => flrVf b s) s

/-- What a reset of partition `q` does to the engines. -/
def resetEngines (q : Nat) (s : State) : State :=
  let own (s : State) (o : Owner) : Bool := ownerPart s o == some q
  let s := (queuesOf s (own s)).foldl (fun s i => resetQueue i s) s
  let s := (chansOf s (own s)).foldl (fun s c => resetChan c s) s
  let s := ((List.range 4096).filter (fun t => sliceBound s t && slicePart s t == q)).foldl (fun s t => resetSlice t s) s
  purgePart q s

/-- The functions of partition `q` are reset at its upstream port `x`, with a Hot Reset or without (R203). -/
def partReset (q x : Nat) (hot : Bool) (s : State) : State :=
  let s := dropHeld q (resetLocks q x s)
  let s := { s with parts := { s.parts with
    inReset := q :: s.parts.inReset.filter (fun r => r != q)
    rstAt := Tab.put s.parts.rstAt q s.now
    aerLog := Tab.del s.parts.aerLog q } }
  let s := pcieDown x (if hot then 9 else 0) s
  resetEngines q (resetBridges q (s.resetCfg q))

/-- Port `x` goes down as Surprise Down: AER, then DPC (R206, R209); at an upstream port it is a DL_Down, which resets the
partition (R203). -/
def surpriseDown (x : Nat) (s : State) : State :=
  if isUpstream s.act (x / 4) (x % 4) then partReset (portPart s.act (x / 4) (x % 4)) x false s
  else
    dpcTrigger x 0 (aerError (bridgeFn s x).1 (bridgeFn s x).2 aerSurpriseDown 2 s)

/-! ## Link up and down -/

/-- Does a host hold the link of downstream port `x` down: Link Disable or Secondary Bus Reset of its bridge, or Secondary
Bus Reset of the partition's upstream bridge (log entry 8)? -/
def linkHeld (s : State) (x : Nat) : Bool :=
  bit (bridgeR s x .linkCtl) 4 || bit (bridgeR s x .bridgeCtl) 22 ||
  bit (s.cfgR (bridgeFn s x).1 0 .bridgeCtl).toNat 22

/-- May port `x` leave Detect (R192, R203, R206)? -/
def mayTrain (s : State) (x : Nat) : Bool :=
  let v := (s.act Reg.GLB_PCIID).toNat % 2 ^ 16
  isPcie s x && v != 0 && v != 0xFFFF && !dpcOn s x && s.rst.warm == .idle && !s.parts.portRst.contains x &&
  (isUpstream s.act (x / 4) (x % 4) || isExported s.act x ||
    (!s.parts.inReset.contains (portPart s.act (x / 4) (x % 4)) && !linkHeld s x))

/-- Set_Slot_Power_Limit leaves a port with a slot. -/
def sendSlotLimit (x : Nat) (s : State) : State :=
  if hasSlot s x then
    s.emit (.tlp (x / 4) (x % 4) { kind := .msgDown, data := toBytes 4 (slotLimit (s.stnRec (x / 4)).slotw) })
  else s

/-- The lanes in use at width `w` in logical order: the lowest, or with lane reversal the highest. -/
def useOf (lanes w : Nat) (rev : Bool) : List Nat :=
  if rev then (List.range lanes).reverse.take w else List.range w

/-- PORT_STAT shows the width in use and its orientation. -/
def showWidth (x : Nat) (use : List Nat) (rev : Bool) (s : State) : State :=
  let s := setP x Fld.PORT_STAT_LWIDTH (widthCode use.length) s
  let s := setP x Fld.PORT_STAT_REVERSED (b2n rev) s
  let s := setP x Fld.PORT_STAT_DEGRADED (b2n (decide (use.length < lanesOf s x))) s
  s.onPp x (fun p => { p with use := use, rev := rev })

/-- A lane of a port that has trained at rate code `rate`, as logical lane `j`, or unused: precoding as LN_CFG.PREREQ asks
from 64 GT/s on, and a training record where the rate has equalisation (R149, R150, R168). What the training itself decides
is free (log entry 95). -/
def laneTrained (rate : Nat) (e : Nat × Nat) (j : Option Nat) (s : State) : State :=
  let f := Config.free s.fresh
  let pre := match s.actF (Reg.LN_CFG e.1 e.2) Fld.LN_CFG_PREREQ with
    | 1 => 1
    | 2 => bits f 0 1
    | _ => 0
  let a := Reg.LN_STAT e.1 e.2
  match j with
  | none => s.setLivN a (11 + 0xF0)
  | some j =>
    let six := decide (5 ≤ rate)
    let s := s.setLivN a (11 + j % 16 * 2 ^ 4 + bits f 1 1 * 2 ^ 8 + (if six then pre * 2 ^ 9 + bits f 2 1 * 2 ^ 10 else 0) +
      bits f 3 10 * 2 ^ 12)
    let s := if 2 ≤ rate then
        putRec e.1 e.2 (bits f 13 4) (bits f 17 8) (bits f 25 8) ⟨bits f 33 4, 0, 0, 0, []⟩ s
      else s
    s.draw

/-- The lanes of port `x`, trained with the lanes `use`, in logical order, at a rate. -/
def lanesTrained (x rate : Nat) (use : List Nat) (s : State) : State :=
  (pcieLanes s.act (x / 4) (x % 4)).zipIdx.foldl (fun s e => laneTrained rate e.1 (use.idxOf? e.2) s) s

/-- The data credits that a port with a credited region of `r` half-cells advertises of each type; the header credits are
1/16 of them (R291). -/
def advertised (r : Nat) : Nat := 8 * r / 15 / 16 * 16

/-- Header and data credits that flow control can express, rounded down (R291): without scaling up to 127 and 2,047, with
it the smallest of the factors 1, 4 and 16 that reaches the value (PRESUMED, log entry 105). -/
def expressible (scaled : Bool) (h d : Nat) : Nat × Nat :=
  let fit (top v : Nat) : Nat :=
    if v ≤ top then v
    else if !scaled then top
    else if v < (top + 1) * 4 then v / 4 * 4
    else min (top * 16) (v / 16 * 16)
  (fit 127 h, fit 2047 d)

/-- PCIE_LINK_UP (R149, R150, R186, R188, R291): the port reaches L0 at rate code `rate` and width code `width`; `peer` says that the link
partner supports 64 GT/s. The partner's credits follow as PCIE_FC_UPDATE. -/
def execPcieLinkUp (n : Fin 24) (p : Fin 4) (rate : Fin 7) (width : Fin 5) (rev peer : Bool) (s : State) :
    Host.Outcome State Fault Refusal :=
  let x := 4 * n.val + p.val
  .next <| settle (
    if mayTrain s x && !s.dlUp n.val p.val && decide (rate.val ≤ maxRate s x) && decide (2 ^ width.val ≤ lanesOf s x) then
      let a := Reg.PORT_STAT n.val p.val
      let use := useOf (lanesOf s x) (2 ^ width.val) rev
      let s := lanesTrained x rate.val use s
      let s := s.setLivN a ((s.liv a).toNat / 2 ^ 16 % 4 * 2 ^ 16)
      let s := setP x Fld.PORT_STAT_LTSSM 3 (setP x Fld.PORT_STAT_RATE rate.val s)
      let s := setP x Fld.PORT_STAT_FLIT (b2n (peer && decide (5 ≤ maxRate s x))) (setP x Fld.PORT_STAT_DLUP 1 s)
      let s := showWidth x use rev s
      let d := advertised (s.act (Reg.BUF_PCIR n.val p.val)).toNat
      let c := expressible (decide (3 ≤ rate.val) || (peer && decide (5 ≤ maxRate s x))) (d / 16) d
      let s := (s.emit (.credits n.val p.val c.1 c.2)).onEport x (fun e => { e with fc := [] })
      let s := s.onPp x (fun u => { u with grant := (List.range 3).map (fun k => (k, c)) })
      (sendSlotLimit x (dllChanged x s)).intx
    else s)

/-- PCIE_LINK_DOWN (R206, R214): the Data Link Layer of a downstream port leaves the active state; `surprise` says that
nothing of the FM9192 had asked for it. -/
def execPcieLinkDown (n : Fin 24) (p : Fin 4) (surprise : Bool) (s : State) : Host.Outcome State Fault Refusal :=
  let x := 4 * n.val + p.val
  .next <| settle (
    if isDown s x && s.dlUp n.val p.val then
      if surprise then surpriseDown x s else dllChanged x (pcieDown x 0 s)
    else s)

/-! ## Lane failures (R208 to R210) -/

/-- The widest of the codes `ws` that the lanes `use`, run with or without lane reversal, allow without those of `bad`: the
first ones, or the last ones with lane reversal, which undoes one that is in use (R209). -/
def narrowTo (use : List Nat) (rev : Bool) (bad : List Nat) (ws : List Nat) : Option (List Nat × Bool) :=
  let ok (l : List Nat) : Bool := l.all (fun i => !bad.contains i)
  (ws.find? (fun w => decide (w ≤ use.length) && (ok (use.take w) || ok (use.drop (use.length - w))))).map (fun w =>
    if ok (use.take w) then (use.take w, rev) else ((use.drop (use.length - w)).reverse, !rev))

/-- The widths below `w`. -/
def below (w : Nat) : List Nat := [16, 8, 4, 2, 1].filter (fun k => decide (k < w))

/-- PCIE_LANE_FAILURE (R208, R209): lane `l` of a port in L0. -/
def execPcieLaneFailure (n : Fin 24) (p : Fin 4) (l : Fin 16) (s : State) : Host.Outcome State Fault Refusal :=
  let x := 4 * n.val + p.val
  .next <| settle (
    let u := s.pp x
    if isPcie s x && s.dlUp n.val p.val && ltssm s x == 3 && u.use.contains l.val then
      let k := (nth (0, 0) (layout (stnWidth s.act n.val)) p.val).1 + l.val
      let s := (s.bump (Reg.LN_FAILCNT (n.val + k / 8) (k % 8))).raiseStn (n.val + k / 8) 0 p.val
      let bad := l.val :: u.bad
      match narrowTo u.use u.rev bad (below u.use.length) with
      | none => surpriseDown x s
      | some _ => setP x Fld.PORT_STAT_LTSSM 4 (s.onPp x (fun u => { u with bad := bad, recAt := some s.now }))
    else s)

/-- PCIE_RECOVERY_RETURN (R210): back in L0 with fewer lanes; `replay` says that TLPs or flits are unacknowledged. -/
def execPcieRecoveryReturn (n : Fin 24) (p : Fin 4) (replay : Bool) (s : State) : Host.Outcome State Fault Refusal :=
  let x := 4 * n.val + p.val
  .next <| settle (
    let u := s.pp x
    if u.recAt.isSome && ltssm s x == 4 then
      match narrowTo u.use u.rev u.bad (below u.use.length) with
      | none => s
      | some (use, rev) =>
        let s := setP x Fld.PORT_STAT_LTSSM 3 (showWidth x use rev (s.onPp x (fun u => { u with recAt := none, narrow := 0 })))
        let s := setP x Fld.PORT_STAT_DEGRADED 1 (setP x Fld.PORT_STAT_L0P 0 s)
        let s := if replay then s.bump (Reg.PORT_REPCNT n.val p.val) else s
        let s := (if isDown s x then bridgeSet x .linkCtl (2 ^ 31) else id) (s.bump (Reg.PORT_DEGCNT n.val p.val))
        (s.raiseStn n.val 10 p.val).logDevice (16 * n.val + 10)
    else s)

/-- PCIE_RECOVERY_LIMIT (R210): 2 ms after the failure. -/
def execPcieRecoveryLimit (n : Fin 24) (p : Fin 4) (s : State) : Host.Outcome State Fault Refusal :=
  let x := 4 * n.val + p.val
  .next (match (s.pp x).recAt with
    | some t => if ltssm s x = 4 then settle (surpriseDown x (s.reach (t + 2000000))) else s
    | none => s)

/-! ## LINK_CMD (R211, R212, R248) -/

/-- LINK_CMD after a write: OP reads 0. -/
def linkCmdWord (a : Nat) (v : Word) (s : State) : State := storeCmd a v [Fld.LINK_CMD_OP] s

/-- Is a command refused? -/
def linkRefused (s : State) (n op p tw : Nat) : Bool :=
  let x := 4 * n + p
  let conf := if stnKind s.act n = .fabric then fabWidth s.act n p else lanesOf s x
  decide (5 ≤ tw) || decide (conf < 2 ^ tw) ||
  if stnKind s.act n = .fabric then
    !fabPort s.act n p || s.flState n p != 3 ||
    (op == 2 && (pauseLanes s n p 1 tw 0).any (fun l => !(s.lnk n p).use.contains l && laneState s n l != 6))
  else !isPcie s x || !s.dlUp n p || dpcOn s x

/-- The effect of an accepted command: a fabric port sends RETRAIN_REQ (R248), a PCI Express port enters Recovery. -/
def linkCommand (n op p tw : Nat) (s : State) : State :=
  if stnKind s.act n = .fabric then
    sendReq n p (op - 1) tw 0 (s.setLivF (Reg.FL_STAT n p) Fld.FL_STAT_WITHDRAWN 0)
  else
    setP (4 * n + p) Fld.PORT_STAT_LTSSM 4
      (s.onPp (4 * n + p) (fun u => { u with cmd := some (if op = 1 then none else some tw) }))

/-- LINK_CMD with OP = `op`: 1 RETRAIN, 2 WIDTH. -/
def linkRule (op : Nat) : LiveRule where
  sel := fun a v => stnReg a 0x1004 && fget v Fld.LINK_CMD_OP == op
  eff := fun s _ a v =>
    let n := stnOf a
    let p := fget v Fld.LINK_CMD_PORT
    let tw := fget v Fld.LINK_CMD_TWIDTH
    if linkRefused s n op p tw then command (linkCmdWord a v) (.stop .refused)
    else command (fun s => linkCommand n op p tw (linkCmdWord a v s)) (.long (if op = 1 then .retrain n p else .width n p))

/-- LINK_CMD_RETRAIN. -/
def execLinkCmdRetrain (s : State) : Host.Outcome State Fault Refusal := liveStep (linkRule 1) s
/-- LINK_CMD_WIDTH. -/
def execLinkCmdWidth (s : State) : Host.Outcome State Fault Refusal := liveStep (linkRule 2) s

/-- LINK_CMD_END (R211, R212): the port is back in L0; bit `i` of `pass` says that lane `i` passes training. A fabric
port's operation ends with its return to UP or TRAIN (R248). -/
def execLinkCmdEnd (n : Fin 24) (p : Fin 4) (pass : Fin 65536) (s : State) : Host.Outcome State Fault Refusal :=
  let x := 4 * n.val + p.val
  .next <| settle (
    let u := s.pp x
    match u.cmd with
    | none => s
    | some c =>
      let bad := (List.range 16).filter (fun i => !bit pass.val i)
      let use := match c with
        | none => narrowTo u.use u.rev bad (u.use.length :: below u.use.length)
        | some tw => narrowTo (List.range (lanesOf s x)) false bad (below (2 * 2 ^ tw))
      match use with
      | none => surpriseDown x s
      | some (l, rev) =>
        let s := s.onPp x (fun u => { u with cmd := none, bad := [], recAt := none, narrow := 0 })
        let s := setP x Fld.PORT_STAT_L0P 0 (setP x Fld.PORT_STAT_LTSSM 3 (showWidth x l rev s))
        -- Link Bandwidth Management Status (R184, log entry 8)
        let s := if isDown s x then bridgeSet x .linkCtl (2 ^ 30) s else s
        if longOnPort s n.val p.val then endLong s else s)

/-! ## Link power states (R199) -/

/-- The substate of L1 that the enables allow while CLKREQ_N is released: 1 L1.0, 2 L1.1, 3 L1.2 (log entry 8). -/
def l1Sub (s : State) (x : Nat) (clk : Bool) : Nat :=
  let on (f : Fld) (b : Nat) : Bool := s.actB (Reg.PORT_CFG (x / 4) (x % 4)) f && bit (bridgeR s x .aspmSub) b
  if !clk then 1 else if on Fld.PORT_CFG_L12EN 2 then 3 else if on Fld.PORT_CFG_L11EN 3 then 2 else 1

/-- May port `x` enter L1: its enable in configuration space, its permit, the Forecaster's hold? -/
def l1Ok (s : State) (x : Nat) : Bool :=
  isPcie s x && s.dlUp (x / 4) (x % 4) && ltssm s x == 3 && bit (bridgeR s x .linkCtl) 1 &&
  s.actB (Reg.PORT_CFG (x / 4) (x % 4)) Fld.PORT_CFG_L1EN && linkReleased s

/-- Port `x` enters L1. -/
def enterL1 (x : Nat) (clk : Bool) (s : State) : State :=
  setP x Fld.PORT_STAT_SUB (l1Sub s x clk) (setP x Fld.PORT_STAT_LTSSM 5 s)

/-- Is every enabled downstream port of partition `q` in L1 or lower, or without a link? -/
def downIdle (s : State) (q : Nat) : Bool :=
  (pciePorts s.act).all (fun e => isUpstream s.act e.1 e.2 || portPart s.act e.1 e.2 != q ||
    isExported s.act (4 * e.1 + e.2) || !s.dlUp e.1 e.2 || ltssm s (4 * e.1 + e.2) == 5 || ltssm s (4 * e.1 + e.2) == 6)

/-- L1_IDLE_EXPIRE: an upstream port has been idle for L1IDLE µs; `clk` says that CLKREQ_N is released by both ends. -/
def execL1IdleExpire (n : Fin 24) (p : Fin 4) (clk : Bool) (s : State) : Host.Outcome State Fault Refusal :=
  let x := 4 * n.val + p.val
  .next (if l1Ok s x && isUpstream s.act n.val p.val && downIdle s (portPart s.act n.val p.val) then enterL1 x clk s else s)

/-- L1_REQUEST_RECEIVE: a downstream port accepts its partner's request. -/
def execL1RequestReceive (n : Fin 24) (p : Fin 4) (clk : Bool) (s : State) : Host.Outcome State Fault Refusal :=
  let x := 4 * n.val + p.val
  .next (if l1Ok s x && isDown s x then enterL1 x clk s else s)

/-- L0P_IDLE_EXPIRE: a flit-mode port halves its width, down to x1. -/
def execL0pIdleExpire (n : Fin 24) (p : Fin 4) (s : State) : Host.Outcome State Fault Refusal :=
  let x := 4 * n.val + p.val
  .next (
    if isPcie s x && s.dlUp n.val p.val && ltssm s x == 3 && pStat s x Fld.PORT_STAT_FLIT == 1 &&
        bit (bridgeR s x .flitL0p) 3 && s.actB (Reg.PORT_CFG n.val p.val) Fld.PORT_CFG_L0PEN && linkReleased s &&
        decide ((s.pp x).narrow < pStat s x Fld.PORT_STAT_LWIDTH) then
      setP x Fld.PORT_STAT_L0P 1 (s.onPp x (fun u => { u with narrow := u.narrow + 1 }))
    else s)

/-- L0P_RETURN: more than 25 % of the full capacity is queued. -/
def execL0pReturn (n : Fin 24) (p : Fin 4) (s : State) : Host.Outcome State Fault Refusal :=
  let x := 4 * n.val + p.val
  .next (if 0 < (s.pp x).narrow then setP x Fld.PORT_STAT_L0P 0 (s.onPp x (fun u => { u with narrow := 0 })) else s)

/-! ## Hot-plug, DPC -/

/-- ATTN_BUTTON (R201, R214). -/
def execAttnButton (n : Fin 24) (s : State) : Host.Outcome State Fault Refusal :=
  .next (if (slotFns s n.val).isEmpty then s else hotplug n.val (slotStatus n.val 1 s))

/-- DPC_TRIGGER (R206): an ERR_FATAL or an ERR_NONFATAL message comes to a port whose DPC Trigger Enable covers it: 1 fatal
only, 2 both (log entry 8). -/
def execDpcTrigger (n : Fin 24) (p : Fin 4) (fatal : Bool) (s : State) : Host.Outcome State Fault Refusal :=
  let x := 4 * n.val + p.val
  let en := bits (bridgeR s x .dpcCtl) 16 2
  .next (if isDown s x && (en == 2 || (en == 1 && fatal)) then settle (dpcTrigger x (if fatal then 2 else 1) s) else s)

/-! ## Partition resets (R203, R325, R338, R404, R412, R463, R482) -/

/-- Does the upstream port of a station take PERST_N as its fundamental reset (R108): no downstream port shares the pin? -/
def perstInput (s : State) (n : Nat) : Bool := pinRole s.act n == .up

/-- PARTITION_RESET: at the upstream port, PERST_N low where it is an input, Hot Reset, or DL_Down. -/
def execPartitionReset (q : Fin 48) (cause : ResetBy) (s : State) : Host.Outcome State Fault Refusal :=
  .next <| settle (match upstreamOf s.act q.val with
    | none => s
    | some (n, p) =>
      if cause = .perst ∧ !perstInput s n then s else
      partReset q.val (4 * n + p) (cause == .hot) s)

/-- PARTITION_RESET_RELEASE: the upstream link is up, and 100 ms have passed. -/
def execPartitionResetRelease (q : Fin 48) (s : State) : Host.Outcome State Fault Refusal :=
  .next (match upstreamOf s.act q.val with
    | none => s
    | some (n, p) =>
      if s.parts.inReset.contains q.val ∧ s.dlUp n p then
        let s := s.reach (Tab.get 0 s.parts.rstAt q.val + 100000000)
        let s := { s with parts := { s.parts with
          inReset := s.parts.inReset.filter (fun r => r != q.val)
          rstAt := Tab.del s.parts.rstAt q.val } }
        settle ((bridges s.regs.active q.val).foldl (fun s b => match b with
          | .imp k => sendMgmt (importOf s k).2.1 3 false (importOf s k).2.2.1 false [] s
          | _ => s) s)
      else s)

end Sys2Proof.Machine
end

