-- ==== Sys2Proof/Machine/Spc.lean ====
section
/-! DEFINITION. The commands of the Slot Power Controllers (R492 to R511). An event command tells what the surroundings
did since the last step; a command of a time passes the time to it. -/

namespace Sys2Proof.Machine

/-! ## SPC_CMD (R493, R494) -/

/-- Does the slot have an enabled downstream port of another partition than the origin's? -/
def spcForeign (s : State) (origin n : Nat) : Bool :=
  decide (origin < 48) && (slotPorts s n).any (fun p => portPart s.act (homeStn s.act n) p != origin)

/-- Is every enabled threshold representable (R491)? -/
def curveFits (s : State) (n : Nat) : Bool :=
  (List.range 8).all (fun k => !ptOn s n k || decide (ithr s n k * rshunt s n ≤ 51187500)) &&
  (!mode1 s n || decide (fastThr s n * rshunt s n ≤ 51187500))

/-- Is the curve unfit for ENABLE? -/
def curveBad (s : State) (n : Nat) : Bool :=
  if mode1 s n then !ptOn s n 0 || decide (fastThr s n ≤ ithr s n 0)
  else (List.range 8).all (fun k => !ptOn s n k)

/-- Does the table of R509 have a row for a command in the present state? -/
def spcRow (s : State) (n op : Nat) : Bool :=
  let st := spcState s n
  match op with
  | 1 => st == 0 || st == 7
  | 2 => st != 0
  | 5 => st == 3
  | _ => true

/-- CODE of a command. -/
def spcCode (s : State) (origin n op load feed : Nat) : Nat :=
  if spcForeign s origin n then 1
  else if !spcRow s n op then 2
  else if op = 5 then (if (feedOrder s n).contains feed && feedValid s n feed then 0 else 6)
  else if op ≠ 1 then 0
  else if (s.stnRec n).slotw = 0 then 3
  else if load = 0 ∨ (s.stnRec n).slotw < load then 4
  else if prsntInput s n ∧ spcCfg s n Fld.SPC_CFG_PRSEN = 1 ∧ spcStat s n Fld.SPC_STAT_PRSNT = 0 then 5
  else if curveBad s n then 7
  else if !curveFits s n then 8
  else 0

/-- An accepted ENABLE. -/
def spcEnable (n load : Nat) (s : State) : State :=
  openWin n 0 (toState n 1 (setSpc n Fld.SPC_STAT_LOADW load (setSpc n Fld.SPC_STAT_RETRIES 0 s)))

/-- An accepted DISABLE (R497, R509). -/
def spcDisable (n : Nat) (s : State) : State :=
  if spcState s n = 3 then
    closeRuns n ((perstFall n s).onSpc n (fun x => { x with
      disAt := if x.disAt.isSome then x.disAt else some (s.now + 100000) }))
  else disableEnd n s

/-- The effect of an accepted command. -/
def spcDo (n op load feed : Nat) (s : State) : State :=
  match op with
  | 1 => spcEnable n load s
  | 2 => spcDisable n s
  | 3 => openWin n 1 s
  | 4 => closeWin n 1 s
  | _ => if spcStat s n Fld.SPC_STAT_FEED = feed then s else enterSwitch n feed s

/-- SPC_CMD; it always reads 0 (R617), and the values 0, 6 and 7 of OP do nothing. -/
def spcRule (ops : List Nat) : LiveRule where
  sel := fun a v => stnReg a 0x2818 && ops.contains (fget v Fld.SPC_CMD_OP)
  budget := fun s t a v =>
    let load := fget v Fld.SPC_CMD_LOADW
    if fget v Fld.SPC_CMD_OP = 1 ∧ spcCode s t.origin (stnOf a) 1 load 0 = 0 then enableRefused s (stnOf a) load else none
  eff := fun s t a v =>
    let n := stnOf a
    let op := fget v Fld.SPC_CMD_OP
    let load := fget v Fld.SPC_CMD_LOADW
    let feed := fget v Fld.SPC_CMD_FEED
    let code := spcCode s t.origin n op load feed
    command (fun s =>
      let s := s.setLiv a 0
      if op = 0 ∨ 5 < op then s
      else
        let s := setSpc n Fld.SPC_STAT_CODE code s
        if code = 0 then spcDo n op load feed s else s)

/-- SPC_ENABLE. -/
def execSpcEnable (s : State) : Host.Outcome State Fault Refusal := liveStep (spcRule [1]) s
/-- SPC_DISABLE. -/
def execSpcDisable (s : State) : Host.Outcome State Fault Refusal := liveStep (spcRule [2]) s
/-- SPC_TESTOPEN. -/
def execSpcTestopen (s : State) : Host.Outcome State Fault Refusal := liveStep (spcRule [3]) s
/-- SPC_TESTCLOSE. -/
def execSpcTestclose (s : State) : Host.Outcome State Fault Refusal := liveStep (spcRule [4]) s
/-- SPC_FEEDSEL. -/
def execSpcFeedsel (s : State) : Host.Outcome State Fault Refusal := liveStep (spcRule [5]) s

/-! ## The step and its happenings -/

/-- SPC_EVALUATION_STEP (R492): 1 µs after the last one. -/
def execSpcEvaluationStep (n : Fin 24) (m : SpcSample) (s : State) : Host.Outcome State Fault Refusal :=
  .next (spcStep n m (s.reach ((s.spc n).at_ + 1000)))

/-- SPC_PRESENCE_CHANGE (R508): PRSNT_N has held a new level for 100 steps. -/
def execSpcPresenceChange (n : Fin 24) (here : Bool) (s : State) : Host.Outcome State Fault Refusal :=
  .next (
    if prsntInput s n ∧ here ≠ (spcStat s n Fld.SPC_STAT_PRSNT == 1) then presence n here s else s)

/-- SPC_FEED_VALID (R498): feed `k` has stayed in range for QUAL ms. -/
def execSpcFeedValid (n : Fin 24) (k : Fin 2) (s : State) : Host.Outcome State Fault Refusal :=
  .next (if feedValid s n k then s else feedFound n (setValid n k true s))

/-- SPC_FEED_INVALID (R498, R499, R501). -/
def execSpcFeedInvalid (n : Fin 24) (k : Fin 2) (s : State) : Host.Outcome State Fault Refusal :=
  .next (if feedValid s n k then feedLost n k (setValid n k false s) else s)

/-- SPC_FAST_TRIP (R504): the comparator has crossed FASTTHR; the next step, with sample `m`, records the trip. -/
def execSpcFastTrip (n : Fin 24) (m : SpcSample) (s : State) : Host.Outcome State Fault Refusal :=
  .next (
    if mode1 s n ∧ spcLive s n then
      spcStep n m ((s.reach ((s.spc n).at_ + 1000)).onSpc n (fun x => { x with fast := true }))
    else s)

/-- SPC_CURVE_TRIP (R503): the counter of point `k` reaches TLIM. -/
def execSpcCurveTrip (n : Fin 24) (k : Fin 8) (m : SpcSample) (s : State) : Host.Outcome State Fault Refusal :=
  .next (if ptActs s n k ∧ spcLive s n then trip n 1 k (takeSpcSample n m s) else s)

/-- SPC_REVERSE_TRIP (R505). -/
def execSpcReverseTrip (n : Fin 24) (m : SpcSample) (s : State) : Host.Outcome State Fault Refusal :=
  .next (if spcLive s n then trip n 4 0 (takeSpcSample n m s) else s)

/-- SPC_RAMP_TIMEOUT (R495). -/
def execSpcRampTimeout (n : Fin 24) (s : State) : Host.Outcome State Fault Refusal :=
  .next (match (s.spc n).drive with
    | some t => if spcLive s n ∧ !(s.spc n).full then trip n 3 0 (s.reach (t + rampMax s n)) else s
    | none => s)

/-- SPC_GATE_FULLY_ON (R495, R499). -/
def execSpcGateFullyOn (n : Fin 24) (s : State) : Host.Outcome State Fault Refusal :=
  .next (if spcState s n = 2 ∨ (spcState s n = 4 ∧ (s.spc n).sw = .driving) then gateFull n s else s)

/-- SPC_PG_ASSERT (R496): the steps that PGCNT still lacks pass. -/
def execSpcPgAssert (n : Fin 24) (s : State) : Host.Outcome State Fault Refusal :=
  .next (
    let x := s.spc n
    if spcState s n = 3 ∧ x.full ∧ x.disAt.isNone ∧ curveIdle s n ∧ x.low < 2 ∧ spcStat s n Fld.SPC_STAT_PG = 0 then
      pgUp n ((s.reach (s.now + (pgDly s n - x.pgcnt) * 1000)).onSpc n (fun x => { x with pgcnt := pgDly s n }))
    else s)

/-- SPC_PERST_RELEASE (R497). -/
def execSpcPerstRelease (n : Fin 24) (s : State) : Host.Outcome State Fault Refusal :=
  .next (
    let x := s.spc n
    if spcStat s n Fld.SPC_STAT_PG = 1 ∧ !perstHeld s n ∧ x.disAt.isNone then
      perstRise n (s.reach (x.pgAt + perstDly s n))
    else s)

/-- SPC_DISABLE_WAIT_END (R497). -/
def execSpcDisableWaitEnd (n : Fin 24) (s : State) : Host.Outcome State Fault Refusal :=
  .next (match (s.spc n).disAt with
    | some t => disableEnd n (s.reach t)
    | none => s)

/-- SPC_OFF_CONFIRM (R499). -/
def execSpcOffConfirm (n : Fin 24) (s : State) : Host.Outcome State Fault Refusal :=
  .next (match (s.spc n).sw with
    | .pulling x => s.onSpc n (fun y => { y with sw := .dead x (s.now + 2000) })
    | _ => s)

/-- SPC_DEAD_TIME_END (R499). -/
def execSpcDeadTimeEnd (n : Fin 24) (s : State) : Host.Outcome State Fault Refusal :=
  .next (match (s.spc n).sw with
    | .dead x t => driveGate n x ((s.reach t).onSpc n (fun y => { y with sw := .driving }))
    | _ => s)

/-- SPC_VOUT_LOW (R500). -/
def execSpcVoutLow (n : Fin 24) (s : State) : Host.Outcome State Fault Refusal :=
  .next (if spcStat s n Fld.SPC_STAT_PG = 1 then pgDown n s else s)

/-- SPC_RETRY_WAIT_END (R506). -/
def execSpcRetryWaitEnd (n : Fin 24) (s : State) : Host.Outcome State Fault Refusal :=
  .next (match (s.spc n).retryAt with
    | some t => if spcState s n = 5 then retryNow n (s.reach t) else s
    | none => s)

/-- SPC_AUTORET (R502). -/
def execSpcAutoret (n : Fin 24) (s : State) : Host.Outcome State Fault Refusal :=
  .next (match autoFeed s n with
    | some x => enterSwitch n x (s.reach ((feedOf (s.spc n) x).validAt + 1000000000))
    | none => s)

/-- SPC_RETRIES_RESET (R507). -/
def execSpcRetriesReset (n : Fin 24) (s : State) : Host.Outcome State Fault Refusal :=
  .next (
    if spcStat s n Fld.SPC_STAT_PG = 1 then
      setSpc n Fld.SPC_STAT_RETRIES 0 (s.reach ((s.spc n).pgAt + 10000000000))
    else s)

/-- SPC_CAP_WINDOW_CLOSE (R511). -/
def execSpcCapWindowClose (n : Fin 24) (s : State) : Host.Outcome State Fault Refusal :=
  .next (
    if spcStat s n Fld.SPC_STAT_PG = 1 then closeRuns n (s.reach ((s.spc n).pgAt + 250000000)) else s)

/-- SPC_METER_UPDATE (R510): 1,000 steps have passed since the last. -/
def execSpcMeterUpdate (n : Fin 24) (s : State) : Host.Outcome State Fault Refusal := .next (meterUpdate n s)

end Sys2Proof.Machine
end

