-- ==== Sys2Proof/Machine/ConfigWrites.lean ====
section
/-! DEFINITION. Host configuration writes: their arrival, their service by the Director as internal takes, and what each
register does (R193 to R195, R201, R202, R206, R212, R322). Where a register's bits lie is PRESUMED (log entry 8). -/

namespace Sys2Proof.Machine

/-! ## Registers -/

/-- An emulated BAR pair of a binding as one address, after a write of its low or high word; the bits below 2^SIZE are
zero, and a pair whose SIZE is below 12 is absent (R322). -/
def vfBarNew (s : State) (b j : Nat) (hi : Bool) (be : Nat) (v : Word) : Nat :=
  let size := (dbar s b j).1
  let old := Tab.get 0 s.parts.vfbar (2 * b + j)
  let lo := if hi then lo32 old else mergeBe be (lo32 old) v
  let up := if hi then mergeBe be (hi32 old) v else hi32 old
  if size < 12 then 0 else join64 lo up / 2 ^ size * 2 ^ size

/-! ## What a write does -/

/-- A write of Power Controller Control (R202, R494): 0 enables the slot with SLOTW as its load, 1 disables it; Command
Completed sets when that has ended, and a refusal by the Forecaster or SLOTW is a Power Fault. -/
def powerControl (q fn n : Nat) (off : Bool) (s : State) : State :=
  let op := if off then 2 else 1
  let load := (s.stnRec n).slotw
  let code := spcCode s q n op load 0
  let excess := if !off && code == 0 then enableRefused s n load else none
  let s := match excess with
    | some r => budgetRefusal r q s
    | none =>
      let s := setSpc n Fld.SPC_STAT_CODE code s
      if code = 0 then spcDo n op load 0 s else s
  let s := if excess.isSome || code == 3 || code == 4 then hotplug n (slotStatus n 2 s) else s
  cfgBit q fn 20 .slotCtl s

/-- A bridge's link is held in Hot Reset: a local link; R338 sends PRESET for a partition's reset alone. -/
def busReset (b : Bridge) (on : Bool) (s : State) : State :=
  match b with
  | .loc x => if on then dllChanged x (pcieDown x 9 s) else setP x Fld.PORT_STAT_LTSSM 0 s
  | _ => s

/-- A write of Secondary Bus Reset: of a downstream bridge, or of the upstream bridge for every bridge below it. -/
def secondaryReset (q fn : Nat) (old new : Word) (s : State) : State :=
  let on := bit new.toNat 22
  if bit old.toNat 22 = on then s
  else if fn = 0 then (bridges s.regs.active q).foldl (fun s b => busReset b on s) s
  else match bridgeAt s q fn with
    | some b => busReset b on s
    | none => s

/-- Link Control of a downstream port: Link Disable (bit 4), and Retrain Link (bit 5; R212). -/
def linkControl (x : Nat) (old new : Word) (retrain : Bool) (s : State) : State :=
  let s := if bit new.toNat 4 = bit old.toNat 4 then s
    else if bit new.toNat 4 then dllChanged x (pcieDown x 7 s)
    else setP x Fld.PORT_STAT_LTSSM 0 s
  if retrain && s.dlUp (x / 4) (x % 4) && !dpcOn s x then
    setP x Fld.PORT_STAT_LTSSM 4 (s.onPp x (fun u => { u with cmd := some none }))
  else s

/-- DPC Trigger Status is cleared: containment ends, and the port retrains from Detect (R206). DEDUCED (log entry 103): no host
can write the functions of an exported port (R332), whose containment a cut or a reset ends. -/
def dpcRelease (x : Nat) (s : State) : State :=
  setP x Fld.PORT_STAT_LTSSM 0 (bridgeClear x (setP x Fld.PORT_STAT_DPC 0 s))
where
  /-- The trigger's reason is gone with it. -/
  bridgeClear (x : Nat) (s : State) : State :=
    let f := bridgeFn s x
    s.setCfg f.1 f.2 .dpcStat (s.cfgR f.1 f.2 .dpcStat &&& ~~~0x67)

/-- What a write does besides the register: `old` and `new` are its values, `v` the bytes written (log entry 8). -/
def cfgEffect (q fn be : Nat) (r : CfgReg) (old new v : Word) (s : State) : State :=
  match r, localAt s q fn with
  | .bridgeCtl, _ => secondaryReset q fn old new s
  | .slotCtl, some x =>
    if bit be 1 && hasSlot s x then powerControl q fn (x / 4) (bit v.toNat 10) s else s
  | .linkCtl, some x => linkControl x old new (bit be 0 && bit v.toNat 5) s
  | .dpcCtl, some x => if bit be 2 && bit v.toNat 22 && !dpcOn s x then dpcTrigger x 19 s else s
  | .dpcStat, some x => if dpcOn s x && !bit new.toNat 0 then dpcRelease x s else s
  | _, _ => s

/-- The register of a write, as the write leaves it. -/
def cfgAfter (s : State) (w : CfgWrite) : Word :=
  cfgNew (fnKind w.part w.fn) w.reg w.be (s.cfgR w.part w.fn w.reg w.off) w.data

/-- The whole dword before and after a write (R193): bits that no rule gives are free, and the same in both. -/
def cfgDwords (s : State) (w : CfgWrite) : Word × Word :=
  match w.reg with
  | .vfBar b j hi =>
    let i := 2 * j.val + b2n hi
    let new : State := { s with parts := { s.parts with
      vfbar := Tab.set 0 s.parts.vfbar (2 * b.val + j.val) (vfBarNew s b j hi w.be w.data) } }
    (fillFree s (vfBarShown s b i), fillFree s (vfBarShown new b i))
  | r => (cfgDword s w.part w.fn r w.off, cfgDword (s.setCfg w.part w.fn r (cfgAfter s w) w.off) w.part w.fn r w.off)

/-- A write takes effect. -/
def cfgWrite (w : CfgWrite) (s : State) : State :=
  match w.reg with
  | .vfBar b j hi =>
    { s with parts := { s.parts with
        vfbar := Tab.set 0 s.parts.vfbar (2 * b.val + j.val) (vfBarNew s b j hi w.be w.data) } }
  | r =>
    let old := s.cfgR w.part w.fn r w.off
    cfgEffect w.part w.fn w.be r old (cfgAfter s w) (mergeBe w.be 0 w.data) (s.setCfg w.part w.fn r (cfgAfter s w) w.off)

/-- The completion of a write leaves at its partition's upstream port. -/
def cfgComplete (w : CfgWrite) (s : State) : State :=
  match upstreamOf s.act w.part with
  | none => s
  | some (n, p) =>
    sendLocal n .internal w.part (4 * n + p) 0
      { kind := .cpl, hdr := 12, req := w.req, tag := w.tag, cid := fnId s w.part w.fn } s

/-- Has the partition that register, in its function? An emulated BAR belongs to its binding's partition (R322). -/
def cfgHas (s : State) (q fn : Nat) (r : CfgReg) : Bool :=
  match r with
  | .vfBar b _ _ => (bindings s.regs.active).any (fun e => e.idx == b.val && e.part == q &&
      bridgeAt s q fn == some (.shr e.port))
  | _ => hasFn s q fn && hasReg (fnKind q fn) r

/-- CONFIG_WRITE_ARRIVAL (R194): the upstream port of an enabled partition, with its link up, holds the write; a take that
is between two instructions is held. -/
def execConfigWriteArrival (q : Fin 48) (fn : Fin 34) (r : CfgReg) (off : Fin 1024) (be : Fin 16) (data : Word)
    (req tag : Nat) (s : State) : Host.Outcome State Fault Refusal :=
  let w : CfgWrite := {
    part := q.val
    fn := fn.val
    reg := r
    off := off.val
    be := be.val
    data := data
    req := req
    tag := tag
    port := upPort s q.val }
  .next (if s.hostUp q.val && cfgHas s q.val fn.val r then stallTake (holdCfg w s) else s)

/-- LOC of a configuration write (R193). -/
def cfgLoc (w : CfgWrite) : Nat := 2 ^ 31 + w.part * 2 ^ 25 + w.fn * 2 ^ 17 + 4 * w.off

/-- CONFIG_WRITE_SERVE (R193, R194): the oldest held write is an internal take of one live write; a long operation in
progress is not interrupted. -/
def execConfigWriteServe (s : State) : Host.Outcome State Fault Refusal :=
  .next (match s.parts.held, s.dir.longop with
    | w :: l, none =>
      if s.rst.warm == .idle && !s.rst.cold && !s.rst.rail then
        let s := freeCfg w { s with parts := { s.parts with held := l } }
        let s := if l = [] then endStall s else s
        let d := cfgDwords s w
        let s := s.log { origin := w.part, kind := 1, loc := cfgLoc w, old := d.1.toNat, new := d.2.toNat }
        let s := cfgWrite w s.draw
        let s := perf 73 1 none 1 { master := some w.part } (s.bump Reg.GLB_TAKECNT)
        settle (cfgComplete w s).intx
      else s
    | _, _ => s)

end Sys2Proof.Machine
end

