-- ==== Sys2Proof/Machine/Counters.lean ====
section
/-! DEFINITION. Starting, stopping, copying and clearing the performance counters (R584, R587). -/

namespace Sys2Proof.Machine

/-- Every counter of unit `u` is copied, with the OVF bits as they stand (R584). -/
def pcSnap (u : Nat) (s : State) : State :=
  let s := s.setLiv64 (Reg.PC_FSNAP_LO u) (s.liv64 (Reg.PC_FIX_LO u))
  let s := forUpto (perfCounters u) (fun c s => s.setLiv64 (Reg.PC_SNAP_LO u c) (s.liv64 (Reg.PC_VAL_LO u c))) s
  s.setLivF (Reg.PC_OVF u) ⟨16, 9⟩ (s.livF (Reg.PC_OVF u) ⟨0, 9⟩)

/-- Every counter and every OVF bit of unit `u` becomes zero (R584). -/
def pcClear (u : Nat) (s : State) : State :=
  let s := s.setLiv64 (Reg.PC_FIX_LO u) 0
  let s := forUpto (perfCounters u) (fun c s => s.setLiv64 (Reg.PC_VAL_LO u c) 0) s
  s.setLivF (Reg.PC_OVF u) ⟨0, 9⟩ 0

/-- The FRUN and RUN bits of unit `u` take a value; the bits of absent counters stay zero. -/
def pcRun (u run : Nat) (s : State) : State := s.setLivN (Reg.PC_CTL u) (run % 2 ^ (1 + perfCounters u))

/-- SNAP and then CLR act on unit `u`, the RUN bits already written (R584). -/
def pcAct (u : Nat) (snap clr : Bool) (s : State) : State :=
  let s := if snap then pcSnap u s else s
  if clr then pcClear u s else s

/-- Is `a` a PC_CTL? -/
def isPcCtl (a : Nat) : Bool := decide (0x780000 ≤ a) && decide (a < Reg.PC_CTL 74) && a % 0x200 == 0

/-- A write of PC_CTL, of the kinds that `q` selects. -/
def pcCtlRule (q : Word → Bool) : LiveRule where
  sel := fun a v => isPcCtl a && q v
  eff := fun _ _ a v =>
    let u := (a - 0x780000) / 0x200
    command (fun s => pcAct u (bit v.toNat 9) (bit v.toNat 10) (pcRun u v.toNat s))

/-- A write of PC_ALL, of the kinds that `q` selects: it acts on every unit at one tick, and STOP prevails over
START (R587). -/
def pcAllRule (q : Word → Bool) : LiveRule where
  sel := fun a v => a == Reg.PC_ALL && q v
  eff := fun _ _ _ v =>
    let w := v.toNat
    command (fun s => forUpto 74 (fun u s =>
      let s := if bit w 1 then pcRun u 0 s else if bit w 0 then pcRun u 0x1FF s else s
      pcAct u (bit w 2) (bit w 3) s) s)

/-- PC_CTL_WRITE: neither SNAP nor CLR. -/
def execPcCtlWrite (s : State) : Host.Outcome State Fault Refusal :=
  liveStep (pcCtlRule (fun v => !bit v.toNat 9 && !bit v.toNat 10)) s

/-- PC_SNAP. -/
def execPcSnap (s : State) : Host.Outcome State Fault Refusal := liveStep (pcCtlRule (fun v => bit v.toNat 9)) s

/-- PC_CLEAR. -/
def execPcClear (s : State) : Host.Outcome State Fault Refusal := liveStep (pcCtlRule (fun v => bit v.toNat 10)) s

/-- PC_ALL_START. -/
def execPcAllStart (s : State) : Host.Outcome State Fault Refusal := liveStep (pcAllRule (fun v => bit v.toNat 0)) s

/-- PC_ALL_STOP. -/
def execPcAllStop (s : State) : Host.Outcome State Fault Refusal := liveStep (pcAllRule (fun v => bit v.toNat 1)) s

/-- PC_ALL_SNAP. -/
def execPcAllSnap (s : State) : Host.Outcome State Fault Refusal := liveStep (pcAllRule (fun v => bit v.toNat 2)) s

/-- PC_ALL_CLEAR. -/
def execPcAllClear (s : State) : Host.Outcome State Fault Refusal := liveStep (pcAllRule (fun v => bit v.toNat 3)) s

end Sys2Proof.Machine
end

