-- ==== Sys2Proof/Machine/Egress.lean ====
section
/-! DEFINITION. The egress ports: deficit round robin, sending, stand-aside lists, spill
and refill (R274 to R276, R296 to R302, R363 to R369, R441). -/

namespace Sys2Proof.Machine

/-! ## Deficit round robin (R365, R366) -/

/-- Weight of a group (GLB_GWT; 0 acts as 1). -/
def groupWeight (s : State) (g : Nat) : Nat := max 1 (bits (s.act (Reg.GLB_GWT (g / 4))).toNat (8 * (g % 4)) 8)

/-- Weight of a class (SCH_CWT; 0 acts as 1). -/
def classWeight (s : State) (n c : Nat) : Nat :=
  let b := if c = 9 then 7 else c
  max 1 (bits (s.act (Reg.SCH_CWT n (b / 4))).toNat (8 * (b % 4)) 8)

/-- The class loop of R365 within group `g`; `len` gives the head length of a queue. -/
def pickClass (s : State) (n g : Nat) (len : Nat → Nat) : Nat → Sched → Nat × Sched
  | 0, d => ((Tab.get [] d.clist g).headD 0, d)
  | fuel + 1, d =>
    match Tab.get [] d.clist g with
    | [] => (0, d)
    | c :: rest =>
      let k := qKey g c
      let add := if Tab.get true d.cfresh k then 64 * classWeight s n c else 0
      let d := { d with cdef := Tab.put d.cdef k (Tab.get 0 d.cdef k + add), cfresh := Tab.put d.cfresh k false }
      if len k ≤ Tab.get 0 d.cdef k then (c, d)
      else pickClass s n g len fuel { d with clist := Tab.put d.clist g (rest ++ [c]), cfresh := Tab.put d.cfresh k true }

/-- The group loop of R365. -/
def pickGroup (s : State) (n : Nat) (len : Nat → Nat) : Nat → Sched → Option Nat × Sched
  | 0, d => (none, d)
  | fuel + 1, d =>
    match d.glist with
    | [] => (none, d)
    | g :: rest =>
      let add := if Tab.get true d.gfresh g then 64 * groupWeight s g else 0
      let d := { d with gdef := Tab.put d.gdef g (Tab.get 0 d.gdef g + add), gfresh := Tab.put d.gfresh g false }
      let (c, d) := pickClass s n g len 2000 d
      if len (qKey g c) ≤ Tab.get 0 d.gdef g then (some (qKey g c), d)
      else pickGroup s n len fuel { d with glist := rest ++ [g], gfresh := Tab.put d.gfresh g true }

/-- The charged length of the unit at the head of a queue. -/
def headLen (s : State) (x k : Nat) : Nat :=
  match (headUnit s x k).bind s.unit with
  | some u => unitLen s x u
  | none => 0

/-- The decision of R365: the queue selected, and the scheduler after it, its deficits charged. -/
def selectQueue (s : State) (x : Nat) : Option Nat × Sched :=
  let es := eligibles s x
  let d := syncSched s x es
  match firstBelow 49 (fun i => es.contains (qKey ((d.last7 + 1 + i) % 49) 7)) with
  | some i =>
    let g := (d.last7 + 1 + i) % 49
    (some (qKey g 7), { d with last7 := g })
  | none =>
    match pickGroup s (x / 4) (headLen s x) 8000 d with
    | (some k, d) =>
      let len := headLen s x k
      (some k, { d with
        gdef := Tab.put d.gdef (k / 16) (Tab.get 0 d.gdef (k / 16) - len)
        cdef := Tab.put d.cdef k (Tab.get 0 d.cdef k - len) })
    | (none, d) => (none, d)

/-! ## Sending -/

/-- A packet leaves on a fabric port and is kept in the replay buffer (R234, R237, R238). -/
def sendOnLink (n f : Nat) (stomped : Bool) (p : Packet) (s : State) : State :=
  let l := s.lnk n f
  let p := { p with seq := l.seq, ack := l.nes, ackv := true }
  let s := s.emit (.packet n f p stomped)
  syncFl n f (s.setLnk n f { l with
    seq := (l.seq + 1) % 2 ^ 16
    stream := l.stream ++ [linkBytes p]
    replay := l.replay ++ [{ pkt := p, stomped := stomped }]
    rplAt := if l.replay = [] then s.now else l.rplAt
    sent := Tab.set 0 l.sent p.vc ((Tab.get 0 l.sent p.vc + pktUnits p) % 2 ^ 16) })

/-- The tracker of an FME's request shows the ts with which its latest copy leaves the station (R224, R443). -/
def stampTrack (p : Packet) (ts : Nat) (s : State) : State :=
  match p.body with
  | .fme h _ =>
    if h.pt = 1 ∨ h.pt = 2 ∨ h.pt = 4 then
      s.onMsg h.sfme h.mid (fun m => { m with tracks := m.tracks.map (fun t => if t.pidx = h.pidx then { t with ts := ts } else t) })
    else s
  | _ => s

/-- A payload whose bytes from byte `k` on are sent as zeros (R276). -/
def zeroFrom (k : Nat) (b : PBody) : PBody :=
  let cut (at_ : Nat) (l : List Byte) : List Byte :=
    (l.take (k - at_)) ++ List.replicate (l.length - (l.take (k - at_)).length) 0
  match b with
  | .tlp d t => .tlp (if k < 4 then ⟨0, 0, false, false⟩ else d) { t with data := cut (4 + t.hdr) t.data }
  | .tlpRest d l => .tlpRest (if k < 4 then ⟨0, 0, false, false⟩ else d) (cut 4 l)
  | .fme h l => .fme (if k < 32 then { pt := 0 } else h) (cut 32 l)
  | .mgmt op fin p a ws =>
    .mgmt op fin p a (ws.take (k / 8 - 1) ++ List.replicate (ws.length - (ws.take (k / 8 - 1)).length) 0)

/-- The packets of a unit leave, of which the first `here` cells are there: the source station's first send sets ts (R224),
any poisoned cell poison (R259). From the absent cell on a packet is zeros, and it is stomped (R276); a copy of a bad packet is
stomped whole (R227). -/
def sendPackets (x here : Nat) (u : CUnit) (s : State) : State :=
  let ts := s.ft % 2 ^ 16
  let own (o : Origin) : Bool := match o with
    | .fabric .. => false
    | _ => true
  match u.body with
  | .pkt p r =>
    let short (first cells : Nat) : Bool := u.stomp || decide (here < first + cells)
    let firstCells := if r.isSome then 64 else u.cells
    let fix (from_ : Nat) (p : Packet) : Packet :=
      { p with body := if here < u.cells then zeroFrom (64 * here - 64 * from_) p.body else p.body, ts := if own u.origin then ts else p.ts, poison := p.poison || !u.pois.isEmpty }
    let s := if own u.origin then stampTrack p ts s else s
    let s := match p.body with
      | .tlp _ t => if p.snode = s.node ∧ !short 0 u.cells then npAdd (128 + p.dnode) t s else s
      | _ => s
    let s := sendOnLink (x / 4) (x % 4) (short 0 firstCells) (fix 0 p) s
    match r with
    | some r => sendOnLink (x / 4) (x % 4) (short 0 u.cells) (fix 64 r) s
    | none => s
  | _ => s

/-- A TLP leaves on a PCI Express port: it takes credit, a non-posted request is awaited, and an Unlock
message on a port locked by tunnel releases it (R204, R347). -/
def sendTlp (x : Nat) (u : CUnit) (t : Tlp) (s : State) : State :=
  let t := { t with ep := t.ep || !u.pois.isEmpty }
  let s := s.emit (.tlp (x / 4) (x % 4) t)
  let k := fcType t
  let s := s.onEport x (fun e =>
    let c := Tab.get (0, 0) e.fc k
    { e with fc := Tab.set (0, 0) e.fc k (c.1 - 1, c.2 - fcData t) })
  let s := npAdd x t s
  match t.kind, (s.eport x).lock with
  | .unlock, .remote node port ltag _ => lockAnswer (x / 4) x node port ltag 2 (setLock x .free s)
  | _, _ => s

/-- A whole unit leaves its queue and the device. -/
def sendUnit (x k id : Nat) (u : CUnit) (s : State) : State :=
  let o := unitOcc s u
  let s := perf (x / 4) 2 (some (x % 4)) (unitBytes u) o (perf (x / 4) 4 (some (x % 4)) 1 o s)
  let s := match u.body with
    | .tlp _ _ t => sendTlp x u t s
    | _ => sendPackets x u.cells u s
  let s := match u.job with
    | some j => subLeft j s
    | none => s
  doneUnit id (removeUnit x k id s)

/-- A unit is discarded for an error in a cell's header (R204, R271): its cells leave the queue, and those still
to come are dropped. A packet already begun is stomped. -/
def killUnit (id : Nat) (s : State) : State :=
  match s.unit id with
  | none => s
  | some u =>
    let x := u.dst
    let k := qKey u.group u.queue
    let q := s.eq x k
    let s := jobLost u s
    let whole := (q.head.flatten ++ q.mid.flatMap (fun b => b.cells) ++ q.tail).any (fun c => c.1 == id && c.2 + 1 == u.cells)
    let s := match (s.eport x).sending with
      | .begun i _ _ => if i = id then (sendPackets x (hereCells s x k id) u s).onEport x (fun e => { e with sending := .none }) else s
      | .stomped i _ _ => if i = id then s.onEport x (fun e => { e with sending := .none }) else s
      | .none => s
    let s := removeUnit x k id s
    let s := s.onEport x (fun e => { e with aside := e.aside.filter (fun a => a.1 != id) })
    if whole then doneUnit id s else s.setUnit id { u with hdrBad := true }

/-- The check of a cell read from a store (R204, R271, R564): `note` counts and logs an uncorrectable error. The
unit is poisoned, or discarded, and the function at which it entered logs an Uncorrectable Internal Error. -/
def cellCheck (id idx : Nat) (err : CellErr) (corrected : State → State) (note : Nat → State → State) (s : State) : State :=
  match err, s.unit id with
  | .corrected, _ => corrected s
  | .payload loc, some u =>
    let s := note loc s
    let s := match u.entry with
      | some (q, fn) => aerError q fn aerInternal 1 s
      | none => s
    s.setUnit id { u with pois := idx :: u.pois }
  | .header loc, some u =>
    let s := note loc s
    let s := match u.entry with
      | some (q, fn) => aerError q fn aerInternal 2 s
      | none => s
    killUnit id s
  | _, _ => s

/-- The check of a cell read from a station's SRAM. -/
def sramCheck (n id idx : Nat) (err : CellErr) (s : State) : State :=
  cellCheck id idx err (fun s => s.bump Reg.GLB_CECC_CNT) (sramUe 0 n) s

/-- Has an FME unit outlived HOPLIFE (R441)? -/
def outlived (s : State) (u : CUnit) : Bool :=
  match u.body with
  | .pkt p _ => (p.type == 2 || p.type == 3) &&
    decide (u.entered + max 1 (s.actF Reg.GLB_FME_CFG Fld.GLB_FME_CFG_HOPLIFE) * 1000 < s.now)
  | _ => false

/-- The port serves the head of queue `k` (R365 to R368, R441): the unit leaves, begins, stands aside, or is
discarded for its age. -/
def serve (x k : Nat) (d : Sched) (s : State) : State :=
  match headUnit s x k with
  | none => s
  | some id => match s.unit id with
    | none => s
    | some u =>
      if outlived s u then doneUnit id (removeUnit x k id (s.bump (Reg.FME_LIFECNT (x / 4))))
      else
        let len := unitLen s x u
        let c := k % 16
        let s := s.onEport x (fun e => { e with sched := d })
        let s := shpCharge x 8 len (if c < 8 then shpCharge x c len s else s)
        match u.body with
        | .tlp _ _ t =>
          if standsAside s x k t then
            (s.bump (Reg.SCH_SACNT (x / 4))).onEport x (fun e => { e with aside := e.aside ++ [(id, k)] })
          else sendUnit x k id u s
        | _ =>
          if hereCells s x k id = u.cells then sendUnit x k id u s
          else s.onEport x (fun e => { e with sending := .begun id u.group u.queue })

/-- The request at the head of the stand-aside list leaves when credit covers it (R367). -/
def sendAside (x : Nat) (s : State) : Option State :=
  match (s.eport x).aside with
  | [] => none
  | (id, k) :: rest => match s.unit id with
    | none => some (s.onEport x (fun e => { e with aside := rest }))
    | some u => match u.body with
      | .tlp _ _ t =>
        if fcOk s x t then some (sendUnit x k id u (s.onEport x (fun e => { e with aside := rest }))) else none
      | _ => none

/-- Requests on the stand-aside list leave in order while credit covers them. -/
def drainAside (x : Nat) : Nat → State → State
  | 0, s => s
  | fuel + 1, s => match sendAside x s with
    | some s => drainAside x fuel s
    | none => s

/-! ## Cells into the queues -/

/-- A unit whose cells are all present at last is sent, when its port had begun it in cut-through (R275, R299). -/
def finishBegun (x id : Nat) (s : State) : State :=
  match (s.eport x).sending, s.unit id with
  | .begun i g q, some u =>
    if i = id ∧ hereCells s x (qKey g q) id = u.cells then
      sendUnit x (qKey g q) id u (s.onEport x (fun e => { e with sending := .none }))
    else s
  | _, _ => s

/-- Is a unit an FME packet? -/
def isFme (u : CUnit) : Bool :=
  match u.body with
  | .pkt p _ => p.type == 2 || p.type == 3
  | _ => false

/-- A cell that the resequencer of port `x` releases enters its queue, or is dropped with its unit (R264, R295,
R305, R306, R354); false when it must wait. -/
def enqueue (x : Nat) (c : CellRef) (s : State) : Bool × State :=
  match s.unit c.1 with
  | none => (true, s)
  | some u =>
    let last := c.2 + 1 == u.cells
    let drop (s : State) : State := if last then doneUnit c.1 s else match s.unit c.1 with
      | some u => s.setUnit c.1 { u with hdrBad := true }
      | none => s
    if u.hdrBad then (true, drop s)
    else if portDead s x then (true, drop (loseAny x u s))
    else match takeCell x (qKey u.group u.queue) c s with
      | (true, s) =>
        let s := resched x (if c.2 = 0 then s.setUnit c.1 { u with entered := s.now } else s)
        (true, if last then finishBegun x c.1 s else s)
      | (false, s) =>
        if isFme u && s.actB (Reg.BUF_CFG (x / 4)) Fld.BUF_CFG_FMEDROP && c.2 == 0 then
          (true, drop (s.bump (Reg.BUF_FMEDROPCNT (x / 4))))
        else (false, s)

/-- The resequencer of port `x` for source station `n` releases cells in CSN order until one is missing or must
wait (R264, R305); each released cell's slot credit falls due (R294). -/
def release (n x : Nat) : Nat → State → State
  | 0, s => s
  | fuel + 1, s =>
    let r := Tab.get {} (s.eport x).reseq n
    match r.held.find? (fun h => h.1 == r.next) with
    | none => s
    | some (csn, c) =>
      match enqueue x c s with
      | (true, s) =>
        let put (r : Reseq) : Reseq :=
          { next := (csn + 1) % 4096, held := r.held.filter (fun h => h.1 != csn), waiting := false }
        let s := s.onEport x (fun e => { e with reseq := Tab.set {} e.reseq n (put (Tab.get {} e.reseq n)) })
        let s := s.onIng n (fun i => { i with owed := Tab.set 0 i.owed (x / 4) (Tab.get 0 i.owed (x / 4) + 1) })
        release n x fuel s
      | (false, s) =>
        if r.waiting then s
        else (perf (x / 4) 0x0B (some (x % 4)) 1 {} (s.bump (Reg.BUF_HOLDCNT (x / 4)))).onEport x (fun e =>
          { e with reseq := Tab.set {} e.reseq n { Tab.get {} e.reseq n with waiting := true } })

/-- Segments of station `n` have become free: the resequencers that wait try again; and the schedulers follow what has left
(R366). -/
def wake (n : Nat) (s : State) : State :=
  (List.range 4).foldl (fun s p =>
    let x := 4 * n + p
    resched x (((s.eport x).reseq.filter (fun e => e.2.waiting)).foldl (fun s e => release e.1 x e.2.held.length s) s)) s

/-! ## The commands -/

/-- Does port `x` send: a fabric link that carries data, a PCI Express port in L0, or in L1, which it leaves? -/
def portSends (s : State) (x : Nat) : Bool :=
  let n := x / 4
  let p := x % 4
  let st := s.livF (Reg.PORT_STAT n p) Fld.PORT_STAT_LTSSM
  if stnKind s.act n = .fabric then fabPort s.act n p && carries s n p
  else pciePort s.act n p && s.dlUp n p && (st == 3 || st == 5)

/-- A port in L1 returns to L0 to send. -/
def leaveL1 (x : Nat) (s : State) : State :=
  let a := Reg.PORT_STAT (x / 4) (x % 4)
  if s.livF a Fld.PORT_STAT_LTSSM = 5 then (s.setLivF a Fld.PORT_STAT_LTSSM 3).setLivF a Fld.PORT_STAT_SUB 0 else s

/-- EGRESS_SELECT (R365): port `p` of station `n` makes a decision; `err` is the check of the segments that it
reads. -/
def execEgressSelect (n : Fin 24) (p : Fin 4) (err : CellErr) (s : State) : Host.Outcome State Fault Refusal :=
  let x := 4 * n.val + p.val
  let busy := match (s.eport x).sending with
    | .begun .. => true
    | _ => false
  .next <| settle (
    if busy || !portSends s x then s
    else match sendAside x s with
      | some s => wake n.val s
      | none =>
        match selectQueue s x with
        | (none, d) => s.onEport x (fun e => { e with sched := d })
        | (some k, d) =>
          let id := (headUnit s x k).getD 0
          let s := sramCheck n.val id 0 err s
          wake n.val (if (headUnit s x k) = some id then serve x k d (leaveL1 x s) else s))

/-- EGRESS_UNDERRUN (R276): a packet begun in cut-through reaches a cell that is not there: from there on it is filled with
zeros, and it is stomped. -/
def execEgressUnderrun (n : Fin 24) (f : Fin 2) (s : State) : Host.Outcome State Fault Refusal :=
  let x := 4 * n.val + f.val
  .next <| settle (match (s.eport x).sending with
    | .begun id g q => match s.unit id with
      | some u =>
        let here := hereCells s x (qKey g q) id
        if here < u.cells then
          ((sendPackets x here u s).bump (Reg.XB_UNDERCNT n.val)).onEport x (fun e => { e with sending := .stomped id g q })
        else s
      | none => s
    | _ => s)

/-- STOMP_RESEND (R276): every cell of a stomped packet is present, and it leaves again with a new seq, as its link takes it
and has credit for it (R234). -/
def execStompResend (n : Fin 24) (f : Fin 2) (s : State) : Host.Outcome State Fault Refusal :=
  let x := 4 * n.val + f.val
  .next <| settle (match (s.eport x).sending with
    | .stomped id g q => match s.unit id with
      | some u =>
        if hereCells s x (qKey g q) id = u.cells ∧ fabReady s x u ∧ fabCredit s x u then
          wake n.val (sendUnit x (qKey g q) id u (s.onEport x (fun e => { e with sending := .none })))
        else s
      | none => s
    | _ => s)

/-- PCIE_FC_UPDATE (R367): the link partner grants credits of a type; requests on the stand-aside list leave in
order as they permit. -/
def execPcieFcUpdate (n : Fin 24) (p : Fin 4) (ty : FcType) (hdr data : Nat) (s : State) :
    Host.Outcome State Fault Refusal :=
  let x := 4 * n.val + p.val
  let k := match ty with
    | .posted => 0
    | .nonPosted => 1
    | .cpl => 2
  .next <| settle (
    if pciePort s.act n.val p.val && s.dlUp n.val p.val then
      let s := s.onEport x (fun e =>
        let c := Tab.get (0, 0) e.fc k
        { e with fc := Tab.set (0, 0) e.fc k (c.1 + hdr, c.2 + data) })
      wake n.val (drainAside x 17 s)
    else s)

/-! ## Spill and refill (R296, R297, R302) -/

/-- Changes the first element that satisfies `q`. -/
def mapFirst {α : Type} (q : α → Bool) (f : α → α) : List α → List α
  | [] => []
  | a :: l => if q a then f a :: l else a :: mapFirst q f l

/-- The queues of station `n`, in the order of port, group and QUEUE as 1,024 × port + queue, for which `q` holds. -/
def egressQueues (s : State) (n : Nat) (q : EQueue → Bool) : List Nat :=
  (List.range 4).flatMap (fun p => ((s.eport (4 * n + p)).queues.filter (fun e => q e.2)).map (fun e => 1024 * p + e.1))

/-- The queue that round robin serves after `last` (R304). -/
def nextTurn (l : List Nat) (last : Option Nat) : Option Nat :=
  (l.find? (fun k => last.all (fun m => decide (m < k)))).or l.head?

/-- Does a queue need a read of its next block, which has been written (R297)? -/
def wantsRefill (e : EQueue) : Bool :=
  decide (e.head.flatten.length < 96) && match e.mid.find? (fun b => !b.reading) with
    | some b => !b.writing
    | none => false

/-- The queue of station `n` whose refill read begins next (R297, R304). -/
def refillTurn (s : State) (n : Nat) : Option Nat :=
  if freeSegs s n = 0 then none else nextTurn (egressQueues s n wantsRefill) (Tab.find s.dp.refilled n)

/-- The queue of station `n` whose spill write comes next: refill reads go first (R304; DESIGN CHOICE, log entry 117: writes
complete in the order in which they are served). -/
def spillTurn (s : State) (n : Nat) : Option Nat :=
  if (refillTurn s n).isSome then none
  else nextTurn (egressQueues s n (fun e => e.mid.any (fun b => b.writing))) (Tab.find s.dp.spilled n)

/-- SPILL_WRITE_DONE (R296, R304): the write of a queue's oldest block in writing completes, in its turn, and its segment
returns to the store. -/
def execSpillWriteDone (n : Fin 24) (p : Fin 4) (g : Fin 49) (q : Fin 8) (s : State) : Host.Outcome State Fault Refusal :=
  let x := 4 * n.val + p.val
  let k := qKey g.val q.val
  let e := s.eq x k
  .next <| settle (
    if spillTurn s n.val = some (1024 * p.val + k) then
      let s := s.onDp (fun d => { d with spilled := Tab.put d.spilled n.val (1024 * p.val + k) })
      let s := s.setEq x k { e with mid := mapFirst (fun b => b.writing) (fun b => { b with writing := false }) e.mid }
      let s := perf n.val 9 (some p.val) 1 { cls := some q.val } (driftMove true 1024 s)
      wake n.val (addSegs n.val 1 (s.bump (Reg.BUF_SPILLCNT n.val)))
    else s)

/-- REFILL_START (R297, R304): with fewer than 96 cells in the head and a free segment, the read of the oldest block
that is not being read begins, in the queue's turn. -/
def execRefillStart (n : Fin 24) (p : Fin 4) (g : Fin 49) (q : Fin 8) (s : State) : Host.Outcome State Fault Refusal :=
  let x := 4 * n.val + p.val
  let k := qKey g.val q.val
  let e := s.eq x k
  .next <| settle (
    if refillTurn s n.val = some (1024 * p.val + k) then
      let s := s.onDp (fun d => { d with refilled := Tab.put d.refilled n.val (1024 * p.val + k) })
      addSegs n.val (-1) (s.setEq x k { e with mid := mapFirst (fun b => !b.reading) (fun b => { b with reading := true }) e.mid })
    else s)

/-- The rest of a queue's middle is lost: its blocks are counted, their units discarded, and BUF_LOSS is raised
(R302). -/
def loseMiddle (n x k : Nat) (s : State) : State :=
  let q := s.eq x k
  let segs := (q.mid.filter (fun b => b.writing || b.reading)).length
  let ids := dedup ((q.mid.flatMap (fun b => b.cells)).map (fun c => c.1))
  let s := ids.foldl (fun s id => killUnit id s) s
  let s := giveBlocks n q.mid.length ((s.setEq x k { s.eq x k with mid := [] }).bump (Reg.BUF_LOSSCNT n) q.mid.length)
  let s := addSegs n segs s
  (if q.mid = [] then s else addSpillQ n (-1) s).raise (gEvt 12)

/-- REFILL_DONE (R297, R302): the read of a queue's oldest block completes into a head segment; `errs` gives the
check of each of its cells, `next` whether a copy of NEXT passed its check. -/
def execRefillDone (n : Fin 24) (p : Fin 4) (g : Fin 49) (q : Fin 8) (errs : List CellErr) (next : Bool) (s : State) :
    Host.Outcome State Fault Refusal :=
  let x := 4 * n.val + p.val
  let k := qKey g.val q.val
  .next <| settle (match (s.eq x k).mid with
    | [] => s
    | b :: rest =>
      if !b.reading then s
      else
        let s := s.setEq x k { s.eq x k with head := (s.eq x k).head ++ [b.cells], mid := rest }
        let s := if rest = [] then addSpillQ n.val (-1) s else s
        let s := perf n.val 0x0A (some p.val) 1 { cls := some q.val } (driftMove true 1024 s)
        let s := giveBlocks n.val 1 (s.bump (Reg.BUF_REFILLCNT n.val))
        let s := (b.cells.zip errs).foldl (fun s e =>
          cellCheck e.1.1 e.1.2 e.2 (fun s => s.bump Reg.GLB_DRIFT_CECCCNT) (fun _ => driftUe 6 b.idx) s) s
        let q := s.eq x k
        let live (c : CellRef) : Bool := match s.unit c.1 with
          | some u => !u.hdrBad
          | none => false
        let head := (q.head.map (fun l => l.filter live)).filter (fun l => !l.isEmpty)
        let s := addSegs n.val (q.head.length - head.length) (s.setEq x k { q with head := head })
        let s := if next then s else loseMiddle n.val x k (driftUe 6 b.idx s)
        let s := match (s.eport x).sending with
          | .begun id _ _ => finishBegun x id s
          | _ => s
        wake n.val s)

end Sys2Proof.Machine
end

