-- ==== Sys2Proof/Machine/Crossbar.lean ====
section
/-! DEFINITION. The handshake core: offering, capturing and acknowledging cells, slot credits, plane faults and
plane commands, speed (R257 to R285, R293, R294). -/

namespace Sys2Proof.Machine

/-- Is plane `k` in service (GLB_CORE_STAT.AIN, BIN)? -/
def planeIn (s : State) (k : Nat) : Bool :=
  s.livB Reg.GLB_CORE_STAT (if k = 0 then Fld.GLB_CORE_STAT_AIN else Fld.GLB_CORE_STAT_BIN)

/-- Marks plane `k` in or out of service. -/
def setPlane (k : Nat) (b : Bool) (s : State) : State :=
  s.setLivF Reg.GLB_CORE_STAT (if k = 0 then Fld.GLB_CORE_STAT_AIN else Fld.GLB_CORE_STAT_BIN) (b2n b)

/-- Is plane `k` being removed (R277)? -/
def removing (s : State) (k : Nat) : Bool := s.dp.removal == some k

/-- May cells be offered to plane `k`? -/
def planeTakes (s : State) (k : Nat) : Bool :=
  planeIn s k && !removing s k && !s.livB Reg.GLB_CORE_STAT Fld.GLB_CORE_STAT_DOWN

/-! ## Offering (R261, R262, R265, R293, R294, R355) -/

/-- Does a lock of the egress port keep a unit in the ingress (R207, R347)? -/
def lockBlocks (s : State) (u : CUnit) : Bool :=
  match u.body with
  | .tlp _ _ t =>
    !t.isCpl && match (s.eport u.dst).lock with
    | .free => false
    | .byPort x => u.origin != .pcie x
    | .remote .. => !u.locked
  | _ => false

/-- The first unit of a list that may go: not waiting for a grant or a tag (R323, R347), not held by a route move (R355),
not kept by a lock, and not behind one of its own ingress port that is kept by a lock. -/
def firstFree (s : State) : List Nat → List Origin → Option Nat
  | [], _ => none
  | id :: l, kept =>
    match s.unit id with
    | none => firstFree s l kept
    | some u =>
      if u.wait ≠ .none then firstFree s l kept
      else if lockBlocks s u then firstFree s l (u.origin :: kept)
      else if decide (s.now < u.holdUntil) || kept.contains u.origin then firstFree s l kept
      else some id

/-- Can station `n` offer a cell toward egress port `x`: a slot credit, and fewer than 1,024 unacknowledged? -/
def canOffer (s : State) (n x : Nat) : Bool :=
  decide (Tab.get 0 (s.ing n).spent (x / 4) < 96) && decide ((Tab.get [] (s.ing n).flying x).length < 1024)

/-- The unit and cell that station `n` offers next (R293): a unit in progress goes on; else QUEUE 8 and class 7
go first, and the other lists in turn after the one served last. -/
def nextCell (s : State) (n : Nat) : Option (Nat × Nat × Option Nat) :=
  let i := s.ing n
  match i.part.find? (fun e => canOffer s n e.1) with
  | some (_, (id, idx)) => some (id, idx, none)
  | none =>
    let ok := i.lists.filterMap (fun e =>
      let x := e.1 / 16
      if canOffer s n x && (Tab.find i.part x).isNone then (firstFree s e.2 []).map (fun id => (e.1, id)) else none)
    let first := ok.find? (fun e => e.1 % 16 == 8 || e.1 % 16 == 7)
    let turn := ((ok.find? (fun e => decide (i.last < e.1))).or ok.head?)
    match first with
    | some (_, id) => some (id, 0, none)
    | none => turn.map (fun e => (e.2, 0, some e.1))

/-- Station `n` offers cell `idx` of unit `id` on plane `k`: it takes the next CSN of its egress port and a slot
credit. -/
def offer (n k id idx : Nat) (u : CUnit) (s : State) : State :=
  let x := u.dst
  let s := perf n (5 + k) u.origin.port? 1 { unitOcc s u with addr := none } (s.bump (Reg.XB_CELLCNT n k))
  s.onIng n (fun i =>
    let csn := Tab.get 0 i.csn x
    let key := listKey x u.queue
    { i with
      csn := Tab.set 0 i.csn x ((csn + 1) % 4096)
      spent := Tab.set 0 i.spent (x / 4) (Tab.get 0 i.spent (x / 4) + 1)
      flying := Tab.put i.flying x (Tab.get [] i.flying x ++ [{ csn := csn, uid := id, idx := idx, plane := k, at_ := s.now }])
      part := if idx + 1 < u.cells then Tab.put i.part x (id, idx + 1) else Tab.del i.part x
      lists := if idx + 1 < u.cells then i.lists
        else Tab.set [] i.lists key ((Tab.get [] i.lists key).filter (fun j => j != id)) })

/-- CELL_OFFER (R265): plane `k` is first ready for a cell of station `n`, which offers the next; `err` is the
check of the ingress cell buffer that it reads. -/
def execCellOffer (n : Fin 24) (k : Fin 2) (err : CellErr) (s : State) : Host.Outcome State Fault Refusal :=
  .next <| settle (
    if planeTakes s k.val then
      match nextCell s n.val with
      | none => s
      | some (id, idx, turn) =>
        let s := match turn with
          | some key => s.onIng n.val (fun i => { i with last := key })
          | none => s
        let s := sramCheck n.val id idx err s
        match s.unit id with
        | some u => offer n.val k.val id idx u s
        | none => s
    else s)

/-! ## Capture and acknowledgement (R260, R263, R264) -/

/-- Marks the first cell in flight from `n` to `x` with a CSN on a plane as captured. -/
def markCaptured (n x csn k : Nat) (s : State) : State :=
  s.onIng n (fun i => { i with
    flying := Tab.put i.flying x (mapFirst (fun c => c.csn == csn && c.plane == k) (fun c => { c with captured := true })
      (Tab.get [] i.flying x)) })

/-- The requests that stand at the output of plane `k` to station `e`: their stations, each with the `now` of the request. -/
def requests (s : State) (e k : Nat) : List (Nat × Nat) :=
  s.dp.ing.flatMap (fun i => i.2.flying.flatMap (fun l =>
    if l.1 / 4 = e then (l.2.filter (fun c => c.plane == k && !c.captured)).map (fun c => (i.1, c.at_)) else []))

/-- Is the request of station `n`, made at `t`, the next that an output grants (R266): none was made before it, and of those
that lost to a winner made at the same time it has the lowest station? -/
def mayGrant (s : State) (e k n t : Nat) : Bool :=
  (requests s e k).all (fun r => decide (t < r.2) ||
    (r.2 == t && (Tab.get none s.dp.granted (2 * e + k) != some t || decide (n ≤ r.1))))

/-- CELL_CAPTURE (R260, R264, R266): egress port `x` captures the oldest cell of station `n` on plane `k` as the plane's output
grants it; `ecc` is the number of its nine words in which a single-bit error was corrected. The cell is acknowledged; a
duplicate is discarded and counted. -/
def execCellCapture (n : Fin 24) (x : Fin 96) (k : Fin 2) (ecc : Fin 10) (s : State) : Host.Outcome State Fault Refusal :=
  let n := n.val
  let x := x.val
  .next <| settle (
    if s.livB Reg.GLB_CORE_STAT Fld.GLB_CORE_STAT_DOWN then s
    else match (Tab.get [] (s.ing n).flying x).find? (fun c => c.plane == k.val && !c.captured) with
      | none => s
      | some c =>
        if !mayGrant s (x / 4) k.val n c.at_ then s else
        let s := s.onDp (fun d => { d with granted := Tab.put d.granted (2 * (x / 4) + k.val) (some c.at_) })
        let s := s.bump (Reg.XB_CECCCNT (x / 4) k.val) ecc.val
        let s := countCell (s.unit c.uid) (markCaptured n x c.csn k.val s)
        let r := Tab.get {} (s.eport x).reseq n
        let behind := (r.next + 4096 - c.csn) % 4096
        if (1 ≤ behind ∧ behind ≤ 2048) ∨ r.held.any (fun h => h.1 == c.csn) then s.bump (Reg.XB_DUPCNT (x / 4))
        else
          let s := s.onEport x (fun e =>
            { e with reseq := Tab.set {} e.reseq n { r with held := r.held ++ [(c.csn, (c.uid, c.idx))] } })
          wake (x / 4) (release n x (r.held.length + 1) s))

/-- CELL_ACK_RECEIVE (R263, R293): the acknowledgement of the oldest captured cell of plane `k` from station `n` to
port `x` arrives; with its unit's last cell the unit's half-cells are freed. -/
def execCellAckReceive (n : Fin 24) (x : Fin 96) (k : Fin 2) (s : State) : Host.Outcome State Fault Refusal :=
  let n := n.val
  let x := x.val
  .next <| settle (match takeFirst (fun (c : Flying) => c.plane == k.val && c.captured) (Tab.get [] (s.ing n).flying x) with
    | none => s
    | some (c, rest) =>
      let s := s.onIng n (fun i => { i with flying := Tab.set [] i.flying x rest })
      let left := rest.any (fun d => d.uid == c.uid) ||
        (match Tab.find (s.ing n).part x with
          | some (id, _) => id == c.uid
          | none => false)
      if left then s else freeUnit c.uid s)

/-- SLOT_CREDIT_RETURN (R294): egress station `e` returns a slot credit to station `n`. -/
def execSlotCreditReturn (n e : Fin 24) (s : State) : Host.Outcome State Fault Refusal :=
  let i := s.ing n.val
  .next <| settle (
    if Tab.get 0 i.owed e.val = 0 then s
    else s.setIng n.val { i with
      owed := Tab.set 0 i.owed e.val (Tab.get 0 i.owed e.val - 1)
      spent := Tab.set 0 i.spent e.val (Tab.get 0 i.spent e.val - 1) })

/-! ## Plane faults (R269 to R273) -/

/-- Every cell in flight on a plane that satisfies `q` is resent on plane `k` with its CSN (R270). -/
def resendCells (q : Nat → Bool) (k : Nat) (s : State) : State :=
  (List.range 24).foldl (fun s n =>
    let m := (s.ing n).flying.foldl (fun m e => m + (e.2.filter (fun c => q c.plane)).length) 0
    if m = 0 then s
    else
      let s := (s.bump (Reg.XB_RSNDCNT n) m).bump (Reg.XB_CELLCNT n k) m
      s.onIng n (fun i => { i with flying := Tab.mapVals (fun _ l => l.map (fun c =>
        if q c.plane then { c with plane := k, at_ := s.now, captured := false } else c)) i.flying })) s

/-- Station `n` declares a fault on plane `k` with a cause (R270, R273). -/
def planeFault (n k cause : Nat) (s : State) : State :=
  let other := 1 - k
  let s := setPlane k false s
  let s := s.setLivF Reg.GLB_CORE_STAT (if k = 0 then Fld.GLB_CORE_STAT_ACAUSE else Fld.GLB_CORE_STAT_BCAUSE) cause
  let s := s.setLivF Reg.GLB_CORE_STAT (if k = 0 then Fld.GLB_CORE_STAT_ASTN else Fld.GLB_CORE_STAT_BSTN) n
  let s := if removing s k then s.onDp (fun d => { d with removal := none }) else s
  let s := (s.raise (gEvt 7)).logDevice (gEvt 7)
  if planeIn s other then resendCells (fun p => p == k) other s
  else (s.setLivF Reg.GLB_CORE_STAT Fld.GLB_CORE_STAT_DOWN 1).raise (gEvt 10)

/-- The oldest cell of station `n` that has no acknowledgement yet on a plane in service, captured or not. -/
def oldestCell (s : State) (n : Nat) : Option Flying :=
  ((s.ing n).flying.flatMap (fun e => e.2)).foldl (fun m c =>
    if planeIn s c.plane then
      match m with
      | none => some c
      | some d => if c.at_ < d.at_ then some c else m
    else m) none

/-- PLANE_ACK_TIMEOUT (R269): a cell of station `n` has had no acknowledgement for 150 ns. -/
def execPlaneAckTimeout (n : Fin 24) (s : State) : Host.Outcome State Fault Refusal :=
  .next <| settle (match oldestCell s n.val with
    | none => s
    | some c => planeFault n.val c.plane 1 (s.reach (c.at_ + 150)))

/-- PLANE_ERROR_REPORT (R269): an egress station reports to station `n` an uncorrectable error on a cell from plane
`k`, which therefore has no acknowledgement. -/
def execPlaneErrorReport (n : Fin 24) (k : Fin 2) (s : State) : Host.Outcome State Fault Refusal :=
  .next <| settle (
    if planeIn s k.val && ((s.ing n.val).flying.any (fun e => e.2.any (fun c => c.plane == k.val && !c.captured)))
    then planeFault n.val k.val 2 s else s)

/-! ## Plane commands (R277) -/

/-- Does GLB_CORE_CMD refuse an operation on plane `k`? DESIGN CHOICE (log entry 116): a plane that is being removed counts as
out for a REMOVE of the other. -/
def coreRefuses (s : State) (op k : Nat) : Bool :=
  (match s.dp.plane with
    | .test .. => true
    | _ => false) ||
  (if op = 3 then !planeIn s (1 - k) || removing s (1 - k) else planeIn s k)

/-- The effect of GLB_CORE_CMD: 1 TEST, 2 RESTORE, 3 REMOVE; 0 does nothing. -/
def coreCommand (op k : Nat) (s : State) : State :=
  if op = 0 then s
  else if coreRefuses s op k then s.setLivF Reg.GLB_CORE_STAT Fld.GLB_CORE_STAT_CMDREJ 1
  else if op = 3 then
    if planeIn s k then s.onDp (fun d => { d with removal := some k }) else s
  else
    let s := s.setLivF Reg.GLB_CORE_STAT (if k = 0 then Fld.GLB_CORE_STAT_ATEST else Fld.GLB_CORE_STAT_BTEST) 1
    s.onDp (fun d => { d with plane := .test k (op == 2) })

/-- GLB_CORE_CMD with one of the operations `ops`. -/
def coreRule (ops : List Nat) : LiveRule where
  sel := fun a v => a == Reg.GLB_CORE_CMD && ops.contains (fget v Fld.GLB_CORE_CMD_OP)
  eff := fun _ _ a v => command (fun s =>
    coreCommand (fget v Fld.GLB_CORE_CMD_OP) (fget v Fld.GLB_CORE_CMD_PLANE) (storeCmd a v [Fld.GLB_CORE_CMD_OP] s))

/-- CORE_CMD_TEST. -/
def execCoreCmdTest (s : State) : Host.Outcome State Fault Refusal := liveStep (coreRule [1]) s

/-- CORE_CMD_RESTORE. -/
def execCoreCmdRestore (s : State) : Host.Outcome State Fault Refusal := liveStep (coreRule [2]) s

/-- CORE_CMD_REMOVE. -/
def execCoreCmdRemove (s : State) : Host.Outcome State Fault Refusal := liveStep (coreRule [3]) s

/-- PLANE_TEST_DONE (R277): the self-test of a plane ends. A pass under RESTORE returns it to service; cells that
wait for a plane are then sent again. -/
def execPlaneTestDone (pass : Bool) (s : State) : Host.Outcome State Fault Refusal :=
  .next <| settle (match s.dp.plane with
    | .test k restore =>
      let s := s.onDp (fun d => { d with plane := .none })
      let s := s.setLivF Reg.GLB_CORE_STAT (if k = 0 then Fld.GLB_CORE_STAT_ATEST else Fld.GLB_CORE_STAT_BTEST) 0
      if !pass then
        s.setLivF Reg.GLB_CORE_STAT (if k = 0 then Fld.GLB_CORE_STAT_ACAUSE else Fld.GLB_CORE_STAT_BCAUSE) 3
      else if restore then
        let down := s.livB Reg.GLB_CORE_STAT Fld.GLB_CORE_STAT_DOWN
        let s := (setPlane k true s).setLivF Reg.GLB_CORE_STAT Fld.GLB_CORE_STAT_DOWN 0
        let s := (s.raise (gEvt 8)).logDevice (gEvt 8)
        if down then resendCells (fun _ => true) k s else s
      else s
    | _ => s)

/-- PLANE_REMOVE_DONE (R277): every cell offered to the plane has been acknowledged, and it is marked out. DESIGN CHOICE (log
entry 116): where the other plane has failed meanwhile, DOWN shows that none is in service. -/
def execPlaneRemoveDone (s : State) : Host.Outcome State Fault Refusal :=
  .next <| settle (match s.dp.removal with
    | some k =>
      if s.dp.ing.any (fun i => i.2.flying.any (fun e => e.2.any (fun c => c.plane == k))) then s
      else
        let s := (setPlane k false (s.onDp (fun d => { d with removal := none }))).logDevice (gEvt 7)
        if planeIn s (1 - k) then s else s.setLivF Reg.GLB_CORE_STAT Fld.GLB_CORE_STAT_DOWN 1
    | _ => s)

/-! ## Speed (R281 to R285) -/

/-- CORE_SPEED_SAMPLE (R281, R285): the longest stage time measured, in ps. -/
def execCoreSpeedSample (ths : Fin 1024) (s : State) : Host.Outcome State Fault Refusal :=
  .next <| settle (slowCheck (s.setLivF Reg.GLB_CORE_SPEED Fld.GLB_CORE_SPEED_THS ths.val))

end Sys2Proof.Machine
end

