-- ==== Sys2Proof/Machine/Tylyn.lean ====
section
/-! DEFINITION. The Tylyn instructions that act within the Director, on time and on cue lines (R39 to
R41, R47 to R49, R62, R63). -/

namespace Sys2Proof.Machine

/-- A three-register instruction (format A): Gd = f Ga Gb. -/
def alu (op : Nat) (f : DWord → DWord → DWord) (s : State) : Host.Outcome State Fault Refusal :=
  insn op 0x7FF (fun t w s => retireG t (fD w) (f (t.g (fA w)) (t.g (fB w))) s) s

/-- An immediate instruction (format I): Gd = f Ga imm16. -/
def aluI (op rsv : Nat) (f : DWord → Nat → DWord) (s : State) : Host.Outcome State Fault Refusal :=
  insn op rsv (fun t w s => retireG t (fD w) (f (t.g (fA w)) (fImm w)) s) s

/-- A shift amount: bits [5:0] (R39). -/
def shamt (b : DWord) : Nat := b.toNat % 64

/-- A sign-extended 16-bit immediate. -/
def sext16 (i : Nat) : DWord := (BitVec.ofNat 16 i).signExtend 64

/-- NOP. -/
def execNop (s : State) : Host.Outcome State Fault Refusal := insn 0x00 0x3FFFFFF (fun t _ s => retire t s) s

/-- ADD. Arithmetic wraps modulo 2^64 (R40). -/
def execAdd (s : State) : Host.Outcome State Fault Refusal := alu 0x01 (fun a b => a + b) s
/-- SUB. -/
def execSub (s : State) : Host.Outcome State Fault Refusal := alu 0x02 (fun a b => a - b) s
/-- AND. -/
def execAnd (s : State) : Host.Outcome State Fault Refusal := alu 0x03 (fun a b => a &&& b) s
/-- OR. -/
def execOr (s : State) : Host.Outcome State Fault Refusal := alu 0x04 (fun a b => a ||| b) s
/-- XOR. -/
def execXor (s : State) : Host.Outcome State Fault Refusal := alu 0x05 (fun a b => a ^^^ b) s
/-- SHL. -/
def execShl (s : State) : Host.Outcome State Fault Refusal := alu 0x06 (fun a b => a <<< shamt b) s
/-- SHR. -/
def execShr (s : State) : Host.Outcome State Fault Refusal := alu 0x07 (fun a b => a >>> shamt b) s
/-- SAR. -/
def execSar (s : State) : Host.Outcome State Fault Refusal := alu 0x08 (fun a b => a.sshiftRight (shamt b)) s
/-- MUL: the low 64 bits of the product. -/
def execMul (s : State) : Host.Outcome State Fault Refusal := alu 0x09 (fun a b => a * b) s
/-- ADDI. -/
def execAddi (s : State) : Host.Outcome State Fault Refusal := aluI 0x0A 0 (fun a i => a + sext16 i) s
/-- ANDI. -/
def execAndi (s : State) : Host.Outcome State Fault Refusal :=
  aluI 0x0B 0 (fun a i => a &&& BitVec.ofNat 64 i) s
/-- ORI. -/
def execOri (s : State) : Host.Outcome State Fault Refusal :=
  aluI 0x0C 0 (fun a i => a ||| BitVec.ofNat 64 i) s
/-- XORI. -/
def execXori (s : State) : Host.Outcome State Fault Refusal :=
  aluI 0x0D 0 (fun a i => a ^^^ BitVec.ofNat 64 i) s
/-- SHLI: imm16[15:6] is reserved. -/
def execShli (s : State) : Host.Outcome State Fault Refusal :=
  aluI 0x0E 0xFFC0 (fun a i => a <<< (i % 64)) s
/-- SHRI: imm16[15:6] is reserved. -/
def execShri (s : State) : Host.Outcome State Fault Refusal :=
  aluI 0x0F 0xFFC0 (fun a i => a >>> (i % 64)) s

/-- Replaces bits [lo + 15 : lo] of a register. -/
def put16 (v : DWord) (lo i : Nat) : DWord := BitVec.ofNat 64 (setBits v.toNat lo 16 i)

/-- LDI.LO: Gd[16k+15:16k] = imm16; with k = 0 the bits [63:16] become 0 (R39). -/
def execLdiLo (s : State) : Host.Outcome State Fault Refusal :=
  insn 0x10 0x1E0000 (fun t w s =>
    let d := fD w
    retireG t d (if bit w 16 then put16 (t.g d) 16 (fImm w) else BitVec.ofNat 64 (fImm w)) s) s

/-- LDI.HI: Gd[32+16k+15:32+16k] = imm16; other bits unchanged (R39). -/
def execLdiHi (s : State) : Host.Outcome State Fault Refusal :=
  insn 0x11 0x1E0000 (fun t w s =>
    let d := fD w
    retireG t d (put16 (t.g d) (if bit w 16 then 48 else 32) (fImm w)) s) s

/-! ## Branches (R40, R41) -/

/-- The index `off` instructions from the branching one; `off` is a `w`-bit signed field. -/
def target (t : Take) (w off : Nat) : Int := (t.pc : Int) + signed w off

/-- BR. -/
def execBr (s : State) : Host.Outcome State Fault Refusal :=
  insn 0x1C 0 (fun t w s => goTo t (target t 26 (bits w 0 26)) s) s

/-- The conditions of BRC (R41). -/
def condHolds (c : Nat) (a b : DWord) : Bool :=
  match c with
  | 0 => a == b
  | 1 => a != b
  | 2 => decide (a.toNat < b.toNat)
  | 3 => decide (b.toNat ≤ a.toNat)
  | 4 => decide (a.toInt < b.toInt)
  | 5 => decide (b.toInt ≤ a.toInt)
  | 6 => a &&& b != 0
  | _ => a &&& b == 0

/-- BRC: format C holds a in [25:21], b in [20:16], cond in [15:13], off13 in [12:0] (R38). -/
def execBrc (s : State) : Host.Outcome State Fault Refusal :=
  insn 0x1D 0 (fun t w s =>
    if condHolds (bits w 13 3) (t.g (fD w)) (t.g (fA w)) then goTo t (target t 13 (bits w 0 13)) s
    else retire t s) s

/-- CALL: pushes PC + 1; a ninth nested CALL is illegal. -/
def execCall (s : State) : Host.Outcome State Fault Refusal :=
  insn 0x1E 0 (fun t w s =>
    if 8 ≤ t.stack.length then endTake .illegal s
    else
      let pc := target t 26 (bits w 0 26)
      if 0 ≤ pc ∧ pc < (t.code.length : Int) then goTo { t with stack := (t.pc + 1) :: t.stack } pc s
      else endTake .illegal s) s

/-- RET: an empty stack, and a return outside 0 to LEN - 1, are illegal. -/
def execRet (s : State) : Host.Outcome State Fault Refusal :=
  insn 0x1F 0x3FFFFFF (fun t _ s =>
    match t.stack with
    | [] => endTake .illegal s
    | pc :: rest => if pc < t.code.length then goTo { t with stack := rest } pc s else endTake .illegal s) s

/-- Is an opcode in the table of R39? -/
def opcodeKnown (op : Nat) : Bool :=
  decide (op ≤ 0x11) || op == 0x14 || op == 0x15 || op == 0x16 || op == 0x18 || op == 0x19 ||
  (decide (0x1C ≤ op) && decide (op ≤ 0x20)) || op == 0x24 || op == 0x25 || op == 0x28 || op == 0x29 ||
  op == 0x2C || op == 0x2D || op == 0x2E || op == 0x30

/-- UNDEFINED_OPCODE: an opcode not in the table is illegal (R39). -/
def execUndefinedOpcode (s : State) : Host.Outcome State Fault Refusal :=
  .next (match fetch s with
    | none => s
    | some (_, w) => if opcodeKnown (opcode w) then s else endTake .illegal s)

/-! ## Ending -/

/-- The result words G1 to Gn (R62). -/
def resultWords (t : Take) (n : Nat) : List DWord := (List.range n).map (fun i => t.g (i + 1))

/-- HALT: submits and commits the journal, and ends the take with OK and G1 to Gn (R50, R51, R62). -/
def execHalt (s : State) : Host.Outcome State Fault Refusal :=
  insn 0x20 0x1FFFFF (fun t w s =>
    submitting t (fun s => endWith .ok (resultWords t (fD w)) (countInstr t (commit t s))) s) s

/-- ABORT with C = 0 ends the take ABORTED (R63). -/
def execAbort (s : State) : Host.Outcome State Fault Refusal :=
  insn 0x2E 0x3FFFFFE (fun t _ s => endTake .aborted (countInstr t s)) s (fun w => !bit w 0)

/-- ABORT with C = 1 cancels a pending CUTAT; only its origin or origins 48 to 55 may (R53). The
CUTAT_CANCEL entry carries the aborting take's origin. -/
def execAbortCancel (s : State) : Host.Outcome State Fault Refusal :=
  insn 0x2E 0x3FFFFFE (fun t _ s =>
    match s.dir.cutAt with
    | none => retire t s
    | some c =>
      if t.origin = c.origin ∨ (48 ≤ t.origin ∧ t.origin ≤ 55) then
        let s := { s with dir := { s.dir with cutAt := none } }
        let s := s.log { origin := t.origin, serial := t.serial, kind := 6, pc := t.pc, new := cutTime s }
        retireMark t s
      else endTake .protect s) s (fun w => bit w 0)

/-- NOTE: logs Ga under the tag imm16 (R52, R81). -/
def execNote (s : State) : Host.Outcome State Fault Refusal :=
  insn 0x30 0x3E00000 (fun t w s =>
    retireMark t (s.log { origin := t.origin, serial := t.serial, kind := 3, pc := t.pc,
                          loc := fImm w, new := (t.g (fA w)).toNat })) s

/-! ## Time and cue lines (R47 to R49) -/

/-- NOW. -/
def execNow (s : State) : Host.Outcome State Fault Refusal :=
  insn 0x24 0x1FFFFF (fun t w s => retireG t (fD w) (BitVec.ofNat 64 s.ft) s) s

/-- WAITT: returns at once, ends TIMEOUT, or waits (R47). -/
def execWaitt (s : State) : Host.Outcome State Fault Refusal :=
  insn 0x25 0x3E0FFFF (fun t w s =>
    let g := (t.g (fA w)).toNat
    if g ≤ s.ft then retire t s
    else if t.startFt + 2000000 < g then endTake .timeout s
    else s.setTake (some { t with wait := .time g })) s

/-- WAITT_ELAPSE: fabric time reaches the target of a waiting WAITT, and the take resumes. -/
def execWaittElapse (s : State) : Host.Outcome State Fault Refusal :=
  .next (match s.dir.take, s.dir.longop with
    | some t, none =>
      match t.wait with
      | .time g => waited t (s.reachFt g) (retire { t with wait := .none }) s
      | _ => s
    | _, _ => s)

/-- WAITCUE: waits for the next pulse on the line, at most `timeout` µs; 0 and more than 2,000 are
illegal; a line that the take's partition does not own ends it PROTECT (R48, R468). -/
def execWaitcue (s : State) : Host.Outcome State Fault Refusal :=
  insn 0x28 0x100000 (fun t w s =>
    let timeout := bits w 0 12
    let line := bits w 12 8
    if timeout = 0 ∨ 2000 < timeout then endTake .illegal s
    else if cueMay s (originPart t.origin) line then
      s.setTake (some { t with wait := .cue line (s.now + timeout * 1000) (fD w) })
    else endTake .protect s) s

/-- A waiting WAITCUE ends in the state `u` with a value for Gd (R48). -/
def wakeCue (t : Take) (gd v : Nat) (u s : State) : State :=
  waited t u (retireG { t with wait := .none } gd (BitVec.ofNat 64 v)) s

/-- WAITCUE_TIMEOUT: the timeout passes without a pulse, and Gd = 0 (R48). -/
def execWaitcueTimeout (s : State) : Host.Outcome State Fault Refusal :=
  .next (match s.dir.take, s.dir.longop with
    | some t, none =>
      match t.wait with
      | .cue _ deadline gd => wakeCue t gd 0 (s.reach deadline) s
      | _ => s
    | _, _ => s)

/-- FIRECUE: emits one pulse on a line it may use (R49, R468). -/
def execFirecue (s : State) : Host.Outcome State Fault Refusal :=
  insn 0x29 0x3F00FFF (fun t w s =>
    let line := bits w 12 8
    if cueMay s (originPart t.origin) line then retireMark t (cueAccept line s)
    else endTake .protect s) s

end Sys2Proof.Machine
end

