-- ==== Sys2Proof/Machine/Cut.lean ====
section
/-! DEFINITION. CUT, CUTAT, and the ends of long operations that no other command makes (R53 to R59, R70 to R78, R403,
R565). -/

namespace Sys2Proof.Machine

/-! ## CUT and CUTAT -/

/-- The addresses of a take's journal. -/
def journalAddrs (t : Take) : List Nat := t.journal.map (fun e => e.1)

/-- Does a CUT or CUTAT of a take leave a bad word of the Shadow Set as it is (R564)? -/
def leavesBad (s : State) (t : Take) : Bool := s.regs.badS.any (fun a => !t.journal.any (fun e => e.1 == a))

/-- May a partition's take not cut (R74)? -/
def cutForeign (s : State) (t : Take) : Bool := decide (t.origin < 48) && (s.act Reg.GLB_CUTCTL).toNat % 2 == 0

/-- The tests of CUT and CUTAT when they issue, before the submission (R53, R55, R74, R75, R564). -/
def cutTests (t : Take) (go : State → State) (s : State) : State :=
  if s.dir.cutAt.isSome then endTake .sealed s
  else if leavesBad s t || cutForeign s t || cutRefused s t.origin (overlaid s t.journal) then endTake .refused s
  else submitting t go s

/-- CUT (R50, R51, R70): the journal is committed, the sets change places, and the take waits for the copy. -/
def execCut (s : State) : Host.Outcome State Fault Refusal :=
  insn 0x2C 0x3FFFFFF (fun t _ s =>
    cutTests t (fun s =>
      let s := logCut t.origin t.serial t.pc false (commit t s)
      let s := s.setTake (some (({ t with journal := [] } : Take).mark s.now))
      startLong .cut true (swap (journalAddrs t) s)) s) s

/-- CUTAT (R53, R54): the journal is committed and the swap scheduled; the take goes on. -/
def execCutat (s : State) : Host.Outcome State Fault Refusal :=
  insn 0x2D 0x3E0FFFF (fun t w s =>
    let g := (t.g (fA w)).toNat
    if s.dir.cutAt.isSome then endTake .sealed s
    else if g ≤ s.ft then endTake .pasttime s
    else if s.ft + 2 ^ 32 < g then endTake .illegal s
    else cutTests t (fun s =>
      let s := (commit t s).setLiv64 Reg.GLB_CUTTIME_LO g
      let c : CutAt := ⟨t.origin, t.serial, t.pc, journalAddrs t, false⟩
      let s := { s with dir := { s.dir with cutAt := some c } }
      let s := s.log { origin := t.origin, serial := t.serial, kind := 5, pc := t.pc, new := g }
      retireMark { t with journal := [] } s) s) s

/-- CUTAT_FIRE (R59, R75 to R78): local fabric time reaches the time of the pending CUTAT. During another long operation
the swap waits for its end. -/
def execCutatFire (s : State) : Host.Outcome State Fault Refusal :=
  .next (match s.dir.cutAt with
    | none => s
    | some c => dueCut { s.reachFt (cutTime s) with dir := { s.dir with cutAt := some { c with due := true } } })

/-- CUT_COPY_DONE (R73): the Shadow Set is a full copy of the Active Set, and the cut ends. -/
def execCutCopyDone (s : State) : Host.Outcome State Fault Refusal :=
  .next (match s.dir.longop with
    | some l =>
      if l.kind = .cut then
        let s := { s with regs := { s.regs with shadow := s.regs.active, badS := [] } }
        settle (endLong (claimReport (s.setLivF Reg.GLB_ERR_STAT Fld.GLB_ERR_STAT_SCFGUE 0)))
      else s
    | none => s)

/-! ## LONGOP_OVERRUN (R57, R403, R478) -/

/-- What becomes of an operation that has not ended in 2 ms: a revocation and a Lull are late and go on by themselves;
a port goes on with its training. -/
def overrun (k : LongKind) (s : State) : State :=
  match k with
  | .keyrev i =>
    let s := s.onKeys (fun x => { x with revs := x.revs.map (fun r => if r.idx = i then { r with late := true } else r) })
    showLate (s.setLivF Reg.GLB_KEYREV_STAT Fld.GLB_KEYREV_STAT_LATE 1)
  | .lull t => s.onSl t (fun x => { x with late := true })
  | _ => s

/-- LONGOP_OVERRUN: 2 ms after the start BUSY clears, and a take that waits ends OVERRUN. The copy of a cut ends
within 60 µs (R73), so that a cut does not come to it. -/
def execLongopOverrun (s : State) : Host.Outcome State Fault Refusal :=
  .next (match s.dir.longop with
    | none => s
    | some l =>
      if l.kind = .cut then s
      else
        let s := s.reach (l.started + 2000000)
        let s := overrun l.kind (s.setLong none)
        stallTake (dueCut (match s.dir.take with
        | none => s
        | some t =>
          if l.byTake then endTake .overrun s
          else s.setTake (some { t with free := t.free + (s.now - l.started) }))))

end Sys2Proof.Machine
end

