-- ==== Sys2Proof/Machine/Dma.lean ====
section
/-! DEFINITION. The commands of the DMA engine and of the cue lines (R453 to R471). -/

namespace Sys2Proof.Machine

/-! ## Channel registers (R455, R456, R463) -/

/-- Is `a` word `off` of a DMA channel? -/
def isCh (off a : Nat) : Bool := decide (Reg.CH_CFG 0 ≤ a) && decide (a < Reg.CH_CFG 64) && a % 0x20 == off

/-- The channel of an address. -/
def chOf (a : Nat) : Nat := (a - Reg.CH_CFG 0) / 0x20

/-- The new producer index of channel `c` is accepted (R456). -/
def piFits (s : State) (c v : Nat) : Bool :=
  let d (b : Nat) : Nat := (v + 2 ^ 16 - b) % 2 ^ 16
  decide (d (chCi s c) ≤ 2 ^ chRlog s c) && decide (d (chPi s c) ≤ d (chCi s c))

/-- CH_PI. -/
def chPiRule : LiveRule where
  sel := fun a _ => isCh 0x10 a
  eff := fun s t a v =>
    let c := chOf a
    { act :=
        if originOwns s t.origin (chOwner s c) && piFits s c (v.toNat % 2 ^ 16) then
          fun s => settle (pumpFetch c (s.setLivN a (v.toNat % 2 ^ 16)))
        else cmdRej c }

/-- CH_PI_WRITE. -/
def execChPiWrite (s : State) : Host.Outcome State Fault Refusal := liveStep chPiRule s

/-- CH_RING_LO and CH_RING_HI: written while IDLE, by the owner (R455). -/
def chRingRule : LiveRule where
  sel := fun a _ => isCh 0x08 a || isCh 0x0C a
  eff := fun s t a v =>
    let e := plainEffect s t a v
    if originOwns s t.origin (chOwner s (chOf a)) ∧ chState s (chOf a) = 0 then e
    else { e with act := cmdRej (chOf a) }

/-- START of channel `c` (R463, R477, R479). -/
def startChan (c : Nat) (clr : Bool) (s : State) : State :=
  if s.mode = 0 ∨ s.mode = 4 ∨ s.mode = 5 ∨ lulled s (chOwner s c) then cmdRej c s
  else match chState s c with
    | 0 =>
      let s := if clr then setChStat c Fld.CH_STAT_GOPEND 0 s else s
      pumpFetch c (setChStat c Fld.CH_STAT_STATE 1 s)
    | 3 =>
      if (s.chan c).fromWait then setChStat c Fld.CH_STAT_STATE 2 (s.onChan c (fun x => { x with fromWait := false }))
      else pumpRead c (pumpFetch c (setChStat c Fld.CH_STAT_STATE 1 s))
    | _ => cmdRej c s

/-- ABORT of channel `c`: a descriptor in progress ends BAD once its requests have completed; without one the channel
is IDLE at once. -/
def abortChan (c : Nat) (s : State) : State :=
  let x := s.chan c
  if chState s c = 0 then cmdRej c s
  else if x.cur.isSome then
    shutMsg c (s.onChan c (fun x => { x with
      abort := true
      lull := false
      stage := []
      seg := []
      fail := if x.fail.isSome then x.fail else some 5 }))
  else
    setChStat c Fld.CH_STAT_STATE 0 (s.onChan c (fun x => { x with
      entry := none
      fetching := false
      lull := false
      fromWait := false
      goTaken := false
      gen := x.gen + 1 }))

/-- CH_CMD; OP and CLRGO read 0, and OP 0 does nothing. -/
def chCmdRule (ops : List Nat) : LiveRule where
  sel := fun a v => isCh 0x14 a && ops.contains (fget v Fld.CH_CMD_OP)
  eff := fun s t a v =>
    let c := chOf a
    let op := fget v Fld.CH_CMD_OP
    command (
      if op = 0 then id
      else if !originOwns s t.origin (chOwner s c) then cmdRej c
      else if op = 1 then fun s => settle (startChan c (fget v Fld.CH_CMD_CLRGO == 1) s)
      else if op = 2 then pauseChan c
      else fun s => settle (abortChan c s))

/-- CH_START. -/
def execChStart (s : State) : Host.Outcome State Fault Refusal := liveStep (chCmdRule [1]) s
/-- CH_PAUSE. -/
def execChPause (s : State) : Host.Outcome State Fault Refusal := liveStep (chCmdRule [2]) s
/-- CH_ABORT. -/
def execChAbort (s : State) : Host.Outcome State Fault Refusal := liveStep (chCmdRule [3]) s

/-! ## The engine -/

/-- DMA_DESC_START (R463): channel `c` in RUN comes to its next descriptor. -/
def execDmaDescStart (c : Fin 64) (s : State) : Host.Outcome State Fault Refusal := .next <| settle (nextCh c s)

/-- DMA_BEAT (R460). -/
def execDmaBeat (s : State) : Host.Outcome State Fault Refusal :=
  .next <| settle (match selectCh s with
    | some c => moveBeat c s
    | none => s)

/-- DMA_DESC_END (R461 to R464). -/
def execDmaDescEnd (c : Fin 64) (s : State) : Host.Outcome State Fault Refusal :=
  .next <| settle (if chEnded s c then chEnd c s else s)

/-! ## Cue lines (R465 to R469) -/

/-- The channels whose GO line is `l` and whose partition owns it see a pulse. -/
def cueGo (l : Nat) (s : State) : State :=
  (List.range 64).foldl (fun s c =>
    let owned : Bool := match ownerPart s (chOwner s c) with
      | some q => cueOwnedBy s.act l q
      | none => false
    if s.actF (Reg.CH_CFG c) Fld.CH_CFG_GCUE = l ∧ owned then goPulse c s else s) s

/-- The cue timers that line `l` restarts. -/
def cueRestart (l : Nat) (s : State) : State :=
  s.onEng (fun e => { e with tmr := Tab.mapVals (fun _ t =>
    if t.sen && t.sline == l && (t.mode == 1 || t.mode == 2) then { t with next := some (s.now + t.period) } else t) e.tmr })

/-- The take waiting on line `l` sees a pulse (R48). -/
def cueTake (l : Nat) (s : State) : State :=
  match s.dir.take with
  | some t => match t.wait with
    | .cue k _ gd => if k = l ∧ cueMay s (originPart t.origin) l then wakeCue t gd 1 s s else s
    | _ => s
  | none => s

/-- Line `l` forwards a pulse (R467). -/
def cueForward (l : Nat) (s : State) : State :=
  let w := (s.act (Reg.CUE_ROUTE l)).toNat
  if bit w 7 then cueAccept (bits w 8 8) s else s

/-- CUE_PULSE_DELIVER (R466): the pulse that has waited longest on line `l` reaches every sink. -/
def execCuePulseDeliver (l : Fin 256) (s : State) : Host.Outcome State Fault Refusal :=
  .next <| settle (
    let k := Tab.get 0 s.cues.waiting l
    if k = 0 then s
    else
      let s := { s with cues := { s.cues with waiting := Tab.set 0 s.cues.waiting l (k - 1) } }
      let s := perf 73 5 (some l.val) 1 {} (s.bump (Reg.CUE_CNT l))
      cueForward l (cueRestart l (cueGo l (waitCue l (cueTake l s)))))

/-- Is `a` a word of a cue timer? -/
def isTmr (a : Nat) : Bool := decide (Reg.CUE_TMR 0 0 ≤ a) && decide (a < Reg.CUE_TMR 16 0)

/-- Timer `i` is armed by word 0 (R469). -/
def armTimer (i : Nat) (v : Word) (s : State) : State :=
  let w := v.toNat
  let mode := bits w 0 2
  let period := max 4 (s.liv (Reg.CUE_TMR i 1)).toNat
  if mode = 0 then s.onEng (fun e => { e with tmr := Tab.del e.tmr i })
  else
    s.onEng (fun e => { e with tmr := Tab.put e.tmr i {
      mode := mode
      line := bits w 2 8
      sline := bits w 10 8
      sen := bit w 18
      period := period
      next := some (if mode = 3 then s.liv64 (Reg.CUE_TMR i 2) else s.now + period) } })

/-- A word of a cue timer: origins 0 to 47 may not; word 0 arms (R469). -/
def tmrRule : LiveRule where
  sel := fun a _ => isTmr a
  deny := fun _ t _ _ => decide (t.origin < 48)
  eff := fun s t a v =>
    let e := plainEffect s t a v
    if a % 16 = 0 then { e with act := fun s => armTimer ((a - Reg.CUE_TMR 0 0) / 16) v (e.act s) } else e

/-- CUE_TIMER_ARM. -/
def execCueTimerArm (s : State) : Host.Outcome State Fault Refusal :=
  liveStep { tmrRule with sel := fun a _ => isTmr a && a % 16 == 0 } s

/-- CUE_TIMER_FIRE (R469): timer `t` reaches its time and pulses its line. -/
def execCueTimerFire (t : Fin 16) (s : State) : Host.Outcome State Fault Refusal :=
  .next (match Tab.find s.eng.tmr t with
    | some m => match m.next with
      | some d =>
        let s := if m.mode = 3 then s.reachFt d else s.reach d
        let s := s.onEng (fun e => { e with tmr := Tab.put e.tmr t { m with
          next := if m.mode = 2 then some (d + m.period) else none } })
        cuePulse none m.line s
      | none => s
    | none => s)

end Sys2Proof.Machine
end

