-- ==== Sys2Proof/Machine/Wire.lean ====
section
/-! DEFINITION. The forms in which what the device sends and holds stands on a lane, on a link, on a plane and in the
Drift store, as words and bytes: symbols, commas, codewords, packet headers and trailers, short packets, payload headers,
cell headers, Drift blocks, the IDCODE (R113, R151 to R160, R215 to R230, R258, R259, R300, R334, R339, R438). The commands
carry the same things as records; the functions here say which bits spell them. -/

namespace Sys2Proof.Machine

/-! ## Layouts -/

/-- The number that fields spell, each with its width in bits, the least significant field first. -/
def lsbFields : List (Nat × Nat) → Nat
  | [] => 0
  | e :: l => e.2 % 2 ^ e.1 + 2 ^ e.1 * lsbFields l

/-- The fields of the given widths in a number, the least significant first. -/
def readFields : List Nat → Nat → List Nat
  | [], _ => []
  | w :: l, x => x % 2 ^ w :: readFields l (x / 2 ^ w)

/-- The bits of a number of `n` bits, the most significant first. -/
def msbBits (n x : Nat) : List Bool := (List.range n).map (fun i => bit x (n - 1 - i))

/-- The remainder that a CRC of `w` bits leaves: `poly` is the generator without its highest term, `init` the starting
value; no final inversion. -/
def crc (w poly init : Nat) (l : List Bool) : Nat :=
  l.foldl (fun c b => if bit c (w - 1) != b then Nat.xor (c * 2 % 2 ^ w) poly else c * 2 % 2 ^ w) init

/-! ## Symbols (R151 to R153) -/

/-- The level index of a pair of bits under the Gray code, and the pair of a level: the code is its own inverse (R151). -/
def gray : Nat → Nat
  | 2 => 3
  | 3 => 2
  | x => x

/-- The four levels of a byte, bits [1:0] first (R151). -/
def byteLevels (b : Byte) : List Nat := (List.range 4).map (fun i => gray (bits b.toNat (2 * i) 2))

/-- What a transmitter sends that precodes: `prev` is the level sent last, 0 after a comma or a Filler Block (R152). -/
def precode : Nat → List Nat → List Nat
  | _, [] => []
  | prev, g :: l => let p := (g + 4 - prev) % 4; p :: precode p l

/-- What the receiver recovers (R152). -/
def unprecode : Nat → List Nat → List Nat
  | _, [] => []
  | prev, p :: l => (p + prev) % 4 :: unprecode p l

/-! ## Alignment Commas and Filler Blocks (R154 to R160) -/

/-- The sync pattern (R154). -/
def syncPattern : List Nat := [3, 3, 3, 3, 3, 3, 3, 3, 0, 0, 0, 0, 3, 3, 0, 0]

/-- The fields of an identity word (R155). -/
structure CommaId where
  lane : Nat
  carry : Nat := 15
  sreq : Nat := 15
  txreq : Nat := 0
  cseq : Nat := 0
  prereq : Bool := false
  precode : Bool := false
  rxready : Bool := false
  deriving DecidableEq, Repr

/-- The identity word with its CRC (R155). -/
def commaWord (c : CommaId) : Nat :=
  let x := lsbFields [(4, c.lane), (4, c.carry), (4, c.sreq), (4, c.txreq), (4, c.cseq), (1, b2n c.prereq), (1, b2n c.precode),
    (1, b2n c.rxready), (1, 0)]
  x + 2 ^ 24 * crc8 (lsbBits 24 x)

/-- The 32 symbols of a comma (R154). -/
def commaSymbols (id : Nat) : List Nat :=
  syncPattern ++ (List.range 16).map (fun i => gray (bits id (2 * i) 2))

/-- The 32 symbols of a Filler Block (R160), which follows each comma whose CSEQ is 15. -/
def fillerBlock : List Nat :=
  let h := [3, 0, 3, 0, 3, 0, 3, 0, 0, 3, 0, 3, 0, 3, 0, 3]
  h ++ h

/-- The UI from the start of a comma to the start of the next (R154, R160). -/
def commaInterval (cseq : Nat) : Nat := if cseq % 16 = 15 then 4128 else 4096

/-! ## Codewords between commas (R215 to R218) -/

/-- Bytes of a port's data region of `w` lanes. -/
def regionBytes (w : Nat) : Nat := 1016 * w

/-- Full interleave groups of a region (R216). -/
def fullGroups (w : Nat) : Nat := regionBytes w / 1040

/-- Length of the four codewords of the shortened group. -/
def shortLength (w : Nat) : Nat := (regionBytes w - 1040 * fullGroups w) / 4

/-- Data bytes of a region. -/
def regionData (w : Nat) : Nat := 976 * fullGroups w + 4 * (shortLength w - 16)

/-- The logical lane of byte `j` of the region, and its place there (R215). -/
def lanePlace (w j : Nat) : Nat × Nat := (j % w, j / w)

/-- The codeword of byte `j` of a group (R217). -/
def codewordAt (w j : Nat) : Nat := if 2 ≤ w then (j + j / w) % 4 else j % 4

/-- Twice an element of GF(2^8) (R218). -/
def gfDouble (x : Nat) : Nat := if bit x 7 then Nat.xor (x * 2 % 256) 0x1D else x * 2 % 256

/-- The product of two elements of GF(2^8). -/
def gfMul (a b : Nat) : Nat :=
  ((List.range 8).foldl (fun (e : Nat × Nat) i => (if bit b i then Nat.xor e.1 e.2 else e.1, gfDouble e.2)) (0, a)).1

/-- α^i. -/
def alpha (i : Nat) : Nat := (List.range i).foldl (fun x _ => gfDouble x) 1

/-- A polynomial, highest degree first, times x − r. -/
def timesRoot (g : List Nat) (r : Nat) : List Nat :=
  List.zipWith Nat.xor (g ++ [0]) (0 :: g.map (gfMul r))

/-- The generator of the code, highest degree first (R218). -/
def rsGenerator : List Nat := (List.range 16).foldl (fun g i => timesRoot g (alpha i)) [1]

/-- The parity symbols of the data symbols of a codeword, in the order sent (R217, R218). -/
def rsParity (data : List Nat) : List Nat :=
  data.foldl (fun r d =>
    let f := Nat.xor d (r.headD 0)
    List.zipWith Nat.xor (r.drop 1 ++ [0]) ((rsGenerator.drop 1).map (gfMul f))) (List.replicate 16 0)

/-- The value of a word, highest degree first, at `x`. -/
def gfEval (l : List Nat) (x : Nat) : Nat := l.foldl (fun v c => Nat.xor (gfMul v x) c) 0

/-- Is a word of symbols a codeword? -/
def isCodeword (l : List Nat) : Bool := (List.range 16).all (fun i => gfEval l (alpha i) == 0)

/-! ### The decoder (R218, R219) -/

/-- The power of an element. -/
def gfPow (a : Nat) : Nat → Nat
  | 0 => 1
  | k + 1 => gfMul a (gfPow a k)

/-- The inverse of an element other than 0. -/
def gfInv (a : Nat) : Nat := gfPow a 254

/-- The sum of two polynomials, lowest degree first. -/
def gfAdd : List Nat → List Nat → List Nat
  | [], b => b
  | a, [] => a
  | x :: a, y :: b => Nat.xor x y :: gfAdd a b

/-- The value of a polynomial, lowest degree first. -/
def gfPoly (l : List Nat) (x : Nat) : Nat := gfEval l.reverse x

/-- The coefficient of degree `k` of a product. -/
def gfCoeff (a b : List Nat) (k : Nat) : Nat :=
  (List.range (k + 1)).foldl (fun v i => Nat.xor v (gfMul (nth 0 a i) (nth 0 b (k - i)))) 0

/-- The search for the error locator: the locator and its degree, and the locator, discrepancy and distance of the last
change. -/
structure Locator where
  c : List Nat := [1]
  deg : Nat := 0
  b : List Nat := [1]
  d : Nat := 1
  m : Nat := 1
  deriving DecidableEq, Repr

/-- The locator takes syndrome `i` in. -/
def Locator.next (syn : List Nat) (z : Locator) (i : Nat) : Locator :=
  let d := gfCoeff z.c syn i
  if d = 0 then { z with m := z.m + 1 }
  else
    let c := gfAdd z.c (List.replicate z.m 0 ++ z.b.map (gfMul (gfMul d (gfInv z.d))))
    if 2 * z.deg ≤ i then { c := c, deg := i + 1 - z.deg, b := z.c, d := d, m := 1 } else { z with c := c, m := z.m + 1 }

/-- The syndromes of a received word, highest degree first. -/
def syndromes (l : List Nat) : List Nat := (List.range 16).map (fun i => gfEval l (alpha i))

/-- The errors that the syndromes place, each as its exponent below 255 and its value; none when they are more than 8. -/
def rsErrors (syn : List Nat) : Option (List (Nat × Nat)) :=
  let z := (List.range 16).foldl (Locator.next syn) {}
  let at_ := (List.range 255).filter (fun e => gfPoly z.c (alpha ((255 - e) % 255)) == 0)
  if at_.length = z.deg ∧ z.deg ≤ 8 then
    let omega := (List.range 16).map (gfCoeff z.c syn)
    let slope := (List.range z.deg).map (fun i => if i % 2 = 0 then nth 0 z.c (i + 1) else 0)
    some (at_.map (fun e =>
      let x := alpha ((255 - e) % 255)
      (e, gfMul (alpha e) (gfMul (gfPoly omega x) (gfInv (gfPoly slope x))))))
  else none

/-- A received word corrected, with the places whose symbols changed; none when it cannot be corrected (R218, R219). A word
of more than 255 symbols has two symbols for each of its lowest exponents, which no syndrome tells apart: how an error there
divides between the two is free (log entry 113). -/
def rsDecode (l : List Nat) : Option (List Nat × List Nat) :=
  match rsErrors (syndromes l) with
  | none => none
  | some errs =>
    let at_ (e : Nat × Nat) : List (Nat × Nat) :=
      if e.1 + 255 < l.length then
        let low := Config.rsPart l e.1 % 256
        [(l.length - 1 - e.1, low), (l.length - 1 - e.1 - 255, Nat.xor e.2 low)]
      else [(l.length - 1 - e.1, e.2)]
    let fix := (errs.flatMap at_).filter (fun e => e.2 != 0)
    if errs.any (fun e => decide (l.length ≤ e.1)) ∨ 8 < fix.length then none
    else some (fix.foldl (fun w e => setNth w e.1 (Nat.xor (nth 0 w e.1) e.2)) l, fix.map (fun e => e.1))

/-- The bytes of a group, of which codeword `c` has those of `words` in order; `n` bytes from byte `j` on (R217). -/
def weave (w : Nat) : Nat → Nat → List (List Nat) → List Nat
  | 0, _, _ => []
  | n + 1, j, words =>
    let c := codewordAt w j
    let l := nth [] words c
    l.headD 0 :: weave w n (j + 1) (setNth words c (l.drop 1))

/-- The symbols of codeword `c` in the bytes of a group. -/
def codewordOf (w c : Nat) (group : List Nat) : List Nat :=
  (group.zipIdx.filter (fun e => codewordAt w e.2 == c)).map (fun e => e.1)

/-- A group of four codewords of length `len` as sent: `data` first, its last 64 bytes parity (R217). -/
def encodeGroup (w len : Nat) (data : List Nat) : List Nat :=
  data ++ weave w 64 (4 * (len - 16)) ((List.range 4).map (fun c => rsParity (codewordOf w c data)))

/-- The data of a received group; none where a codeword cannot be corrected, and every data byte is marked bad (R219). -/
def decodeGroup (w len : Nat) (group : List Nat) : Option (List Nat) :=
  let words := (List.range 4).map (fun c => rsDecode (codewordOf w c group))
  if words.all Option.isSome then
    some (weave w (4 * (len - 16)) 0 (words.map (fun e => (e.map (fun x => x.1)).getD [])))
  else none

/-- The data region of a comma interval from its data bytes: full groups first, then the shortened one (R216). -/
def encodeRegion (w : Nat) (data : List Nat) : List Nat :=
  (List.range (fullGroups w)).flatMap (fun g => encodeGroup w 260 ((data.drop (976 * g)).take 976)) ++
  encodeGroup w (shortLength w) (data.drop (976 * fullGroups w))

/-! ### Unit positions and boundaries (R220 to R223) -/

/-- What a receiver reads at a boundary: an idle word, a header, lost framing. -/
inductive Boundary where
  | idle
  | header (x : Nat)
  | lost
  deriving DecidableEq, Repr

/-- Is a unit position, by its number, reserved for VC B (R220)? -/
def reservedUpn (upn : Nat) : Bool := upn % 64 == 63

/-! ## Packet header and trailer (R224 to R227) -/

/-- Widths of the header's fields above hcrc, the lowest first (R224). -/
def headerWidths : List Nat := [2, 16, 8, 8, 1, 2, 1, 16, 16, 7, 12, 7, 12, 4, 4]

/-- The header's fields above hcrc, the lowest first. -/
def headerFields (p : Packet) : List (Nat × Nat) :=
  [(2, p.path), (16, p.ts), (8, p.flowhash), (8, p.len), (1, b2n p.poison), (2, p.colour), (1, b2n p.ackv), (16, p.ack),
   (16, p.seq), (7, p.sport), (12, p.snode), (7, p.dport), (12, p.dnode), (4, p.vc), (4, p.type)]

/-- hcrc over bits [127:12] (R225). -/
def hcrc (x : Nat) : Nat := crc 12 0x80F 0xFFF (msbBits 116 x)

/-- The header of a packet (R224). -/
def packetHeader (p : Packet) : Nat :=
  let x := lsbFields (headerFields p)
  hcrc x % 2 ^ 12 + 2 ^ 12 * x

/-- The packet that a header and a payload spell; none where the CRC-12 fails (R222). -/
def readHeader (h : Nat) (b : PBody) : Option Packet :=
  let x := h / 2 ^ 12
  if h % 2 ^ 12 = hcrc x % 2 ^ 12 then
    match readFields headerWidths x with
    | [path, ts, fh, len, poison, colour, ackv, ack, seq, sport, snode, dport, dnode, vc, type] =>
      some { type := type, vc := vc, dnode := dnode, dport := dport, snode := snode, sport := sport, seq := seq, ack := ack,
             ackv := ackv == 1, colour := colour, poison := poison == 1, len := len, flowhash := fh, ts := ts, path := path,
             body := b }
    | _ => none
  else none

/-- A boundary read (R222): `l` are the next bytes of the stream, none for one marked bad. A bad first byte is read as part of
a header. -/
def readBoundary (l : List (Option Nat)) : Boundary :=
  match l with
  | some b :: _ =>
    if b / 16 = 0 then (if l.take 4 = List.replicate 4 (some 0) then .idle else .lost)
    else
      let h := l.take 16
      let x := (h.filterMap id).foldl (fun x b => x * 256 + b) 0
      if h.length = 16 ∧ h.all Option.isSome ∧ x % 2 ^ 12 = hcrc (x / 2 ^ 12) % 2 ^ 12 then .header x else .lost
  | _ => .lost

/-- Bytes of a number of `n` bytes, the most significant first. -/
def msbBytes (n x : Nat) : List Byte := (toBytes n x).reverse

/-- The bits of bytes as IEEE 802.3 takes them: each byte from bit 0. -/
def frameBits (l : List Byte) : List Bool := l.flatMap (fun b => lsbBits 8 b.toNat)

/-- The frame check sequence of bytes, in the order sent (R227). -/
def frameCheck (l : List Byte) : List Byte :=
  let c := (crc 32 0x04C11DB7 0xFFFFFFFF (frameBits l)) ^^^ 0xFFFFFFFF
  (List.range 4).map (fun k => BitVec.ofNat 8 (lsbFields ((List.range 8).map (fun i => (1, c / 2 ^ (31 - 8 * k - i))))))

/-- The trailer of a packet: the frame check sequence of its header and payload, or its complement (R227). -/
def trailer (l : List Byte) (stomped : Bool) : List Byte :=
  if stomped then (frameCheck l).map (fun b => ~~~b) else frameCheck l

/-- What a trailer says of a packet whose bytes are all good, none of which has been forwarded (R227). -/
def readTrailer (l t : List Byte) : Reception :=
  if t = frameCheck l then .good else if t = (frameCheck l).map (fun b => ~~~b) then .stomped else .crcBad false

/-! ## Payloads (R334, R339, R438) -/

/-- Zeros up to `n` bytes. -/
def padded (n : Nat) (l : List Byte) : List Byte := l ++ List.replicate (n - l.length) 0

/-- The domain word with PAD (R334). -/
def domainWord (d : Dom) (pad : Nat) : Nat :=
  lsbFields [(5, pad), (3, 0), (1, b2n d.cont), (1, b2n d.lock), (6, d.part), (16, d.domain)]

/-- The domain word that a word spells. -/
def readDomain (x : Nat) : Dom :=
  { domain := bits x 16 16, part := bits x 10 6, lock := bit x 9, cont := bit x 8 }

/-- The FME header with PAD (R438). -/
def fmeWords (h : FmeHdr) (pad : Nat) : Nat :=
  lsbFields [(4, h.pt), (1, b2n h.lastp), (1, b2n h.cont), (5, pad), (1, b2n h.high), (2, h.aop), (2, 0), (16, h.domain),
    (32, h.rkey), (48, h.off), (16, h.tq), (24, h.mid), (6, h.sfme), (2, 0), (20, h.pidx), (12, 0), (64, h.arg)]

/-- The FME header that four words spell. -/
def readFme (x : Nat) : FmeHdr :=
  { pt := bits x 0 4, lastp := bit x 4, cont := bit x 5, high := bit x 11, aop := bits x 12 2, domain := bits x 16 16,
    rkey := bits x 32 32, off := bits x 64 48, tq := bits x 112 16, mid := bits x 128 24, sfme := bits x 152 6,
    pidx := bits x 160 20, arg := bits x 192 64 }

/-- The MGMT header word (R339). -/
def mgmtWord (op : Nat) (fin : Bool) (count port : Nat) (assert : Bool) : Nat :=
  lsbFields [(4, op), (1, b2n fin), (9, count), (7, port), (1, b2n assert), (42, 0)]

/-- The payload of a packet; `hdr` are the bytes of a TLP's header and prefixes, whose layout is that of PCI Express. -/
def payloadBytes (p : Packet) (hdr : List Byte) : List Byte :=
  let n := 32 * p.len
  padded n (match p.body with
    | .tlp d t => toBytes 4 (domainWord d (n - 4 - (hdr ++ t.data).length)) ++ hdr ++ t.data
    | .tlpRest d l => toBytes 4 (domainWord d (n - 4 - l.length)) ++ l
    | .fme h l => toBytes 32 (fmeWords h (n - 32 - l.length)) ++ l
    | .mgmt op fin port a ws => toBytes 8 (mgmtWord op fin ws.length port a) ++ ws.flatMap (fun w => toBytes 8 w.toNat))

/-- The bytes of a packet in the data stream (R221, R224, R227). -/
def packetBytes (p : Packet) (hdr : List Byte) (stomped : Bool) : List Byte :=
  let l := msbBytes 16 (packetHeader p) ++ payloadBytes p hdr
  l ++ trailer l stomped

/-! ## Short packets (R229, R230) -/

/-- SUB of a body. -/
def shortSub : ShortBody → Nat
  | .ack .. => 1 | .credit .. => 2 | .retrainReq .. => 3 | .retrainAck .. => 4 | .width .. => 5 | .timeSync .. => 6
  | .wire .. => 7 | .lockReq .. => 8 | .lockGnt .. => 9 | .pfn0 .. | .pfn1 .. => 10

/-- The fields of BODY, bits [98:16], the lowest first. -/
def shortFields : ShortBody → List (Nat × Nat)
  | .ack nes nak => [(66, 0), (1, b2n nak), (16, nes)]
  | .credit half cum =>
    [(18, 0), (16, cum.getD 3 0), (16, cum.getD 2 0), (16, cum.getD 1 0), (16, cum.getD 0 0), (1, half)]
  | .retrainReq op tw sel node => [(66, 0), (12, node), (1, sel), (3, tw), (1, op)]
  | .retrainAck op tw sel node => [(66, 0), (12, node), (1, sel), (3, tw), (1, op)]
  | .width node stn port w nes init => [(45, 0), (1, b2n init), (16, nes), (3, w), (1, port), (5, stn), (12, node)]
  | .timeSync ph tag ps time turn => [(16, turn), (64, time), (1, b2n ps), (1, b2n tag), (1, b2n ph)]
  | .wire dnode dport num level wcnt => [(47, 0), (8, wcnt), (1, b2n level), (8, num), (7, dport), (12, dnode)]
  | .lockReq dnode dport snode sport part ltag op =>
    [(29, 0), (2, op), (8, ltag), (6, part), (7, sport), (12, snode), (7, dport), (12, dnode)]
  | .lockGnt dnode dport snode sport ltag res =>
    [(35, 0), (2, res), (8, ltag), (7, sport), (12, snode), (7, dport), (12, dnode)]
  | .pfn0 ftag dnode part req hi cause =>
    [(4, 0), (4, cause), (32, hi), (16, req), (6, part), (12, dnode), (8, ftag), (1, 0)]
  | .pfn1 ftag dnode lo => [(32, 0), (30, lo), (12, dnode), (8, ftag), (1, 1)]

/-- The body that SUB and BODY spell; none for a reserved subtype. -/
def readShortBody (sub x : Nat) : Option ShortBody :=
  match sub with
  | 1 => some (.ack (bits x 67 16) (bit x 66))
  | 2 => some (.credit (bits x 82 1) [bits x 66 16, bits x 50 16, bits x 34 16, bits x 18 16])
  | 3 => some (.retrainReq (bits x 82 1) (bits x 79 3) (bits x 78 1) (bits x 66 12))
  | 4 => some (.retrainAck (bits x 82 1) (bits x 79 3) (bits x 78 1) (bits x 66 12))
  | 5 => some (.width (bits x 71 12) (bits x 66 5) (bits x 65 1) (bits x 62 3) (bits x 46 16) (bit x 45))
  | 6 => some (.timeSync (bit x 82) (bit x 81) (bit x 80) (bits x 16 64) (bits x 0 16))
  | 7 => some (.wire (bits x 71 12) (bits x 64 7) (bits x 56 8) (bit x 55) (bits x 47 8))
  | 8 => some (.lockReq (bits x 71 12) (bits x 64 7) (bits x 52 12) (bits x 45 7) (bits x 39 6) (bits x 31 8) (bits x 29 2))
  | 9 => some (.lockGnt (bits x 71 12) (bits x 64 7) (bits x 52 12) (bits x 45 7) (bits x 37 8) (bits x 35 2))
  | 10 => if bit x 82 then some (.pfn1 (bits x 74 8) (bits x 62 12) (bits x 32 30))
    else some (.pfn0 (bits x 74 8) (bits x 62 12) (bits x 56 6) (bits x 40 16) (bits x 8 32) (bits x 4 4))
  | _ => none

/-- CRC-16 over bits [127:16] (R229). -/
def shortCrc (x : Nat) : Nat := crc 16 0x1021 0xFFFF (msbBits 112 x)

/-- A short packet; BOUND is that of its place in the stream (R223, R229; `boundOf`). -/
def shortWord (bound : Nat) (k : Short) : Nat :=
  let x := lsbFields [(83, lsbFields (shortFields k.body)), (9, bound), (8, k.back), (8, k.bseq), (4, shortSub k.body)]
  shortCrc x % 2 ^ 16 + 2 ^ 16 * x

/-- The short packet that 128 bits spell, with its BOUND: none where the CRC-16 fails or SUB is reserved (R229, R230). -/
def readShort (h : Nat) : Option (Short × Nat) :=
  let x := h / 2 ^ 16
  if h % 2 ^ 16 = shortCrc x % 2 ^ 16 then
    (readShortBody (bits x 108 4) (bits x 0 83)).map (fun b =>
      ({ bseq := bits x 100 8, back := bits x 92 8, body := b }, bits x 83 9))
  else none

/-! ## Cells and Drift blocks (R258, R259, R300) -/

/-- KIND and bits [66:0] of a unit's first cell (R259). Of internal transfers, KIND 5, the descriptor is given for a write of
the DMA engine alone (R460); both of VC B are not given. -/
def cellDescr (u : CUnit) (csn : Nat) : Nat × Nat :=
  let open_ := (Config.cellDescr csn).toNat
  match u.body with
  | .tlp part colour _ =>
    if u.job.isSome then (5, u.chan.elim (open_ % 2 ^ 67) (fun c => lsbFields [(58, 0), (6, c), (3, 1)])) else (0, lsbFields [(59, 0), (2, colour), (6, part)])
  | .pkt p _ =>
    if p.type < 1 ∨ 4 < p.type then (open_ / 2 ^ 67, open_ % 2 ^ 67)
    else (p.type, lsbFields [(2, p.path), (16, p.ts), (8, p.flowhash), (1, 2 * u.cells - u.half), (2, p.colour),
      (7, p.sport), (12, p.snode), (7, p.dport), (12, p.dnode)])
  | .short _ => (open_ / 2 ^ 67, open_ % 2 ^ 67)

/-- The header of cell `i` of a unit (R258, R259). -/
def cellHeader (u : CUnit) (i csn : Nat) : Nat :=
  let e := if i = 0 then cellDescr u csn else (0, 0)
  lsbFields [(67, e.2), (3, e.1), (1, b2n (u.pois.contains i)), (1, b2n (i + 1 == u.cells)), (1, b2n (i == 0)), (12, csn),
    (4, u.queue), (2, u.dst), (5, u.dst / 4)]

/-- The bytes of a carried unit (R257); `hdr` gives those of a TLP's header and prefixes, whose layout is that of PCI
Express. A pair is the payload of FIRST and then that of REST. -/
def unitData (hdr : Tlp → List Byte) (u : CUnit) : List Byte :=
  let payload (p : Packet) : List Byte := payloadBytes p (match p.body with
    | .tlp _ t => hdr t
    | _ => [])
  match u.body with
  | .tlp _ _ t => hdr t ++ t.data
  | .pkt p r => payload p ++ r.elim [] payload
  | .short l => l.flatMap (fun b => toBytes 16 (shortWord 0 ⟨0, 0, b⟩))

/-- The payload of cell `i` of a unit (R257). -/
def cellPayload (hdr : Tlp → List Byte) (u : CUnit) (i : Nat) : List Byte :=
  padded 64 (((unitData hdr u).drop (64 * i)).take 64)

/-- Bytes 912 to 1,023 of a Drift block: NEXT, QID and the copy of NEXT (R300). -/
def driftTail (next port group queue stn : Nat) : List Byte :=
  let n := toBytes 4 (next % 2 ^ 24)
  padded 112 (n ++ toBytes 4 (lsbFields [(2, port), (6, group), (4, queue), (5, stn)]) ++ List.replicate 8 0 ++ n)

/-- The 1,024 bytes of a Drift block of queue `k` of egress port `x` (R300): the payloads and the headers of its cells, each
with its CSN, and the pool index of the block behind it, which is zero where there is none yet. -/
def driftBlock (hdr : Tlp → List Byte) (x k next : Nat) (cells : List (CUnit × Nat × Nat)) : List Byte :=
  padded 768 (cells.flatMap (fun c => cellPayload hdr c.1 c.2.1)) ++
  padded 144 (cells.flatMap (fun c => toBytes 12 (cellHeader c.1 c.2.1 c.2.2))) ++
  driftTail next (x % 4) (k / 16) (k % 16) (x / 4)

/-- The pool index of the block behind block `i` of a queue's middle: NEXT (R300). -/
def nextBlock (q : EQueue) (i : Nat) : Nat := (nth { cells := [] } q.mid (i + 1)).idx

/-! ## Pins (R111, R113) -/

/-- The IDCODE of the test access port (R113). -/
def idcode : Nat := lsbFields [(1, 1), (11, 0x2B5), (16, 0x9192), (4, 0xC)]


end Sys2Proof.Machine
end

