-- ==== Sys2Proof/Machine/Lanes.lean ====
section
/-! DEFINITION. The lanes of fabric stations: bring-up, commas, re-adaptation, the spare lane; margining
(chapter 6). -/

namespace Sys2Proof.Machine

/-! ## Which port a lane serves -/

/-- The fabric port of physical lane `l` of station `n`: the spare serves port 0. -/
def lanePort (s : State) (n l : Nat) : Nat :=
  if l = 8 then 0 else (firstBelow 2 (fun f => (fabLanes s n f).contains l)).getD 0

/-- Is lane `l` one of a fabric station's lanes or its spare? -/
def isFab (s : State) (n l : Nat) : Bool :=
  decide (stnKind s.act n = .fabric) && (l == 8 || (List.range 2).any (fun f =>
    fabPort s.act n f && (fabLanes s n f).contains l))

/-- LN_STAT.LOGICAL. -/
def laneLogical (s : State) (n l : Nat) : Nat := s.livF (Reg.LN_STAT n l) Fld.LN_STAT_LOGICAL

/-- SPARE_STAT.STATE: 0 OFF, 1 STANDBY, 2 TAKEOVER, 3 READAPT, 4 RESTORE, 5 UNAVAIL. -/
def spareState (s : State) (n : Nat) : Nat := s.livF (Reg.SPARE_STAT n) Fld.SPARE_STAT_STATE

/-- The spare enters a state, holding logical lane `k` (15: none). -/
def setSpareState (n st k : Nat) (s : State) : State :=
  (s.setLivF (Reg.SPARE_STAT n) Fld.SPARE_STAT_STATE st).setLivF (Reg.SPARE_STAT n) Fld.SPARE_STAT_LANE k

/-- The receiving end asks for logical lane `k` on the spare (R174); `counts` tells a takeover from a
re-adaptation. -/
def request (n k : Nat) (counts : Bool) (s : State) : State :=
  s.setSpare n { s.spare n with sreq := k, carried := false, taken := false, counts := counts, inPlace := false }

/-- The physical lane of port 0 that serves logical lane `k`. -/
def physical (s : State) (n k : Nat) : Option Nat := (fabLanes s n 0).find? (fun l => laneLogical s n l == k)

/-! ## The records (R165, R168) -/

/-- The preset that the declared LOSS selects (R165). -/
def lossPreset (loss : Nat) : Nat := if loss ≤ 100 then 1 else if loss ≤ 200 then 2 else if loss ≤ 280 then 3 else 4

/-- The CTLE settings searched at a declared LOSS (R165). -/
def ctleBand (loss : Nat) : Nat × Nat :=
  if loss ≤ 100 then (0, 4) else if loss ≤ 200 then (2, 8) else if loss ≤ 280 then (5, 12) else (8, 15)

/-- Coefficient magnitudes of a preset, in steps of 0.01: c(-2), c(-1), c(+1) (R165). -/
def presetTaps : Nat → Nat × Nat × Nat
  | 1 => (0, 5, 5) | 2 => (2, 10, 8) | 3 => (4, 16, 10) | 4 => (5, 20, 13) | _ => (0, 0, 0)

/-- The starting preset of a lane (R165). -/
def startPreset (s : State) (n l : Nat) : Nat :=
  let p := s.actF (Reg.LN_CFG n l) Fld.LN_CFG_PRESET
  if p ≤ 4 then p else lossPreset (s.stnRec n).loss

/-- The coefficient c(0) of a lane's transmitter in steps of 0.01: 1 minus the sum of the other magnitudes (R166). -/
def Lane.c0 (x : Lane) : Nat := 100 - x.cm2 - x.cm1 - x.cp1

/-- Puts a lane's transmitter at a preset. -/
def usePreset (n l p : Nat) (s : State) : State :=
  let (a, b, c) := presetTaps p
  s.setLane n l { s.lane n l with preset := p, cm2 := a, cm1 := b, cp1 := c }

/-- The training record that is kept of a lane. -/
def State.laneRec (s : State) (n l : Nat) : Option LaneRec := Tab.find s.dp.recs (9 * n + l)

/-- A lane's receiver takes the equaliser state of its record again (R171, R178). -/
def loadRec (n l : Nat) (s : State) : State :=
  match s.laneRec n l with
  | some r => s.setLane n l { s.lane n l with taps := r.taps }
  | none => s

/-- EQ begins: from the training record when one is kept, else from the starting preset (R164). -/
def beginEq (n l : Nat) (s : State) : State :=
  let s := match s.laneRec n l with
    | some r => s.setLane n l { s.lane n l with preset := r.preset, cm2 := r.cm2, cm1 := r.cm1, cp1 := r.cp1, taps := r.taps }
    | none => usePreset n l (startPreset s n l) s
  setLaneState n l 4 s

/-- Stores a training record with the taps that the search has found (R168). -/
def writeRec (n l ctle temp droop : Nat) (taps : List Int) (s : State) : State :=
  let s := s.setLane n l { s.lane n l with taps := taps }
  let x := s.lane n l
  putRec n l ctle temp droop { preset := x.preset, cm2 := x.cm2, cm1 := x.cm1, cp1 := x.cp1, taps := taps } s

/-- Is a CTLE setting within the band that the declared LOSS gives (R165)? -/
def inBand (s : State) (n ctle : Nat) : Bool :=
  let band := ctleBand (s.stnRec n).loss
  decide (band.1 ≤ ctle) && decide (ctle ≤ band.2)

/-- SPARE_CTL.SERTHR; 0 acts as 1. -/
def serThr (s : State) (n : Nat) : Nat := max 1 (s.actF (Reg.SPARE_CTL n) Fld.SPARE_CTL_SERTHR)

/-- Has a lane passed 2^24 symbols without more corrected symbols than SERTHR / 8 in a comma interval of 4,096 UI (R163)? -/
def cleanRun (s : State) (n l : Nat) : Bool := decide (4096 ≤ (s.lane n l).clean)

/-- Does the receiver of lane `l` ask for precoding (R150, R153): LN_CFG.PREREQ 1, or 2 with a first DFE tap above 0.5 of the
main cursor? -/
def asksPrecode (s : State) (n l : Nat) : Bool :=
  match s.actF (Reg.LN_CFG n l) Fld.LN_CFG_PREREQ with
  | 1 => true
  | 2 => decide (500 < (nth 0 (s.lane n l).taps 24).natAbs)
  | _ => false

/-- The identity of the comma that lane `l` of port `f` sends (R155, R174): `cseq` counts the commas of the port and `txreq`
is what the lane's own search asks for, in EQ or under re-adaptation. -/
def sentComma (s : State) (n f l cseq txreq : Nat) : CommaId :=
  let st := laneState s n l
  { lane := if l = 8 then 8 else ((s.lnk n f).tx.idxOf? l).getD ((fabLanes s n f).idxOf l)
    carry := if l = 8 then s.livF (Reg.SPARE_STAT n) Fld.SPARE_STAT_PLANE else 15
    sreq := if f = 0 then (s.spare n).sreq else 15
    txreq := if st = 4 ∨ st = 9 then txreq else 0
    cseq := cseq
    prereq := asksPrecode s n l
    precode := s.livB (Reg.LN_STAT n l) Fld.LN_STAT_PRETX
    rxready := (s.lnk n f).use.all (fun o => laneState s n o == 6 || laneState s n o == 7) }

/-- DUE clears (R169). -/
def clearDue (n l : Nat) (s : State) : State :=
  (s.setLivF (Reg.LN_NOW n l) ⟨16, 5⟩ 0).onFcst (fun f =>
    { f with due := f.due.filter (fun e => !(e.1 == n && e.2.1 == l)) })

/-- Lists a re-adaptation by the time its DUE bit rose, then by station and lane (R527). -/
def insertDue (n l t : Nat) : List (Nat × Nat × Nat) → List (Nat × Nat × Nat)
  | [] => [(n, l, t)]
  | e :: r => if t < e.2.2 ∨ (t = e.2.2 ∧ 9 * n + l < 9 * e.1 + e.2.1) then (n, l, t) :: e :: r else e :: insertDue n l t r

/-- A re-adaptation becomes due with a cause ([17] temperature, [18] droop, [19] tap bound, [20]
command); LANE_DRIFT is raised when DUE rises (R169). -/
def setDue (n l cause : Nat) (s : State) : State :=
  let w := s.liv (Reg.LN_NOW n l)
  let s := s.setLiv (Reg.LN_NOW n l) (w ||| BitVec.ofNat 32 (2 ^ 16 + cause))
  if bit w.toNat 16 then s
  else (s.onFcst (fun f => { f with due := insertDue n l s.now f.due })).raiseStn n 3 (lanePort s n l)

/-- A TXREQ code moves a coefficient of the transmitter of lane `l` (R166). -/
def txreq (n l code : Nat) (s : State) : State :=
  let x := s.lane n l
  match code with
  | 1 => s.setLane n l { x with cm1 := min 30 (x.cm1 + 1) }
  | 2 => s.setLane n l { x with cm1 := x.cm1 - 1 }
  | 3 => s.setLane n l { x with cp1 := min 20 (x.cp1 + 1) }
  | 4 => s.setLane n l { x with cp1 := x.cp1 - 1 }
  | 5 => s.setLane n l { x with cm2 := min 10 (x.cm2 + 1) }
  | 6 => s.setLane n l { x with cm2 := x.cm2 - 1 }
  | 7 => usePreset n l x.preset s
  | _ => s

/-! ## Bring-up (R163, R164) -/

/-- LANE_ENERGY_DETECT: a lane in DETECT sees energy for 10 µs and moves to CDR. The lanes of a port that
has raised TRAIN_FAIL wait for its next retry. -/
def execLaneEnergyDetect (n : Fin 24) (l : Fin 9) (s : State) : Host.Outcome State Fault Refusal :=
  let b := s.bring n.val (lanePort s n.val l.val)
  .next (if isFab s n.val l.val && laneState s n.val l.val == 1 && !b.waiting
    then setLaneState n.val l.val 2 s else s)

/-- LANE_CDR_LOCK: a lane in CDR locks and moves to ALIGN. -/
def execLaneCdrLock (n : Fin 24) (l : Fin 9) (s : State) : Host.Outcome State Fault Refusal :=
  .next (if isFab s n.val l.val && laneState s n.val l.val == 2 then setLaneState n.val l.val 3 s else s)

/-- The spare after the port's lanes went ACTIVE: STANDBY when it has trained, else UNAVAIL; in TAKEOVER it
keeps the lane it holds (R164, R178). -/
def spareUp (n : Nat) (s : State) : State :=
  if !spareUsed s n then s
  else if laneState s n 8 = 6 then
    let s := setLaneState n 8 8 s
    if spareState s n = 2 then s else setSpareState n 1 15 s
  else setSpareState n 5 15 s

/-- Does the spare stand in for failed lane `l`, trained? -/
def spareCovers (s : State) (n l : Nat) : Bool :=
  laneState s n l == 10 && spareState s n == 2 && s.livF (Reg.SPARE_STAT n) Fld.SPARE_STAT_LANE == laneLogical s n l &&
  laneState s n 8 == 6 && (s.lane n 8).ready

/-- The lanes of a port go ACTIVE once every lane in use is READY here and RXREADY has come on each; a lane
that the spare stands in for counts by the spare (R163, R164). -/
def readyCheck (n f : Nat) (s : State) : State :=
  let use := (s.lnk n f).use
  let ok (l : Nat) : Bool := (laneState s n l == 6 && (s.lane n l).ready) || (f == 0 && spareCovers s n l)
  if use ≠ [] ∧ use.all ok then
    let s := use.foldl (fun s l => if laneState s n l = 6 then setLaneState n l 7 s else s) s
    let s := if f = 0 then spareUp n s else s
    let s := s.setBring n f {}
    lanesActive n f s
  else s

/-! ## What becomes of a lane that fails (R164, R173 to R178) -/

/-- The spare, which has passed ALIGN, takes the place of lane `l` of port 0 (R164). -/
def spareTakes (n l : Nat) (s : State) : State :=
  let use := (s.lnk n 0).use
  let k := (List.range use.length).find? (fun k => use.all (fun o => o == l || laneLogical s n o != k))
  let k := k.getD 0
  let s := s.setLivF (Reg.LN_STAT n l) Fld.LN_STAT_LOGICAL k
  setSpareState n 2 k (request n k true (setLaneState n l 10 s))

/-- May the spare take the place of a port lane: it is used, holds none, and has not failed? -/
def spareFree (s : State) (n : Nat) : Bool :=
  spareUsed s n && (s.spare n).sreq == 15 && spareState s n != 5

/-- A port lane has failed CDR, ALIGN or EQ twice in succession: the spare takes its place, at once or when it comes to EQ
itself (R164); else the lane is bad and the port comes up at the width that R247 allows. -/
def twiceFailed (n f l : Nat) (s : State) : State :=
  if f = 0 ∧ spareFree s n then (if 4 ≤ laneState s n 8 then spareTakes n l s else s)
  else
    let s := s.setLane n l { s.lane n l with good := false }
    match reduced s n f with
    | some (tw, sel) =>
      let s := s.setLivF (Reg.FL_STAT n f) Fld.FL_STAT_SEL sel
      let full := configured s n f
      s.onLnk n f (fun k => { k with
        full := full, use := widthLanes full tw sel, tx := widthLanes (fabLanes s n f) tw sel, sel := sel })
    | none => s

/-- The spare has come to EQ: it takes the place of a lane that has failed twice in succession and waits for it (R164). -/
def spareReady (n : Nat) (s : State) : State :=
  if spareFree s n then
    match (s.lnk n 0).use.find? (fun l => decide (2 ≤ (s.lane n l).fails) && laneState s n l != 10) with
    | some l => spareTakes n l s
    | none => s
  else s

/-- The re-adaptation of lane `k` is aborted: its record is loaded again, and it returns to its own receiver (R178), with a
DEVICE entry whose LOC is event `index`, which aborts it, if its data had been taken from the spare (R172). -/
def returnLane (n k index : Nat) (s : State) : State :=
  match physical s n k with
  | some l =>
    let s := loadRec n l (setLaneState n l 7 s)
    if (s.spare n).taken then s.logDevice (16 * n + index) else s
  | none => s

/-- A port lane fails (R178). -/
def portLaneFails (n f l : Nat) (s : State) : State :=
  let k := laneLogical s n l
  let s := setLaneState n l 10 s
  let s := s.setLane n l { s.lane n l with good := false }
  let held := s.livF (Reg.SPARE_STAT n) Fld.SPARE_STAT_LANE
  let take (s : State) : State := setSpareState n 2 k (request n k true s)
  if f ≠ 0 then laneLost n f s
  else match spareState s n with
    | 1 => take (if (s.spare n).inPlace then loadRec n 8 s else s)
    | 3 => take (returnLane n held 0 s)
    | 2 => laneLost n f (s.raiseStn n 2 f)
    | 4 =>
      let s := match physical s n held with
        | some o => setLaneState n o 10 s
        | none => s
      laneLost n f ((setSpareState n 2 held s).raiseStn n 2 f)
    | _ => laneLost n f s

/-- The spare fails (R178). While it holds lane `k`, SREQ stays `k`: the lane does not return to its own receiver (R175).
DESIGN CHOICE (log entry 109): it fails in RESTORE as it does in TAKEOVER. -/
def spareFails (n : Nat) (s : State) : State :=
  let held := s.livF (Reg.SPARE_STAT n) Fld.SPARE_STAT_LANE
  let s := setLaneState n 8 10 s
  match spareState s n with
  | 1 => (setSpareState n 5 15 (s.setSpare n {})).raiseStn n 5 0
  | 3 => (setSpareState n 5 15 ((returnLane n held 5 s).setSpare n {})).raiseStn n 5 0
  | 2 | 4 =>
    let s := s.setSpare n { s.spare n with taken := false }
    laneLost n 0 (((setSpareState n 5 15 s).raiseStn n 5 0).raiseStn n 2 0)
  | _ => s

/-- Lane `l` fails under R173, if it is in ACTIVE, or the spare in use. -/
def laneFails (n l : Nat) (s : State) : State :=
  let st := laneState s n l
  if isFab s n l && (st == 7 || (l == 8 && st == 8)) then
    let f := lanePort s n l
    let s := (s.bump (Reg.LN_FAILCNT n l)).raiseStn n 0 f
    if l = 8 then spareFails n s else portLaneFails n f l s
  else s

/-- Lanes that one evaluation finds failing fail in the order of their logical lanes (R178). -/
def lanesFail (n : Nat) (ls : List Nat) (s : State) : State :=
  let order := (List.range 16).flatMap (fun k => ls.filter (fun l => laneLogical s n l == k))
  order.foldl (fun s l => laneFails n l s) s

/-! ## Commas (R154 to R161, R166, R174) -/

/-- The CRC of an identity word checks (R155). -/
def commaCrcOk (w : Nat) : Bool := crc8 (lsbBits 24 w) == bits w 24 8

/-- Is an identity acceptable (R158)? The spare must name 8; a lane must name a logical lane below the
width that no other lane of the port names. A lane that the port does not use keeps the numbers of the configured width
(DEDUCED, log entry 111). -/
def identityOk (s : State) (n f l lane : Nat) : Bool :=
  if l = 8 then lane == 8
  else
    let use := (s.lnk n f).use
    decide (lane < if use.contains l then use.length else (fabLanes s n f).length) && use.all (fun o => o == l || laneLogical s n o != lane ||
      !((4 ≤ laneState s n o && decide (laneState s n o ≤ 7)) || decide (0 < (s.lane n o).commas)))

/-- An accepted comma on a lane in ALIGN: POLINV and LOGICAL follow it, and the third in succession with an
acceptable identity ends ALIGN; EQ follows in bring-up, DESKEW in a pause (R163, R245). An identity that is
not acceptable raises ALIGN_ERR and the search goes on until the timer; on the spare it makes the spare
UNAVAIL instead (R158). -/
def alignComma (n f l : Nat) (inv : Bool) (w : Nat) (s : State) : State :=
  let lane := bits w 0 4
  let ok := identityOk s n f l lane
  let s := s.setLivF (Reg.LN_STAT n l) Fld.LN_STAT_POLINV (b2n inv)
  let s := s.setLivF (Reg.LN_STAT n l) Fld.LN_STAT_LOGICAL lane
  if ok then
    let x := s.lane n l
    if x.commas + 1 < 3 then s.setLane n l { x with commas := x.commas + 1 }
    else if s.flState n f = 5 then setLaneState n l 5 s
    else if l = 8 then spareReady n (beginEq n l s)
    else beginEq n l s
  else if l = 8 then (setSpareState n 5 15 (setLaneState n 8 0 s)).raiseStn n 5 0
  else (s.setLane n l { s.lane n l with commas := 0 }).raiseStn n 7 f

/-- A lane in EQ follows the comma's precoding flags (R153). DESIGN CHOICE (log entry 106): where lanes are reordered, PREREQ
speaks of the transmitter of the physical lane on which it came. -/
def eqComma (n l w : Nat) (s : State) : State :=
  (s.setLivF (Reg.LN_STAT n l) Fld.LN_STAT_PRETX (bits w 20 1)).setLivF (Reg.LN_STAT n l) Fld.LN_STAT_PRERX (bits w 21 1)

/-- The SREQ that a majority of the lanes with an accepted comma carry (R174). -/
def majority (s : State) (n : Nat) : Option Nat :=
  let l := ((fabLanes s n 0) ++ [8]).filterMap (fun l => (s.lane n l).sreq)
  (List.range 16).find? (fun k => decide (l.length < 2 * (l.filter (fun x => x == k)).length))

/-- The spare of the receiving end acts on a comma received on it (R174): CARRY is accepted, and at the next
comma the lane's data is taken from the spare, which counts as a takeover unless the lane is being
re-adapted (R172, R178). -/
def carryComma (n w : Nat) (s : State) : State :=
  let x := s.spare n
  if x.sreq = 15 ∨ x.taken then s
  else if x.carried then
    let s := s.setSpare n { x with taken := true }
    if x.counts then ((s.bump (Reg.SPARE_TAKECNT n)).raiseStn n 1 0).logDevice (16 * n + 1) else s
  else if bits w 4 4 = x.sreq then s.setSpare n { x with carried := true }
  else s

/-- An accepted comma with its identity word (R156). -/
def commaIn (n f l : Nat) (inv : Bool) (w : Nat) (s : State) : State :=
  let st := laneState s n l
  let s := s.setLane n l { s.lane n l with sreq := some (bits w 8 4) }
  let s := if st = 3 then alignComma n f l inv w s else if st = 4 then eqComma n l w s else s
  let s := if st = 6 then s.setLane n l { s.lane n l with ready := bit w 22 } else s
  -- TXREQ acts in EQ, and for the lane that the partner re-adapts (R166); a partner that takes a lane over sends 0 (R155)
  let tx := if bits w 0 4 = 8 then 8 else nth 0 (s.lnk n f).tx (bits w 0 4)
  let adapting := f == 0 && s.livF (Reg.SPARE_STAT n) Fld.SPARE_STAT_PLANE == bits w 0 4
  let s := if st = 4 ∨ (7 ≤ st ∧ adapting) then txreq n tx (bits w 12 4) s else s
  let s := if f = 0 then
      match majority s n with
      | some k => s.setLivF (Reg.SPARE_STAT n) Fld.SPARE_STAT_PLANE k
      | none => s
    else s
  let s := if l = 8 then carryComma n w s else s
  readyCheck n f s

/-- What a comma interval with `ser` corrected symbols adds to a lane's record of them (R163, R173). -/
def countSer (n l ser : Nat) (s : State) : State :=
  let x := s.lane n l
  let clean := if 8 * ser ≤ serThr s n then x.clean + 1 else 0
  s.setLane n l { x with clean := clean, sers := (ser :: x.sers).take 8 }

/-- Does a lane fail by its commas (R173): two missing in succession, or more than SERTHR corrected symbols in 8 intervals? -/
def commaFails (s : State) (n l : Nat) : Bool :=
  decide (2 ≤ (s.lane n l).missed) || decide (serThr s n < (s.lane n l).sers.foldl (· + ·) 0)

/-- COMMA_RECEIVE (R156): a comma on lane `l`. `sync` says that the pattern, inverted when `inv`, stood
where it is expected; `id` is the identity word as the levels read before any inversion; `fill` is the
number of symbols in the lane's elastic buffer (R161), `ser` the corrected symbols of the interval (R218).
Under an inversion every level reads as 3 minus itself, which turns b1 of each pair over (R157). -/
def execCommaReceive (n : Fin 24) (l : Fin 9) (sync inv : Bool) (id : Word) (fill ser : Nat) (s : State) :
    Host.Outcome State Fault Refusal :=
  .next <| settle (
    if isFab s n.val l.val && decide (3 ≤ laneState s n.val l.val) then
      let f := lanePort s n.val l.val
      let s := perf n.val 0x0E (some f) ser {} (s.bump (Reg.LN_SERCNT n.val l.val) ser)
      let s := countSer n.val l.val ser s
      let s := if fill < 48 ∧ (s.lnk n.val f).use.head? = some l.val
        then s.bumpF (Reg.FILLCNT n.val) Fld.FILLCNT_INS else s
      let inv := if laneState s n.val l.val = 3 then inv else s.livB (Reg.LN_STAT n.val l.val) Fld.LN_STAT_POLINV
      let w := (if inv then id ^^^ 0xAAAAAAAA else id).toNat
      let x := s.lane n.val l.val
      let s := if sync && commaCrcOk w then commaIn n.val f l.val inv w (s.setLane n.val l.val { x with missed := 0 })
        else s.setLane n.val l.val { x with commas := 0, sreq := none, missed := x.missed + 1 }
      if commaFails s n.val l.val then laneFails n.val l.val s else s
    else s)

/-- EQ_CONVERGE (R163, R168): equalisation converges within the declared CTLE band after a run of symbols that is clean
enough, the record is written, and the lane moves to DESKEW. -/
def execEqConverge (n : Fin 24) (l : Fin 9) (ctle : Fin 16) (temp droop : Byte) (s : State) (taps : List Int := []) :
    Host.Outcome State Fault Refusal :=
  .next (if isFab s n.val l.val && laneState s n.val l.val == 4 && inBand s n.val ctle.val && cleanRun s n.val l.val
    then setLaneState n.val l.val 5 (writeRec n.val l.val ctle.val temp.toNat droop.toNat taps s) else s)

/-- DESKEW_DONE (R159): every lane of port `f` in DESKEW lies within 9.0 ns; `skews` gives the delay of
each physical lane in UI. The lanes move to READY once every lane in use has reached DESKEW. -/
def execDeskewDone (n : Fin 24) (f : Fin 2) (skews : List Nat) (s : State) : Host.Outcome State Fault Refusal :=
  let lim := if s.actB (Reg.LINK_CTL n.val) Fld.LINK_CTL_FLRATE then 1008 else 504
  let ls := fabLanes s n.val f.val ++ (if f.val = 0 then [8] else [])
  let here := ls.filter (fun l => laneState s n.val l == 5)
  let use := (s.lnk n.val f.val).use
  let waits := use.any (fun l => decide (1 ≤ laneState s n.val l) && decide (laneState s n.val l ≤ 4))
  .next (
    if fabPort s.act n.val f.val && !waits && here.all (fun l => decide (nth 0 skews l ≤ lim)) then
      here.foldl (fun s l =>
        let s := s.setLivF (Reg.LN_STAT n.val l) Fld.LN_STAT_SKEW (nth 0 skews l)
        let s := setLaneState n.val l 6 s
        s.setLane n.val l { s.lane n.val l with good := true, fails := 0 }) s
    else s)

/-- The timer of a lane state in ns (R163). -/
def laneTimer : Nat → Option Nat
  | 2 => some 1000000 | 3 => some 1000000 | 4 => some 20000000 | 5 => some 1000000 | 6 => some 10000000
  | _ => none

/-- LANE_TIMER_EXPIRE (R164): the timer of a lane's state expires. A lane that a working port does not use returns to DETECT
alone, and in READY it waits without a timer (R247; DEDUCED, log entry 111). -/
def execLaneTimerExpire (n : Fin 24) (l : Fin 9) (s : State) : Host.Outcome State Fault Refusal :=
  let st := laneState s n.val l.val
  .next <| settle (match laneTimer st with
    | none => s
    | some d =>
      if !isFab s n.val l.val then s else
      let s := s.reach ((s.lane n.val l.val).since + d)
      let f := lanePort s n.val l.val
      if l.val = 8 then setSpareState n.val 5 15 ((setLaneState n.val 8 1 s).setSpare n.val {})
      else
        let working := decide (2 ≤ s.flState n.val f)
        if working && !(s.lnk n.val f).use.contains l.val then
          if st = 6 then s else setLaneState n.val l.val 1 s
        else
        let s := (fabLanes s n.val f).foldl (fun s o =>
          let so := laneState s n.val o
          if o = l.val ∨ (3 ≤ so ∧ so ≤ 7) then setLaneState n.val o 1 s else s) s
        let fails := if st ≤ 4 then (s.lane n.val l.val).fails + 1 else 0
        let s := s.setLane n.val l.val { s.lane n.val l.val with fails := fails }
        let s := if 2 ≤ fails then twiceFailed n.val f l.val s else s
        let b := s.bring n.val f
        let e := b.expiries + 1
        let failed := b.failed || decide (8 ≤ e)
        let s := if failed && !b.failed then s.raiseStn n.val 6 f else s
        let s := s.setBring n.val f { b with expiries := e, failed := failed, waiting := failed, at_ := s.now }
        if working then toTrain n.val f s else s)

/-- TRAIN_RETRY_TIMER (R164): 100 ms after the last attempt a port that has raised TRAIN_FAIL tries again
from DETECT. -/
def execTrainRetryTimer (n : Fin 24) (f : Fin 2) (s : State) : Host.Outcome State Fault Refusal :=
  let b := s.bring n.val f.val
  .next (if fabPort s.act n.val f.val && b.waiting then
      let s := s.reach (b.at_ + 100000000)
      s.setBring n.val f.val { b with waiting := false, at_ := s.now }
    else s)

/-- FAILED_LANE_RETRY (R247): a failed lane of a port below its configured width retries from DETECT 100 ms
after its last attempt. -/
def execFailedLaneRetry (n : Fin 24) (l : Fin 8) (s : State) : Host.Outcome State Fault Refusal :=
  let f := lanePort s n.val l.val
  let x := s.lane n.val l.val
  .next (if isFab s n.val l.val && s.livB (Reg.FL_STAT n.val f) Fld.FL_STAT_DEGRADED &&
      !(s.lnk n.val f).use.contains l.val && (laneState s n.val l.val == 10 || !x.good) then
      setLaneState n.val l.val 1 (s.reach (x.since + 100000000))
    else s)

/-- FILLER_RECEIVE (R161): a Filler Block is deleted when the buffer of port `f` holds more than 80
symbols. -/
def execFillerReceive (n : Fin 24) (f : Fin 2) (fill : Nat) (s : State) : Host.Outcome State Fault Refusal :=
  .next (if fabPort s.act n.val f.val && decide (80 < fill)
    then s.bumpF (Reg.FILLCNT n.val) Fld.FILLCNT_DEL else s)

/-- ELASTIC_OVERRUN (R162). -/
def execElasticOverrun (n : Fin 24) (f : Fin 2) (s : State) : Host.Outcome State Fault Refusal :=
  .next (if fabPort s.act n.val f.val then s.raiseStn n.val 8 f.val else s)

/-! ## Failure, takeover and re-adaptation (R169 to R179) -/

/-- LANE_FAILURE (R173, R178): lanes in ACTIVE, or the spare, meet a criterion of R173. -/
def execLaneFailure (n : Fin 24) (ls : List (Fin 9)) (s : State) : Host.Outcome State Fault Refusal :=
  .next <| settle (lanesFail n.val (ls.map (fun l => l.val)) s)

/-- A tap that adaptation moves to `t` goes no further than 0.05 of the main cursor from its value `r` in the record (R167). -/
def holdTap (r t : Int) : Int := max (r - 50) (min (r + 50) t)

/-- The taps of a lane in ACTIVE or STANDBY adapt toward `taps`; does one reach its bound (R167)? -/
def adaptTaps (n l : Nat) (taps : List Int) (s : State) : Bool × State :=
  match s.laneRec n l with
  | some r =>
    if laneState s n l = 7 ∨ laneState s n l = 8 then
      ((List.zipWith (fun r t => decide (50 ≤ (t - r).natAbs)) r.taps taps).any id,
        s.setLane n l { s.lane n l with taps := List.zipWith holdTap r.taps taps })
    else (false, s)
  | none => (false, s)

/-- READAPT_DUE (R167, R169): the present temperature and droop of a lane are measured, and its taps have adapted. -/
def execReadaptDue (n : Fin 24) (l : Fin 9) (temp droop : Byte) (taps : List Int) (s : State) :
    Host.Outcome State Fault Refusal :=
  let a := Reg.LN_NOW n.val l.val
  let (tap, s) := adaptTaps n.val l.val taps s
  let s := s.setLiv a ((s.liv a &&& 0xFFFF0000) ||| BitVec.ofNat 32 (temp.toNat + droop.toNat * 256))
  let r := s.liv (Reg.LN_REC n.val l.val)
  let ctl := s.act (Reg.SPARE_CTL n.val)
  let rt := fget r Fld.LN_REC_TEMP
  let dt := max (temp.toNat - rt) (rt - temp.toNat)
  let byTemp := decide (2 * min 30 (max 5 (fget ctl Fld.SPARE_CTL_DTEMP)) ≤ dt)
  let byDroop := decide (fget r Fld.LN_REC_DROOP + max 2 (fget ctl Fld.SPARE_CTL_DDROOP) < droop.toNat)
  .next (if byTemp || byDroop || tap
    then setDue n.val l.val (2 ^ 17 * b2n byTemp + 2 ^ 18 * b2n byDroop + 2 ^ 19 * b2n tap) s else s)

/-- May a due re-adaptation of lane `l` run, but for the Forecaster's release (R170)? -/
def readaptReady (s : State) (n l : Nat) : Bool :=
  isFab s n l && s.actB (Reg.SPARE_CTL n) Fld.SPARE_CTL_READAPT && spareState s n == 1 &&
  !(s.spare n).inPlace && s.livB (Reg.LN_NOW n l) ⟨16, 1⟩ && (l == 8 || (lanePort s n l == 0 && laneState s n l == 7))

/-- The Forecaster releases a due re-adaptation (R170, R171, R178). -/
def startReadapt (n l : Nat) (s : State) : State :=
  if l = 8 then (s.setSpare n { s.spare n with inPlace := true }).setLane n 8 { s.lane n 8 with clean := 0 }
  else
    let k := laneLogical s n l
    setSpareState n 3 k (request n k false (setLaneState n l 9 s))

/-- A re-adaptation of lane `l` has passed (R171): the record is written, DUE clears, READAPT_DONE. -/
def adapted (n l ctle temp droop : Nat) (taps : List Int) (s : State) : State :=
  let s := clearDue n l (writeRec n l ctle temp droop taps s)
  (s.raiseStn n 4 0).logDevice (16 * n + 4)

/-- May a search on lane `l` pass: a setting of the declared band, and a run that is clean enough (R163, R165, R171)? -/
def mayPass (s : State) (n l ctle : Nat) : Bool := inBand s n ctle && cleanRun s n l

/-- READAPT_COMPLETE (R171, R178): the EQ search of the lane under re-adaptation ends; it has begun once the lane's data is
taken from the spare. DESIGN CHOICE (log entry 108): a spare whose own re-adaptation fails is UNAVAIL. -/
def execReadaptComplete (n : Fin 24) (pass : Bool) (ctle : Fin 16) (temp droop : Byte) (s : State) (taps : List Int := []) :
    Host.Outcome State Fault Refusal :=
  let n := n.val
  let held := s.livF (Reg.SPARE_STAT n) Fld.SPARE_STAT_LANE
  .next (
    if spareState s n = 1 ∧ (s.spare n).inPlace then
      if pass then
        if mayPass s n 8 ctle.val then
          adapted n 8 ctle.val temp.toNat droop.toNat taps (s.setSpare n { s.spare n with inPlace := false })
        else s
      else ((setSpareState n 5 15 (setLaneState n 8 10 (s.setSpare n {}))).raiseStn n 0 0).raiseStn n 5 0
    else if spareState s n = 3 ∧ (s.spare n).taken then
      match physical s n held with
      | none => s
      | some l =>
        if pass then
          if mayPass s n l ctle.val then
            adapted n l ctle.val temp.toNat droop.toNat taps (setSpareState n 1 15 ((setLaneState n l 7 s).setSpare n {}))
          else s
        else
          let s := (setLaneState n l 10 s).raiseStn n 0 0
          let s := setSpareState n 2 held (s.setSpare n { s.spare n with counts := true, taken := true, carried := true })
          ((s.bump (Reg.SPARE_TAKECNT n)).raiseStn n 1 0).logDevice (16 * n + 1)
    else s)

/-- RESTORE_COMPLETE (R178): a release's re-adaptation ends; LANE_FAIL is raised when it fails (R183). -/
def execRestoreComplete (n : Fin 24) (pass : Bool) (ctle : Fin 16) (temp droop : Byte) (s : State) (taps : List Int := []) :
    Host.Outcome State Fault Refusal :=
  let n := n.val
  let held := s.livF (Reg.SPARE_STAT n) Fld.SPARE_STAT_LANE
  .next (
    if spareState s n = 4 then
      match physical s n held with
      | none => s
      | some l =>
        if pass then
          if mayPass s n l ctle.val then
            let s := setSpareState n 1 15 ((setLaneState n l 7 s).setSpare n {})
            adapted n l ctle.val temp.toNat droop.toNat taps (s.setLane n l { s.lane n l with good := true })
          else s
        else (setSpareState n 2 held (setLaneState n l 10 s)).raiseStn n 0 0
    else s)

/-- SPARE_CMD.OP and LANE as written. -/
def isSpareCmd (op : Nat) (a : Nat) (v : Word) : Bool := stnReg a 0x2208 && fget v Fld.SPARE_CMD_OP == op

/-- The effect of SPARE_CMD with OP = READAPT: the lane becomes due, or CMDREJ (R179). -/
def spareReadapt (n k : Nat) (s : State) : State :=
  let l? := if k = 8 then (if spareState s n = 1 then some 8 else none)
    else (physical s n k).filter (fun l => laneState s n l == 7)
  match l? with
  | some l => setDue n l (2 ^ 20) s
  | none => s.setLivF (Reg.SPARE_STAT n) Fld.SPARE_STAT_CMDREJ 1

/-- The effect of SPARE_CMD with OP = RELEASE: restoring the held lane begins, or CMDREJ (R178, R179). -/
def spareRelease (n k : Nat) (s : State) : State :=
  if s.livF (Reg.SPARE_STAT n) Fld.SPARE_STAT_LANE ≠ k ∨ k = 15 then
    s.setLivF (Reg.SPARE_STAT n) Fld.SPARE_STAT_CMDREJ 1
  else if spareState s n = 2 then
    match physical s n k with
    | some l => setSpareState n 4 k (setLaneState n l 9 s)
    | none => s
  else s

/-- SPARE_CMD after a write: OP reads 0 (R182). -/
def spareCmdWord (a : Nat) (v : Word) (s : State) : State := storeCmd a v [Fld.SPARE_CMD_OP] s

/-- SPARE_CMD with OP = READAPT. -/
def spareReadaptRule : LiveRule where
  sel := isSpareCmd 1
  eff := fun _ _ a v => command (fun s => spareReadapt (stnOf a) (fget v Fld.SPARE_CMD_LANE) (spareCmdWord a v s))

/-- SPARE_CMD with OP = RELEASE. -/
def spareReleaseRule : LiveRule where
  sel := isSpareCmd 2
  eff := fun _ _ a v => command (fun s => spareRelease (stnOf a) (fget v Fld.SPARE_CMD_LANE) (spareCmdWord a v s))

/-- SPARE_CMD with OP = 0 or 3 does nothing. -/
def spareIdleRule : LiveRule where
  sel := fun a v => isSpareCmd 0 a v || isSpareCmd 3 a v
  eff := fun _ _ a v => command (spareCmdWord a v)

/-- SPARE_CMD_READAPT. -/
def execSpareCmdReadapt (s : State) : Host.Outcome State Fault Refusal := liveStep spareReadaptRule s

/-- SPARE_CMD_RELEASE. -/
def execSpareCmdRelease (s : State) : Host.Outcome State Fault Refusal := liveStep spareReleaseRule s

/-! ## Margining (R180, R181) -/

/-- MARGIN_CTL with GO = 1: a sweep starts in M5, and is refused in any other mode (R181). GO reads 0. DESIGN CHOICE (log
entry 110): a second GO replaces a sweep in progress. -/
def marginGoRule : LiveRule where
  sel := fun a v => stnReg a 0x2220 && bit v.toNat 31
  eff := fun _ _ a v =>
    { act := fun s =>
        let n := stnOf a
        let s := storeCmd a v [Fld.MARGIN_CTL_GO] s
        if s.mode = 5 then
          let s := s.setLivF (Reg.MARGIN_RES n) ⟨0, 2⟩ 0
          let sweep : MarginSweep :=
            { lane := fget v Fld.MARGIN_CTL_LANE, voltage := fget v Fld.MARGIN_CTL_AXIS == 1, positive := fget v Fld.MARGIN_CTL_DIR == 1,
              step := fget v Fld.MARGIN_CTL_STEP, eye := fget v Fld.MARGIN_CTL_EYE, dwell := fget v Fld.MARGIN_CTL_DWELL,
              at_ := s.now }
          s.onDp (fun d => { d with margin := Tab.put d.margin n sweep })
        else s.setLivF (Reg.MARGIN_RES n) ⟨0, 2⟩ 2 }

/-- MARGIN_GO. -/
def execMarginGo (s : State) : Host.Outcome State Fault Refusal := liveStep marginGoRule s

/-- Symbols in 10^6 per second on the lanes of station `n`: of a fabric station by FLRATE, of a PCI Express station by the rate
at which its first port has trained, two bits to a symbol from 64 GT/s on. -/
def symbolRate (s : State) (n : Nat) : Nat :=
  if stnKind s.act n = .fabric then (if s.actB (Reg.LINK_CTL n) Fld.LINK_CTL_FLRATE then 112000 else 56000)
  else match pStat s (4 * homeStn s.act n) Fld.PORT_STAT_RATE with
    | 0 => 2500 | 1 => 5000 | 2 => 8000 | 3 => 16000 | 4 => 32000 | 5 => 32000 | _ => 64000

/-- MARGIN_DONE (R181): 2^(24 + DWELL) symbols have passed, with an error in `errors` of them. DESIGN CHOICE (log entry 110):
MARGIN_ERR accumulates. -/
def execMarginDone (n : Fin 24) (errors : Nat) (s : State) : Host.Outcome State Fault Refusal :=
  .next (match Tab.find s.dp.margin n.val with
    | none => s
    | some w =>
      let symbols := 2 ^ (24 + w.dwell)
      let errors := min symbols errors
      let s := s.reach (w.at_ + ceilDiv (symbols * 1000) (symbolRate s n.val))
      let s := s.onDp (fun d => { d with margin := Tab.del d.margin n.val })
      let c := (s.liv (Reg.MARGIN_ERR n.val)).toNat + errors
      let s := s.setLivN (Reg.MARGIN_ERR n.val) c
      let s := s.setLivF (Reg.MARGIN_RES n.val) Fld.MARGIN_RES_WRAP (b2n (decide (2 ^ 32 ≤ c)))
      s.setLivF (Reg.MARGIN_RES n.val) Fld.MARGIN_RES_DONE 1)

/-- LANE_MARGINING_COMMAND (R180): a step of Lane Margining at the Receiver on a PCI Express lane, 32 each way in time and 63
in voltage, which leaves the data path unchanged and answers with what the sampler counts; or the report of the parameters. -/
def execLaneMarginingCommand (n : Fin 24) (l : Fin 8) (cmd : MarginCmd) (errors samples : Nat) (s : State) :
    Host.Outcome State Fault Refusal :=
  .next (if stnKind s.act n.val = .pcie then
      match cmd with
      | .step voltage _ offset =>
        if voltage ∨ offset.val ≤ 32 then s.emit (.margin n.val l.val (min 63 errors) samples) else s
      | .report => s.emit (.marginParams n.val l.val 32 50 63 126 true true true 63)
    else s)

end Sys2Proof.Machine
end

