-- ==== Sys2Proof/Machine/Forecaster.lean ====
section
/-! DEFINITION. The Forecaster's commands: rail samples, windows, sweeps, evaluation, VCORE, deferral limits (R121, R122,
R284, R516 to R529). -/

namespace Sys2Proof.Machine

/-- Rail `r` accrues `e` nJ (R516). -/
def railAccrue (r e : Nat) (s : State) : State :=
  let nj := Tab.get 0 s.pow.fcst.part r + e
  (s.bump64 (Reg.FCST_RAIL r 0) (nj / 1000)).onFcst (fun f => { f with
    part := Tab.set 0 f.part r (nj % 1000), win := Tab.set 0 f.win r (Tab.get 0 f.win r + e), seg := f.seg + e })

/-- FCST_RAIL_SAMPLE (R516): the next sampling instant, with the power of rails 0 to 5 in mW. -/
def execFcstRailSample (p0 p1 p2 p3 p4 p5 : Fin 4194304) (s : State) : Host.Outcome State Fault Refusal :=
  let s := s.reach (s.pow.fcst.sampled + 1000)
  let s := s.onFcst (fun f => { f with sampled := s.now, segN := f.segN + 1 })
  .next (([p0, p1, p2, p3, p4, p5].zipIdx).foldl (fun s e => railAccrue e.2 e.1.val s) s)

/-- FCST_WINDOW_END (R517, R518, R528): time reaches the end of the window in progress. -/
def execFcstWindowEnd (s : State) : Host.Outcome State Fault Refusal :=
  let s := if s.livB Reg.GLB_FT_STAT Fld.GLB_FT_STAT_VALID then s.reachFt (s.ft + windowLeft s)
    else s.reach (s.now + windowLeft s)
  .next (endWindow s)

/-- The oldest sweep that waits writes its charges (R518). -/
def sweep (s : State) : State :=
  match s.pow.fcst.sweeps with
  | [] => s
  | w :: l =>
    let s := s.onFcst (fun f => { f with sweeps := l })
    (List.range 48).foldl (fun s p =>
      let (c, s) := s.fit 32 (Tab.get 0 w.charges p / 1000)
      s.setLivN (Reg.FCST_PACC p 0) c) s

/-- SWDEF in ns. -/
def swDef (s : State) : Nat := s.actF Reg.FCST_CFG Fld.FCST_CFG_SWDEF * 1000000
/-- RADEF in ns. -/
def raDef (s : State) : Nat := s.actF Reg.FCST_CFG Fld.FCST_CFG_RADEF * 1000000

/-- FCST_SWEEP (R518, R526): the sweep of the oldest window runs, unless it is put off. -/
def execFcstSweep (s : State) : Host.Outcome State Fault Refusal :=
  .next (match s.pow.fcst.sweeps with
    | [] => s
    | w :: _ => if 1 ≤ fcstLevel s ∧ s.now < w.at_ + swDef s then s else sweep s)

/-! ## Release of re-adaptations (R527) -/

/-- Re-adaptations in progress. -/
def adaptsNow (s : State) : Nat :=
  ((List.range 24).filter (fun n => spareState s n == 3 || (s.spare n).inPlace)).length

/-- May a due re-adaptation be released at the present level? -/
def mayRelease (s : State) (t : Nat) : Bool := fcstLevel s == 0 || decide (t + raDef s ≤ s.now)

/-- Releases due re-adaptations in order, at most RAMAX in progress. -/
def releaseDue (s : State) : State :=
  s.pow.fcst.due.foldl (fun s e =>
    if adaptsNow s < max 1 (s.actF Reg.FCST_CFG Fld.FCST_CFG_RAMAX) ∧ mayRelease s e.2.2 ∧ readaptReady s e.1 e.2.1
    then startReadapt e.1 e.2.1 s else s) s

/-! ## VCORE (R121, R122, R284, R524, R525) -/

/-- Changes the AVSBus master. -/
def State.onAvs (s : State) (f : Avs → Avs) : State := { s with pow := { s.pow with avs := f s.pow.avs } }

/-- VCORE last written, in mV. -/
def vset (s : State) : Nat := s.pow.avs.set
/-- The VCORE that the Forecaster plans on: after AVS_FAIL the last value read back (R122). -/
def vplan (s : State) : Nat := if s.pow.avs.dead then s.pow.avs.seen else vset s
/-- GLB_CORE_SPEED.THS. -/
def thsNow (s : State) : Nat := s.livF Reg.GLB_CORE_SPEED Fld.GLB_CORE_SPEED_THS
/-- Is an increase due (R284)? -/
def raiseDue (s : State) : Bool := decide (98 * tMax s < 100 * thsNow s)
/-- May a decrease be written (R284)? -/
def mayLower (s : State) : Bool := decide (100 * thsNow s ≤ 95 * tMax s)

/-- The value that the Forecaster chooses to write, if one (R284, R524). -/
def vcoreChoice (s : State) : Option Nat :=
  let v := vplan s
  let down : Option Nat := if mayLower s ∧ 610 ≤ v then some (v - 10) else none
  if raiseDue s then (if v ≤ 790 then some (v + 10) else none)
  else if fcstLevel s = 3 ∨ s.actB Reg.FCST_CFG Fld.FCST_CFG_GOAL then down
  else if v < 720 then some (v + 10)
  else if 720 < v then down
  else none

/-- The Voltage write of a value, at least 20 µs after the last (R121). -/
def avsWrite (v : Nat) (s : State) : State :=
  let s := match s.pow.avs.last with
    | none => s
    | some t => s.reach (t + 20000)
  let s := s.onAvs (fun a => { a with set := v, last := some s.now, wait := true, again := none })
  (s.setLivN Reg.FCST_VSET v).emit (.avs v)

/-- The next Voltage write: a retry (R122), or the Forecaster's choice; none while a read-back is awaited, and none
after AVS_FAIL. -/
def avsNext (s : State) : State :=
  let a := s.pow.avs
  if a.dead || a.wait then s
  else match a.again with
    | some v => avsWrite v s
    | none => match vcoreChoice s with
      | some v => avsWrite v (s.onAvs (fun a => { a with retries := 0 }))
      | none => s

/-- FCST_VCORE_STEP (R524, R525). -/
def execFcstVcoreStep (s : State) : Host.Outcome State Fault Refusal := .next (avsNext s)

/-- AVS_VOLTAGE_WRITE (R121). -/
def execAvsVoltageWrite (s : State) : Host.Outcome State Fault Refusal := .next (avsNext s)

/-- AVS_READBACK (R122): `ok` says that the transactions were acknowledged, `mv` is the value read back. -/
def execAvsReadback (ok : Bool) (mv : Fin 4096) (s : State) : Host.Outcome State Fault Refusal :=
  let a := s.pow.avs
  let v := vset s
  .next (
    if !a.wait then s
    else
      let s := if ok then s.onAvs (fun a => { a with seen := mv.val }) else s
      if ok && decide (mv.val ≤ v + 10) && decide (v ≤ mv.val + 10) then
        s.onAvs (fun a => { a with wait := false, retries := 0 })
      else if a.retries < 3 then
        s.onAvs (fun a => { a with wait := false, retries := a.retries + 1, again := some v })
      else (s.onAvs (fun a => { a with wait := false, dead := true })).raise (gEvt 5))

/-! ## Evaluation (R523 to R525, R529) -/

/-- The Tj target in steps of 0.5 °C (R141). -/
def tjTarget (s : State) : Nat := 2 * (match s.env.cool with | 0 => 85 | 1 => 90 | _ => 95)

/-- FCST_THERM (R529). -/
def thermCheck (hot : Nat) (s : State) : State :=
  let f := s.pow.fcst
  let s := s.onFcst (fun f => { f with hot := hot })
  if hot < tjTarget s then s.onFcst (fun f => { f with hotRaised := false })
  else if tjTarget s + 20 ≤ hot ∧ !f.hotRaised then
    (s.onFcst (fun f => { f with hotRaised := true })).raise (gEvt 28)
  else s

/-- The projected device energy of the window in nJ (R523). -/
def projection (s : State) : Nat :=
  let f := s.pow.fcst
  devWin s + (if f.segN = 0 then 0 else f.seg * windowLeft s / (f.segN * 1000))

/-- The causes of pressure: [0] energy, [1] power, [2] temperature. -/
def pressCauses (s : State) : Nat :=
  let f := s.pow.fcst
  b2n (decide (energyBudget s < projection s)) + 2 * b2n (decide (deviceBudget s * 1000 * f.segN < f.seg)) +
    4 * b2n (decide (tjTarget s < f.hot))

/-- The level after an evaluation, and the `now` since which it has been calm (R524). -/
def nextLevel (s : State) : Nat × Option Nat :=
  let l := fcstLevel s
  if pressCauses s ≠ 0 then (min 3 (l + 1), none)
  else if 20 * projection s ≤ 19 * energyBudget s then
    let t := s.pow.fcst.calm.getD s.now
    if t + 1000000 ≤ s.now ∧ 0 < l then (l - 1, some s.now) else (l, some t)
  else (l, none)

/-- FLOOR and DEFER follow the level (R525, R526). -/
def planBits (press : Bool) (s : State) : State :=
  let l := fcstLevel s
  let floor := l == 3 && (!mayLower s || decide (vplan s < 610)) &&
    (press || s.livB Reg.FCST_STAT Fld.FCST_STAT_FLOOR)
  let d (f : Fld) : Nat := b2n (decide (1 ≤ l) && s.actF Reg.FCST_CFG f != 0)
  (s.setLivF Reg.FCST_STAT Fld.FCST_STAT_FLOOR (b2n floor)).setLivF Reg.FCST_STAT Fld.FCST_STAT_DEFER
    (d Fld.FCST_CFG_RADEF + 2 * d Fld.FCST_CFG_SCRDEF + 4 * d Fld.FCST_CFG_SWDEF)

/-- FCST_EVALUATE (R523): 100 µs after the last evaluation; `hot` is the hottest on-die sensor in steps of 0.5 °C. Due
re-adaptations are released (R527). -/
def execFcstEvaluate (hot : Fin 512) (s : State) : Host.Outcome State Fault Refusal :=
  let s := thermCheck hot.val (s.reach (s.pow.fcst.evalAt + 100000))
  let c := pressCauses s
  let (l, calm) := nextLevel s
  let s := s.setLivF Reg.FCST_STAT Fld.FCST_STAT_PRESS (b2n (c != 0))
  let s := (s.setLivF Reg.FCST_STAT Fld.FCST_STAT_CAUSE c).setLivF Reg.FCST_STAT Fld.FCST_STAT_LEVEL l
  let s := s.onFcst (fun f => { f with evalAt := s.now, calm := calm, seg := 0, segN := 0 })
  .next (releaseDue (planBits (c != 0) s))

end Sys2Proof.Machine
end

