-- ==== Sys2Proof/Machine/Queues.lean ====
section
/-! DEFINITION. The commands of FME queues: the key cache's fills, doorbells, queue commands, descriptors, event
ring consumers, host completions (R393, R411 to R436, R616). -/

namespace Sys2Proof.Machine

/-! ## The key cache (R393) -/

/-- A lookup that has waited goes on. -/
def serveKeyJob (j : KeyJob) (s : State) : State :=
  match j with
  | .pkt e p => serveReq e p s
  | .desc q n => localCheck q n s

/-- KEY_CACHE_FILL: entry `idx` has been read from the Drift store, with an uncorrectable error or without; the
lookups that wait for it proceed once it has a way. -/
def execKeyCacheFill (idx : Fin 1048576) (bad : Bool) (s : State) : Host.Outcome State Fault Refusal :=
  .next <| settle (
    let js := s.eng.keys.wait.filter (fun w => w.1 == idx.val)
    if js = [] then s
    else
      let s := if bad then keyBadNow idx s else s
      match takeWay idx s with
      | none => s
      | some s =>
        let s := s.onKeys (fun k => { k with wait := k.wait.filter (fun w => w.1 != idx.val) })
        js.foldl (fun s j => serveKeyJob j.2 s) s)

/-! ## Doorbells (R413, R414) -/

/-- The tests of a doorbell on queue `i`: `h` and `old` are the counts of R413 or R414, `size` the ring's entries, `v`
the new index. 0 when accepted, else DBCODE. -/
def dbTest (s : State) (origin i h old size v : Nat) : Nat :=
  let d (a b : Nat) : Nat := (a + 2 ^ 16 - b % 2 ^ 16) % 2 ^ 16
  if !holdsQueue s origin i then 1
  else if (s.q i).st = .free then 2
  else if size < d v h ∨ d v h < d v old then 3
  else 0

/-- A refused doorbell. -/
def dbRefuse (code : Nat) (s : State) : State :=
  (s.bump Reg.GLB_QDBREJCNT).setLivF Reg.GLB_QSTAT Fld.GLB_QSTAT_DBCODE code

/-- GLB_QDB (R413). -/
def qdbRule : LiveRule where
  sel := fun a _ => a == Reg.GLB_QDB
  eff := fun _ t a v =>
    { act := fun s =>
        let s := s.setLiv a v
        let i := fget v Fld.GLB_QDB_QUEUE
        let pi := fget v Fld.GLB_QDB_VALUE
        let q := s.q i
        let code := dbTest s t.origin i q.ccnt q.pi (2 ^ q.rlog) pi
        if code = 0 then settle (pumpRing i (s.onQ i (fun q => { q with pi := pi }))) else dbRefuse code s }

/-- QDB_WRITE. -/
def execQdbWrite (s : State) : Host.Outcome State Fault Refusal := liveStep qdbRule s

/-- GLB_QNDB (R414): a notification that waits for room is then tried again. -/
def qndbRule : LiveRule where
  sel := fun a _ => a == Reg.GLB_QNDB
  eff := fun _ t a v =>
    { act := fun s =>
        let s := s.setLiv a v
        let i := fget v Fld.GLB_QDB_QUEUE
        let nci := fget v Fld.GLB_QDB_VALUE
        let q := s.q i
        let code := dbTest s t.origin i q.ncnt q.nci (2 ^ q.nrlog) nci
        if code = 0 then settle (retryNotify i (s.onQ i (fun q => { q with nci := nci }))) else dbRefuse code s }

/-- QNDB_WRITE. -/
def execQndbWrite (s : State) : Host.Outcome State Fault Refusal := liveStep qndbRule s

/-! ## Queue commands (R411, R412) -/

/-- Is an owner a partition not enabled or a slice not bound? -/
def ownerAbsent (s : State) (o : Owner) : Bool :=
  if o.slice then !sliceBound s o.num else !partEnabled s.act o.num

/-- Is a context unfit for START (R411, R564)? -/
def badContext (s : State) (q : Queue) : Bool :=
  q.f 0 4 8 != 0 || q.f 1 1 11 != 0 || q.f 2 4 8 != 0 || decide (q.rlog < 4) ||
  (decide (0 < q.nrlog) && decide (q.nrlog < 4)) || q.outMax == 0 || decide (48 ≤ q.fme) || ownerAbsent s q.owner ||
  q.vc == s.actF Reg.GLB_TUN_CFG Fld.GLB_TUN_CFG_LVC || q.vc == s.actF Reg.GLB_TUN_CFG Fld.GLB_TUN_CFG_MVC ||
  q.bad != 0

/-- Does the table of R412 have a row for a command in a state? -/
def hasRow (op : Nat) (st : QState) : Bool :=
  match op, st with
  | 1, .free | 1, .stopped | 1, .error | 2, .active | 3, .stopped | 3, .error => true
  | _, _ => false

/-- CMDCODE of a command. -/
def qcmdCode (s : State) (origin i op : Nat) : Nat :=
  let q := s.q i
  let purge : Bool := match ownerPart s q.owner with
    | some p => decide (p < 48) && purging s p
    | none => false
  if !holdsQueue s origin i then 1
  else if !hasRow op q.st then 2
  else if op ≠ 1 then 0
  else if purge then 3
  else if badContext s q then 4
  else if s.mode = 0 ∨ s.mode = 4 ∨ s.mode = 5 then 5
  else 0

/-- Queue `i` starts (R412). -/
def startQueue (i : Nat) (s : State) : State :=
  let s := match (s.q i).st with
    | .free => s.onQ i (fun q => { q with
        pi := 0
        ccnt := 0
        ecnt := 0
        ncnt := 0
        nci := 0
        lastStart := 2 ^ 32 - 1
        okd := []
        toFree := false })
    | .error => s.onQ i (fun q => { q with ccnt := (q.lastStart + 1) % 2 ^ 32, okd := [] })
    | _ => s
  pumpRing i (wakeOn i (setSt i .active s))

/-- GLB_QCMD; OP reads 0, and 0 does nothing. -/
def qcmdRule (ops : List Nat) : LiveRule where
  sel := fun a v => a == Reg.GLB_QCMD && ops.contains (fget v Fld.GLB_QCMD_OP)
  eff := fun _ t a v => command (fun s =>
    let s := storeCmd a v [Fld.GLB_QCMD_OP] s
    let i := fget v Fld.GLB_QCMD_QUEUE
    let op := fget v Fld.GLB_QCMD_OP
    let code := qcmdCode s t.origin i op
    let s := s.setLivF Reg.GLB_QSTAT Fld.GLB_QSTAT_CMDCODE code
    if code ≠ 0 then s
    else settle (if op = 1 then startQueue i s else if op = 2 then stopQueue i false s else setSt i .free s))

/-- QCMD_START. -/
def execQcmdStart (s : State) : Host.Outcome State Fault Refusal := liveStep (qcmdRule [1]) s
/-- QCMD_STOP. -/
def execQcmdStop (s : State) : Host.Outcome State Fault Refusal := liveStep (qcmdRule [2]) s
/-- QCMD_FREE. -/
def execQcmdFree (s : State) : Host.Outcome State Fault Refusal := liveStep (qcmdRule [3]) s

/-! ## Descriptors -/

/-- DESC_START (R418, R419): FME `e` starts the next descriptor of the next queue in turn. -/
def execDescStart (e : Fin 48) (s : State) : Host.Outcome State Fault Refusal :=
  .next <| settle (
    if engineRoom s (e.val / 2) then
      match nextQueue s e with
      | some i => startDesc i s
      | none => s
    else s)

/-- DESC_END (R421, R425 to R428): a descriptor whose status is known ends. -/
def execDescEnd (q : Fin 65536) (n : Word) (s : State) : Host.Outcome State Fault Refusal :=
  .next <| settle (endDesc q n.toNat s)

/-- WAIT_TIMEOUT (R429). -/
def execWaitTimeout (q : Fin 65536) (n : Word) (s : State) : Host.Outcome State Fault Refusal :=
  .next <| settle (match (s.q q).descs.find? (fun d => d.n == n.toNat && d.waits && d.op == 6 && d.f 5 0 20 != 0) with
    | some d => setStatus q d.n 0x19 (s.reach (d.start + d.f 5 0 20 * 1000))
    | none => s)

/-- NOTIFY_FULL_TIMEOUT (R422): after 1 ms of a full ring the message of key (`snode`, `sfme`, `mid`) at station `n`
ends NFULL. -/
def execNotifyFullTimeout (n : Fin 24) (snode sfme mid : Nat) (s : State) : Host.Outcome State Fault Refusal :=
  .next <| settle (match findReasm s n snode sfme mid with
    | some r => match r.full with
      | some t =>
        if r.st = .notify ∧ !r.recording then
          let e := keyFme r.rkey
          messageEnd e n r 0x15 ((s.reach (t + 1000000)).bump (Reg.NFULLCNT e))
        else s
      | none => s
    | none => s)

/-! ## Event rings (R430, R432) -/

/-- The ring that an address of GLB_EVR belongs to. -/
def evrOf (a : Nat) : Nat := (a - Reg.GLB_EVR 0 0) / 16

/-- Is `a` a word of GLB_EVR? -/
def isEvr (a : Nat) : Bool := decide (Reg.GLB_EVR 0 0 ≤ a) && decide (a < Reg.GLB_EVR 48 0)

/-- A word of GLB_EVR: an origin 0 to 47 writes its own partition's only (R430). A CI out of range is ignored
(R432). -/
def evrRule : LiveRule where
  sel := fun a _ => isEvr a
  deny := fun _ t a _ => decide (t.origin < 48) && t.origin != evrOf a
  eff := fun s t a v =>
    if a % 16 = 12 then
      let q := evrOf a
      let pi := (s.liv (Reg.GLB_EVR q 2)).toNat % 2 ^ 16
      let ci := v.toNat % 2 ^ 16
      { act := fun s =>
          if (pi + 2 ^ 16 - ci) % 2 ^ 16 ≤ 2 ^ evrLog (s.liv (Reg.GLB_EVR q 0)).toNat then (s.setLivF a ⟨0, 16⟩ ci).intx
          else s }
    else plainEffect s t a v

/-- EVR_CI_WRITE. -/
def execEvrCiWrite (s : State) : Host.Outcome State Fault Refusal :=
  liveStep { evrRule with sel := fun a _ => isEvr a && a % 16 == 12 } s

/-! ## Host completions (R616) -/

/-- HOST_COMPLETION: a completion arrives for TLP `id` of a host request (64 × job + TLP), with its data and poison, or
with a status other than Successful Completion. -/
def execHostCompletion (id : Nat) (ok ep : Bool) (data : List Byte) (s : State) : Host.Outcome State Fault Refusal :=
  .next <| settle (match subOf s id with
    | some (_, u) =>
      if u.sent.isSome ∧ u.res.isNone ∧ (!ok ∨ data.length = u.len) then
        subEnd id (if ok then .ok data ep else .fail) s
      else s
    | none => s)

/-- HOST_COMPLETION_TIMEOUT: no completion has come within 50 ms of the request's leaving. -/
def execHostCompletionTimeout (id : Nat) (s : State) : Host.Outcome State Fault Refusal :=
  .next <| settle (match subOf s id with
    | some (_, u) => match u.sent with
      | some t => if u.res.isNone then subEnd id .fail (s.reach (t + 50000000)) else s
      | none => s
    | none => s)

end Sys2Proof.Machine
end

