-- ==== Sys2Proof/Machine/Regions.lean ====
section
/-! DEFINITION. The commands of regions and keys (R386 to R404). -/

namespace Sys2Proof.Machine

/-- GLB_RGN_CMD: GO = 1 registers a region; the field reads 0 (R386). -/
def regionRule : LiveRule where
  sel := fun a v => a == Reg.GLB_RGN_CMD && bit v.toNat 0
  eff := fun _ t _ _ => command (register t.origin t.serial t.pc)

/-- REGION_REGISTER. -/
def execRegionRegister (s : State) : Host.Outcome State Fault Refusal := liveStep regionRule s

/-- GLB_KEYREV: a revocation starts, or the take ends REFUSED (R401, R402); OP reads 0. -/
def keyrevRule : LiveRule where
  sel := fun a _ => a == Reg.GLB_KEYREV
  eff := fun s t a v =>
    if revRefused s t.origin v.toNat then command (storeCmd a v [Fld.GLB_KEYREV_OP]) (.stop .refused)
    else command (fun s => revStart t.origin t.serial t.pc v.toNat (storeCmd a v [Fld.GLB_KEYREV_OP] s))
      (.long (.keyrev (bits v.toNat 0 20)))

/-- The rule for one OP. -/
def keyrevOp (op : Nat) : LiveRule := { keyrevRule with sel := fun a v => a == Reg.GLB_KEYREV && bits v.toNat 30 2 == op }

/-- KEYREV_FREE: OP = 1. -/
def execKeyrevFree (s : State) : Host.Outcome State Fault Refusal := liveStep (keyrevOp 1) s

/-- KEYREV_REKEY: OP = 2. -/
def execKeyrevRekey (s : State) : Host.Outcome State Fault Refusal := liveStep (keyrevOp 2) s

/-- KEYREV_COMPLETE (R402, R403): the admitted count of an entry being revoked has reached zero. -/
def execKeyrevComplete (i : Fin 1048576) (s : State) : Host.Outcome State Fault Refusal :=
  .next <| settle (match s.eng.keys.revs.find? (fun r => r.idx == i.val) with
    | some r => if heldCount s i.val = 0 ∧ stateIn (keyWord s i.val 2).toNat = 2 then revFinish i.val r.op s else s
    | none => s)

/-- PURGE_COMPLETE (R404): the last purged entry of partition `p` has become FREE. -/
def execPurgeComplete (p : Fin 48) (s : State) : Host.Outcome State Fault Refusal :=
  .next (
    if purging s p.val && (keysOf s (fun o => ownerPart s o == some p.val)).all (fun i => keyState s i != 2) then
      let s := s.setLivF (Reg.GLB_RGN_PCNT p.val) ⟨31, 1⟩ 0
      (s.raise (gEvt 17) (some p.val)).logDevice p.val
    else s)

end Sys2Proof.Machine
end

