-- ==== Sys2Proof/Machine/Reset.lean ====
section
/-! DEFINITION. The commands of the resets, of the boot's surroundings and of draining (R112, R117, R126 to R134, R147, R148). -/

namespace Sys2Proof.Machine

/-! ## Supplies and reset pins -/

/-- COLD_RST_ASSERT (R127, R134): the cause stays that of the rails while they hold the device in reset (R128). -/
def execColdRstAssert (s : State) : Host.Outcome State Fault Refusal :=
  .next (if s.rst.cold then s
    else if s.rst.rail then { s with rst := { s.rst with cold := true } }
    else coldState 1 { cold := true, thermtrip := s.rst.thermtrip } s)

/-- COLD_RST_RELEASE (R135). -/
def execColdRstRelease (x : Straps) (s : State) : Host.Outcome State Fault Refusal :=
  .next (if s.rst.cold then coldStart x { s with rst := { s.rst with cold := false } } else s)

/-- RAIL_OUT_OF_RANGE (R128): `off` says that power is removed, which releases THERMTRIP_N (R116). Under a COLD_RST_N that
is low the cause becomes that of the rails: the reset no longer comes from the pin with rails in range (R134). -/
def execRailOutOfRange (off : Bool) (s : State) : Host.Outcome State Fault Refusal :=
  let trip := s.rst.thermtrip && !off
  .next (if s.rst.cold then
      { s.setLiv Reg.GLB_RSTCAUSE 1 with rst := { s.rst with thermtrip := trip } }
    else coldState 0 { rail := true, thermtrip := trip } s)

/-- RAIL_RECOVERY_ELAPSE (R128): the rails have been in range for 2 ms. -/
def execRailRecoveryElapse (x : Straps) (s : State) : Host.Outcome State Fault Refusal :=
  .next (if s.rst.rail then coldStart x { s with rst := { s.rst with rail := false } } else s)

/-- WARM_RST_ASSERT (R129, R131): ignored while a cold reset holds. -/
def execWarmRstAssert (s : State) : Host.Outcome State Fault Refusal :=
  .next (if s.rst.cold || s.rst.rail then s
    else
      let s := { s with rst := { s.rst with warmPin := true } }
      let s := s.setLivF Reg.GLB_RSTCAUSE Fld.GLB_RSTCAUSE_WARMPIN 1
      if s.rst.warm = .idle then warmBegin s else s)

/-- WARM_RESET_STATE (R131): once no signature and no OTP command is in progress. -/
def execWarmResetState (s : State) : Host.Outcome State Fault Refusal :=
  .next (if s.rst.warm = .draining ∧ s.slate.signing = [] ∧ s.sec.cmd = none then
      let w := s.liv Reg.GLB_BOOTSTAT
      let s := warmState s
      let s := match s.boot.retry with
        | none => s
        | some _ => s.setLiv Reg.GLB_BOOTSTAT (fset w Fld.GLB_BOOTSTAT_COPY 1)
      if s.rst.warmPin then { s with rst := { s.rst with warm := .held } } else warmBoot s
    else s)

/-- WARM_RST_RELEASE (R131). -/
def execWarmRstRelease (s : State) : Host.Outcome State Fault Refusal :=
  let r := { s with rst := { s.rst with warmPin := false } }
  .next (if s.rst.warm = .held then warmBoot r else r)

/-! ## GLB_RSTCMD -/

/-- GLB_RSTCMD after a write: OP reads 0, STN keeps the value, SREJ clears when written 1. -/
def rstcmdWord (v : Word) (s : State) : State := storeCmd Reg.GLB_RSTCMD v [Fld.GLB_RSTCMD_OP] s

/-- OP = 1 (R132): the effect follows the instruction. -/
def rstWarmRule : LiveRule where
  sel := fun a v => a == Reg.GLB_RSTCMD && fget v Fld.GLB_RSTCMD_OP == 1
  eff := fun _ t _ v => command (fun s =>
    let s := (rstcmdWord v s).setLivF Reg.GLB_RSTCAUSE Fld.GLB_RSTCAUSE_WARMTAKE 1
    warmBegin (s.setLivF Reg.GLB_RSTCAUSE Fld.GLB_RSTCAUSE_ORIGIN t.origin)) .retireFirst

/-- Is a station reset accepted (R133)? -/
def stnResetOk (s : State) (n : Nat) : Bool :=
  decide (n < 24) && stnDisabled s.act n && stnDisabled s.act (homeStn s.act n) &&
  !s.livB Reg.GLB_RSTCMD Fld.GLB_RSTCMD_SBUSY

/-- OP = 2 (R133). -/
def rstStnRule : LiveRule where
  sel := fun a v => a == Reg.GLB_RSTCMD && fget v Fld.GLB_RSTCMD_OP == 2
  eff := fun _ _ _ v => command (fun s =>
    let n := fget v Fld.GLB_RSTCMD_STN
    let ok := stnResetOk s n
    let s := rstcmdWord v s
    if ok then
      let s := s.setLivF Reg.GLB_RSTCMD Fld.GLB_RSTCMD_SBUSY 1
      { perstFall n s with rst := { s.rst with station := some n } }
    else s.setLivF Reg.GLB_RSTCMD Fld.GLB_RSTCMD_SREJ 1)

/-- RSTCMD_WARM. -/
def execRstcmdWarm (s : State) : Host.Outcome State Fault Refusal := liveStep rstWarmRule s
/-- RSTCMD_STATION. -/
def execRstcmdStation (s : State) : Host.Outcome State Fault Refusal := liveStep rstStnRule s

/-- Are the ingress cell buffer of station `n` and every queue towards its ports empty (R133)? -/
def stnEmpty (s : State) (n : Nat) : Bool :=
  !s.dp.units.any (fun e => !e.2.gone && ((e.2.src == n && !e.2.freed) || e.2.dst / 4 == n)) &&
  (s.ing n).flow.all (fun e => e.2.isEmpty) && (List.range 2).all (fun f => (s.lnk n f).held.isEmpty)

/-- The words of station `n` that exist once go to Reset but for those kept (R130), and so does what its lanes and links
hold. -/
def stnReset (n : Nat) (s : State) : State :=
  let s := { s with regs := { s.regs with live := Tab.keep (fun a => !(inStn n a && !keptInStn a)) s.regs.live } }
  let s := s.onDp (fun d => { d with
    lanes := Tab.keep (fun k => k / 9 != n) d.lanes
    spares := Tab.del d.spares n
    bring := Tab.keep (fun k => k / 4 != n) d.bring
    links := Tab.keep (fun k => k / 2 != n) d.links
    margin := Tab.del d.margin n })
  s.onFcst (fun f => { f with due := f.due.filter (fun e => e.1 != n) })

/-- STATION_RESET_DONE (R133). -/
def execStationResetDone (s : State) : Host.Outcome State Fault Refusal :=
  .next (match s.rst.station with
    | none => s
    | some n =>
      if stnEmpty s n then
        let s := (stnReset n s).setLivF Reg.GLB_RSTCMD Fld.GLB_RSTCMD_SBUSY 0
        { s with rst := { s.rst with station := none } }
      else s)

/-! ## Heat, and the target interface -/

/-- THERMTRIP (R117): every GATE pin goes off and every PG pin low; a slot in RAMP, ON or SWITCH trips with cause
THERM (R503). -/
def execThermtrip (s : State) : Host.Outcome State Fault Refusal :=
  .next (if s.rst.thermtrip then s
    else (List.range 24).foldl (fun s n => if spcLive s n then trip n 7 0 s else s)
      { s with rst := { s.rst with thermtrip := true } })

/-- I3C_BROADCAST_CCC (R112): `setdasa` holds the static and the new dynamic address of a SETDASA that follows. -/
def execI3cBroadcastCcc (s : State) (setdasa : Option (Fin 128 × Fin 128) := none) :
    Host.Outcome State Fault Refusal :=
  .next (if s.rst.cold || s.rst.rail then s
    else
      let dyn := match setdasa with
        | some (a, d) => if a.val = 0x58 + s.livF Reg.GLB_STRAP Fld.GLB_STRAP_I3CA then some d.val else s.rst.i3cDyn
        | none => s.rst.i3cDyn
      { s with rst := { s.rst with i3c := true, i3cDyn := dyn } })

/-! ## Draining -/

/-- A write of GLB_DRAINCTL (R147). -/
def drainRule : LiveRule where
  sel := fun a _ => a == Reg.GLB_DRAINCTL
  eff := fun s t a v =>
    let e := plainEffect s t a v
    { e with act := fun s =>
        let was := s.livB Reg.GLB_DRAINCTL Fld.GLB_DRAINCTL_HOLD
        let s := e.act s
        if s.livB Reg.GLB_DRAINCTL Fld.GLB_DRAINCTL_HOLD then
          (if was then s else { s with rst := { s.rst with holdAt := some s.now } })
        else settle (unhold { s with rst := { s.rst with holdAt := none } }) }

/-- DRAIN_HOLD_WRITE. -/
def execDrainHoldWrite (s : State) : Host.Outcome State Fault Refusal := liveStep drainRule s

/-- GLB_DRAINCTL.LIMIT in ns. -/
def drainLimit (s : State) : Nat := s.livF Reg.GLB_DRAINCTL Fld.GLB_DRAINCTL_LIMIT * 1000000

/-- DRAIN_LATE (R148): raised once, after LIMIT ms of HOLD without DRAINED. -/
def execDrainLate (s : State) : Host.Outcome State Fault Refusal :=
  .next (match s.rst.holdAt with
    | none => s
    | some t =>
      if drainLimit s = 0 then s
      else
        let s := s.reach (t + drainLimit s)
        if drainStat s % 2 = 1 then s
        else State.raise { s with rst := { s.rst with holdAt := none } } (gEvt 6))

end Sys2Proof.Machine
end

