-- ==== Sys2Proof/Machine/Slices.lean ====
section
/-! DEFINITION. The commands of slices (R476 to R484). -/

namespace Sys2Proof.Machine

/-- CODE of a command of slice `t` (R477): 0 OK, 1 ORIGIN, 2 UNBOUND, 3 STATE, 4 PENDING. -/
def sliceCode (s : State) (origin t op : Nat) : Nat :=
  let x := s.sl t
  let row := if op = 1 then x.st == 1 else if op = 4 then x.st != 2 else x.st == 0
  let busy := if op = 4 then x.flushing else op != 1 && x.resetting
  if origin < 48 ∧ slicePart s t ≠ origin then 1
  else if !sliceBound s t then 2
  else if !row then 3
  else if busy then 4
  else 0

/-- CUE of a command, when CUEEN is 1. -/
def sliceCue (v : Word) : Option Nat :=
  if fget v Fld.GLB_SLICECMD_CUEEN = 1 then some (fget v Fld.GLB_SLICECMD_CUE) else none

/-- RESUME of slice `t` (R479): its queues start descriptors again, and the channels that a Lull paused run again. -/
def resumeSlice (t : Nat) (s : State) : State :=
  let x := s.sl t
  let s := s.onSl t (fun x => { x with st := 1, lch := 0, lwait := 0 })
  let s := (chansOf s (isSlice t)).foldl (fun s c =>
    if bit x.lch c ∧ chState s c = 3 then
      let s := s.onChan c (fun y => { y with fromWait := false })
      pumpFetch c (setChStat c Fld.CH_STAT_STATE (if bit x.lwait c then 2 else 1) s)
    else s) s
  (queuesOf s (isSlice t)).foldl (fun s i => pumpRing i s) s

/-- RESET of slice `t` (R481). -/
def clearSlice (t : Nat) (s : State) : State :=
  let s := (queuesOf s (isSlice t)).foldl (fun s i => resetQueue i s) s
  let s := (chansOf s (isSlice t)).foldl (fun s c =>
    let s := s.onChan c (fun x => { gen := x.gen + 1 })
    setChStat c Fld.CH_STAT_CI 0 (setChStat c Fld.CH_STAT_GOPEND 0 s)) s
  let s := dropLines t (purgeKeys (keysOf s (isSlice t)) s)
  let s := s.onDp (fun d => { d with spol := Tab.del d.spol t })
  s.onSl t (fun x => { x with resetting := true, lch := 0, lwait := 0, logsel := false, logbad := false })

/-- FLUSH of slice `t` (R484). -/
def flushSlice (t : Nat) (cue : Option Nat) (s : State) : State :=
  let s := flushLines t (s.onSl t (fun x => { x with flushing := true, flushCue := cue }))
  s.onSl t (fun x => { x with logsel := !x.logsel })

/-- GLB_SLICECMD (R476, R477): a refused LULL ends the take REFUSED, an accepted one begins the long operation. -/
def sliceRule (ops : List Nat) : LiveRule where
  sel := fun a v => a == Reg.GLB_SLICECMD && ops.contains (fget v Fld.GLB_SLICECMD_OP)
  eff := fun s t a v =>
    let i := fget v Fld.GLB_SLICECMD_SLICE
    let op := fget v Fld.GLB_SLICECMD_OP
    let store (s : State) : State := storeCmd a v [Fld.GLB_SLICECMD_OP] s
    let code := sliceCode s t.origin i op
    let told (s : State) : State := (store s).setLivN Reg.GLB_SLICESTAT (code + 16 * i)
    if op = 0 ∨ 4 < op then command store
    else if code ≠ 0 then command told (if op = 1 then .stop .refused else .retire)
    else if op = 1 then
      command (fun s => settle (beginLull i ((told s).onSl i (fun x => { x with late := false, lullCue := sliceCue v }))))
        (.long (.lull i))
    else if op = 2 then command (fun s => settle (resumeSlice i (told s)))
    else if op = 3 then command (fun s => settle (clearSlice i (told s)))
    else command (fun s => settle (flushSlice i (sliceCue v) (told s)))

/-- SLICE_LULL. -/
def execSliceLull (s : State) : Host.Outcome State Fault Refusal := liveStep (sliceRule [1]) s
/-- SLICE_RESUME. -/
def execSliceResume (s : State) : Host.Outcome State Fault Refusal := liveStep (sliceRule [2]) s
/-- SLICE_RESET. -/
def execSliceReset (s : State) : Host.Outcome State Fault Refusal := liveStep (sliceRule [3]) s
/-- SLICE_FLUSH. -/
def execSliceFlush (s : State) : Host.Outcome State Fault Refusal := liveStep (sliceRule [4]) s

/-- SLICE_LULL_REACHED (R478). -/
def execSliceLullReached (t : Fin 4096) (s : State) : Host.Outcome State Fault Refusal := .next <| settle (tryLull t s)

/-- SLICE_RESET_DONE (R404, R481): the purge has ended, and KEYREV_DONE reports it. -/
def execSliceResetDone (t : Fin 4096) (s : State) : Host.Outcome State Fault Refusal :=
  .next (
    if (s.sl t).resetting ∧ keysOf s (isSlice t) = [] then
      let p := slicePart s t
      ((s.onSl t (fun x => { x with resetting := false })).raise (gEvt 17) (some p)).logDevice p
    else s)

/-- SLICE_FLUSH_DONE (R484). -/
def execSliceFlushDone (t : Fin 4096) (s : State) : Host.Outcome State Fault Refusal :=
  .next (
    let x := s.sl t
    if x.flushing ∧ x.lines = 0 then
      let s := s.onSl t (fun x => { x with flushing := false, flushCue := none })
      match x.flushCue with
      | some l => cuePulse (some (slicePart s t)) l s
      | none => s
    else s)

end Sys2Proof.Machine
end

