-- ==== Sys2Proof/Machine/Upkeep.lean ====
section
/-! DEFINITION. Scrubbing, row sparing, reference clocks and deferral limits (R526, R564 to R569). -/

namespace Sys2Proof.Machine

/-! ## Scrubs (R564, R566) -/

/-- A word of a set shows an uncorrectable error: it is counted, logged and raised once, and stays until the word is
written (R564, R565). -/
def configUe (shadow : Bool) (a : Nat) (s : State) : State :=
  let known := if shadow then s.regs.badS else s.regs.badA
  if known.contains a then s
  else
    let s := { s with regs := if shadow then { s.regs with badS := s.regs.badS ++ [a] }
                              else { s.regs with badA := s.regs.badA ++ [a] } }
    let s := errLog (a % 2 ^ 24 + b2n shadow * 2 ^ 24) 2 (if shadow then 5 else 4) (s.bump Reg.GLB_UECC_CNT)
    s.devErr (if shadow then Fld.GLB_ERR_STAT_SCFGUE else Fld.GLB_ERR_STAT_CFGUE)

/-- CONFIG_SCRUB (R566): 1 ms after the last pass, every word of both sets is read; `finds` are the words that show an
error: in the Shadow Set or not, address, uncorrectable or not. -/
def execConfigScrub (finds : List (Bool × Nat × Bool)) (s : State) : Host.Outcome State Fault Refusal :=
  let s := s.reach (s.scrub.cfg + 1000000)
  let s := { s with scrub := { s.scrub with cfg := s.now } }
  .next ((finds.filter (fun e => isShadowed e.2.1)).foldl (fun s e =>
    if e.2.2 then configUe e.1 e.2.1 s else s.bump Reg.GLB_CFG_CECCCNT) s)

/-- KEY_CACHE_SCRUB (R566): a pass over every way, KPASS ms after the last: `fixed` ways corrected, and the array indexes
of those whose entry is read again from the Drift store (R394, R564). -/
def execKeyCacheScrub (fixed : Nat) (bad : List Nat) (s : State) : Host.Outcome State Fault Refusal :=
  let s := s.reach (s.scrub.key + max 1 (bits (s.act Reg.GLB_SCRUB_CFG).toNat 8 8) * 1000000)
  let s := { s with scrub := { s.scrub with key := s.now } }
  let s := s.bump Reg.GLB_CECC_CNT fixed
  .next (bad.foldl (fun s i => errLog (i % 2 ^ 24 + 31 * 2 ^ 24) 1 3 (s.bump Reg.GLB_UECC_CNT)) s)

/-- The slot's words after an uncorrectable error: as written, with error bits that the spec does not state (R564). -/
def slateBad (slot : Nat) (s : State) : State :=
  match Tab.get none s.slate.slots slot with
  | some (.entry ..) =>
    let w (i : Nat) : DWord := BitVec.ofNat 64 (Config.free (s.fresh + i))
    let x : Slot := .entry (w 0) (w 1) (w 2) (w 3) (w 4) (BitVec.ofNat 192 (Config.free (s.fresh + 5)))
    { s with fresh := s.fresh + 6, slate := { s.slate with slots := Tab.put s.slate.slots slot (some x) } }
  | some (.reserved (some l)) =>
    let x : Slot := .reserved (some ((List.range l.length).map (fun i => BitVec.ofNat 64 (Config.free (s.fresh + i)))))
    { s with fresh := s.fresh + l.length, slate := { s.slate with slots := Tab.put s.slate.slots slot (some x) } }
  | _ => s

/-- STORAGE_UE found by the Drift scrub (R564). A block of the pool is met again at its refill (R302). -/
def driftBad (u : DriftUe) (s : State) : State :=
  match u with
  | .pool b => driftUe 6 b s
  | .key i => if s.eng.keys.bad.contains i.val then s
      else driftUe 7 i.val (s.onKeys (fun k => { k with bad := k.bad ++ [i.val] }))
  | .queue q => queueBad q.val s
  | .slate x => driftUe 9 x.val (slateBad x.val s)
  | .mail m i =>
    let b := s.mb m.val
    if 64 ≤ i ∧ i + 64 < b.inq.length then
      driftUe 10 (128 * m.val + i / 64) (s.setMb m.val { b with inq := (b.inq.zipIdx).map (fun e =>
        if e.2 = i then { e.1 with bad := true } else e.1) })
    else s

/-- DPASS in ns. -/
def dPass (s : State) : Nat := max 5 (bits (s.act Reg.GLB_SCRUB_CFG).toNat 0 8) * 1000000000

/-- The Drift scrub's position, in units of 512 B. -/
def dPos (s : State) : Nat := (s.liv Reg.GLB_SCRUB_DPOS).toNat % 2 ^ 24

/-- The `now` until which the scrub of the present 1 GiB segment may be put off (R526). -/
def scrubLimit (s : State) : Nat :=
  s.scrub.pass + dPos s / 2 ^ 21 * (dPass s / 8) + s.actF Reg.FCST_CFG Fld.FCST_CFG_SCRDEF * 100000000

/-- The next unit of the Drift store has been read; after the last one a pass is complete. -/
def scrubUnit (s : State) : State :=
  let p := dPos s + 1
  let s := driftMove false 512 s
  if p < 2 ^ 24 then s.setLivN Reg.GLB_SCRUB_DPOS p
  else
    let s := { s with scrub := { s.scrub with pass := max s.now (s.scrub.pass + dPass s) } }
    (s.setLivN Reg.GLB_SCRUB_DPOS 0).bump Reg.GLB_SCRUB_DCNT

/-- DRIFT_SCRUB (R526, R566): the next 512 B unit is read at its place in the pass, unless that is put off; `fixed` says
that an error was corrected, `ue` where one was not correctable. -/
def execDriftScrub (fixed : Bool) (ue : Option DriftUe) (s : State) : Host.Outcome State Fault Refusal :=
  let t := max s.now (s.scrub.pass + dPos s * dPass s / 2 ^ 24)
  .next (
    if 1 ≤ fcstLevel s ∧ t < scrubLimit s then s
    else
      let s := scrubUnit (s.reach t)
      let s := if fixed then s.bump Reg.GLB_DRIFT_CECCCNT else s
      match ue with
      | none => s
      | some u => driftBad u s)

/-- DRIFT_ROW_SPARE (R567): a row has given a corrected error at two reads within one pass. With no spare row left it is
kept in use. DESIGN CHOICE (log entry 99): no DEVICE entry is appended (R82); no rule asks for one. -/
def execDriftRowSpare (s : State) : Host.Outcome State Fault Refusal :=
  let w := (s.liv Reg.GLB_DRIFT_SPARE).toNat
  let left := w % 2 ^ 16
  .next (
    if left = 0 then s
    else
      let s := s.setLivN Reg.GLB_DRIFT_SPARE (left - 1 + (w / 2 ^ 16 + 1) % 2 ^ 16 * 2 ^ 16)
      let s := s.setLivF Reg.GLB_ERR_STAT Fld.GLB_ERR_STAT_SPARELOW (b2n (decide (left - 1 < 64)))
      s.devErr Fld.GLB_ERR_STAT_DSPARE)

/-- DEFER_LIMIT_EXPIRE (R526, R527): time reaches the limit of a deferred item, which then runs whatever the level. -/
def execDeferLimitExpire (i : DeferItem) (s : State) : Host.Outcome State Fault Refusal :=
  .next (match i with
    | .readapt n l =>
      match s.pow.fcst.due.find? (fun e => e.1 == n.val && e.2.1 == l.val) with
      | some e => releaseDue (s.reach (e.2.2 + raDef s))
      | none => s
    | .scrub => s.reach (scrubLimit s)
    | .sweep =>
      match s.pow.fcst.sweeps with
      | w :: _ => sweep (s.reach (w.at_ + swDef s))
      | [] => s)

/-! ## Reference clocks (R568, R569) -/

/-- The valid bit of reference `r`: 0 REFCLK_A, 1 REFCLK_B, 2 FREFCLK. -/
def refOk : Nat → Fld
  | 0 => Fld.GLB_CLK_STAT_AOK
  | 1 => Fld.GLB_CLK_STAT_BOK
  | _ => Fld.GLB_CLK_STAT_FOK

/-- The cause of DEV_ERR of reference `r`. -/
def refCause : Nat → Fld
  | 0 => Fld.GLB_ERR_STAT_REFA
  | 1 => Fld.GLB_ERR_STAT_REFB
  | _ => Fld.GLB_ERR_STAT_FREF

/-- Is reference `r` watched (R568)? -/
def watched (s : State) (r : Nat) : Bool :=
  !s.rst.cold &&
  match r with
  | 0 => true
  | 1 => decide (7 ≤ s.boot.step) && s.env.refBFit
  | _ => decide (7 ≤ s.boot.step) && s.env.frefFit

/-- The REFCLK in use. -/
def refUse (s : State) : Nat := s.livF Reg.GLB_CLK_STAT Fld.GLB_CLK_STAT_USE

/-- The PLLs and the timebase move to REFCLK `r`, with a DEVICE entry when the FM9192 does so by itself. -/
def refMove (r : Nat) (device : Bool) (s : State) : State :=
  let s := s.setLivF Reg.GLB_CLK_STAT Fld.GLB_CLK_STAT_USE r
  if device then s.logDevice (gEvt 31) else s

/-- REFCLK_LOSS (R568, R569): reference `r` is lost; the other REFCLK takes over when it is watched and reads valid. -/
def execRefclkLoss (r : Fin 3) (s : State) : Host.Outcome State Fault Refusal :=
  let r := r.val
  .next (
    if watched s r && s.livB Reg.GLB_CLK_STAT (refOk r) then
      let s := s.setLivF Reg.GLB_CLK_STAT (refOk r) 0
      if r = 2 then (s.setLivF Reg.GLB_CLK_STAT Fld.GLB_CLK_STAT_FSYN 1).devErr (refCause r)
      else if s.livB Reg.GLB_CLK_STAT (refOk (1 - r)) && !watched s (1 - r) then s.devErr (refCause r)
      else if s.livB Reg.GLB_CLK_STAT (refOk (1 - r)) then
        let used := refUse s == r
        let s := if used then s.setLivF Reg.GLB_CLK_STAT Fld.GLB_CLK_STAT_USE (1 - r) else s
        let s := s.devErr (refCause r)
        if used then s.logDevice (gEvt 31) else s
      else (s.setLivF Reg.GLB_ERR_STAT Fld.GLB_ERR_STAT_NOREF 1).devErr (refCause r)
    else s)

/-- REFCLK_REVALID (R568, R569): reference `r` has stayed within limits for 1 ms. It takes over from a lost REFCLK. -/
def execRefclkRevalid (r : Fin 3) (s : State) : Host.Outcome State Fault Refusal :=
  let r := r.val
  .next (
    if watched s r && !s.livB Reg.GLB_CLK_STAT (refOk r) then
      let s := (s.advance 1000000).setLivF Reg.GLB_CLK_STAT (refOk r) 1
      if r = 2 then s.setLivF Reg.GLB_CLK_STAT Fld.GLB_CLK_STAT_FSYN 0
      else if refUse s ≠ r ∧ !s.livB Reg.GLB_CLK_STAT (refOk (1 - r)) then
        refMove r true s
      else s
    else s)

/-- GLB_CLK_CMD with GO = 1: the named REFCLK is selected, or REJ is set (R569, R576). -/
def clkCmdRule : LiveRule where
  sel := fun a v => a == Reg.GLB_CLK_CMD && bit v.toNat 1
  eff := fun _ _ a v =>
    { act := fun s =>
        let r := v.toNat % 2
        let s := s.setLivF a Fld.GLB_CLK_CMD_SEL r
        let s := if bit v.toNat 2 then s.setLivF a Fld.GLB_CLK_CMD_REJ 0 else s
        if s.livB Reg.GLB_CLK_STAT (refOk r) then refMove r false s
        else s.setLivF a Fld.GLB_CLK_CMD_REJ 1 }

/-- CLK_SELECT. -/
def execClkSelect (s : State) : Host.Outcome State Fault Refusal := liveStep clkCmdRule s

end Sys2Proof.Machine
end

