-- ==== Sys2Proof/Machine/LiveAll.lean ====
section
/-! DEFINITION. WRLIVE of any register word (R42 to R44, R51, R52): the first rule that holds for the address and value,
and a plain write of TL and W1C fields for the words that no rule names. -/

namespace Sys2Proof.Machine

/-- The event bits of GLB_EVT_PEND[`w`] that stay 1 because the condition of a FATAL event holds (R563). -/
def pendKept (s : State) (w : Nat) : Word :=
  if w ≠ 15 then 0
  else BitVec.ofNat 32
    (b2n (s.livB Reg.GLB_CORE_STAT Fld.GLB_CORE_STAT_DOWN) * 2 ^ 10 +
     b2n (s.livB Reg.GLB_ERR_STAT Fld.GLB_ERR_STAT_CFGUE || s.livB Reg.GLB_ERR_STAT Fld.GLB_ERR_STAT_NOREF) * 2 ^ 31)

/-- A W1C write that leaves the bits of `kept` as they are. -/
def keepEffect (kept : State → Word) (s : State) (t : Take) (a : Nat) (v : Word) : Effect :=
  plainEffect s t a (v &&& ~~~(kept s))

/-- GLB_EVT_PEND (R563). -/
def pendRule : LiveRule where
  sel := fun a _ => decide (Reg.GLB_EVT_PEND 0 ≤ a) && decide (a ≤ Reg.GLB_EVT_PEND 15) && a % 4 == 0
  eff := fun s t a v => keepEffect (fun s => pendKept s ((a - Reg.GLB_EVT_PEND 0) / 4)) s t a v

/-- Are both REFCLKs lost (R568)? -/
def noRef (s : State) : Bool :=
  !s.livB Reg.GLB_CLK_STAT Fld.GLB_CLK_STAT_AOK && !s.livB Reg.GLB_CLK_STAT Fld.GLB_CLK_STAT_BOK

/-- GLB_ERR_STAT: NOREF stays 1 while both references are lost (R576). -/
def errStatRule : LiveRule where
  sel := fun a _ => a == Reg.GLB_ERR_STAT
  eff := fun s t a v => keepEffect (fun s => BitVec.ofNat 32 (b2n (noRef s) * 4)) s t a v

/-- GLB_RSTCMD with an OP that starts nothing; OP reads 0. -/
def rstIdleRule : LiveRule where
  sel := fun a v => a == Reg.GLB_RSTCMD && (fget v Fld.GLB_RSTCMD_OP == 0 || fget v Fld.GLB_RSTCMD_OP == 3)
  eff := fun _ _ _ v => command (rstcmdWord v)

/-- LINK_CMD with an OP that starts nothing; OP reads 0. -/
def linkIdleRule : LiveRule where
  sel := fun a v => stnReg a 0x1004 && (fget v Fld.LINK_CMD_OP == 0 || fget v Fld.LINK_CMD_OP == 3)
  eff := fun _ _ a v => command (linkCmdWord a v)

/-- Any other word. -/
def plainRule : LiveRule where
  sel := fun _ _ => true
  eff := plainEffect

/-- Every operation of a command register's field of 2 or 3 bits. -/
def allOps : List Nat := [0, 1, 2, 3, 4, 5, 6, 7]

/-- The rules of the lanes, ports, fabric and core. -/
def pathRules : List LiveRule :=
  [spareReadaptRule, spareReleaseRule, spareIdleRule, marginGoRule, linkRule 1, linkRule 2, linkIdleRule, ftSetRule,
   mtxHiRule, mtxCtlRule, rejoinRule, coreRule allOps]

/-- The rules of the memory engines, DMA channels, cue timers and slices. -/
def engineRules : List LiveRule :=
  [regionRule, keyrevRule, qdbRule, qndbRule, qcmdRule allOps, evrRule, chPiRule, chRingRule, chCmdRule allOps, tmrRule,
   sliceRule allOps]

/-- The rules of slot power, counters, clocks, protection, the slate log, events and resets. -/
def serviceRules : List LiveRule :=
  [spcRule allOps, pcCtlRule (fun _ => true), pcAllRule (fun _ => true), clkCmdRule, protCtlRule (fun _ => true),
   protSlotRule, otpRule 0, otpRule 1, otpRule 2, otpRule 3, slateRdRule, pendRule, errStatRule, drainRule, rstWarmRule,
   rstStnRule, rstIdleRule]

/-- The rule of a live write of `v` to `a`. -/
def ruleOf (a : Nat) (v : Word) : LiveRule :=
  ((pathRules ++ engineRules ++ serviceRules).find? (fun r => r.sel a v)).getD plainRule

/-- WRLIVE (R42 to R44, R51, R52). -/
def execWrlive (s : State) : Host.Outcome State Fault Refusal :=
  insn 0x16 0x8000 (fun t w s =>
    liveWrite (ruleOf (xAddr t w) ((t.g (fD w)).extractLsb' 0 32)) t w s) s

end Sys2Proof.Machine
end

