-- ==== Sys2Proof/Machine/RegAccess.lean ====
section
/-! DEFINITION. Reads and journalled writes of registers, reads and writes of the Drift tables, direct reads and the
indirect window (R42 to R46, R50, R53, R196, R358, R510, R516, R586, R590 to R592, R598 to R600). -/

namespace Sys2Proof.Machine

/-! ## The value of a word (R45, R540, R575, R591) -/

/-- Is `a` a port register of the upper member of a x16 pair, which reads as reset (R189)? -/
def mutedIn (v : View) (a : Nat) : Bool :=
  decide (0x100000 ≤ a) && decide (a < 0x280000) && decide (0x1100 ≤ a % 0x10000) && decide (a % 0x10000 < 0x1200) &&
  isPairOdd v ((a - 0x100000) / 0x10000)

/-- The word that a direct read, or RDREG with S = 0, finds: the Active Set value of a shadowed word, the live value of
any other. -/
def readWord (s : State) (a : Nat) : Word :=
  if mutedIn s.act a then resetVal a else if isShadowed a then s.act a else s.rd a

/-- What an identity sees of a word under the partition view and the zero rule. -/
def viewed (s : State) (who a : Nat) (w : Word) : Word := if isUser who && hidden s who a then 0 else w

/-! ## Words that latch a partner (R592) -/

/-- The high word that a read of the low word `a` latches. -/
def partner (a : Nat) : Option Nat :=
  let unit := a / 0x200 * 0x200
  let low : Bool :=
    a == Reg.GLB_FT_NOW_LO || a == Reg.GLB_MRX_LO ||
    (decide (0x100000 ≤ a) && decide (a < 0x280000) && a % 0x10000 == 0x2844) ||
    (decide (Reg.FCST_RAIL 0 0 ≤ a) && decide (a < Reg.FCST_RAIL 6 0) && a % 8 == 0) ||
    (decide (0x780000 ≤ unit) && decide (unit < 0x789400) && (a - unit == 8 ||
      (decide (0x88 ≤ a - unit) && decide (a - unit < 0x200) && (a - unit - 0x88) % 0x20 == 0 && (regRow a).isSome)))
  if low then some (a + 4) else none

/-- Is `a` a high word that a read of its low word latches? -/
def isHigh (a : Nat) : Bool := decide (4 ≤ a) && partner (a - 4) == some a

/-- What a read of a word takes away: a read of GLB_MRX_LO removes the oldest word held (R358). -/
def readTakes (a : Nat) (s : State) : State :=
  if a = Reg.GLB_MRX_LO then s.onFab (fun f => { f with mrx := f.mrx.drop 1 }) else s

/-- A read of one word by a path: a low word latches its partner, a high word returns its latched value once (R592). -/
def readOne (path : Path) (a : Nat) (s : State) : Word × State :=
  let w := readWord s a
  match partner a with
  | some h => (w, readTakes a (s.latch path h (readWord s h)))
  | none =>
    match (if isHigh a then s.latched path a else none) with
    | some v => (v, s.unlatch path a)
    | none => (w, s)

/-- An 8-byte read at `a`: both words of one instant, and a latch between them is left clear (R592). -/
def readBoth (path : Path) (a : Nat) (s : State) : Nat × State :=
  match partner a with
  | some h => (join64 (readWord s a) (readWord s h), readTakes a (s.unlatch path h))
  | none =>
    let x := readOne path a s
    let y := readOne path (a + 4) x.2
    (join64 x.1 y.1, y.2)

/-! ## Direct reads (R136, R196, R533, R537, R590, R591) -/

/-- Is the word at `a` a half of a mailbox port (R26, R29)? -/
def isPort (a : Nat) : Bool := decide (0x800000 ≤ a) && decide (a < 0x804000) && decide (a % 0x100 < 0x18)

/-- Does a word that a direct read may cover lie at `a`? -/
def readable (a : Nat) : Bool := (regRow a).isSome || (isPort a && a % 4 == 0)

/-- Completer Abort (R196): the management function of the path's partition logs it in AER. -/
def readRefused (path : Path) (a : Nat) (s : State) : State :=
  let s := s.emit (.readAbort path a)
  match path with
  | .bar p => aerError p.val 1 aerCompleterAbort 1 s
  | _ => s

/-- The checks that every direct read passes: the path, the end of boot step 2, the decoder (`ok`), the protection
unit. -/
def checkedRead (path : Path) (a : Nat) (ok : Bool) (go : State → State) (s : State) : State :=
  if !pathLive s path then s
  else if !s.boot.readable then s.answer path a 0
  else if !ok then readRefused path a s
  else match protRefuses s (pathIdent s path) a false with
    | some c => (protFault (pathIdent s path) a false c (pathCode path) s).answer path a 0
    | none => go s

/-- A direct read of 4 bytes, or with `full` of 8, at a register address. The ports return zero (R590). -/
def directRead (path : Path) (a : Nat) (full : Bool) (s : State) : State :=
  let who := pathIdent s path
  let ok := if full then a % 8 == 0 && readable a && readable (a + 4) else readable a
  checkedRead path a ok (fun s =>
    if isPort a then s.answer path a 0
    else if full then
      let r := readBoth path a s
      r.2.answer path a (join64 (viewed s who a (BitVec.ofNat 32 r.1)) (viewed s who (a + 4) (BitVec.ofNat 32 (r.1 / 2 ^ 32))))
    else
      let r := readOne path a s
      r.2.answer path a (viewed s who a r.1).toNat) s

/-- FT_NOW_LO_READ (R255, R592). -/
def execFtNowLoRead (path : Path) (full : Bool) (s : State) : Host.Outcome State Fault Refusal :=
  .next (directRead path Reg.GLB_FT_NOW_LO full s)

/-- MRX_LO_READ (R358, R592). -/
def execMrxLoRead (path : Path) (full : Bool) (s : State) : Host.Outcome State Fault Refusal :=
  .next (directRead path Reg.GLB_MRX_LO full s)

/-- SPC_E_LO_READ (R510, R592). Its address is no multiple of 8, so an 8-byte read of it is rejected. -/
def execSpcELoRead (path : Path) (n : Fin 24) (full : Bool) (s : State) : Host.Outcome State Fault Refusal :=
  .next (directRead path (Reg.SPC_E_LO n.val) full s)

/-- FCST_RAIL_LO_READ (R516, R592). -/
def execFcstRailLoRead (path : Path) (r : Fin 6) (full : Bool) (s : State) : Host.Outcome State Fault Refusal :=
  .next (directRead path (Reg.FCST_RAIL r.val 0) full s)

/-- PC_FIX_LO_READ (R586, R592). -/
def execPcFixLoRead (path : Path) (u : Fin 74) (full : Bool) (s : State) : Host.Outcome State Fault Refusal :=
  .next (directRead path (Reg.PC_FIX_LO u.val) full s)

/-- PC_VAL_LO_READ (R586, R592). -/
def execPcValLoRead (path : Path) (u : Fin 74) (c : Fin 8) (full : Bool) (s : State) : Host.Outcome State Fault Refusal :=
  .next (directRead path (Reg.PC_VAL_LO u.val c.val) full s)

/-- HIGH_WORD_READ (R592): a direct read of a high word. It is the step, too, for a direct read of any other register
that has no row of its own, and of an address below the apertures that holds none (R590, R591, log entry 44). -/
def execHighWordRead (path : Path) (a : Fin 13631488) (full : Bool) (s : State) : Host.Outcome State Fault Refusal :=
  .next (if (partner a.val).isSome || (isPort a.val && decide (0x10 ≤ a.val % 0x100) && full) then s
    else directRead path a.val full s)

/-! ## The Drift tables (R46, R540, R598, R599) -/

/-- Entries of a table: 0 region keys, 1 queue contexts, 2 slate slots (R20). -/
def tabEntries : Nat → Nat
  | 0 => 1048576
  | 1 => 65536
  | _ => 1048576

/-- Words of 64 bits in an entry. -/
def tabWords : Nat → Nat
  | 0 => 4
  | 1 => 32
  | _ => 8

/-- Word `w` of entry `i` of table `t`. -/
def tabWord (s : State) (t i w : Nat) : DWord :=
  if t = 0 then keyWord s i w
  else if t = 1 then (s.q i).word w
  else slotWord (Tab.get none s.slate.slots i) w

/-- The owner of an entry that has one. -/
def tabOwner (s : State) (t i : Nat) : Option Owner :=
  if t = 0 then some (keyOwner s i) else if t = 1 then some (s.q i).owner else none

/-- Word `w` of an entry as an identity sees it: a user master reads zero from an entry of another owner (R540). -/
def tabSeen (s : State) (who t i w : Nat) : DWord :=
  match tabOwner s t i with
  | some o => if isUser who && ownerPart s o != some who then 0 else tabWord s t i w
  | none => tabWord s t i w

/-- Byte `o` of aperture `a`: the word of the table that holds it. -/
def apertureWord (s : State) (who a o : Nat) : DWord :=
  let size := 8 * tabWords a
  tabSeen s who a (((s.liv (Reg.IW_BASE a)).toNat % 2 ^ 20 + o / size) % tabEntries a) (o % size / 8)

/-- The address of byte `o` of aperture `a` (R598). -/
def apertureAddr (a o : Nat) : Nat := 0xD00000 + 0x100000 * a + o

/-- The read of an aperture word; the low half latches the high half (R592, R599). -/
def apertureRead (path : Path) (a o : Nat) (full : Bool) (s : State) : State :=
  let w := apertureWord s (pathIdent s path) a o
  let at_ := apertureAddr a o
  let s := s.bump Reg.IW_RDCNT
  let got := driftMove false 8 s
  if full then (got.unlatch path (at_ + 4)).answer path at_ w.toNat
  else if o % 8 = 0 then (got.latch path (at_ + 4) (w.extractLsb' 32 32)).answer path at_ (w.toNat % 2 ^ 32)
  else match s.latched path at_ with
    | some v => (s.unlatch path at_).answer path at_ v.toNat
    | none => got.answer path at_ (w.toNat / 2 ^ 32)

/-- APERTURE_READ (R599, R600): a direct read of 4 bytes, or with `full` of 8, at byte `o` of aperture `a`. -/
def execApertureRead (path : Path) (a : Fin 3) (o : Fin 1048576) (full : Bool) (s : State) :
    Host.Outcome State Fault Refusal :=
  .next (checkedRead path (apertureAddr a.val o.val) (o.val % (if full then 8 else 4) == 0)
    (apertureRead path a.val o.val full) s)

/-! ## RDREG and WRREG -/

/-- The value of RDREG and what the read does: with S = 1 a shadowed word is that of the Shadow Set under the take's
journal (R45). -/
def takeRead (t : Take) (a : Nat) (sh : Bool) (s : State) : Word × State :=
  if isShadowed a then
    (if sh then (if mutedIn (overlay s.shd t.journal) a then resetVal a else overlay s.shd t.journal a)
     else readWord s a, s)
  else readOne .director a s

/-- RDREG (R42, R44, R45). -/
def execRdreg (s : State) : Host.Outcome State Fault Refusal :=
  insn 0x14 0 (fun t w s =>
    let a := xAddr t w
    if (regRow a).isNone then endTake .address s
    else match protRefuses s t.origin a false with
      | some c => endTake .protect (protFault t.origin a false c 0 s)
      | none =>
        let r := takeRead t a (bit w 15) s
        retireG t (fD w) ((viewed s t.origin a r.1).setWidth 64) r.2) s

/-- The words of DMA channels and of slot controllers that only managers may journal (R454, R494). -/
def managerOnly (a : Nat) : Bool :=
  let inCh := decide (Reg.CH_CFG 0 ≤ a) && decide (a < 0x580800)
  let inStn := decide (0x100000 ≤ a) && decide (a < 0x280000)
  let o := a % 0x10000
  inCh || (inStn && decide (0x2800 ≤ o) && decide (o < 0x2A00))

/-- Is the Shadow Set sealed by a pending CUTAT (R53)? -/
def sealed (s : State) : Bool := s.dir.cutAt.isSome

/-- WRREG (R42 to R44, R50, R53): the journal takes the value of the word's TW fields. -/
def execWrreg (s : State) : Host.Outcome State Fault Refusal :=
  insn 0x15 0x8000 (fun t w s =>
    let a := xAddr t w
    match regRow a with
    | none => endTake .address s
    | some r =>
      if r.tw = 0 then endTake .address s
      else match protRefuses s t.origin a true with
        | some c => endTake .protect (protFault t.origin a true c 0 s)
        | none =>
          if isUser t.origin && managerOnly a then endTake .protect (protFault t.origin a true 6 0 s)
          else if sealed s then endTake .sealed s
          else
            let v : Word := (t.g (fD w)).extractLsb' 0 32
            let keep : Word := BitVec.ofNat 32 r.tw
            let old := overlay s.shd t.journal a
            retire { t with journal := journalPut t.journal a ((old &&& ~~~keep) ||| (v &&& keep)) } s) s

/-! ## TBLR and TBLW (R46) -/

/-- The tests of R46 that both instructions share: the take ends, or goes on with table, index and word. -/
def tabAccess (write : Bool) (t : Take) (w : Nat) (go : Nat → Nat → Nat → State → State) (s : State) : State :=
  let tb := bits w 14 2
  let i := (t.g (fA w)).toNat
  let k := bits w 0 5
  if tb = 3 then endTake .illegal s
  else match slotRefuses s 80 t.origin write with
    | some c => endTake .protect (protFault t.origin i write c 0 s)
    | none =>
      if write && tb == 2 then endTake .protect (protFault t.origin i write 6 0 s)
      else if tabEntries tb ≤ i ∨ tabWords tb ≤ k then endTake .table s
      else go tb i k s

/-- TBLR (R46, R540). -/
def execTblr (s : State) : Host.Outcome State Fault Refusal :=
  insn 0x18 0x3FE0 (fun t w s => tabAccess false t w (fun tb i k s => retireG t (fD w) (tabSeen s t.origin tb i k)
    (driftMove false 8 s)) s) s

/-- Is a TBLW refused by the owning chapter (R391, R410)? -/
def tblwRefused (s : State) (origin tb i k : Nat) (v : DWord) : Bool :=
  if tb = 0 then isUser origin
  else
    let st := (s.q i).st
    decide (4 ≤ k) || (st != .free && st != .stopped) || !holdsQueue s origin i ||
    (k == 3 && !originOwns s origin ⟨bit v.toNat 0, bits v.toNat 1 12⟩)

/-- A TBLW to word `k` of a queue context; a rewritten word is no longer bad (R410, R564). -/
def queueTblw (i k : Nat) (v : DWord) (s : State) : State :=
  (driftMove false 8 s).onQ i (fun q =>
    { q with w := q.w.set k v, bad := if bit q.bad k then q.bad - 2 ^ k else q.bad })

/-- The effect of a TBLW. -/
def tblwEffect (tb i k : Nat) (v : DWord) (s : State) : State :=
  if tb = 0 then keyTblw i k v s else queueTblw i k v s

/-- TBLW (R46, R52, R391, R410). -/
def execTblw (s : State) : Host.Outcome State Fault Refusal :=
  insn 0x19 0x3FE0 (fun t w s => tabAccess true t w (fun tb i k s =>
    let v := t.g (fD w)
    if tblwRefused s t.origin tb i k v then endTake .protect (protFault t.origin i true 6 0 s)
    else
      let old := tabWord s tb i k
      let s := tblwEffect tb i k v s
      retireMark t (logTable t.origin t.serial t.pc tb i k old (tabWord s tb i k) s)) s) s

end Sys2Proof.Machine
end

