-- ==== Sys2Proof/Machine/TlpRx.lean ====
section
/-! DEFINITION. The commands of TLPs that arrive at PCI Express ports (R207, R317, R373). -/

namespace Sys2Proof.Machine

/-- Does port `p` of station `n` receive TLPs: enabled, its Data Link Layer active, not contained by DPC? -/
def portReceives (s : State) (n p : Nat) : Bool := pciePort s.act n p && s.dlUp n p && !dpcOn s (4 * n + p)

/-- TLP_RECEIVE (R317): a TLP arrives at port `p` of station `n`. A request to a register of the management
function or to a configuration register is a command of its own (R193, R196). -/
def execTlpReceive (n : Fin 24) (p : Fin 4) (t : Tlp) (s : State) : Host.Outcome State Fault Refusal :=
  .next (if portReceives s n.val p.val then tlpIn (4 * n.val + p.val) t s else s)

/-- HELD_TLP_REDECIDE (R373): the buckets of a port's policer come to hold enough for the red TLP at the head
of its flow, which leaves, and those behind it are decided. -/
def execHeldTlpRedecide (n : Fin 24) (p : Fin 4) (s : State) : Host.Outcome State Fault Refusal :=
  let x := 4 * n.val + p.val
  .next (match flowOf s x, meteredAs s x with
    | t :: l, some q =>
      if heldRed s x then
        let pol := policerAt s.act (Reg.GLB_PPOL q 0)
        let b := refill pol (Tab.find s.dp.ppol q) s.now
        let len := t.length + pol.ovh
        let k := preColour pol t.tc
        let s := if pol.en ∧ (meter pol b len k).1 = .red then s.advance (waitNs pol b len k) else s
        runFlow x (t :: l) s
      else s
    | _, _ => s)

/-- UNLOCK_MESSAGE (R207, R347): an Unlock message arrives at upstream port `p` of station `n`. -/
def execUnlockMessage (n : Fin 24) (p : Fin 4) (s : State) : Host.Outcome State Fault Refusal :=
  .next (if portReceives s n.val p.val && isUpstream s.act n.val p.val
    then tlpIn (4 * n.val + p.val) { kind := .unlock } s else s)

end Sys2Proof.Machine
end

