-- ==== Sys2Proof/Machine/Transport.lean ====
section
/-! DEFINITION. The commands of the FME transport: packets sent and received, timers, destination contexts (R437 to
R448). -/

namespace Sys2Proof.Machine

/-- Channels whose messages FME `e` carries get their gathered segments handed over. -/
def handSegs (e : Nat) (s : State) : State :=
  (List.range 64).foldl (fun s c => if (s.chan c).msg.any (fun m => m.1 == e) then handSeg c s else s) s

/-- FME_PACKET_SEND (R440, R446, R447): FME `e` sends its next packet, when the reserve has room for it (R292). -/
def execFmePacketSend (e : Fin 48) (s : State) : Host.Outcome State Fault Refusal :=
  .next <| settle (if engineRoom s (e.val / 2) then handSegs e (sendNext e s) else s)

/-- The oldest packet of kind `pt` that waits at FME `e` is served by `f`. -/
def receive (e pt : Nat) (f : Packet → State → State) (s : State) : Host.Outcome State Fault Refusal :=
  .next <| settle (match takeFme e pt s with
    | some (p, s) => f p s
    | none => s)

/-- FME_WREQ_RECEIVE (R421, R445, R621). -/
def execFmeWreqReceive (e : Fin 48) (s : State) : Host.Outcome State Fault Refusal := receive e 1 (reqIn e) s
/-- FME_RREQ_RECEIVE (R421, R621). -/
def execFmeRreqReceive (e : Fin 48) (s : State) : Host.Outcome State Fault Refusal := receive e 2 (reqIn e) s
/-- FME_AREQ_RECEIVE (R424, R445, R621). -/
def execFmeAreqReceive (e : Fin 48) (s : State) : Host.Outcome State Fault Refusal := receive e 4 (reqIn e) s
/-- FME_RRESP_RECEIVE (R421, R443). -/
def execFmeRrespReceive (e : Fin 48) (s : State) : Host.Outcome State Fault Refusal :=
  receive e 3 (fun p => respIn e p (hdrOf p) (dataOf p)) s
/-- FME_ARESP_RECEIVE (R421, R443): the old value is written locally. -/
def execFmeArespReceive (e : Fin 48) (s : State) : Host.Outcome State Fault Refusal :=
  receive e 5 (fun p => respIn e p (hdrOf p) (toBytes 8 (hdrOf p).arg)) s
/-- FME_ACK_RECEIVE (R442, R443). -/
def execFmeAckReceive (e : Fin 48) (s : State) : Host.Outcome State Fault Refusal :=
  receive e 6 (fun p => ackIn e (hdrOf p)) s
/-- FME_NAK_RECEIVE (R442, R443). -/
def execFmeNakReceive (e : Fin 48) (s : State) : Host.Outcome State Fault Refusal :=
  receive e 7 (fun p => nakIn e (hdrOf p)) s

/-- The tracker of packet `pidx` of message `mid` of FME `e`. -/
def trackOf (s : State) (e mid pidx : Nat) : Option (Msg × Track) :=
  (s.msg e mid).bind (fun m => (m.tracks.find? (fun t => t.pidx == pidx)).map (fun t => (m, t)))

/-- FME_RTO_EXPIRE (R443, R448): a copy follows; one after an ACK with PEND = 1 is no loss. -/
def execFmeRtoExpire (e : Fin 48) (mid pidx : Nat) (s : State) : Host.Outcome State Fault Refusal :=
  .next <| settle (match trackOf s e mid pidx with
    | some (m, t) =>
      if t.st = .out ∨ t.st = .pend then
        let s := s.reach (t.at_ + rtoNs s)
        let s := if t.pended then s
          else (s.bump (Reg.RTOCNT e)).onDest e m.dnode (setback s true)
        sendCopy e m t s
      else s
    | none => s)

/-- FME_MESSAGE_TIMEOUT (R444): 2 ms after a message's first packet its descriptor ends TIMEOUT, and late answers find
no tracker. -/
def execFmeMessageTimeout (e : Fin 48) (mid : Nat) (s : State) : Host.Outcome State Fault Refusal :=
  .next <| settle (match s.msg e mid with
    | some m => match m.started with
      | some t => closeMsg e { m with fail := some 0x16 } (s.reach (t + 2000000))
      | none => s
    | none => s)

/-- NAKWAIT_EXPIRE (R442): the packet is sent again. -/
def execNakwaitExpire (e : Fin 48) (mid pidx : Nat) (s : State) : Host.Outcome State Fault Refusal :=
  .next <| settle (match trackOf s e mid pidx with
    | some (m, t) => match t.st with
      | .nakWait d => sendCopy e m t (s.reach d)
      | _ => s
    | none => s)

/-- REASM_TIMEOUT (R445, R452): MSGFAIL goes to the ring of the region's owner, and the entry is held with the result
TIMEOUT. -/
def execReasmTimeout (n : Fin 24) (snode sfme mid : Nat) (s : State) : Host.Outcome State Fault Refusal :=
  .next <| settle (match findReasm s n snode sfme mid with
    | some r =>
      if r.st = .open_ then
        let s := (s.reach (r.since + 2000000)).bump (Reg.REASM_TOCNT n)
        let s := onReasm n snode sfme mid (fun r => { r with st := .held, result := some 0x16 }) s
        let i := r.rkey % 2 ^ 20
        let s := match (if keyState s i = 0 then none else ownerPart s (keyOwner s i)) with
          | some q => if q < 48 then ringWrite q 5 snode r.rkey r.roff s else s
          | none => s
        (s.raiseLimited (gEvt 18) none (512 + n.val)).intx
      else s
    | none => s)

/-- REASM_HELD_EXPIRE (R445): 2 × RTO after the last copy a held entry becomes FREE; one whose AtomicOp has not ended
stays. -/
def execReasmHeldExpire (n : Fin 24) (snode sfme mid : Nat) (s : State) : Host.Outcome State Fault Refusal :=
  .next (match findReasm s n snode sfme mid with
    | some r =>
      if r.st = .held ∧ r.result.isSome then
        let s := s.reach (r.last + 2 * rtoNs s)
        setReasm n ((reasmOf s n).filter (fun r => !r.is snode sfme mid)) s
      else s
    | none => s)

/-- DEST_CONTEXT_RELEASE (R446). -/
def execDestContextRelease (e : Fin 48) (node : Fin 4096) (s : State) : Host.Outcome State Fault Refusal :=
  .next (match (s.dest e node).bind (fun d => d.idle) with
    | some t =>
      let s := s.reach (t + 1000000)
      addLiv (Reg.DSTACT e) (-1) (s.onFme e (fun g => { g with dests := Tab.del g.dests node }))
    | none => s)

/-- CC_ROUND_END (R448): one smoothed RTT after its start the round ends. -/
def execCcRoundEnd (e : Fin 48) (node : Fin 4096) (s : State) : Host.Outcome State Fault Refusal :=
  .next (match s.dest e node with
    | some d => match d.round, d.rtt with
      | some t, some r =>
        let s := s.reach (t + r)
        s.onDest e node (endRound s)
      | _, _ => s
    | none => s)

/-- PACING_WAIT_END (R447). -/
def execPacingWaitEnd (e : Fin 48) (node : Fin 4096) (s : State) : Host.Outcome State Fault Refusal :=
  .next (match (s.dest e node).bind (fun d => d.pace) with
    | some t => (s.reach t).onDest e node (fun d => { d with pace := none })
    | none => s)

end Sys2Proof.Machine
end

