-- ==== Sys2Proof/Machine/Dispatch.lean ====
section
/-! DEFINITION. The dispatch: one arm for each command. -/

namespace Sys2Proof.Machine

/-- The effect of a command on everything but the queue. -/
def exec (i : Instr) (s : State) : Host.Outcome State Fault Refusal :=
  match i with
  | .inWord p m full d => Sys2Proof.Machine.execInWord p m full d s
  | .inLast p m full d => Sys2Proof.Machine.execInLast p m full d s
  | .mailboxByte path m last b => Sys2Proof.Machine.execMailboxByte path m last b s
  | .outWord path m full => Sys2Proof.Machine.execOutWord path m full s
  | .takeSelect ue => Sys2Proof.Machine.execTakeSelect ue s
  | .nop => Sys2Proof.Machine.execNop s
  | .add => Sys2Proof.Machine.execAdd s
  | .sub => Sys2Proof.Machine.execSub s
  | .and => Sys2Proof.Machine.execAnd s
  | .or => Sys2Proof.Machine.execOr s
  | .xor => Sys2Proof.Machine.execXor s
  | .shl => Sys2Proof.Machine.execShl s
  | .shr => Sys2Proof.Machine.execShr s
  | .sar => Sys2Proof.Machine.execSar s
  | .mul => Sys2Proof.Machine.execMul s
  | .addi => Sys2Proof.Machine.execAddi s
  | .andi => Sys2Proof.Machine.execAndi s
  | .ori => Sys2Proof.Machine.execOri s
  | .xori => Sys2Proof.Machine.execXori s
  | .shli => Sys2Proof.Machine.execShli s
  | .shri => Sys2Proof.Machine.execShri s
  | .ldiLo => Sys2Proof.Machine.execLdiLo s
  | .ldiHi => Sys2Proof.Machine.execLdiHi s
  | .rdreg => Sys2Proof.Machine.execRdreg s
  | .wrreg => Sys2Proof.Machine.execWrreg s
  | .wrlive => Sys2Proof.Machine.execWrlive s
  | .tblr => Sys2Proof.Machine.execTblr s
  | .tblw => Sys2Proof.Machine.execTblw s
  | .br => Sys2Proof.Machine.execBr s
  | .brc => Sys2Proof.Machine.execBrc s
  | .call => Sys2Proof.Machine.execCall s
  | .ret => Sys2Proof.Machine.execRet s
  | .halt => Sys2Proof.Machine.execHalt s
  | .now => Sys2Proof.Machine.execNow s
  | .waitt => Sys2Proof.Machine.execWaitt s
  | .waittElapse => Sys2Proof.Machine.execWaittElapse s
  | .waitcue => Sys2Proof.Machine.execWaitcue s
  | .waitcueTimeout => Sys2Proof.Machine.execWaitcueTimeout s
  | .firecue => Sys2Proof.Machine.execFirecue s
  | .cut => Sys2Proof.Machine.execCut s
  | .cutat => Sys2Proof.Machine.execCutat s
  | .abort => Sys2Proof.Machine.execAbort s
  | .abortCancel => Sys2Proof.Machine.execAbortCancel s
  | .note => Sys2Proof.Machine.execNote s
  | .takeLimitExpire => Sys2Proof.Machine.execTakeLimitExpire s
  | .longopOverrun => Sys2Proof.Machine.execLongopOverrun s
  | .lockstepMismatch => Sys2Proof.Machine.execLockstepMismatch s
  | .configWriteArrival q fn r off be data req tag => Sys2Proof.Machine.execConfigWriteArrival q fn r off be data req tag s
  | .configWriteServe => Sys2Proof.Machine.execConfigWriteServe s
  | .cutatFire => Sys2Proof.Machine.execCutatFire s
  | .cutCopyDone => Sys2Proof.Machine.execCutCopyDone s
  | .checkpointIdleTimer => Sys2Proof.Machine.execCheckpointIdleTimer s
  | .checkpointSignDone => Sys2Proof.Machine.execCheckpointSignDone s
  | .slateRdWrite => Sys2Proof.Machine.execSlateRdWrite s
  | .railOutOfRange off => Sys2Proof.Machine.execRailOutOfRange off s
  | .railRecoveryElapse x => Sys2Proof.Machine.execRailRecoveryElapse x s
  | .coldRstAssert => Sys2Proof.Machine.execColdRstAssert s
  | .coldRstRelease x => Sys2Proof.Machine.execColdRstRelease x s
  | .warmRstAssert => Sys2Proof.Machine.execWarmRstAssert s
  | .warmResetState => Sys2Proof.Machine.execWarmResetState s
  | .warmRstRelease => Sys2Proof.Machine.execWarmRstRelease s
  | .rstcmdWarm => Sys2Proof.Machine.execRstcmdWarm s
  | .rstcmdStation => Sys2Proof.Machine.execRstcmdStation s
  | .stationResetDone => Sys2Proof.Machine.execStationResetDone s
  | .bootStepDone ok left used img => Sys2Proof.Machine.execBootStepDone ok left used img s
  | .thermtrip => Sys2Proof.Machine.execThermtrip s
  | .avsVoltageWrite => Sys2Proof.Machine.execAvsVoltageWrite s
  | .avsReadback ok mv => Sys2Proof.Machine.execAvsReadback ok mv s
  | .drainHoldWrite => Sys2Proof.Machine.execDrainHoldWrite s
  | .drainLate => Sys2Proof.Machine.execDrainLate s
  | .laneEnergyDetect n l => Sys2Proof.Machine.execLaneEnergyDetect n l s
  | .laneCdrLock n l => Sys2Proof.Machine.execLaneCdrLock n l s
  | .commaReceive n l sync inv id fill ser => Sys2Proof.Machine.execCommaReceive n l sync inv id fill ser s
  | .eqConverge n l ctle temp droop taps => Sys2Proof.Machine.execEqConverge n l ctle temp droop s taps
  | .deskewDone n f skews => Sys2Proof.Machine.execDeskewDone n f skews s
  | .laneTimerExpire n l => Sys2Proof.Machine.execLaneTimerExpire n l s
  | .trainRetryTimer n f => Sys2Proof.Machine.execTrainRetryTimer n f s
  | .fillerReceive n f fill => Sys2Proof.Machine.execFillerReceive n f fill s
  | .elasticOverrun n f => Sys2Proof.Machine.execElasticOverrun n f s
  | .laneFailure n ls => Sys2Proof.Machine.execLaneFailure n ls s
  | .readaptDue n l temp droop taps => Sys2Proof.Machine.execReadaptDue n l temp droop taps s
  | .readaptComplete n pass ctle temp droop taps => Sys2Proof.Machine.execReadaptComplete n pass ctle temp droop s taps
  | .restoreComplete n pass ctle temp droop taps => Sys2Proof.Machine.execRestoreComplete n pass ctle temp droop s taps
  | .spareCmdReadapt => Sys2Proof.Machine.execSpareCmdReadapt s
  | .spareCmdRelease => Sys2Proof.Machine.execSpareCmdRelease s
  | .marginGo => Sys2Proof.Machine.execMarginGo s
  | .marginDone n errors => Sys2Proof.Machine.execMarginDone n errors s
  | .laneMarginingCommand n l cmd errors samples => Sys2Proof.Machine.execLaneMarginingCommand n l cmd errors samples s
  | .pcieLaneFailure n p l => Sys2Proof.Machine.execPcieLaneFailure n p l s
  | .pcieRecoveryReturn n p replay => Sys2Proof.Machine.execPcieRecoveryReturn n p replay s
  | .pcieRecoveryLimit n p => Sys2Proof.Machine.execPcieRecoveryLimit n p s
  | .linkCmdRetrain => Sys2Proof.Machine.execLinkCmdRetrain s
  | .linkCmdWidth => Sys2Proof.Machine.execLinkCmdWidth s
  | .linkCmdEnd n p pass => Sys2Proof.Machine.execLinkCmdEnd n p pass s
  | .l1IdleExpire n p clk => Sys2Proof.Machine.execL1IdleExpire n p clk s
  | .l0pIdleExpire n p => Sys2Proof.Machine.execL0pIdleExpire n p s
  | .l0pReturn n p => Sys2Proof.Machine.execL0pReturn n p s
  | .attnButton n => Sys2Proof.Machine.execAttnButton n s
  | .partitionReset q cause => Sys2Proof.Machine.execPartitionReset q cause s
  | .partitionResetRelease q => Sys2Proof.Machine.execPartitionResetRelease q s
  | .dpcTrigger n p fatal => Sys2Proof.Machine.execDpcTrigger n p fatal s
  | .tlpReceive n p t => Sys2Proof.Machine.execTlpReceive n p t s
  | .heldTlpRedecide n p => Sys2Proof.Machine.execHeldTlpRedecide n p s
  | .unlockMessage n p => Sys2Proof.Machine.execUnlockMessage n p s
  | .pcieFcUpdate n p ty hdr data => Sys2Proof.Machine.execPcieFcUpdate n p ty hdr data s
  | .mctpMessage p ty => Sys2Proof.Machine.execMctpMessage p ty s
  | .fabricPacketReceive n f rx pkt => Sys2Proof.Machine.execFabricPacketReceive n f rx pkt s
  | .ackReceive n f h nes => Sys2Proof.Machine.execAckReceive n f h nes s
  | .nakReceive n f h nes err => Sys2Proof.Machine.execNakReceive n f h nes err s
  | .creditReceive n f h half c0 c1 c2 c3 => Sys2Proof.Machine.execCreditReceive n f h half c0 c1 c2 c3 s
  | .retrainReqReceive n f h op tw sel node => Sys2Proof.Machine.execRetrainReqReceive n f h op tw sel node s
  | .retrainAckReceive n f h op tw sel node => Sys2Proof.Machine.execRetrainAckReceive n f h op tw sel node s
  | .widthReceive n f h node stn port w nes ini => Sys2Proof.Machine.execWidthReceive n f h node stn port w nes ini s
  | .timeSyncRequestReceive n f h tag time => Sys2Proof.Machine.execTimeSyncRequestReceive n f h tag time s
  | .timeSyncResponseReceive n f h tag psync time turn => Sys2Proof.Machine.execTimeSyncResponseReceive n f h tag psync time turn s
  | .wireReceive n f h dnode wire level wcnt => Sys2Proof.Machine.execWireReceive n f h dnode wire level wcnt s
  | .lockReqReceive n f h dnode dport snode sport part ltag op => Sys2Proof.Machine.execLockReqReceive n f h dnode dport snode sport part ltag op s
  | .lockGntReceive n f h dnode dport snode sport ltag res => Sys2Proof.Machine.execLockGntReceive n f h dnode dport snode sport ltag res s
  | .pfnReceive n f h seg => Sys2Proof.Machine.execPfnReceive n f h seg s
  | .reservedPositionSend n f => Sys2Proof.Machine.execReservedPositionSend n f s
  | .replayTimerExpire n f err => Sys2Proof.Machine.execReplayTimerExpire n f err s
  | .bypassReplayExpire n f err => Sys2Proof.Machine.execBypassReplayExpire n f s err
  | .retrainReqTimeout n f => Sys2Proof.Machine.execRetrainReqTimeout n f s
  | .pauseTimeout n f => Sys2Proof.Machine.execPauseTimeout n f s
  | .timeSyncPeriod => Sys2Proof.Machine.execTimeSyncPeriod s
  | .ftSetWrite => Sys2Proof.Machine.execFtSetWrite s
  | .ppsInEdge => Sys2Proof.Machine.execPpsInEdge s
  | .ppsOutSecond => Sys2Proof.Machine.execPpsOutSecond s
  | .ftNowLoRead path full => Sys2Proof.Machine.execFtNowLoRead path full s
  | .highWordRead path a full => Sys2Proof.Machine.execHighWordRead path a full s
  | .cellOffer n k err => Sys2Proof.Machine.execCellOffer n k err s
  | .cellCapture n x k ecc => Sys2Proof.Machine.execCellCapture n x k ecc s
  | .cellAckReceive n x k => Sys2Proof.Machine.execCellAckReceive n x k s
  | .slotCreditReturn n e => Sys2Proof.Machine.execSlotCreditReturn n e s
  | .planeAckTimeout n => Sys2Proof.Machine.execPlaneAckTimeout n s
  | .planeErrorReport n k => Sys2Proof.Machine.execPlaneErrorReport n k s
  | .egressSelect n p err => Sys2Proof.Machine.execEgressSelect n p err s
  | .egressUnderrun n f => Sys2Proof.Machine.execEgressUnderrun n f s
  | .stompResend n f => Sys2Proof.Machine.execStompResend n f s
  | .coreCmdTest => Sys2Proof.Machine.execCoreCmdTest s
  | .coreCmdRestore => Sys2Proof.Machine.execCoreCmdRestore s
  | .coreCmdRemove => Sys2Proof.Machine.execCoreCmdRemove s
  | .planeTestDone pass => Sys2Proof.Machine.execPlaneTestDone pass s
  | .planeRemoveDone => Sys2Proof.Machine.execPlaneRemoveDone s
  | .coreSpeedSample ths => Sys2Proof.Machine.execCoreSpeedSample ths s
  | .spillWriteDone n p g q => Sys2Proof.Machine.execSpillWriteDone n p g q s
  | .refillStart n p g q => Sys2Proof.Machine.execRefillStart n p g q s
  | .refillDone n p g q errs next => Sys2Proof.Machine.execRefillDone n p g q errs next s
  | .mgmtInReceive => Sys2Proof.Machine.execMgmtInReceive s
  | .mgmtOutReceive => Sys2Proof.Machine.execMgmtOutReceive s
  | .mgmtPresetReceive => Sys2Proof.Machine.execMgmtPresetReceive s
  | .mgmtOutSend k => Sys2Proof.Machine.execMgmtOutSend k s
  | .mtxHiWrite => Sys2Proof.Machine.execMtxHiWrite s
  | .mtxSend => Sys2Proof.Machine.execMtxSend s
  | .mrxLoRead path full => Sys2Proof.Machine.execMrxLoRead path full s
  | .lockBackoffExpire => Sys2Proof.Machine.execLockBackoffExpire s
  | .lockHoldExpire x => Sys2Proof.Machine.execLockHoldExpire x s
  | .wireSample w pin => Sys2Proof.Machine.execWireSample w pin s
  | .wireRefresh w => Sys2Proof.Machine.execWireRefresh w s
  | .moveholdExpire n f => Sys2Proof.Machine.execMoveholdExpire n f s
  | .rtRejoin => Sys2Proof.Machine.execRtRejoin s
  | .regionRegister => Sys2Proof.Machine.execRegionRegister s
  | .keyrevFree => Sys2Proof.Machine.execKeyrevFree s
  | .keyrevRekey => Sys2Proof.Machine.execKeyrevRekey s
  | .keyrevComplete k => Sys2Proof.Machine.execKeyrevComplete k s
  | .purgeComplete p => Sys2Proof.Machine.execPurgeComplete p s
  | .keyCacheFill idx bad => Sys2Proof.Machine.execKeyCacheFill idx bad s
  | .qdbWrite => Sys2Proof.Machine.execQdbWrite s
  | .qndbWrite => Sys2Proof.Machine.execQndbWrite s
  | .qcmdStart => Sys2Proof.Machine.execQcmdStart s
  | .qcmdStop => Sys2Proof.Machine.execQcmdStop s
  | .qcmdFree => Sys2Proof.Machine.execQcmdFree s
  | .descStart e => Sys2Proof.Machine.execDescStart e s
  | .descEnd q n => Sys2Proof.Machine.execDescEnd q n s
  | .waitTimeout q n => Sys2Proof.Machine.execWaitTimeout q n s
  | .notifyFullTimeout n snode sfme mid => Sys2Proof.Machine.execNotifyFullTimeout n snode sfme mid s
  | .evrCiWrite => Sys2Proof.Machine.execEvrCiWrite s
  | .hostCompletion id ok ep data => Sys2Proof.Machine.execHostCompletion id ok ep data s
  | .hostCompletionTimeout id => Sys2Proof.Machine.execHostCompletionTimeout id s
  | .fmePacketSend e => Sys2Proof.Machine.execFmePacketSend e s
  | .fmeWreqReceive e => Sys2Proof.Machine.execFmeWreqReceive e s
  | .fmeRreqReceive e => Sys2Proof.Machine.execFmeRreqReceive e s
  | .fmeAreqReceive e => Sys2Proof.Machine.execFmeAreqReceive e s
  | .fmeRrespReceive e => Sys2Proof.Machine.execFmeRrespReceive e s
  | .fmeArespReceive e => Sys2Proof.Machine.execFmeArespReceive e s
  | .fmeAckReceive e => Sys2Proof.Machine.execFmeAckReceive e s
  | .fmeNakReceive e => Sys2Proof.Machine.execFmeNakReceive e s
  | .fmeRtoExpire e mid pidx => Sys2Proof.Machine.execFmeRtoExpire e mid pidx s
  | .fmeMessageTimeout e mid => Sys2Proof.Machine.execFmeMessageTimeout e mid s
  | .nakwaitExpire e mid pidx => Sys2Proof.Machine.execNakwaitExpire e mid pidx s
  | .reasmTimeout n snode sfme mid => Sys2Proof.Machine.execReasmTimeout n snode sfme mid s
  | .reasmHeldExpire n snode sfme mid => Sys2Proof.Machine.execReasmHeldExpire n snode sfme mid s
  | .destContextRelease e node => Sys2Proof.Machine.execDestContextRelease e node s
  | .ccRoundEnd e node => Sys2Proof.Machine.execCcRoundEnd e node s
  | .pacingWaitEnd e node => Sys2Proof.Machine.execPacingWaitEnd e node s
  | .chPiWrite => Sys2Proof.Machine.execChPiWrite s
  | .chStart => Sys2Proof.Machine.execChStart s
  | .chPause => Sys2Proof.Machine.execChPause s
  | .chAbort => Sys2Proof.Machine.execChAbort s
  | .dmaDescStart c => Sys2Proof.Machine.execDmaDescStart c s
  | .dmaBeat => Sys2Proof.Machine.execDmaBeat s
  | .dmaDescEnd c => Sys2Proof.Machine.execDmaDescEnd c s
  | .cuePulseDeliver l => Sys2Proof.Machine.execCuePulseDeliver l s
  | .cueTimerArm => Sys2Proof.Machine.execCueTimerArm s
  | .cueTimerFire t => Sys2Proof.Machine.execCueTimerFire t s
  | .sliceLull => Sys2Proof.Machine.execSliceLull s
  | .sliceResume => Sys2Proof.Machine.execSliceResume s
  | .sliceReset => Sys2Proof.Machine.execSliceReset s
  | .sliceFlush => Sys2Proof.Machine.execSliceFlush s
  | .sliceLullReached t => Sys2Proof.Machine.execSliceLullReached t s
  | .sliceResetDone t => Sys2Proof.Machine.execSliceResetDone t s
  | .sliceFlushDone t => Sys2Proof.Machine.execSliceFlushDone t s
  | .spcEnable => Sys2Proof.Machine.execSpcEnable s
  | .spcDisable => Sys2Proof.Machine.execSpcDisable s
  | .spcTestopen => Sys2Proof.Machine.execSpcTestopen s
  | .spcTestclose => Sys2Proof.Machine.execSpcTestclose s
  | .spcFeedsel => Sys2Proof.Machine.execSpcFeedsel s
  | .spcEvaluationStep n m => Sys2Proof.Machine.execSpcEvaluationStep n m s
  | .spcPresenceChange n here => Sys2Proof.Machine.execSpcPresenceChange n here s
  | .spcFeedValid n k => Sys2Proof.Machine.execSpcFeedValid n k s
  | .spcFeedInvalid n k => Sys2Proof.Machine.execSpcFeedInvalid n k s
  | .spcFastTrip n m => Sys2Proof.Machine.execSpcFastTrip n m s
  | .spcCurveTrip n k m => Sys2Proof.Machine.execSpcCurveTrip n k m s
  | .spcReverseTrip n m => Sys2Proof.Machine.execSpcReverseTrip n m s
  | .spcRampTimeout n => Sys2Proof.Machine.execSpcRampTimeout n s
  | .spcGateFullyOn n => Sys2Proof.Machine.execSpcGateFullyOn n s
  | .spcPgAssert n => Sys2Proof.Machine.execSpcPgAssert n s
  | .spcPerstRelease n => Sys2Proof.Machine.execSpcPerstRelease n s
  | .spcDisableWaitEnd n => Sys2Proof.Machine.execSpcDisableWaitEnd n s
  | .spcOffConfirm n => Sys2Proof.Machine.execSpcOffConfirm n s
  | .spcDeadTimeEnd n => Sys2Proof.Machine.execSpcDeadTimeEnd n s
  | .spcVoutLow n => Sys2Proof.Machine.execSpcVoutLow n s
  | .spcRetryWaitEnd n => Sys2Proof.Machine.execSpcRetryWaitEnd n s
  | .spcAutoret n => Sys2Proof.Machine.execSpcAutoret n s
  | .spcRetriesReset n => Sys2Proof.Machine.execSpcRetriesReset n s
  | .spcCapWindowClose n => Sys2Proof.Machine.execSpcCapWindowClose n s
  | .spcMeterUpdate n => Sys2Proof.Machine.execSpcMeterUpdate n s
  | .spcELoRead path n full => Sys2Proof.Machine.execSpcELoRead path n full s
  | .fcstRailSample p0 p1 p2 p3 p4 p5 => Sys2Proof.Machine.execFcstRailSample p0 p1 p2 p3 p4 p5 s
  | .fcstRailLoRead path r full => Sys2Proof.Machine.execFcstRailLoRead path r full s
  | .fcstWindowEnd => Sys2Proof.Machine.execFcstWindowEnd s
  | .fcstSweep => Sys2Proof.Machine.execFcstSweep s
  | .fcstEvaluate hot => Sys2Proof.Machine.execFcstEvaluate hot s
  | .fcstVcoreStep => Sys2Proof.Machine.execFcstVcoreStep s
  | .deferLimitExpire k => Sys2Proof.Machine.execDeferLimitExpire k s
  | .protDisable => Sys2Proof.Machine.execProtDisable s
  | .protEnable => Sys2Proof.Machine.execProtEnable s
  | .protLock => Sys2Proof.Machine.execProtLock s
  | .otpProgkey => Sys2Proof.Machine.execOtpProgkey s
  | .otpRevoke => Sys2Proof.Machine.execOtpRevoke s
  | .otpSetmin => Sys2Proof.Machine.execOtpSetmin s
  | .otpCommandDone ok => Sys2Proof.Machine.execOtpCommandDone ok s
  | .getVersion p => Sys2Proof.Machine.execGetVersion p s
  | .getCapabilities p => Sys2Proof.Machine.execGetCapabilities p s
  | .negotiateAlgorithms p mldsa sha3 => Sys2Proof.Machine.execNegotiateAlgorithms p mldsa sha3 s
  | .getDigests p => Sys2Proof.Machine.execGetDigests p s
  | .getCertificate p slot off len => Sys2Proof.Machine.execGetCertificate p slot off len s
  | .challenge p slot sum nonce => Sys2Proof.Machine.execChallenge p slot sum nonce s
  | .getMeasurements p index sign slot nonce => Sys2Proof.Machine.execGetMeasurements p index sign slot nonce s
  | .spdmUnsupported p => Sys2Proof.Machine.execSpdmUnsupported p s
  | .asDigestDone => Sys2Proof.Machine.execAsDigestDone s
  | .configScrub finds => Sys2Proof.Machine.execConfigScrub finds s
  | .keyCacheScrub fixed bad => Sys2Proof.Machine.execKeyCacheScrub fixed bad s
  | .driftScrub fixed ue => Sys2Proof.Machine.execDriftScrub fixed ue s
  | .driftRowSpare => Sys2Proof.Machine.execDriftRowSpare s
  | .refclkLoss r => Sys2Proof.Machine.execRefclkLoss r s
  | .refclkRevalid r => Sys2Proof.Machine.execRefclkRevalid r s
  | .clkSelect => Sys2Proof.Machine.execClkSelect s
  | .pcCtlWrite => Sys2Proof.Machine.execPcCtlWrite s
  | .pcSnap => Sys2Proof.Machine.execPcSnap s
  | .pcClear => Sys2Proof.Machine.execPcClear s
  | .pcAllStart => Sys2Proof.Machine.execPcAllStart s
  | .pcAllStop => Sys2Proof.Machine.execPcAllStop s
  | .pcAllSnap => Sys2Proof.Machine.execPcAllSnap s
  | .pcAllClear => Sys2Proof.Machine.execPcAllClear s
  | .pcFixLoRead path u full => Sys2Proof.Machine.execPcFixLoRead path u full s
  | .pcValLoRead path u c full => Sys2Proof.Machine.execPcValLoRead path u c full s
  | .apertureRead path a o full => Sys2Proof.Machine.execApertureRead path a o full s
  | .undefinedOpcode => Sys2Proof.Machine.execUndefinedOpcode s
  | .pcieLinkUp n p rate width rev peer => Sys2Proof.Machine.execPcieLinkUp n p rate width rev peer s
  | .pcieLinkDown n p surprise => Sys2Proof.Machine.execPcieLinkDown n p surprise s
  | .l1RequestReceive n p clk => Sys2Proof.Machine.execL1RequestReceive n p clk s
  | .reservedSubtype n f h sub => Sys2Proof.Machine.execReservedSubtype n f h sub s
  | .ppsokExpire => Sys2Proof.Machine.execPpsokExpire s
  | .failedLaneRetry n l => Sys2Proof.Machine.execFailedLaneRetry n l s
  | .i3cBroadcastCcc setdasa => Sys2Proof.Machine.execI3cBroadcastCcc s setdasa

end Sys2Proof.Machine
end

