-- ==== Sys2Proof/Machine/Step.lean ====
section
/-! DEFINITION. The step of the block. -/

namespace Sys2Proof.Machine

/-- One step: the command at the front of the queue, executed with the queue's rest; on an empty queue
one tick of the 1 GHz timebase (log entry 2). -/
def step (s : State) : Host.Outcome State Fault Refusal :=
  match s.pending with
  | [] => .next (s.advance 1)
  | c :: rest => exec c { s with pending := rest }

/-- The command that a word spells, put at the front of the queue; no word spells one (log entry 1). -/
def State.withFetchWord (s : State) (nbits w : Nat) : State :=
  match Sys2Proof.decodeTableWord nbits w with
  | none => s
  | some c => { s with pending := c :: s.pending }

end Sys2Proof.Machine
end

