-- ==== Sys2Proof/Safety.lean ====
section
/-! DEFINITION. What a safe run is, and the words in which the claims are stated. -/

namespace Sys2Proof.Machine

/-- A step that goes on: it ends neither in a fault nor in a refusal. -/
abbrev Goes (s : State) : Prop := ∃ t, step s = .next t

/-- An answer of `exec` or of `step`. -/
abbrev Answer := Host.Outcome State Fault Refusal

/-! ## Canonical form -/

/-- The register tables are in canonical form (R69, R594): addresses rise, and no word is listed at its reset value. -/
def Regs.canon (r : Regs) : Bool :=
  Tab.wf resetVal r.active && Tab.wf resetVal r.shadow && Tab.wf resetVal r.live

/-- The general registers of a take, and those of its checkpoint, are in canonical form: their numbers rise, and none is
listed as zero. -/
def Take.canon (t : Take) : Bool :=
  Tab.wf (fun _ => (0 : DWord)) t.regs && Tab.wf (fun _ => (0 : DWord)) t.ckpt.regs

/-- The register tables of a state, its mailboxes and the general registers of its executing take are in canonical
form. -/
def State.canon (s : State) : Bool :=
  s.regs.canon && Tab.wf (fun _ => ({} : Mbox)) s.mbox && s.dir.take.all Take.canon

/-! ## Frames: all that a shared operation may change -/

/-- Only words that exist once differ. -/
def OnlyLive (s u : State) : Prop := ∃ l, u = { s with regs := { s.regs with live := l } }

/-- Only INTx wires and what has been sent differ. -/
def OnlyIntx (s u : State) : Prop := ∃ x o, u = { s with parts := { s.parts with intx := x }, out := o }

/-- Only what raising an event touches differs: live words, the event unit, INTx wires, what has been sent. -/
def OnlyEvents (s u : State) : Prop :=
  ∃ l e x o, u = { s with regs := { s.regs with live := l }, evt := e, parts := { s.parts with intx := x }, out := o }

/-- Only what an event or an entry of the slate log touches differs. -/
def OnlyLog (s u : State) : Prop :=
  ∃ l e x o g d, u = { s with regs := { s.regs with live := l }, evt := e, parts := { s.parts with intx := x }, out := o,
                              slate := g, drift := d }

/-! ## Instructions of a take -/

/-- The executing take `t` can execute, and the word at its program counter is `w`, of opcode `op`, with the reserved
bits `rsv` zero (R38). -/
abbrev AtInsn (s : State) (t : Take) (w op rsv : Nat) : Prop :=
  fetch s = some (t, w) ∧ opcode w = op ∧ Nat.land w rsv = 0

/-- A WRLIVE whose address and value the rule `r` holds for, and which neither the decoder, nor the protection unit, nor
an owning chapter, nor the Forecaster turns away (R42 to R44, R51). -/
abbrev AtLive (r : LiveRule) (s : State) (t : Take) (w : Nat) (a : Nat) (v : Word) : Prop :=
  AtInsn s t w 0x16 0x8000 ∧ xAddr t w = a ∧ (t.g (fD w)).extractLsb' 0 32 = v ∧ r.sel a v = true ∧
  liveWritable a = true ∧ protRefuses s t.origin a true = none ∧ r.deny s t a v = false ∧ r.budget s t a v = none

/-- The state with the LIVE entry of a WRLIVE of the executing take appended (R52, R81). -/
def logLive (t : Take) (a : Nat) (new : Word) (s : State) : State :=
  s.log { origin := t.origin, serial := t.serial, kind := 1, pc := t.pc, loc := a, old := (s.rd a).toNat,
          new := new.toNat }

/-- What a WRLIVE that is not turned away leaves: its LIVE entry is logged, `act` follows, and the take goes on with its
next instruction (R40, R52, R65). -/
def liveDone (t : Take) (a : Nat) (new : Word) (act : State → State) (s : State) : State :=
  finish .retire t act (logLive t a new s)

/-- The executing take, which stands as `t`, goes on at index `pc`, and the instruction counts as retired (R38, R583). -/
def goesOn (t : Take) (pc : Nat) (s : State) : State := countInstr t (s.setTake (some { t with pc := pc }))

/-- The executing take ends with the status `st` and no result words (R62, R63). -/
def endsWith (t : Take) (st : Status) (s : State) : State := answerTake t.origin t.serial st t.pc [] (s.setTake none)

end Sys2Proof.Machine
end

