-- ==== Sys2Proof/WellFormed.lean ====
section
/-! DEFINITION. Which commands are well formed: the fields of what arrives fit the places the spec gives them, and the
plain numbers of an event lie in the range it can report. `exec` is total on every command; a command that is not well
formed is one that no sender can form. -/

namespace Sys2Proof

/-- A TLP whose fields fit its header (R206, R323, R334, R416): addresses of 64 bits, traffic classes 0 to 7, identifiers
of 16 bits, tags of 14 bits, completion status 0 to 7, PASIDs of 20 bits, AtomicOps 0 to 2, data of at most 4,096 B; the
header and prefixes are whole double words, and a request addresses no more than 4,096 B. -/
def Tlp.wf (t : Tlp) : Bool :=
  decide (t.addr < 2 ^ 64) && decide (t.span ≤ 4096) && decide (12 ≤ t.hdr) && decide (t.hdr ≤ 64) && decide (t.hdr % 4 = 0) &&
  decide (t.tc < 8) && decide (t.req < 2 ^ 16) && decide (t.tag < 2 ^ 14) && decide (t.cid < 2 ^ 16) &&
  decide (t.status < 8) && decide (t.data.length ≤ 4096) && t.pasid.all (fun p => decide (p < 2 ^ 20)) &&
  decide (t.aop < 3)

/-- A domain word whose fields fit (R334). -/
def Dom.wf (d : Dom) : Bool := decide (d.domain < 2 ^ 16) && decide (d.part < 2 ^ 6)

/-- An FME header whose fields fit (R438). -/
def FmeHdr.wf (h : FmeHdr) : Bool :=
  decide (h.pt < 2 ^ 4) && decide (h.aop < 2 ^ 2) && decide (h.domain < 2 ^ 16) && decide (h.rkey < 2 ^ 32) &&
  decide (h.off < 2 ^ 48) && decide (h.tq < 2 ^ 16) && decide (h.mid < 2 ^ 24) && decide (h.sfme < 48) &&
  decide (h.pidx < 2 ^ 20) && decide (h.arg < 2 ^ 64)

/-- A payload whose fields fit: a TLP packet (R334, R335), an FME packet (R437, R438), an MGMT packet (R339). -/
def PBody.wf : PBody → Bool
  | .tlp d t => d.wf && t.wf
  | .tlpRest d l => d.wf && !d.cont && decide (l.length ≤ 4096)
  | .fme h l => h.wf && decide (l.length ≤ 4096)
  | .mgmt op _ port _ ws => decide (op < 2 ^ 4) && decide (port < 2 ^ 7) && decide (ws.length < 2 ^ 9)

/-- A fabric packet whose header fields fit (R224). A header that R226 or R334 turns away is well formed: it arrives, and
the receiver judges it. -/
def Packet.wf (p : Packet) : Bool :=
  decide (p.type < 2 ^ 4) && decide (p.vc < 2 ^ 4) && decide (p.dnode < 2 ^ 12) && decide (p.dport < 2 ^ 7) &&
  decide (p.snode < 2 ^ 12) && decide (p.sport < 2 ^ 7) && decide (p.seq < 2 ^ 16) && decide (p.ack < 2 ^ 16) &&
  decide (p.colour < 2 ^ 2) && decide (p.len < 2 ^ 8) && decide (p.flowhash < 2 ^ 8) && decide (p.ts < 2 ^ 16) &&
  decide (p.path < 2 ^ 2) && p.body.wf

/-- BSEQ and BACK of eight bits (R229). -/
def ShortHdr.wf (h : ShortHdr) : Bool := decide (h.bseq < 2 ^ 8) && decide (h.back < 2 ^ 8) && decide (h.bound < 2 ^ 9)

/-- A body of a short packet whose fields fit (R230). -/
def ShortBody.wf : ShortBody → Bool
  | .ack nes _ => decide (nes < 2 ^ 16)
  | .credit half cum => decide (half < 2) && decide (cum.length = 4) && cum.all (fun c => decide (c < 2 ^ 16))
  | .retrainReq op tw sel node | .retrainAck op tw sel node =>
    decide (op < 2) && decide (tw < 2 ^ 3) && decide (sel < 2) && decide (node < 2 ^ 12)
  | .width node stn port w nes _ =>
    decide (node < 2 ^ 12) && decide (stn < 2 ^ 5) && decide (port < 2) && decide (w < 2 ^ 3) && decide (nes < 2 ^ 16)
  | .timeSync _ _ _ time turn => decide (time < 2 ^ 64) && decide (turn < 2 ^ 16)
  | .wire dnode dport num _ wcnt =>
    decide (dnode < 2 ^ 12) && decide (dport < 2 ^ 7) && decide (num < 2 ^ 8) && decide (wcnt < 2 ^ 8)
  | .lockReq dnode dport snode sport part ltag op =>
    decide (dnode < 2 ^ 12) && decide (dport < 2 ^ 7) && decide (snode < 2 ^ 12) && decide (sport < 2 ^ 7) &&
    decide (part < 2 ^ 6) && decide (ltag < 2 ^ 8) && decide (op < 2 ^ 2)
  | .lockGnt dnode dport snode sport ltag res =>
    decide (dnode < 2 ^ 12) && decide (dport < 2 ^ 7) && decide (snode < 2 ^ 12) && decide (sport < 2 ^ 7) &&
    decide (ltag < 2 ^ 8) && decide (res < 2 ^ 2)
  | .pfn0 ftag dnode part req hi cause =>
    decide (ftag < 2 ^ 8) && decide (dnode < 2 ^ 12) && decide (part < 2 ^ 6) && decide (req < 2 ^ 16) &&
    decide (hi < 2 ^ 32) && decide (cause < 2 ^ 4)
  | .pfn1 ftag dnode lo => decide (ftag < 2 ^ 8) && decide (dnode < 2 ^ 12) && decide (lo < 2 ^ 30)

/-- The 24 taps of an FFE and the tap of a DFE, in 1/1,000 of the main cursor. -/
def tapsOk (taps : List Int) : Bool := taps.length == 25 && taps.all (fun t => decide (t.natAbs < 2 ^ 15))

/-- Is the command well formed? The operands that a finite type bounds need no check. -/
def WellFormed : Instr → Bool
  | .configWriteArrival _ _ _ _ _ _ req tag => decide (req < 2 ^ 16) && decide (tag < 2 ^ 14)
  | .commaReceive _ _ _ _ _ fill ser => decide (fill ≤ 128) && decide (ser < 2 ^ 32)
  | .deskewDone _ _ skews => decide (skews.length ≤ 9)
  | .fillerReceive _ _ fill => decide (fill ≤ 128)
  | .marginDone _ errors => decide (errors < 2 ^ 64)
  | .eqConverge _ _ _ _ _ taps | .readaptDue _ _ _ _ taps | .readaptComplete _ _ _ _ _ taps
  | .restoreComplete _ _ _ _ _ taps => tapsOk taps
  | .laneFailure _ ls => decide (ls.length ≤ 9)
  | .laneMarginingCommand _ _ _ errors samples => decide (errors < 2 ^ 64) && decide (samples < 2 ^ 64)
  | .tlpReceive _ _ t => t.wf
  | .pcieFcUpdate _ _ _ hdr data => decide (hdr < 2 ^ 16) && decide (data < 2 ^ 24)
  | .fabricPacketReceive _ _ _ pkt => pkt.wf
  | .ackReceive _ _ h nes => h.wf && decide (nes < 2 ^ 16)
  | .nakReceive _ _ h nes _ => h.wf && decide (nes < 2 ^ 16)
  | .creditReceive _ _ h _ c0 c1 c2 c3 =>
    h.wf && decide (c0 < 2 ^ 16) && decide (c1 < 2 ^ 16) && decide (c2 < 2 ^ 16) && decide (c3 < 2 ^ 16)
  | .retrainReqReceive _ _ h _ _ _ node | .retrainAckReceive _ _ h _ _ _ node => h.wf && decide (node < 2 ^ 12)
  | .widthReceive _ _ h node stn port w nes ini => h.wf && (ShortBody.width node stn port w nes ini).wf
  | .timeSyncRequestReceive _ _ h _ time => h.wf && decide (time < 2 ^ 64)
  | .timeSyncResponseReceive _ _ h tag ps time turn => h.wf && (ShortBody.timeSync true tag ps time turn).wf
  | .wireReceive _ _ h dnode wire _ wcnt => h.wf && decide (dnode < 2 ^ 12) && decide (wire < 2 ^ 8) && decide (wcnt < 2 ^ 8)
  | .lockReqReceive _ _ h dn dp sn sp pa tag op => h.wf && (ShortBody.lockReq dn dp sn sp pa tag op).wf
  | .lockGntReceive _ _ h dn dp sn sp tag res => h.wf && (ShortBody.lockGnt dn dp sn sp tag res).wf
  | .pfnReceive _ _ h seg =>
    h.wf && seg.wf && (match seg with | .pfn0 .. => true | .pfn1 .. => true | _ => false)
  | .reservedSubtype _ _ h sub => h.wf && (sub.val == 0 || decide (11 ≤ sub.val))
  | .notifyFullTimeout _ snode sfme mid | .reasmTimeout _ snode sfme mid | .reasmHeldExpire _ snode sfme mid =>
    decide (snode < 2 ^ 12) && decide (sfme < 48) && decide (mid < 2 ^ 24)
  | .fmeRtoExpire _ mid pidx | .nakwaitExpire _ mid pidx => decide (mid < 2 ^ 24) && decide (pidx < 2 ^ 20)
  | .fmeMessageTimeout _ mid => decide (mid < 2 ^ 24)
  | .hostCompletion _ _ _ data => decide (data.length ≤ 4096)
  | .getCertificate _ _ off len => decide (off < 2 ^ 16) && decide (len < 2 ^ 16)
  | .configScrub finds => finds.all (fun e => decide (e.2.1 < 0xD00000))
  | .keyCacheScrub fixed _ => decide (fixed < 2 ^ 32)
  | .refillDone _ _ _ _ errs _ => decide (errs.length ≤ 12)
  | .inWord .. | .inLast .. | .mailboxByte .. | .outWord .. | .takeSelect .. | .nop .. | .add .. | .sub ..
  | .and .. | .or .. | .xor .. | .shl .. | .shr .. | .sar .. | .mul .. | .addi .. | .andi .. | .ori .. | .xori ..
  | .shli .. | .shri .. | .ldiLo .. | .ldiHi .. | .rdreg .. | .wrreg .. | .wrlive .. | .tblr .. | .tblw .. | .br ..
  | .brc .. | .call .. | .ret .. | .halt .. | .now .. | .waitt .. | .waittElapse .. | .waitcue ..
  | .waitcueTimeout .. | .firecue .. | .cut .. | .cutat .. | .abort .. | .abortCancel .. | .note ..
  | .takeLimitExpire .. | .longopOverrun .. | .lockstepMismatch .. | .configWriteServe .. | .cutatFire ..
  | .cutCopyDone .. | .checkpointIdleTimer .. | .checkpointSignDone .. | .slateRdWrite .. | .railOutOfRange ..
  | .railRecoveryElapse .. | .coldRstAssert .. | .coldRstRelease .. | .warmRstAssert .. | .warmResetState ..
  | .warmRstRelease .. | .rstcmdWarm .. | .rstcmdStation .. | .stationResetDone .. | .thermtrip ..
  | .avsVoltageWrite .. | .avsReadback .. | .drainHoldWrite .. | .drainLate .. | .laneEnergyDetect ..
  | .laneCdrLock .. | .laneTimerExpire .. | .trainRetryTimer .. | .elasticOverrun ..
  | .spareCmdReadapt ..
  | .spareCmdRelease .. | .marginGo .. | .pcieLaneFailure .. | .pcieRecoveryReturn ..
  | .pcieRecoveryLimit .. | .linkCmdRetrain .. | .linkCmdWidth .. | .linkCmdEnd .. | .l1IdleExpire ..
  | .l0pIdleExpire .. | .l0pReturn .. | .attnButton .. | .partitionReset .. | .partitionResetRelease ..
  | .dpcTrigger .. | .heldTlpRedecide .. | .unlockMessage .. | .mctpMessage .. | .reservedPositionSend ..
  | .replayTimerExpire .. | .bypassReplayExpire .. | .retrainReqTimeout .. | .pauseTimeout .. | .timeSyncPeriod ..
  | .ftSetWrite .. | .ppsInEdge .. | .ppsOutSecond .. | .ftNowLoRead .. | .highWordRead .. | .cellOffer ..
  | .cellCapture .. | .cellAckReceive .. | .slotCreditReturn .. | .planeAckTimeout .. | .planeErrorReport ..
  | .egressSelect .. | .egressUnderrun .. | .stompResend .. | .coreCmdTest .. | .coreCmdRestore ..
  | .coreCmdRemove .. | .planeTestDone .. | .planeRemoveDone .. | .coreSpeedSample .. | .spillWriteDone ..
  | .refillStart .. | .mgmtInReceive .. | .mgmtOutReceive .. | .mgmtPresetReceive .. | .mgmtOutSend ..
  | .mtxHiWrite .. | .mtxSend .. | .mrxLoRead .. | .lockBackoffExpire .. | .lockHoldExpire .. | .wireSample ..
  | .wireRefresh .. | .moveholdExpire .. | .rtRejoin .. | .regionRegister .. | .keyrevFree .. | .keyrevRekey ..
  | .keyrevComplete .. | .purgeComplete .. | .keyCacheFill .. | .qdbWrite .. | .qndbWrite .. | .qcmdStart ..
  | .qcmdStop .. | .qcmdFree .. | .descStart .. | .descEnd .. | .waitTimeout .. | .evrCiWrite ..
  | .hostCompletionTimeout .. | .fmePacketSend .. | .fmeWreqReceive .. | .fmeRreqReceive .. | .fmeAreqReceive ..
  | .fmeRrespReceive .. | .fmeArespReceive .. | .fmeAckReceive .. | .fmeNakReceive .. | .destContextRelease ..
  | .ccRoundEnd .. | .pacingWaitEnd .. | .chPiWrite .. | .chStart .. | .chPause .. | .chAbort .. | .dmaDescStart ..
  | .dmaBeat .. | .dmaDescEnd .. | .cuePulseDeliver .. | .cueTimerArm .. | .cueTimerFire .. | .sliceLull ..
  | .sliceResume .. | .sliceReset .. | .sliceFlush .. | .sliceLullReached .. | .sliceResetDone ..
  | .sliceFlushDone .. | .spcEnable .. | .spcDisable .. | .spcTestopen .. | .spcTestclose .. | .spcFeedsel ..
  | .spcEvaluationStep .. | .spcPresenceChange .. | .spcFeedValid .. | .spcFeedInvalid .. | .spcFastTrip ..
  | .spcCurveTrip .. | .spcReverseTrip .. | .spcRampTimeout .. | .spcGateFullyOn .. | .spcPgAssert ..
  | .spcPerstRelease .. | .spcDisableWaitEnd .. | .spcOffConfirm .. | .spcDeadTimeEnd .. | .spcVoutLow ..
  | .spcRetryWaitEnd .. | .spcAutoret .. | .spcRetriesReset .. | .spcCapWindowClose .. | .spcMeterUpdate ..
  | .spcELoRead .. | .fcstRailSample .. | .fcstRailLoRead .. | .fcstWindowEnd .. | .fcstSweep .. | .fcstEvaluate ..
  | .fcstVcoreStep .. | .deferLimitExpire .. | .protDisable .. | .protEnable .. | .protLock .. | .otpProgkey ..
  | .otpRevoke .. | .otpSetmin .. | .otpCommandDone .. | .getVersion .. | .getCapabilities ..
  | .negotiateAlgorithms .. | .getDigests .. | .challenge .. | .getMeasurements .. | .spdmUnsupported ..
  | .asDigestDone .. | .driftScrub .. | .driftRowSpare .. | .refclkLoss .. | .refclkRevalid .. | .clkSelect ..
  | .pcCtlWrite .. | .pcSnap .. | .pcClear .. | .pcAllStart .. | .pcAllStop .. | .pcAllSnap .. | .pcAllClear ..
  | .pcFixLoRead .. | .pcValLoRead .. | .apertureRead .. | .undefinedOpcode .. | .pcieLinkUp .. | .pcieLinkDown ..
  | .l1RequestReceive .. | .ppsokExpire .. | .failedLaneRetry .. | .i3cBroadcastCcc ..
  | .bootStepDone .. => true

end Sys2Proof
end

