-- ==== Sys2Proof/Certificates/Slice0/Obligations.lean ====
section
/-! DEFINITION. The statements for the provers. -/

open Sys2Proof Sys2Proof.Machine


/-! ## The block -/

/-- A step with a command at the front of the queue is that command's effect on the state with the queue's rest. -/
def Obligations.StepRunsFrontCommand : Prop :=
  ∀ (c : Instr) (rest : List Instr) (s : State), s.pending = c :: rest → step s = exec c { s with pending := rest }

/-- The model's choice (log entry 2): on an empty queue one tick of the 1 GHz timebase passes, and no command runs: the
queue, the register sets, the Director, the slate log and the engines stay as they are. -/
def Obligations.EmptyQueueTicks : Prop :=
  ∀ s : State, s.pending = [] → ∃ t, step s = .next t ∧ t.now = s.now + 1 ∧ t.pending = [] ∧
    t.regs.active = s.regs.active ∧ t.regs.shadow = s.regs.shadow ∧ t.dir = s.dir ∧ t.slate = s.slate ∧ t.eng = s.eng ∧
    t.mbox = s.mbox ∧ t.out = s.out

/-! ## Tylyn -/

/-- The three-register instructions (R38 to R40): with the reserved bits zero and a next instruction to go on with, Gd
takes the value, and nothing else of the machine changes but the count of retired instructions (R583).

The immediate instructions, the loads, NOW and NOP (R38, R39, R47): Gd takes the value, NOP writes none.

The general registers (R37, R39): G0 reads as zero and ignores writes; a written register reads as the value
written, and every other register as before. The canonical form is the premise: see `StepKeepsCanonicalForm`. -/
def Obligations.RegisterResults : Prop :=
  (∀ (s : State) (t : Take) (w : Nat), t.pc + 1 < t.code.length →
     let a := t.g (fA w)
     let b := t.g (fB w)
     let done (v : DWord) : Answer := .next (goesOn (t.setG (fD w) v) (t.pc + 1) s)
     (AtInsn s t w 0x01 0x7FF → exec .add s = done (a + b)) ∧
     (AtInsn s t w 0x02 0x7FF → exec .sub s = done (a - b)) ∧
     (AtInsn s t w 0x03 0x7FF → exec .and s = done (a &&& b)) ∧
     (AtInsn s t w 0x04 0x7FF → exec .or s = done (a ||| b)) ∧
     (AtInsn s t w 0x05 0x7FF → exec .xor s = done (a ^^^ b)) ∧
     (AtInsn s t w 0x06 0x7FF → exec .shl s = done (a <<< (b.toNat % 64))) ∧
     (AtInsn s t w 0x07 0x7FF → exec .shr s = done (a >>> (b.toNat % 64))) ∧
     (AtInsn s t w 0x08 0x7FF → exec .sar s = done (a.sshiftRight (b.toNat % 64))) ∧
     (AtInsn s t w 0x09 0x7FF → exec .mul s = done (BitVec.ofNat 64 (a.toNat * b.toNat)))) ∧
  (∀ (s : State) (t : Take) (w : Nat), t.pc + 1 < t.code.length →
     let a := t.g (fA w)
     let i := fImm w
     let g := t.g (fD w)
     let done (v : DWord) : Answer := .next (goesOn (t.setG (fD w) v) (t.pc + 1) s)
     (AtInsn s t w 0x0A 0 → exec .addi s = done (a + (BitVec.ofNat 16 i).signExtend 64)) ∧
     (AtInsn s t w 0x0B 0 → exec .andi s = done (a &&& BitVec.ofNat 64 i)) ∧
     (AtInsn s t w 0x0C 0 → exec .ori s = done (a ||| BitVec.ofNat 64 i)) ∧
     (AtInsn s t w 0x0D 0 → exec .xori s = done (a ^^^ BitVec.ofNat 64 i)) ∧
     (AtInsn s t w 0x0E 0xFFC0 → exec .shli s = done (a <<< (i % 64))) ∧
     (AtInsn s t w 0x0F 0xFFC0 → exec .shri s = done (a >>> (i % 64))) ∧
     (AtInsn s t w 0x10 0x1E0000 → bit w 16 = false → exec .ldiLo s = done (BitVec.ofNat 64 i)) ∧
     (AtInsn s t w 0x10 0x1E0000 → bit w 16 = true →
       exec .ldiLo s = done (BitVec.ofNat 64 (setBits g.toNat 16 16 i))) ∧
     (AtInsn s t w 0x11 0x1E0000 → bit w 16 = false →
       exec .ldiHi s = done (BitVec.ofNat 64 (setBits g.toNat 32 16 i))) ∧
     (AtInsn s t w 0x11 0x1E0000 → bit w 16 = true →
       exec .ldiHi s = done (BitVec.ofNat 64 (setBits g.toNat 48 16 i))) ∧
     (AtInsn s t w 0x24 0x1FFFFF → exec .now s = done (BitVec.ofNat 64 s.ft)) ∧
     (AtInsn s t w 0x00 0x3FFFFFF → exec .nop s = .next (goesOn t (t.pc + 1) s))) ∧
  (∀ (t : Take) (d e : Nat) (v : DWord), t.canon = true →
     (t.setG d v).g e = (if e = 0 then 0 else if e = d then v else t.g e) ∧ (t.setG d v).canon = true ∧
     (t.setG d v).pc = t.pc ∧ (t.setG d v).stack = t.stack ∧ (t.setG d v).journal = t.journal)

/-- R41: the eight conditions of BRC on Ga and Gb. A branch goes on at the index `off13` from its own, where that lies
within the take; one that is not taken goes on at the next instruction. -/
def Obligations.BrcConditions : Prop :=
  ∀ (s : State) (t : Take) (w : Nat), AtInsn s t w 0x1D 0 → t.pc + 1 < t.code.length →
    let a := t.g (fD w)
    let b := t.g (fA w)
    let dst := (t.pc : Int) + signed 13 (bits w 0 13)
    let c := bits w 13 3
    let taken : Prop :=
      (c = 0 ∧ a = b) ∨ (c = 1 ∧ a ≠ b) ∨ (c = 2 ∧ a.toNat < b.toNat) ∨ (c = 3 ∧ a.toNat ≥ b.toNat) ∨
      (c = 4 ∧ a.toInt < b.toInt) ∨ (c = 5 ∧ a.toInt ≥ b.toInt) ∨ (c = 6 ∧ a &&& b ≠ 0) ∨ (c = 7 ∧ a &&& b = 0)
    (taken → 0 ≤ dst → dst < t.code.length → exec .brc s = .next (goesOn t dst.toNat s)) ∧
    (taken → ¬(0 ≤ dst ∧ dst < t.code.length) → exec .brc s = .next (endsWith t .illegal s)) ∧
    (¬taken → exec .brc s = .next (goesOn t (t.pc + 1) s))

/-- BR, CALL and RET (R39, R40): the offset counts from the branching instruction; CALL pushes PC + 1 and RET pops it.

R40: what is illegal. A branch, call or return to an index outside 0 to LEN - 1, a ninth nested CALL, a RET on an
empty stack, and execution past index LEN - 1 end the take with ILLEGAL; arithmetic wraps modulo 2^64.

R47 to R49: WAITT and WAITCUE, the ends of their waits before and after the 2 ms limit of the take (R61), and FIRECUE. -/
def Obligations.ControlFlowAndWaits : Prop :=
  (∀ (s : State) (t : Take) (w : Nat),
     let dst := (t.pc : Int) + signed 26 (bits w 0 26)
     (AtInsn s t w 0x1C 0 → 0 ≤ dst → dst < t.code.length → exec .br s = .next (goesOn t dst.toNat s)) ∧
     (AtInsn s t w 0x1E 0 → t.stack.length < 8 → 0 ≤ dst → dst < t.code.length →
       exec .call s = .next (goesOn { t with stack := (t.pc + 1) :: t.stack } dst.toNat s)) ∧
     (∀ pc rest, AtInsn s t w 0x1F 0x3FFFFFF → t.stack = pc :: rest → pc < t.code.length →
       exec .ret s = .next (goesOn { t with stack := rest } pc s))) ∧
  ((∀ (s : State) (t : Take) (w : Nat),
     let dst := (t.pc : Int) + signed 26 (bits w 0 26)
     let off13 := (t.pc : Int) + signed 13 (bits w 0 13)
     let illegal : Answer := .next (endsWith t .illegal s)
     (AtInsn s t w 0x1C 0 → ¬(0 ≤ dst ∧ dst < t.code.length) → exec .br s = illegal) ∧
     (AtInsn s t w 0x1D 0 → condHolds (bits w 13 3) (t.g (fD w)) (t.g (fA w)) = true →
       ¬(0 ≤ off13 ∧ off13 < t.code.length) → exec .brc s = illegal) ∧
     (AtInsn s t w 0x1E 0 → ¬(0 ≤ dst ∧ dst < t.code.length) → exec .call s = illegal) ∧
     (AtInsn s t w 0x1E 0 → 8 ≤ t.stack.length → exec .call s = illegal) ∧
     (AtInsn s t w 0x1F 0x3FFFFFF → t.stack = [] → exec .ret s = illegal) ∧
     (∀ pc rest, AtInsn s t w 0x1F 0x3FFFFFF → t.stack = pc :: rest → t.code.length ≤ pc → exec .ret s = illegal) ∧
     (AtInsn s t w 0x00 0x3FFFFFF → t.code.length ≤ t.pc + 1 →
       exec .nop s = .next (endTake .illegal (countInstr t s)))) ∧
   (∀ (s : State) (t : Take) (w : Nat) (u : State) (t' : Take), AtInsn s t w 0x01 0x7FF → t.canon = true → fD w ≠ 0 →
     exec .add s = .next u → u.dir.take = some t' →
     (t'.g (fD w)).toNat = ((t.g (fA w)).toNat + (t.g (fB w)).toNat) % 2 ^ 64)) ∧
  (∀ (s : State) (t : Take) (w : Nat),
     let g := (t.g (fA w)).toNat
     let line := bits w 12 8
     let timeout := bits w 0 12
     (AtInsn s t w 0x25 0x3E0FFFF → g ≤ s.ft → t.pc + 1 < t.code.length →
       exec .waitt s = .next (goesOn t (t.pc + 1) s)) ∧
     (AtInsn s t w 0x25 0x3E0FFFF → s.ft < g → t.startFt + 2000000 < g →
       exec .waitt s = .next (endsWith t .timeout s)) ∧
     (AtInsn s t w 0x25 0x3E0FFFF → s.ft < g → g ≤ t.startFt + 2000000 →
       exec .waitt s = .next (s.setTake (some { t with wait := .time g }))) ∧
     (∀ k, s.dir.take = some t → s.dir.longop = none → t.wait = .time k → t.pc + 1 < t.code.length →
       ((s.reachFt k).now < t.limitAt → exec .waittElapse s =
         .next (stallTake (goesOn { t with wait := .none } (t.pc + 1) (s.reachFt k)))) ∧
       (t.limitAt ≤ (s.reachFt k).now → exec .waittElapse s = .next (endTake .timeout (s.reach t.limitAt)))) ∧
     (AtInsn s t w 0x28 0x100000 → 1 ≤ timeout → timeout ≤ 2000 → cueMay s (originPart t.origin) line = true →
       exec .waitcue s = .next (s.setTake (some { t with wait := .cue line (s.now + timeout * 1000) (fD w) }))) ∧
     (AtInsn s t w 0x28 0x100000 → (timeout = 0 ∨ 2000 < timeout) →
       exec .waitcue s = .next (endsWith t .illegal s)) ∧
     (∀ l k gd, s.dir.take = some t → s.dir.longop = none → t.wait = .cue l k gd → t.pc + 1 < t.code.length →
       ((s.reach k).now < t.limitAt → exec .waitcueTimeout s =
         .next (stallTake (goesOn (({ t with wait := .none } : Take).setG gd 0) (t.pc + 1) (s.reach k)))) ∧
       (t.limitAt ≤ (s.reach k).now → exec .waitcueTimeout s = .next (endTake .timeout (s.reach t.limitAt)))) ∧
     (AtInsn s t w 0x29 0x3F00FFF → cueMay s (originPart t.origin) line = true → t.pc + 1 < t.code.length →
       Tab.get 0 s.cues.waiting line < 64 → ∃ u, exec .firecue s = .next u ∧
         u.cues.waiting = Tab.put s.cues.waiting line (Tab.get 0 s.cues.waiting line + 1) ∧
         u.regs.active = s.regs.active ∧ u.regs.shadow = s.regs.shadow ∧ u.mbox = s.mbox ∧ u.slate = s.slate))

/-- The endings of a take (R50, R51, R61 to R63, R66): HALT commits the journal and answers OK with G1 to Gn; ABORT,
an opcode outside the table, the 2 ms limit and a second mismatch of the sequencers discard it; a first mismatch
restarts the pair from its last checkpoint; ABORT with C = 1 cancels a pending CUTAT; NOTE logs Ga under the tag. -/
def Obligations.TakeEndings : Prop :=
  ∀ (s : State) (t : Take) (w : Nat),
    (AtInsn s t w 0x20 0x1FFFFF → journalRefused s t.journal = none →
      exec .halt s = .next (endWith .ok ((List.range (fD w)).map (fun i => t.g (i + 1))) (countInstr t (commit t s)))) ∧
    (∀ r, AtInsn s t w 0x20 0x1FFFFF → journalRefused s t.journal = some r →
      exec .halt s = .next (endTake .budget (budgetRefusal r t.origin s))) ∧
    (AtInsn s t w 0x2E 0x3FFFFFE → bit w 0 = false → exec .abort s = .next (endTake .aborted (countInstr t s))) ∧
    (∀ c, AtInsn s t w 0x2E 0x3FFFFFE → bit w 0 = true → s.dir.cutAt = some c →
      (t.origin = c.origin ∨ (48 ≤ t.origin ∧ t.origin ≤ 55)) → ∃ u, exec .abortCancel s = .next u ∧
        u = retireMark t (({ s with dir := { s.dir with cutAt := none } } : State).log
          { origin := t.origin, serial := t.serial, kind := 6, pc := t.pc, new := s.liv64 Reg.GLB_CUTTIME_LO })) ∧
    (∀ c, AtInsn s t w 0x2E 0x3FFFFFE → bit w 0 = true → s.dir.cutAt = some c → t.origin ≠ c.origin →
      ¬(48 ≤ t.origin ∧ t.origin ≤ 55) → exec .abortCancel s = .next (endsWith t .protect s)) ∧
    (AtInsn s t w 0x30 0x3E00000 → exec .note s = .next (retireMark t (s.log
      { origin := t.origin, serial := t.serial, kind := 3, pc := t.pc, loc := fImm w, new := (t.g (fA w)).toNat }))) ∧
    (fetch s = some (t, w) → opcodeKnown (opcode w) = false →
      exec .undefinedOpcode s = .next (endsWith t .illegal s)) ∧
    (s.dir.take = some t → s.dir.longop = none → t.stall = none →
      exec .takeLimitExpire s = .next (endTake .timeout (s.reach t.limitAt))) ∧
    (s.dir.take = some t → s.dir.longop = none → t.mismatches = 0 → ∃ t' : Take,
      exec .lockstepMismatch s = .next (((s.setTake (some t')).bump Reg.GLB_LSCNT).raise (gEvt 0)) ∧
      t'.pc = t.ckpt.pc ∧ t'.regs = t.ckpt.regs ∧ t'.stack = t.ckpt.stack ∧ t'.journal = t.ckpt.journal ∧
      t'.mismatches = 1 ∧ t'.code = t.code ∧ t'.wait = .none) ∧
    (s.dir.take = some t → s.dir.longop = none → t.mismatches ≠ 0 →
      exec .lockstepMismatch s = .next (endTake .lockstep
        ((s.setLivF Reg.GLB_DIRSTAT Fld.GLB_DIRSTAT_LSFAIL 1).raise (gEvt 0))))

/-- R62: a take's answer. Its words leave the inbound FIFO of its mailbox, and the outbound FIFO takes one packet: the
status word and the result words, the end mark on the last. The take is gone. No other mailbox changes. -/
def Obligations.AnswerOfATake : Prop :=
  ∀ (s : State) (t : Take) (st : Status) (rs : List DWord) (u : State), Tab.wf (fun _ => ({} : Mbox)) s.mbox = true →
    t.origin ≠ 51 → u = endWith st rs (s.setTake (some t)) →
    u.dir.take = none ∧ (u.mb t.origin).inq = (firstPacket (s.mb t.origin).inq).2 ∧
    (u.mb t.origin).outq = (s.mb t.origin).outq ++ asPacket (statusWord t.serial st rs.length t.pc :: rs) ∧
    (asPacket (statusWord t.serial st rs.length t.pc :: rs)).map (fun x => x.last) =
      (List.replicate rs.length false ++ [true]) ∧
    (∀ m, m ≠ t.origin → u.mb m = s.mb m)

/-! ## Mailboxes and the start of a take -/

/-- Words that enter a mailbox. A write of IN_WORD, or of IN_LAST with the end mark, in full size and by a path that reaches
the mailbox, brings a word to it (R26, R27). With no long operation in progress, room in the FIFO and no discard run the
word joins the FIFO, and closes its packet as malformed where it is the 2,050th without an end mark (R34, R310). Otherwise
it is discarded and the STAT flag of each case that holds is set: during a long operation or with a full FIFO the open packet
goes with it, in a discard run the word alone; DROPCNT counts what goes, and an end mark ends the discard run (R31).

MAILBOX_BYTE (R28): a byte begins a partial word, or joins the one of its own port, and the eighth brings the word to the
mailbox; at another port it first discards the partial word, with DROP_FRAG, and begins a new one. A write of another size,
and a path that does not reach the mailbox, change nothing (R27).

OUT_WORD (R29): a read that the protection unit and the path allow removes the oldest outbound word and answers with it,
LASTPOP is its end mark, and all other words stay; of an empty FIFO, and by another size or path, it answers 0 and removes
nothing. -/
def Obligations.Mailboxes : Prop :=
  (∀ (s : State) (p : Fin 48) (m : Fin 64) (d : DWord), reachesMbox s (.bar p) m.val = true →
     exec (.inWord p m true d) s = .next (wordIn m.val d false s) ∧
     exec (.inLast p m true d) s = .next (wordIn m.val d true s)) ∧
  (∀ (s : State) (m : Nat) (d : DWord) (last : Bool),
     let b := s.mb m
     let busy := s.dir.longop.isSome
     let full := decide (8192 ≤ b.inq.length) || (last && decide (8191 ≤ pktCount b.inq))
     let closes := !last && openLen b.inq + 1 == 2050
     let flagged := dropFlag m Fld.MBOX_STAT_DROP_FRAG b.discarding
       (dropFlag m Fld.MBOX_STAT_DROP_FULL full (dropFlag m Fld.MBOX_STAT_DROP_BUSY busy s))
     (busy = false → full = false → b.discarding = false → wordIn m d last s = s.setMb m { b with
       inq := b.inq ++ [{ word := d, last := last, forced := closes }], discarding := closes }) ∧
     (busy = true ∨ full = true → wordIn m d last s =
       (mbDrop m (1 + openLen b.inq) flagged).setMb m { b with inq := closedWords b.inq, discarding := !last }) ∧
     (busy = false → full = false → b.discarding = true → wordIn m d last s =
       (mbDrop m 1 flagged).setMb m { b with discarding := !last })) ∧
  (∀ (s : State) (path : BytePath) (m : Fin 64) (last : Bool) (x : Byte), reachesMbox s (bytePath path) m.val = true →
     (s.partialOf path = none →
       exec (.mailboxByte path m last x) s = .next (s.setPartial path (some ⟨m.val, last, [x]⟩))) ∧
     (∀ l, s.partialOf path = some ⟨m.val, last, l⟩ → l.length < 7 →
       exec (.mailboxByte path m last x) s = .next (s.setPartial path (some ⟨m.val, last, l ++ [x]⟩))) ∧
     (∀ l, s.partialOf path = some ⟨m.val, last, l⟩ → l.length = 7 → exec (.mailboxByte path m last x) s =
       .next (wordIn m.val (BitVec.ofNat 64 (ofBytes (l ++ [x]))) last (s.setPartial path none))) ∧
     (∀ y, s.partialOf path = some y → ¬(y.mbox = m.val ∧ y.last = last) →
       let b := s.mb y.mbox
       let dropped := (mbDrop y.mbox (1 + openLen b.inq) (s.setLivF (Reg.MBOX_STAT y.mbox) Fld.MBOX_STAT_DROP_FRAG 1)).setMb
         y.mbox { b with inq := closedWords b.inq, discarding := !y.last }
       exec (.mailboxByte path m last x) s = .next (dropped.setPartial path (some ⟨m.val, last, [x]⟩)))) ∧
  (∀ (s : State) (p : Fin 48) (m : Fin 64) (d : DWord) (full : Bool),
     (full = false ∨ reachesMbox s (.bar p) m.val = false →
       exec (.inWord p m full d) s = .next s ∧ exec (.inLast p m full d) s = .next s) ∧
     (∀ path last x, reachesMbox s (bytePath path) m.val = false → exec (.mailboxByte path m last x) s = .next s)) ∧
  (∀ (s : State) (path : Path) (m : Fin 64), Tab.wf (fun _ => ({} : Mbox)) s.mbox = true →
     pathLive s path = true → s.boot.readable = true → protRefuses s (pathIdent s path) (outWordAddr m.val) false = none →
     (∀ w q, reachesMbox s path m.val = true → (s.mb m.val).outq = w :: q → ∃ u, exec (.outWord path m true) s = .next u ∧
       u.mb m.val = { s.mb m.val with outq := q, lastPop := w.last } ∧ (∀ k, k ≠ m.val → u.mb k = s.mb k) ∧
       u.out.take (s.out.length + 1) = s.out ++ [.readData path (outWordAddr m.val) w.word.toNat] ∧
       u.regs.active = s.regs.active ∧ u.regs.shadow = s.regs.shadow ∧ u.dir = s.dir ∧ u.slate = s.slate) ∧
     (∀ full, full = false ∨ reachesMbox s path m.val = false ∨ (s.mb m.val).outq = [] →
       exec (.outWord path m full) s = .next (s.answer path (outWordAddr m.val) 0)))

/-- R36: the free Director takes the first mailbox, counted from the one after the mailbox it served last, that holds a
whole packet and has room for 32 words of answer; a packet that is neither malformed (R34) nor a duplicate (R35) begins
as the executing take. Its words stay in its mailbox.

R37: a take begins with every general register zero, an empty return stack and an empty journal, whatever the state
before it. -/
def Obligations.TakesBegin : Prop :=
  (∀ (s : State) (k : Nat), dirFree s = true → k < 64 →
     (∀ j, j < k → ¬(0 < pktCount (s.mb ((s.dir.last + 1 + j) % 64)).inq ∧
       (s.mb ((s.dir.last + 1 + j) % 64)).outq.length + 32 ≤ 4096)) →
     let m := (s.dir.last + 1 + k) % 64
     let ws := (firstPacket (s.mb m).inq).1
     0 < pktCount (s.mb m).inq → (s.mb m).outq.length + 32 ≤ 4096 → malformed ws = false →
     bits (nth { word := 0, last := true } ws 0).word.toNat 0 32 ≠ (s.liv (Reg.MBOX_LASTSER m)).toNat →
     ∃ u t, exec (.takeSelect false) s = .next u ∧ u.dir.take = some t ∧ t.origin = m ∧ u.dir.last = m ∧
       t.serial = bits (nth { word := 0, last := true } ws 0).word.toNat 0 32 ∧ u.mbox = s.mbox) ∧
  (∀ (s u : State) (t : Take) (ue : Bool), dirFree s = true → exec (.takeSelect ue) s = .next u → u.dir.take = some t →
     (∀ i, t.g i = 0) ∧ t.stack = [] ∧ t.journal = [] ∧ t.pc = 0 ∧ t.wait = .none)

/-! ## Register access -/

/-- R45: RDREG with S = 0 gives the Active Set value of a shadowed word; with S = 1 the Shadow Set value under the take's
journal; a live word gives its live value whatever S is. A port register of the upper member of a x16 pair reads as reset
(R189). What a user master sees passes the partition view (R540); a low
word latches its high word, and a latched high word is given once (R592). -/
def Obligations.RdregValues : Prop :=
  ∀ (s : State) (t : Take) (w : Nat), AtInsn s t w 0x14 0 → t.pc + 1 < t.code.length →
    let a := xAddr t w
    let done (v : Word) (s' : State) : Answer :=
      .next (goesOn (t.setG (fD w) ((viewed s t.origin a v).setWidth 64)) (t.pc + 1) s')
    (regRow a).isSome = true → protRefuses s t.origin a false = none →
      (isShadowed a = true → bit w 15 = false → mutedIn s.act a = false → exec .rdreg s = done (s.act a) s) ∧
      (isShadowed a = true → bit w 15 = true → mutedIn (overlay s.shd t.journal) a = false →
        exec .rdreg s = done (overlay s.shd t.journal a) s) ∧
      (isShadowed a = true → bit w 15 = true → mutedIn (overlay s.shd t.journal) a = true →
        exec .rdreg s = done (resetVal a) s) ∧
      (mutedIn s.act a = true → (isShadowed a && bit w 15) = false → exec .rdreg s = done (resetVal a) s) ∧
      (isShadowed a = false → mutedIn s.act a = false → partner a = none → isHigh a = false →
        exec .rdreg s = done (s.rd a) s) ∧
      (∀ h, isShadowed a = false → partner a = some h →
        exec .rdreg s = done (s.rd a) (readTakes a (s.latch .director h (readWord s h)))) ∧
      (∀ v, isShadowed a = false → partner a = none → isHigh a = true → s.latched .director a = some v →
        exec .rdreg s = done v (s.unlatch .director a))

/-- R43, R50: WRREG of a word with TW fields changes nothing but the journal of its take (and the count of retired
instructions); its TW fields take the value over what the journalled Shadow Set holds. WRREG of a word with none ends
the take with ADDRESS, and so does WRLIVE of a word with neither a TL nor a W1C field.

R52, R81: a WRLIVE of a word that no command owns logs a LIVE entry, whose NEW is the value written, and then writes the TL
fields and clears the W1C bits written 1, at once. -/
def Obligations.RegisterWrites : Prop :=
  (∀ (s : State) (t : Take) (w : Nat),
     let a := xAddr t w
     let v : Word := (t.g (fD w)).extractLsb' 0 32
     (∀ r, AtInsn s t w 0x15 0x8000 → regRow a = some r → r.tw ≠ 0 → protRefuses s t.origin a true = none →
       (isUser t.origin && managerOnly a) = false → s.dir.cutAt = none → t.pc + 1 < t.code.length →
       let tw := BitVec.ofNat 32 r.tw
       let x := (overlay s.shd t.journal a &&& ~~~tw) ||| (v &&& tw)
       exec .wrreg s = .next (goesOn { t with journal := journalPut t.journal a x } (t.pc + 1) s)) ∧
     (∀ r, AtInsn s t w 0x15 0x8000 → regRow a = some r → r.tw = 0 →
       exec .wrreg s = .next (endsWith t .address s)) ∧
     (AtInsn s t w 0x15 0x8000 → regRow a = none → exec .wrreg s = .next (endsWith t .address s)) ∧
     (AtInsn s t w 0x16 0x8000 → liveWritable a = false → exec .wrlive s = .next (endsWith t .address s))) ∧
  (∀ (s : State) (t : Take) (w a : Nat) (v : Word) (r : RegRow), AtLive plainRule s t w a v →
     ruleOf a v = plainRule → regRow a = some r →
     let done := ((logLive t a v s).setLiv a (plainNew r ((logLive t a v s).liv a) v)).intx
     exec .wrlive s = .next (retireMark t done))

/-- R50: a later journalled write to the same address replaces the earlier one, and no other address changes.

R50, R52: a commit leaves every word that the journal names at its journalled value in the Shadow Set, every other
word of the Shadow Set and the whole Active Set as they were, and the executing take and the mailboxes untouched. -/
def Obligations.JournalsAndCommits : Prop :=
  (∀ (base : Nat → Word) (j : List (Nat × Word)) (a b : Nat) (v : Word),
     overlay base (journalPut j a v) b = (if b = a then v else overlay base j b) ∧
     ((j.map (fun e => e.1)).Nodup → ((journalPut j a v).map (fun e => e.1)).Nodup)) ∧
  (∀ (s : State) (t : Take), s.regs.canon = true → (t.journal.map (fun e => e.1)).Nodup →
     (∀ a, (commit t s).shd a = overlay s.shd t.journal a) ∧ (commit t s).regs.active = s.regs.active ∧
     (commit t s).mbox = s.mbox ∧ (commit t s).dir = s.dir ∧ (commit t s).regs.canon = true)

/-- TBLR and TBLW with their reserved bits zero (R46, R391, R410, R540). TBLR gives Gd the word that the take's identity sees,
and reads 8 bytes of the Drift. TBLW of table 0 or 1, where the owning chapter allows it, writes the word and logs a TABLE
entry. Both end the take with ILLEGAL for table 3, with PROTECT where the protection unit refuses slot 80, and with TABLE for an
entry or a word outside the table; TBLW ends it with PROTECT for table 2, and where the owning chapter refuses it. -/
def Obligations.DriftTableAccess : Prop :=
  ∀ (s : State) (t : Take) (w : Nat),
    let tb := bits w 14 2
    let i := (t.g (fA w)).toNat
    let k := bits w 0 5
    let v := t.g (fD w)
    let refused (write : Bool) (c : Nat) : Answer := .next (endTake .protect (protFault t.origin i write c 0 s))
    (AtInsn s t w 0x18 0x3FE0 → tb ≠ 3 → slotRefuses s 80 t.origin false = none → i < tabEntries tb → k < tabWords tb →
      t.pc + 1 < t.code.length →
      exec .tblr s = .next (goesOn (t.setG (fD w) (tabSeen s t.origin tb i k)) (t.pc + 1) (driftMove false 8 s))) ∧
    (AtInsn s t w 0x19 0x3FE0 → tb < 2 → slotRefuses s 80 t.origin true = none → i < tabEntries tb → k < tabWords tb →
      tblwRefused s t.origin tb i k v = false →
      exec .tblw s = .next (retireMark t (logTable t.origin t.serial t.pc tb i k (tabWord s tb i k)
        (tabWord (tblwEffect tb i k v s) tb i k) (tblwEffect tb i k v s)))) ∧
    (AtInsn s t w 0x18 0x3FE0 → tb = 3 → exec .tblr s = .next (endsWith t .illegal s)) ∧
    (AtInsn s t w 0x19 0x3FE0 → tb = 3 → exec .tblw s = .next (endsWith t .illegal s)) ∧
    (∀ c, AtInsn s t w 0x18 0x3FE0 → tb ≠ 3 → slotRefuses s 80 t.origin false = some c → exec .tblr s = refused false c) ∧
    (∀ c, AtInsn s t w 0x19 0x3FE0 → tb ≠ 3 → slotRefuses s 80 t.origin true = some c → exec .tblw s = refused true c) ∧
    (AtInsn s t w 0x19 0x3FE0 → tb = 2 → slotRefuses s 80 t.origin true = none → exec .tblw s = refused true 6) ∧
    (AtInsn s t w 0x18 0x3FE0 → tb ≠ 3 → slotRefuses s 80 t.origin false = none →
      (tabEntries tb ≤ i ∨ tabWords tb ≤ k) → exec .tblr s = .next (endsWith t .table s)) ∧
    (AtInsn s t w 0x19 0x3FE0 → tb < 2 → slotRefuses s 80 t.origin true = none →
      (tabEntries tb ≤ i ∨ tabWords tb ≤ k) → exec .tblw s = .next (endsWith t .table s)) ∧
    (AtInsn s t w 0x19 0x3FE0 → tb < 2 → slotRefuses s 80 t.origin true = none → i < tabEntries tb → k < tabWords tb →
      tblwRefused s t.origin tb i k v = true → exec .tblw s = refused true 6)

/-- R193, R194: a host configuration write that arrives at an enabled partition with its link up, for a register that its
function has, is held in the ingress buffer of the upstream port, and a take that could go on is held too; the Director serves
the oldest held one, when no long operation and no reset is in progress, as one live write: it leaves the held ones, is
logged under the partition's origin, takes effect, counts as a take and is completed. -/
def Obligations.HostConfigurationWrites : Prop :=
  (∀ (s : State) (q : Fin 48) (fn : Fin 34) (r : CfgReg) (off : Fin 1024) (be : Fin 16) (data : Word) (req tag : Nat),
    s.hostUp q.val = true → cfgHas s q.val fn.val r = true →
    exec (.configWriteArrival q fn r off be data req tag) s =
      .next (stallTake (holdCfg ⟨q.val, fn.val, r, off.val, be.val, data, req, tag, upPort s q.val⟩ s))) ∧
  (∀ (w : CfgWrite) (s : State), (holdCfg w s).parts.held = s.parts.held ++ [w]) ∧
  (∀ (s : State) (w : CfgWrite) (l : List CfgWrite), s.parts.held = w :: l → s.dir.longop = none →
    s.rst.warm = .idle → s.rst.cold = false → s.rst.rail = false →
    let f := freeCfg w { s with parts := { s.parts with held := l } }
    let k := if l = [] then endStall f else f
    let d := cfgDwords k w
    let e : Entry := { origin := w.part, kind := 1, loc := cfgLoc w, old := d.1.toNat, new := d.2.toNat }
    let u := cfgWrite w (k.log e).draw
    exec .configWriteServe s = .next (settle
      (cfgComplete w (perf 73 1 none 1 { master := some w.part } (u.bump Reg.GLB_TAKECNT))).intx))

/-- R592: a 4-byte read of a word that latches a partner, by a path that may read it, answers with the word and latches
the partner's value for that path alone; a later read of the high word returns the latched value once and clears the
latch.

R136: before the end of step 2 of a cold boot a direct read over I3C or JTAG answers zero and changes no state. -/
def Obligations.DirectReads : Prop :=
  (∀ (s : State) (path : Path), pathLive s path = true → s.boot.readable = true →
     let low (c : Instr) (a : Nat) : Prop :=
       (∀ b, b = a ∨ b = a + 4 → (regRow b).isSome = true ∧ protRefuses s (pathIdent s path) b false = none ∧
         viewed s (pathIdent s path) b (readWord s b) = readWord s b) → partner a = some (a + 4) → isPort a = false →
       exec c s = .next ((readTakes a (s.latch path (a + 4) (readWord s (a + 4)))).answer path a (readWord s a).toNat)
     low (.ftNowLoRead path false) Reg.GLB_FT_NOW_LO ∧ low (.mrxLoRead path false) Reg.GLB_MRX_LO ∧
     (∀ n : Fin 24, low (.spcELoRead path n false) (Reg.SPC_E_LO n.val)) ∧
     (∀ r : Fin 6, low (.fcstRailLoRead path r false) (Reg.FCST_RAIL r.val 0)) ∧
     (∀ u : Fin 74, low (.pcFixLoRead path u false) (Reg.PC_FIX_LO u.val)) ∧
     (∀ (u : Fin 74) (c : Fin 8), low (.pcValLoRead path u c false) (Reg.PC_VAL_LO u.val c.val)) ∧
     (∀ (a : Fin 13631488) (v : Word), partner a.val = none → isHigh a.val = true → s.latched path a.val = some v →
       (regRow a.val).isSome = true → isPort a.val = false → protRefuses s (pathIdent s path) a.val false = none →
       (isUser (pathIdent s path) && hidden s (pathIdent s path) a.val) = false →
       exec (.highWordRead path a false) s = .next ((s.unlatch path a.val).answer path a.val v.toNat)) ∧
     (∀ (a : Fin 3) (o : Fin 1048576), o.val % 8 = 0 →
       protRefuses s (pathIdent s path) (apertureAddr a.val o.val) false = none →
       exec (.apertureRead path a o true) s = .next (((driftMove false 8 (s.bump Reg.IW_RDCNT)).unlatch path (apertureAddr a.val o.val + 4)).answer
         path (apertureAddr a.val o.val) (apertureWord s (pathIdent s path) a.val o.val).toNat))) ∧
  (∀ (s : State) (path : Path), path = .i3c ∨ path = .jtag → s.boot.readable = false →
     (∀ m full, exec (.outWord path m full) s = .next (s.emit (.readData path (outWordAddr m.val) 0))) ∧
     exec (.ftNowLoRead path false) s = .next (s.emit (.readData path Reg.GLB_FT_NOW_LO 0)) ∧
     exec (.mrxLoRead path false) s = .next (s.emit (.readData path Reg.GLB_MRX_LO 0)) ∧
     (∀ a o full, exec (.apertureRead path a o full) s = .next (s.emit (.readData path (apertureAddr a.val o.val) 0))))

/-! ## Cuts and long operations -/

/-- R53: while a CUTAT is pending a WRREG (R44 passed), a CUT and a CUTAT end the take with SEALED; ABORT with C = 1
cancels it for its own origin and for 48 to 55, and is PROTECT for any other; with none pending the take goes on.

R74: with GLB_CUTCTL.USERCUT 0, a CUT or CUTAT of origins 0 to 47 ends its take with REFUSED. (A CUTAT whose time is
past or too far ahead has ended before.) -/
def Obligations.SealedWhileCutPends : Prop :=
  (∀ (s : State) (t : Take) (w : Nat),
     (∀ c, s.dir.cutAt = some c →
       (∀ r, AtInsn s t w 0x15 0x8000 → regRow (xAddr t w) = some r → r.tw ≠ 0 →
         protRefuses s t.origin (xAddr t w) true = none → (isUser t.origin && managerOnly (xAddr t w)) = false →
         exec .wrreg s = .next (endsWith t .sealed s)) ∧
       (AtInsn s t w 0x2C 0x3FFFFFF → exec .cut s = .next (endsWith t .sealed s)) ∧
       (AtInsn s t w 0x2D 0x3E0FFFF → exec .cutat s = .next (endsWith t .sealed s)) ∧
       (AtInsn s t w 0x2E 0x3FFFFFE → bit w 0 = true → (t.origin = c.origin ∨ (48 ≤ t.origin ∧ t.origin ≤ 55)) →
         ∃ u, exec .abortCancel s = .next u ∧ u.dir.cutAt = none ∧ u.regs.shadow = s.regs.shadow) ∧
       (AtInsn s t w 0x2E 0x3FFFFFE → bit w 0 = true → ¬(t.origin = c.origin ∨ (48 ≤ t.origin ∧ t.origin ≤ 55)) →
         exec .abortCancel s = .next (endsWith t .protect s)) ∧
       bit (s.rd Reg.GLB_DIRSTAT).toNat 2 = true) ∧
     (s.dir.cutAt = none → AtInsn s t w 0x2E 0x3FFFFFE → bit w 0 = true → t.pc + 1 < t.code.length →
       exec .abortCancel s = .next (goesOn t (t.pc + 1) s))) ∧
  (∀ (s : State) (t : Take) (w : Nat), s.dir.cutAt = none → t.origin < 48 → bit (s.act Reg.GLB_CUTCTL).toNat 0 = false →
     (AtInsn s t w 0x2C 0x3FFFFFF → exec .cut s = .next (endsWith t .refused s)) ∧
     (AtInsn s t w 0x2D 0x3E0FFFF → s.ft < (t.g (fA w)).toNat → (t.g (fA w)).toNat ≤ s.ft + 2 ^ 32 →
       exec .cutat s = .next (endsWith t .refused s)))

/-- R52 to R54, R59, R70: a CUT that passes its checks commits the journal, logs a CUT entry and makes the swap, and its take waits
for the copy. A CUTAT that passes them commits the journal, stores its time in GLB_CUTTIME, logs a CUTAT entry and goes on with the
swap pending; it ends the take with PASTTIME where its time is not later than fabric time, and with ILLEGAL where it is more than
2^32 ns later. At its time the swap is made on behalf of no take, under a CUT entry, with an event where GLB_FT_STAT.SYNC is 0;
during a long operation it waits. The exchange itself gives each set the other's values. -/
def Obligations.CutsExchangeTheSets : Prop :=
  ∀ (s : State) (t : Take) (w : Nat),
    let ok := s.dir.cutAt = none ∧ leavesBad s t = false ∧ cutForeign s t = false ∧
      cutRefused s t.origin (overlaid s t.journal) = false ∧ journalRefused s t.journal = none
    let g := (t.g (fA w)).toNat
    (AtInsn s t w 0x2C 0x3FFFFFF → ok →
      let c := logCut t.origin t.serial t.pc false (commit t s)
      exec .cut s = .next (startLong .cut true
        (swap (journalAddrs t) (c.setTake (some (({ t with journal := [] } : Take).mark c.now)))))) ∧
    (AtInsn s t w 0x2D 0x3E0FFFF → ok → s.ft < g → g ≤ s.ft + 2 ^ 32 →
      let c := (commit t s).setLiv64 Reg.GLB_CUTTIME_LO g
      let c : State := { c with dir := { c.dir with cutAt := some ⟨t.origin, t.serial, t.pc, journalAddrs t, false⟩ } }
      exec .cutat s = .next (retireMark { t with journal := [] }
        (c.log { origin := t.origin, serial := t.serial, kind := 5, pc := t.pc, new := g }))) ∧
    (AtInsn s t w 0x2D 0x3E0FFFF → s.dir.cutAt = none → g ≤ s.ft → exec .cutat s = .next (endsWith t .pasttime s)) ∧
    (AtInsn s t w 0x2D 0x3E0FFFF → s.dir.cutAt = none → s.ft + 2 ^ 32 < g →
      exec .cutat s = .next (endsWith t .illegal s)) ∧
    (∀ c, s.dir.cutAt = some c → s.dir.longop = none →
      let r0 := s.reachFt (cutTime s)
      let r : State := { r0 with dir := { r0.dir with cutAt := none } };
      let e := logCut c.origin c.serial c.pc true r
      r.regs.badS = [] → cutRefused r c.origin r.regs.shadow = false →
      (e.livB Reg.GLB_FT_STAT Fld.GLB_FT_STAT_SYNC = true → exec .cutatFire s = .next (startLong .cut false (swap c.wrote e))) ∧
      (e.livB Reg.GLB_FT_STAT Fld.GLB_FT_STAT_SYNC = false →
        exec .cutatFire s = .next (startLong .cut false (swap c.wrote (e.raise 481))))) ∧
    (∀ c l, s.dir.cutAt = some c → s.dir.longop = some l →
      let r := s.reachFt (cutTime s)
      exec .cutatFire s = .next { r with dir := { r.dir with cutAt := some { c with due := true } } }) ∧
    (∀ wrote, (exchange wrote s).regs.active = s.regs.shadow ∧ (exchange wrote s).regs.shadow = s.regs.active)

/-- R73: when the copy of a cut completes, with no completion of a host request waiting to be taken and no CUTAT due, the Shadow Set
is a full copy of the Active Set, and no long operation is in progress any more: GLB_DIRSTAT.BUSY reads 0.

R57 to R59: 2 ms after its start a long operation other than a cut is given up: a take whose instruction waits for it ends
with OVERRUN; another take goes on, and the time does not count against its limit; a CUTAT that came due in the meantime
(`dueCut`) then makes its swap. -/
def Obligations.LongOperationsEnd : Prop :=
  (∀ (s : State) (l : LongOp), s.dir.longop = some l → l.kind = .cut → s.eng.io.ready = [] → s.dir.cutAt.all (fun c => !c.due) = true →
     ∃ u, exec .cutCopyDone s = .next u ∧ u.regs.active = s.regs.active ∧ (∀ a, u.shd a = u.act a) ∧
       u.dir.longop = none ∧ bit (u.rd Reg.GLB_DIRSTAT).toNat 0 = false ∧ u.eng = s.eng ∧ u.dp = s.dp) ∧
  (∀ (s : State) (l : LongOp), s.dir.longop = some l → l.kind ≠ .cut →
     let r := overrun l.kind ((s.reach (l.started + 2000000)).setLong none)
     (∀ t, r.dir.take = some t → l.byTake = true →
       exec .longopOverrun s = .next (stallTake (dueCut (endTake .overrun r)))) ∧
     (∀ t, r.dir.take = some t → l.byTake = false → exec .longopOverrun s =
       .next (stallTake (dueCut (r.setTake (some { t with free := t.free + (r.now - l.started) }))))) ∧
     (r.dir.take = none → exec .longopOverrun s = .next (stallTake (dueCut r))) ∧ r.dir.longop = none)

/-- R78: a CUTAT whose later check fails makes no swap, is no longer pending, and leaves both sets as they are; it logs a
CUTAT_CANCEL entry with FAILED = 1 and raises CUT_FAIL. -/
def Obligations.CutatThatFailsItsCheck : Prop :=
  ∀ (s : State) (c : CutAt), s.dir.cutAt = some c → s.dir.longop = none →
    let r0 := s.reachFt (cutTime s)
    let r : State := { r0 with dir := { r0.dir with cutAt := none } };
    r.regs.badS ≠ [] ∨ cutRefused r c.origin r.regs.shadow = true →
    ∃ u, exec .cutatFire s = .next u ∧
      u = (r.log { origin := 63, kind := 6, failed := true, new := r.liv64 Reg.GLB_CUTTIME_LO }).raise 482 ∧
      u.regs.active = s.regs.active ∧ u.regs.shadow = s.regs.shadow ∧ u.dir.cutAt = none ∧
      u.dir.longop = none ∧ bit (u.rd Reg.GLB_DIRSTAT).toNat 2 = false

/-! ## The slate log -/

/-- R83: TIME never decreases. An appended entry stands in the slot of its number, HEAD modulo 2^20; word 0 is fabric
time where that is not below the previous TIME, else the previous TIME plus 1; HELD tells which, and TSYNC is the value
of GLB_FT_STAT.SYNC. Every other slot keeps what it holds. -/
def Obligations.SlateTimeNeverDecreases : Prop :=
  ∀ (s : State) (e : Entry), s.slate.time < 2 ^ 64 - 1 → s.ft < 2 ^ 64 →
    let u := slatePut e s
    let held := decide (s.ft < s.slate.time)
    s.slate.time ≤ u.slate.time ∧ u.slate.time = (if held then s.slate.time + 1 else s.ft) ∧
    (∃ w0 w1 w2 w3 w4 chain,
      Tab.find u.slate.slots (s.head % 2 ^ 20) = some (some (.entry w0 w1 w2 w3 w4 chain)) ∧
      w0.toNat = u.slate.time ∧ bit w1.toNat 18 = held ∧
      bit w1.toNat 16 = s.livB Reg.GLB_FT_STAT Fld.GLB_FT_STAT_SYNC ∧ u.slate.chain = chain) ∧
    (∀ k, k ≠ s.head % 2 ^ 20 → Tab.find u.slate.slots k = Tab.find s.slate.slots k)

/-- R85: the idle timer appends a CHECKPOINT 10 s after the oldest uncovered entry, after which no entry is uncovered and a
signature is due; a finished signature fills the slots that follow its entry, leaves the queue of signatures and is counted.

R87: a write of GLB_SLATE_RD from RD to HEAD moves RD, unless its own LIVE entry has moved RD on past the value; any other
leaves RD, records NEW equal to OLD and sets RDREJ.

R147, R148: a write of GLB_DRAINCTL logs its LIVE entry and writes the register; where HOLD rises it notes the instant, and
where HOLD is 0 it lets all that was held go on (`unhold`); LIMIT ms of HOLD without DRAINED raise DRAIN_LATE, and the instant
is noted no more. -/
def Obligations.SlateCommands : Prop :=
  ((∀ (s : State) (k : Nat), s.slate.uncovered = some k →
     ∃ u, exec .checkpointIdleTimer s = .next u ∧ u = checkpoint (s.reach (k + 10000000000)) ∧
       u.slate.uncovered = none ∧ u.slate.count = 0 ∧ u.slate.signing ≠ []) ∧
   (∀ (s : State) (n : Nat) (l : List Nat), s.slate.signing = n :: l →
     let k := fillSignature n s
     exec .checkpointSignDone s = .next (({ k with slate := { k.slate with signing := l } } : State).bump Reg.SEC_SIGCNT)) ∧
   (∀ (s : State) (t : Take) (w : Nat) (v : Word), AtLive slateRdRule s t w Reg.GLB_SLATE_RD v →
     let rd := (s.liv Reg.GLB_SLATE_RD).toNat
     let takes := (v.toNat + 2 ^ 32 - rd) % 2 ^ 32 ≤ (s.head + 2 ^ 32 - rd) % 2 ^ 32
     let k := logLive t Reg.GLB_SLATE_RD v s
     (takes → rdTakes k v.toNat = true → exec .slateRdWrite s = .next (retireMark t (k.setLiv Reg.GLB_SLATE_RD v))) ∧
     (takes → rdTakes k v.toNat = false → exec .slateRdWrite s = .next (retireMark t k)) ∧
     (¬takes → exec .slateRdWrite s = .next (retireMark t
       ((logLive t Reg.GLB_SLATE_RD (s.liv Reg.GLB_SLATE_RD) s).setLivF Reg.GLB_SLATE_STAT Fld.GLB_SLATE_STAT_RDREJ 1))))) ∧
  ((∀ (s : State) (t : Take) (w : Nat) (v : Word), AtLive drainRule s t w Reg.GLB_DRAINCTL v →
     ∃ act, exec .drainHoldWrite s = .next (liveDone t Reg.GLB_DRAINCTL v act s) ∧
       ∀ k : State, let p := (plainEffect s t Reg.GLB_DRAINCTL v).act k
         (p.livB Reg.GLB_DRAINCTL Fld.GLB_DRAINCTL_HOLD = true → k.livB Reg.GLB_DRAINCTL Fld.GLB_DRAINCTL_HOLD = false →
           act k = { p with rst := { p.rst with holdAt := some p.now } }) ∧
         (p.livB Reg.GLB_DRAINCTL Fld.GLB_DRAINCTL_HOLD = true → k.livB Reg.GLB_DRAINCTL Fld.GLB_DRAINCTL_HOLD = true →
           act k = p) ∧
         (p.livB Reg.GLB_DRAINCTL Fld.GLB_DRAINCTL_HOLD = false →
           act k = settle (unhold { p with rst := { p.rst with holdAt := none } }))) ∧
   (∀ (s : State) (k : Nat), s.rst.holdAt = some k → drainLimit s ≠ 0 →
     let r := s.reach (k + drainLimit s)
     (drainStat r % 2 = 0 → exec .drainLate s = .next (State.raise { r with rst := { r.rst with holdAt := none } } 486)) ∧
     (drainStat r % 2 = 1 → exec .drainLate s = .next r)))

/-! ## Counters, upkeep, clocks -/

/-- R584, R587: a write of PC_CTL or of PC_ALL logs its LIVE entry, writes the RUN bits of its unit, or of every unit for PC_ALL
with START or STOP, and then does the copy (SNAP) and the clearing (CLR) that the value asks for; STOP prevails over START. -/
def Obligations.CounterCommands : Prop :=
  (∀ (s : State) (t : Take) (w a : Nat) (v : Word),
    let u := (a - 0x780000) / 0x200
    let done : Answer := .next (liveDone t a v (fun s =>
      pcAct u (bit v.toNat 9) (bit v.toNat 10) (pcRun u v.toNat s)) s)
    (AtLive (pcCtlRule (fun v => !bit v.toNat 9 && !bit v.toNat 10)) s t w a v → exec .pcCtlWrite s = done) ∧
    (AtLive (pcCtlRule (fun v => bit v.toNat 9)) s t w a v → exec .pcSnap s = done) ∧
    (AtLive (pcCtlRule (fun v => bit v.toNat 10)) s t w a v → exec .pcClear s = done)) ∧
  (∀ (s : State) (t : Take) (w : Nat) (v : Word) (i : Nat), AtLive (pcAllRule (fun v => bit v.toNat i)) s t w Reg.PC_ALL v →
    let done : Answer := .next (liveDone t Reg.PC_ALL v (fun s => forUpto 74 (fun u s =>
      pcAct u (bit v.toNat 2) (bit v.toNat 3)
        (if bit v.toNat 1 then pcRun u 0 s else if bit v.toNat 0 then pcRun u 0x1FF s else s)) s) s)
    (i = 0 → exec .pcAllStart s = done) ∧ (i = 1 → exec .pcAllStop s = done) ∧ (i = 2 → exec .pcAllSnap s = done) ∧
    (i = 3 → exec .pcAllClear s = done))

/-- R578, R579: a counter that adds `k` wraps in 48 bits, sets its OVF bit when it does, and changes no word but its own
two and the OVF word of its unit. -/
def Obligations.CounterAddsAndOverflows : Prop :=
  ∀ (s : State) (u c k : Nat), s.regs.canon = true → u < 74 → c < perfCounters u → k < 2 ^ 48 →
    s.liv64 (Reg.PC_VAL_LO u c) < 2 ^ 48 →
    let r := perfAdd u c k s
    r.liv64 (Reg.PC_VAL_LO u c) = (s.liv64 (Reg.PC_VAL_LO u c) + k) % 2 ^ 48 ∧
    (2 ^ 48 ≤ s.liv64 (Reg.PC_VAL_LO u c) + k → bit (r.liv (Reg.PC_OVF u)).toNat (1 + c) = true) ∧
    (s.liv64 (Reg.PC_VAL_LO u c) + k < 2 ^ 48 → r.liv (Reg.PC_OVF u) = s.liv (Reg.PC_OVF u)) ∧
    (∀ a, a ≠ Reg.PC_VAL_LO u c → a ≠ Reg.PC_VAL_LO u c + 4 → a ≠ Reg.PC_OVF u → r.liv a = s.liv a) ∧ OnlyLive s r

/-- R566: a pass of the configuration scrub ends 1 ms after the last one, counts each corrected word and takes up each
uncorrectable one; a pass of the key cache ends KPASS ms after the last one, counts what it corrected, and counts and logs each
entry that it reads again; the Drift scrub reads the next 512 B unit at its place in the pass, counts a corrected error and takes
up an uncorrectable one, and its position advances by one and starts afresh with a new pass.

R526, R567: the Drift scrub is put off at level 1 and above until its limit; at its limit a deferred re-adaptation, scrub or
sweep runs. A spared row leaves one spare row fewer and one used more, sets SPARELOW by their number, and raises DEV_ERR; with
none left nothing happens.

R564, R565: an uncorrectable error of a word of the Active or Shadow Set joins the bad words of its set once, and neither
set's values change. -/
def Obligations.Upkeep : Prop :=
  ((∀ (s : State) (fs : List (Bool × Nat × Bool)), ∃ k u, exec (.configScrub fs) s = .next u ∧
     k = s.reach (s.scrub.cfg + 1000000) ∧
     u = (fs.filter (fun e => isShadowed e.2.1)).foldl (fun s e => if e.2.2 then configUe e.1 e.2.1 s
       else s.bump Reg.GLB_CFG_CECCCNT) { k with scrub := { k.scrub with cfg := k.now } }) ∧
   (∀ (s : State) (n : Nat) (bad : List Nat),
     ∃ k, k = s.reach (s.scrub.key + max 1 (bits (s.act Reg.GLB_SCRUB_CFG).toNat 8 8) * 1000000) ∧
     exec (.keyCacheScrub n bad) s =
       .next (bad.foldl (fun s i => errLog (i % 2 ^ 24 + 31 * 2 ^ 24) 1 3 (s.bump Reg.GLB_UECC_CNT))
         (({ k with scrub := { k.scrub with key := k.now } } : State).bump Reg.GLB_CECC_CNT n))) ∧
   (∀ (s : State) (fixed : Bool) (ue : Option DriftUe),
     let x := max s.now (s.scrub.pass + dPos s * dPass s / 2 ^ 24)
     let k := scrubUnit (s.reach x)
     let k := if fixed then k.bump Reg.GLB_DRIFT_CECCCNT else k
     (fcstLevel s = 0 ∨ scrubLimit s ≤ x → exec (.driftScrub fixed ue) s = .next (ue.elim k (fun u => driftBad u k))) ∧
     (1 ≤ fcstLevel s → x < scrubLimit s → exec (.driftScrub fixed ue) s = .next s)) ∧
   (∀ s : State, let k := driftMove false 512 s
     (dPos s + 1 < 2 ^ 24 → scrubUnit s = k.setLivN Reg.GLB_SCRUB_DPOS (dPos s + 1)) ∧
     (2 ^ 24 ≤ dPos s + 1 → scrubUnit s = (({ k with scrub := { k.scrub with
       pass := max k.now (k.scrub.pass + dPass k) } } : State).setLivN Reg.GLB_SCRUB_DPOS 0).bump Reg.GLB_SCRUB_DCNT)) ∧
   (∀ s : State, let w := (s.liv Reg.GLB_DRIFT_SPARE).toNat
     (0 < w % 2 ^ 16 → exec .driftRowSpare s = .next (((s.setLivN Reg.GLB_DRIFT_SPARE
       (w % 2 ^ 16 - 1 + (w / 2 ^ 16 + 1) % 2 ^ 16 * 2 ^ 16)).setLivF Reg.GLB_ERR_STAT Fld.GLB_ERR_STAT_SPARELOW
         (b2n (decide (w % 2 ^ 16 - 1 < 64)))).devErr Fld.GLB_ERR_STAT_DSPARE)) ∧
     (w % 2 ^ 16 = 0 → exec .driftRowSpare s = .next s)) ∧
   (∀ (s : State) (x : Sweep) (l : List Sweep), s.pow.fcst.sweeps = x :: l →
     exec (.deferLimitExpire .sweep) s = .next (sweep (s.reach (x.at_ + swDef s)))) ∧
   (∀ s : State, exec (.deferLimitExpire .scrub) s = .next (s.reach (scrubLimit s))) ∧
   (∀ (s : State) (n : Fin 24) (l : Fin 9) (k : Nat),
     s.pow.fcst.due.find? (fun e => e.1 == n.val && e.2.1 == l.val) = some (n.val, l.val, k) →
     exec (.deferLimitExpire (.readapt n l)) s = .next (releaseDue (s.reach (k + raDef s))))) ∧
  (∀ (s : State) (shadow : Bool) (a : Nat), let u := configUe shadow a s
     u.regs.active = s.regs.active ∧ u.regs.shadow = s.regs.shadow ∧
     (shadow = false → u.regs.badS = s.regs.badS ∧ a ∈ u.regs.badA ∧ ∀ b, b ∈ u.regs.badA ↔ b = a ∨ b ∈ s.regs.badA) ∧
     (shadow = true → u.regs.badA = s.regs.badA ∧ a ∈ u.regs.badS ∧ ∀ b, b ∈ u.regs.badS ↔ b = a ∨ b ∈ s.regs.badS) ∧
     (shadow = false → a ∈ s.regs.badA → u = s) ∧ (shadow = true → a ∈ s.regs.badS → u = s))

/-- R568, R569: the loss of a watched and valid reference clears its valid bit and raises DEV_ERR with its cause. For FREFCLK
synchronous reads 1. For a REFCLK in use a watched other one that is valid takes over, with a DEVICE entry; with neither valid
NOREF is set. A reference that has stayed within limits for 1 ms is valid again, and takes over from a REFCLK that is lost.
GLB_CLK_CMD with GO stores SEL, selects that REFCLK if it is valid and sets REJ if it is not; a 1 in REJ clears it first.

R249, R252: a write of GLB_FT_SET_HI on a source loads fabric time at once, or with PPSEN keeps it for the next edge of PPS_IN;
on a follower it is stored only. An edge of PPS_IN on a source with PPSEN loads the time that waits, or slews toward the whole
second with a rate within 100 ppm; elsewhere it is noted. 1.1 s without an edge clear PPSOK. R107: each whole second gives a pulse on PPS_OUT.

R249, R252: at the end of a follower's period an exchange that has had no valid response is a miss, the eighth miss clears SYNC,
and a parent port that is UP sends a new request with the other TAG. -/
def Obligations.ClocksAndFabricTime : Prop :=
  ((∀ s : State, watched s 2 = true → s.livB Reg.GLB_CLK_STAT Fld.GLB_CLK_STAT_FOK = true →
     exec (.refclkLoss 2) s = .next (((s.setLivF Reg.GLB_CLK_STAT Fld.GLB_CLK_STAT_FOK 0).setLivF
       Reg.GLB_CLK_STAT Fld.GLB_CLK_STAT_FSYN 1).devErr Fld.GLB_ERR_STAT_FREF)) ∧
   (∀ (s : State) (r : Fin 3), r.val < 2 → watched s r.val = true → s.livB Reg.GLB_CLK_STAT (refOk r.val) = true →
     let k := s.setLivF Reg.GLB_CLK_STAT (refOk r.val) 0
     let other := k.livB Reg.GLB_CLK_STAT (refOk (1 - r.val))
     (other = true → watched k (1 - r.val) = true → refUse k = r.val → exec (.refclkLoss r) s =
       .next (((k.setLivF Reg.GLB_CLK_STAT Fld.GLB_CLK_STAT_USE (1 - r.val)).devErr (refCause r.val)).logDevice 511)) ∧
     (other = true → (watched k (1 - r.val) = false ∨ refUse k ≠ r.val) →
       exec (.refclkLoss r) s = .next (k.devErr (refCause r.val))) ∧
     (other = false → exec (.refclkLoss r) s =
       .next ((k.setLivF Reg.GLB_ERR_STAT Fld.GLB_ERR_STAT_NOREF 1).devErr (refCause r.val)))) ∧
   (∀ (s : State) (r : Fin 3), watched s r.val = true → s.livB Reg.GLB_CLK_STAT (refOk r.val) = false →
     let k := (s.advance 1000000).setLivF Reg.GLB_CLK_STAT (refOk r.val) 1
     let moves : Prop := refUse k ≠ r.val ∧ k.livB Reg.GLB_CLK_STAT (refOk (1 - r.val)) = false
     (r.val = 2 → exec (.refclkRevalid r) s = .next (k.setLivF Reg.GLB_CLK_STAT Fld.GLB_CLK_STAT_FSYN 0)) ∧
     (r.val ≠ 2 → moves → exec (.refclkRevalid r) s =
       .next ((k.setLivF Reg.GLB_CLK_STAT Fld.GLB_CLK_STAT_USE r.val).logDevice 511)) ∧
     (r.val ≠ 2 → ¬moves → exec (.refclkRevalid r) s = .next k)) ∧
   (∀ (s : State) (t : Take) (w : Nat) (v : Word), AtLive clkCmdRule s t w Reg.GLB_CLK_CMD v →
     exec .clkSelect s = .next (liveDone t Reg.GLB_CLK_CMD v (fun k =>
       let k := k.setLivF Reg.GLB_CLK_CMD Fld.GLB_CLK_CMD_SEL (v.toNat % 2)
       let k := if bit v.toNat 2 then k.setLivF Reg.GLB_CLK_CMD Fld.GLB_CLK_CMD_REJ 0 else k
       if k.livB Reg.GLB_CLK_STAT (if v.toNat % 2 = 0 then Fld.GLB_CLK_STAT_AOK else Fld.GLB_CLK_STAT_BOK) then
         k.setLivF Reg.GLB_CLK_STAT Fld.GLB_CLK_STAT_USE (v.toNat % 2)
       else k.setLivF Reg.GLB_CLK_CMD Fld.GLB_CLK_CMD_REJ 1) s))) ∧
  ((∀ (s : State) (t : Take) (w : Nat) (v : Word), AtLive ftSetRule s t w Reg.GLB_FT_SET_HI v →
     ∃ act, exec .ftSetWrite s = .next (liveDone t Reg.GLB_FT_SET_HI v act s) ∧
       ∀ k : State, let x := (k.setLiv Reg.GLB_FT_SET_HI v).liv64 Reg.GLB_FT_SET_LO
         (isSource k = false → act k = k.setLiv Reg.GLB_FT_SET_HI v) ∧
         (isSource k = true → ppsEn k = true → (act k).dp.time.waitLoad = some x ∧ (act k).ft = k.ft) ∧
         (isSource k = true → ppsEn k = false → (act k).ft = x % 2 ^ 64 ∧ (act k).dp.time.loaded = true ∧
           (act k).dp.time.waitLoad = none)) ∧
   (∀ (s : State) (x : Nat), isSource s = true → ppsEn s = true → s.dp.time.waitLoad = some x →
     ∃ u, exec .ppsInEdge s = .next u ∧ u.ft = x % 2 ^ 64 ∧ u.dp.time.waitLoad = none ∧ u.dp.time.loaded = true) ∧
   (∀ s : State, isSource s = true → ppsEn s = true → s.dp.time.waitLoad = none → s.dp.time.loaded = true →
     ∃ u, exec .ppsInEdge s = .next u ∧ u.ft = s.ft ∧ u.dp.time.slew = toSecond s.ft ∧ u.dp.time.rate.natAbs ≤ 100000 ∧
       u.dp.time.ppsAt = some s.now) ∧
   (∀ s : State, (isSource s && ppsEn s) = false → exec .ppsInEdge s = .next (sourceSync
     ((s.setLivF Reg.GLB_FT_STAT Fld.GLB_FT_STAT_PPSOK 1).onTime (fun r => { r with ppsAt := some s.now })))) ∧
   (∀ (s : State) (k : Nat), s.dp.time.ppsAt = some k → s.livB Reg.GLB_FT_STAT Fld.GLB_FT_STAT_PPSOK = true →
     exec .ppsokExpire s = .next (sourceSync ((s.reach (k + 1100000000)).setLivF Reg.GLB_FT_STAT Fld.GLB_FT_STAT_PPSOK 0))) ∧
   (∀ s : State, let x := (s.ft / 1000000000 + 1) * 1000000000
     exec .ppsOutSecond s = .next ((s.reachFt x).emit (.pps x))) ∧
   (∀ s : State, let n := (parentPort s).1
     let f := (parentPort s).2
     let r := s.reach (s.dp.time.at_ + 2 ^ min 10 (s.actF Reg.GLB_FT_CTL Fld.GLB_FT_CTL_PERIOD) * 1000)
     let r := r.onTime (fun x => { x with at_ := r.now })
     let m := r.dp.time.misses + 1
     let missed := r.onTime (fun x => { x with misses := m, good := 0 })
     let k := if (r.lnk n f).tsT1.isSome || (r.lnk n f).tsReq then (if 8 ≤ m then syncClear missed else missed) else r;
     isSource s = false → n < 24 →
     (fabPort k.act n f = true → k.flState n f = 3 → exec .timeSyncPeriod s =
       .next (k.onLnk n f (fun l => { l with tsReq := true, tsTag := !l.tsTag, tsT1 := none }))) ∧
     (¬(fabPort k.act n f = true ∧ k.flState n f = 3) → exec .timeSyncPeriod s = .next k)))

/-! ## Resets and boot -/

/-- What the machine is at power-on (R130, R134, R594): every register at its Reset value, with POWERON alone in
GLB_RSTCAUSE; no take, no mailbox word, no entry of the slate log, no packet; boot at its first step. That the straps are
low and the OTP is blank is the model's choice (log entries 5 and 6). -/
def Obligations.ResetState : Prop :=
  (∀ a, State.reset.act a = resetVal a ∧ State.reset.shd a = resetVal a) ∧
  (∀ a, a ≠ Reg.GLB_RSTCAUSE → State.reset.liv a = resetVal a) ∧ State.reset.liv Reg.GLB_RSTCAUSE = 1 ∧
  State.reset.pending = [] ∧ State.reset.dir.take = none ∧ State.reset.dir.longop = none ∧
  State.reset.dir.cutAt = none ∧ (∀ m, State.reset.mb m = {}) ∧ State.reset.slate.slots = [] ∧ State.reset.dp = {} ∧
  State.reset.eng = {} ∧ State.reset.pow = {} ∧ State.reset.boot.step = 1 ∧ State.reset.latches = []

/-- The canonical form holds at reset. -/
def Obligations.ResetIsCanonical : Prop := State.reset.canon = true

/-- R127, R128, R130, R134, R135: COLD_RST_N low, or a supply out of range, leaves the state of a cold reset: every register at
Reset with the cause alone in GLB_RSTCAUSE, no word in a mailbox, no take, packet or entry of the slate log, and what the engines
and the power control hold at its value of reset; what waits in the queue, the time and what has been sent out stay. A cause that
comes while the other one already holds the reset is noted: rails out of range become the cause. The release samples the straps and
starts the boot at step 1.

R112, R117: the thermal trip latches THERMTRIP_N and trips every slot that is in RAMP, ON or SWITCH; a broadcast CCC makes the target
interface an I3C one, and a SETDASA for its static address gives it the dynamic one. -/
def Obligations.ColdResets : Prop :=
  (let cleared (u s : State) (cause : Word) : Prop :=
     (∀ a, u.act a = resetVal a ∧ u.shd a = resetVal a) ∧ (∀ a, a ≠ Reg.GLB_RSTCAUSE → u.liv a = resetVal a) ∧
     u.liv Reg.GLB_RSTCAUSE = cause ∧ u.mbox = [] ∧ u.dir = {} ∧ u.dp = {} ∧ u.eng = {} ∧ u.pow = {} ∧ u.slate.slots = [] ∧
     u.boot.step = 0 ∧ u.boot.readable = false ∧ u.pending = s.pending ∧ u.now = s.now ∧ u.out = s.out
   (∀ s : State, s.rst.cold = false → s.rst.rail = false →
     ∃ u, exec .coldRstAssert s = .next u ∧ cleared u s 2 ∧ u.rst.cold = true) ∧
   (∀ s : State, s.rst.cold = false → s.rst.rail = true →
     exec .coldRstAssert s = .next { s with rst := { s.rst with cold := true } }) ∧
   (∀ (s : State) (off : Bool), s.rst.cold = false →
     ∃ u, exec (.railOutOfRange off) s = .next u ∧ cleared u s 1 ∧ u.rst.rail = true ∧
       u.rst.thermtrip = (s.rst.thermtrip && !off)) ∧
   (∀ (s : State) (off : Bool), s.rst.cold = true → exec (.railOutOfRange off) s =
     .next { s.setLiv Reg.GLB_RSTCAUSE 1 with rst := { s.rst with thermtrip := s.rst.thermtrip && !off } }) ∧
   (∀ (s : State) (x : Straps), s.rst.cold = true → s.rst.rail = false → s.regs.canon = true →
     ∃ u, exec (.coldRstRelease x) s = .next u ∧ u.rst.cold = false ∧ u.boot.step = 1 ∧
       u.liv Reg.GLB_STRAP = BitVec.ofNat 32 (b2n x.spiq + 2 * x.i3ca.val + 16 * b2n x.test)) ∧
   (∀ (s : State) (x : Straps), s.rst.rail = true → s.rst.cold = false → s.regs.canon = true →
     ∃ u, exec (.railRecoveryElapse x) s = .next u ∧ u.rst.rail = false ∧ u.boot.step = 1 ∧
       u.liv Reg.GLB_STRAP = BitVec.ofNat 32 (b2n x.spiq + 2 * x.i3ca.val + 16 * b2n x.test))) ∧
  ((∀ s : State, s.rst.thermtrip = false → exec .thermtrip s = .next ((List.range 24).foldl (fun s n =>
     if spcLive s n then trip n 7 0 s else s) { s with rst := { s.rst with thermtrip := true } })) ∧
   (∀ s : State, s.rst.thermtrip = true → exec .thermtrip s = .next s) ∧
   (∀ s : State, s.rst.cold = false → s.rst.rail = false →
     exec (.i3cBroadcastCcc none) s = .next { s with rst := { s.rst with i3c := true } } ∧
     (∀ x d : Fin 128, x.val = 0x58 + s.livF Reg.GLB_STRAP Fld.GLB_STRAP_I3CA → exec (.i3cBroadcastCcc (some (x, d))) s =
       .next { s with rst := { s.rst with i3c := true, i3cDyn := some d.val } }) ∧
     (∀ x d : Fin 128, x.val ≠ 0x58 + s.livF Reg.GLB_STRAP Fld.GLB_STRAP_I3CA → exec (.i3cBroadcastCcc (some (x, d))) s =
       .next { s with rst := { s.rst with i3c := true } })))

/-- R129 to R132, R617: WARM_RST_N low drops the executing take, any long operation and a pending CUTAT, and keeps the sets and
the mailboxes for now. Once no signature and no OTP command is in progress the reset acts: the mailboxes are empty, the engines and
the core start afresh, the slate log, the slot controllers and the key slots stay, and of the registers those that `warmKeeps` and
`keptInStn` list stay and the sets take Reset elsewhere; while the pin is low it is held, else the boot restarts. The release of the pin
restarts the boot at step 4, or at none on a device that sampled STRAP_TEST high. GLB_RSTCMD with OP = WARM begins one after it has
retired, with its origin in GLB_RSTCAUSE.

R133: a station reset is accepted when every port of the station is disabled and none is in progress, and drives PERST_N low; else SREJ
is set. Once its ingress buffer and its queues are empty it completes: its live words but those kept take Reset, all others but
GLB_RSTCMD stay, and both sets stay. -/
def Obligations.WarmAndStationResets : Prop :=
  ((∀ s : State, s.rst.cold = false → s.rst.rail = false → s.rst.warm = .idle →
     ∃ u, exec .warmRstAssert s = .next u ∧ u.dir.take = none ∧ u.dir.longop = none ∧ u.dir.cutAt = none ∧
       u.rst.warm = .draining ∧ u.rst.warmPin = true ∧ u.boot.step = 0 ∧ u.mbox = s.mbox ∧ u.regs.active = s.regs.active ∧
       u.regs.shadow = s.regs.shadow) ∧
   (∀ s : State, s.rst.warm = .draining → s.slate.signing = [] → s.sec.cmd = none → s.boot.retry = none →
     s.regs.canon = true →
     ∃ u, exec .warmResetState s = .next u ∧ u.mbox = [] ∧ u.slate = s.slate ∧ u.pow.spc = s.pow.spc ∧
       u.dp.units = [] ∧ u.dp.links = [] ∧ u.eng = {} ∧ u.sec.slots = s.sec.slots ∧
       (s.rst.warmPin = true → u.rst.warm = .held) ∧ (s.rst.warmPin = false → u.rst.warm = .idle ∧ u.boot.step =
         if s.livB Reg.GLB_STRAP Fld.GLB_STRAP_TEST then 10 else 4) ∧
       (∀ a, (isStnWord a && keptInStn a) = true → u.act a = s.act a ∧ u.shd a = s.shd a) ∧
       (∀ a, (isStnWord a && keptInStn a) = false → u.act a = resetVal a ∧ u.shd a = resetVal a) ∧
       (∀ a, warmKeeps a = true → a ≠ Reg.GLB_RSTCAUSE → u.liv a = s.liv a)) ∧
   (∀ s : State, s.rst.warm = .held → s.boot.retry = none → ∃ u, exec .warmRstRelease s = .next u ∧
     u.boot.step = (if s.livB Reg.GLB_STRAP Fld.GLB_STRAP_TEST then 10 else 4) ∧
     u.boot.copyB = false ∧ u.rst.warm = .idle ∧ u.rst.warmPin = false ∧ u.slate = s.slate ∧ u.mbox = s.mbox) ∧
   (∀ s : State, s.rst.warm ≠ .held →
     exec .warmRstRelease s = .next { s with rst := { s.rst with warmPin := false } }) ∧
   (∀ (s : State) (t : Take) (w : Nat) (v : Word), AtLive rstWarmRule s t w Reg.GLB_RSTCMD v →
     let k := countInstr t (logLive t Reg.GLB_RSTCMD v s)
     exec .rstcmdWarm s = .next (warmBegin ((((rstcmdWord v k).setLivF Reg.GLB_RSTCAUSE Fld.GLB_RSTCAUSE_WARMTAKE 1)).setLivF
       Reg.GLB_RSTCAUSE Fld.GLB_RSTCAUSE_ORIGIN t.origin)))) ∧
  ((∀ (s : State) (t : Take) (w : Nat) (v : Word), AtLive rstStnRule s t w Reg.GLB_RSTCMD v →
     ∃ act, exec .rstcmdStation s = .next (liveDone t Reg.GLB_RSTCMD v act s) ∧
       ∀ k : State, let n := fget v Fld.GLB_RSTCMD_STN
         let p := perstFall n ((rstcmdWord v k).setLivF Reg.GLB_RSTCMD Fld.GLB_RSTCMD_SBUSY 1)
         (stnResetOk k n = true → act k = { p with rst := { p.rst with station := some n } }) ∧
         (stnResetOk k n = false → act k = (rstcmdWord v k).setLivF Reg.GLB_RSTCMD Fld.GLB_RSTCMD_SREJ 1)) ∧
   (∀ (s : State) (n : Nat), s.rst.station = some n → stnEmpty s n = true → s.regs.canon = true →
     ∃ u, exec .stationResetDone s = .next u ∧ u.rst.station = none ∧ u.regs.active = s.regs.active ∧
       u.regs.shadow = s.regs.shadow ∧
       (∀ a, a ≠ Reg.GLB_RSTCMD → (inStn n a && !keptInStn a) = true → u.liv a = resetVal a) ∧
       (∀ a, a ≠ Reg.GLB_RSTCMD → (inStn n a && !keptInStn a) = false → u.liv a = s.liv a) ∧ u.mbox = s.mbox ∧
       u.eng = s.eng))

/-- R114, R135 to R140: the boot's steps in their order. STRAP_TEST stops it after step 1; step 2 opens direct reads; a self-test or a
Drift store that fails ends it, with code 0xA or 0xB; step 4 shows the spare rows; step 5 reads the reel, which is accepted or makes the boot
try again with the code of the check it fails; step 6 logs the BOOT entry with the reel's digest; step 7 puts the declaration into force
and places the first boot take, or fails with code 6; step 8 ends when the last boot take has answered OK with no CUTAT pending, and
DEV_READY rises, or fails with code 7 or 8. -/
def Obligations.BootSteps : Prop :=
  ∀ (s : State) (l u : Fin 65536) (img : Option (List Byte)),
    (s.boot.step = 1 → exec (.bootStepDone true l u img) s = .next { s with boot := { s.boot with
      step := if s.livB Reg.GLB_STRAP Fld.GLB_STRAP_TEST then 10 else 2 } }) ∧
    (s.boot.step = 2 → ∃ r, exec (.bootStepDone true l u img) s = .next r ∧ r.boot.step = 3 ∧ r.boot.readable = true) ∧
    (s.boot.step = 3 → exec (.bootStepDone true l u img) s = .next { s with boot := { s.boot with step := 4 } }) ∧
    (s.boot.step = 3 → exec (.bootStepDone false l u img) s = .next (bootFail 0xA s)) ∧
    (s.boot.step = 4 → s.regs.canon = true → ∃ r, exec (.bootStepDone true l u img) s = .next r ∧ r.boot.step = 5 ∧
      (r.liv Reg.GLB_DRIFT_SPARE).toNat = l.val + u.val * 2 ^ 16) ∧
    (s.boot.step = 4 → ∃ k, exec (.bootStepDone false l u img) s = .next (bootFail 0xB k) ∧ OnlyLive s k) ∧
    (∀ c x, s.boot.step = 5 → checkReel s img = (c, some x) → ∃ r, exec (.bootStepDone true l u img) s = .next r ∧
      r.boot.step = 6 ∧ r.boot.reel = some x) ∧
    (∀ c, s.boot.step = 5 → checkReel s img = (c, none) →
      exec (.bootStepDone true l u img) s = .next (bootRetry c (readReel img s))) ∧
    (∀ x, s.boot.step = 6 → s.boot.reel = some x → ∃ r, exec (.bootStepDone true l u img) s = .next r ∧ r.boot.step = 7 ∧
      r.slate = (s.log { kind := 7, old := x.digest / 2 ^ 64 % 2 ^ 64, new := x.digest % 2 ^ 64 }).slate) ∧
    (∀ x e, s.boot.step = 7 → s.boot.reel = some x → checkEnv x.env = some e → Tab.rises s.mbox = true →
      ∃ r, exec (.bootStepDone true l u img) s = .next r ∧ r.boot.step = 8 ∧ r.env = e ∧ r.boot.left = x.takes.tail ∧
        (r.mb 51).inq = asPacket (x.takes.headD [])) ∧
    (∀ x, s.boot.step = 7 → s.boot.reel = some x → checkEnv x.env = none →
      exec (.bootStepDone true l u img) s = .next (bootRetry 6 s)) ∧
    (s.boot.step = 8 → s.boot.answer = some 0 → s.dir.cutAt = none → ∃ r, exec (.bootStepDone true l u img) s = .next r ∧
      r.boot.step = 9 ∧ r.devReady = true) ∧
    (s.boot.step = 8 → s.boot.answer = some 0 → s.dir.cutAt ≠ none →
      exec (.bootStepDone true l u img) s = .next (bootRetry 8 s)) ∧
    (∀ c, s.boot.step = 8 → s.boot.answer = some c → c ≠ 0 → exec (.bootStepDone true l u img) s =
      .next (bootRetry 7 (s.setLivF Reg.GLB_BOOTSTAT Fld.GLB_BOOTSTAT_TAKEIDX s.boot.index)))

/-! ## Power -/

/-- R121, R122, R524: with no read-back awaited and no AVS_FAIL the next Voltage write is the value to be written again, or else the
Forecaster's choice; it comes 20 µs or more after the last, is sent, shown in FCST_VSET and awaited. A read-back within 10 mV of
FCST_VSET ends it; another, or one that is not acknowledged, makes the value due again up to three times, and then AVS_FAIL is raised and no
more is written. -/
def Obligations.VoltageWritesAndReadback : Prop :=
  (∀ (s : State) (v : Nat), s.pow.avs.dead = false → s.pow.avs.wait = false →
    ∀ c, c = Instr.avsVoltageWrite ∨ c = Instr.fcstVcoreStep →
      (s.pow.avs.again = some v → exec c s = .next (avsWrite v s)) ∧
      (s.pow.avs.again = none → vcoreChoice s = some v →
        exec c s = .next (avsWrite v (s.onAvs (fun a => { a with retries := 0 })))) ∧
      (s.pow.avs.again = none → vcoreChoice s = none → exec c s = .next s)) ∧
  (∀ (s : State) (v : Nat),
    let r := s.pow.avs.last.elim s (fun k => s.reach (k + 20000))
    avsWrite v s = (((r.onAvs (fun a => { a with set := v, last := some r.now, wait := true, again := none })).setLivN
      Reg.FCST_VSET v).emit (.avs v)) ∧
    (∀ k, s.pow.avs.last = some k → k + 20000 ≤ (avsWrite v s).now)) ∧
  (∀ (s : State) (ok : Bool) (mv : Fin 4096), s.pow.avs.wait = true →
    let v := (s.liv Reg.FCST_VSET).toNat
    let near : Prop := ok = true ∧ mv.val ≤ v + 10 ∧ v ≤ mv.val + 10
    let k := if ok then s.onAvs (fun a => { a with seen := mv.val }) else s
    (near → exec (.avsReadback ok mv) s = .next (k.onAvs (fun a => { a with wait := false, retries := 0 }))) ∧
    (¬near → s.pow.avs.retries < 3 → exec (.avsReadback ok mv) s =
      .next (k.onAvs (fun a => { a with wait := false, retries := a.retries + 1, again := some v }))) ∧
    (¬near → 3 ≤ s.pow.avs.retries → exec (.avsReadback ok mv) s =
      .next ((k.onAvs (fun a => { a with wait := false, dead := true })).raise 485))) ∧
  (∀ s : State, s.pow.avs.dead = true ∨ s.pow.avs.wait = true →
    exec .avsVoltageWrite s = .next s ∧ exec .fcstVcoreStep s = .next s)

/-- R516 to R518, R523: a rail sample comes 1 µs after the last and adds each rail's nJ to its counter, which counts whole
µJ and keeps the rest; a window ends at its instant; a sweep writes the charges of the oldest window; an evaluation comes
100 µs after the last, takes the hottest sensor and moves the level by at most one step. -/
def Obligations.ForecasterAccounts : Prop :=
  (∀ (s : State) (p0 p1 p2 p3 p4 p5 : Fin 4194304), ∃ k,
    k = (s.reach (s.pow.fcst.sampled + 1000)).onFcst (fun f => { f with
      sampled := (s.reach (s.pow.fcst.sampled + 1000)).now, segN := f.segN + 1 }) ∧
    exec (.fcstRailSample p0 p1 p2 p3 p4 p5) s = .next (railAccrue 5 p5.val (railAccrue 4 p4.val (railAccrue 3 p3.val
      (railAccrue 2 p2.val (railAccrue 1 p1.val (railAccrue 0 p0.val k))))))) ∧
  (∀ (s : State) (r e : Nat), r < 6 → s.regs.canon = true → Tab.rises s.pow.fcst.part = true →
    let u := railAccrue r e s
    u.liv64 (Reg.FCST_RAIL r 0) =
      (s.liv64 (Reg.FCST_RAIL r 0) + (Tab.get 0 s.pow.fcst.part r + e) / 1000) % 2 ^ 64 ∧
    Tab.get 0 u.pow.fcst.part r = (Tab.get 0 s.pow.fcst.part r + e) % 1000 ∧ u.pow.fcst.seg = s.pow.fcst.seg + e) ∧
  (∀ s : State, s.livB Reg.GLB_FT_STAT Fld.GLB_FT_STAT_VALID = false →
    exec .fcstWindowEnd s = .next (endWindow (s.reach (s.now + windowLeft s)))) ∧
  (∀ s : State, s.livB Reg.GLB_FT_STAT Fld.GLB_FT_STAT_VALID = true →
    exec .fcstWindowEnd s = .next (endWindow (s.reachFt (s.ft + windowLeft s)))) ∧
  (∀ (s : State) (w : Sweep) (l : List Sweep), s.pow.fcst.sweeps = w :: l → fcstLevel s = 0 →
    ∃ u, exec .fcstSweep s = .next u ∧ u = sweep s ∧ u.pow.fcst.sweeps = l) ∧
  (∀ (s : State) (hot : Fin 512), ∃ u, exec (.fcstEvaluate hot) s = .next u ∧
    let k := thermCheck hot.val (s.reach (s.pow.fcst.evalAt + 100000))
    ((nextLevel k).1 ≤ fcstLevel k + 1 ∧ fcstLevel k ≤ (nextLevel k).1 + 1 ∧ (fcstLevel k ≤ 3 → (nextLevel k).1 ≤ 3)) ∧
    ∃ r, u = releaseDue (planBits (pressCauses k != 0) r) ∧ r.pow.fcst.evalAt = k.now ∧ r.pow.fcst.seg = 0 ∧
      r.pow.fcst.segN = 0 ∧ r.pow.fcst.hot = hot.val ∧ r.pow.fcst.calm = (nextLevel k).2)

/-- R493, R494, R509, R617: a write of SPC_CMD with OP 1 to 5 logs its LIVE entry, leaves SPC_CMD at 0 and shows the outcome in CODE;
with CODE 0 the command acts: ENABLE, DISABLE, TESTOPEN, TESTCLOSE, and FEEDSEL where the feed is not in use already. A command
that is turned away changes CODE alone. -/
def Obligations.SlotPowerCommands : Prop :=
  ∀ (s : State) (t : Take) (w a : Nat) (v : Word),
    let n := stnOf a
    let load := fget v Fld.SPC_CMD_LOADW
    let feed := fget v Fld.SPC_CMD_FEED
    let done (op : Nat) (act : State → State) : Answer :=
      let code := spcCode s t.origin n op load feed
      .next (liveDone t a v (fun k =>
        let k := setSpc n Fld.SPC_STAT_CODE code (k.setLiv a 0)
        if code = 0 then act k else k) s)
    (AtLive (spcRule [1]) s t w a v → exec .spcEnable s = done 1 (spcEnable n load)) ∧
    (AtLive (spcRule [2]) s t w a v → exec .spcDisable s = done 2 (spcDisable n)) ∧
    (AtLive (spcRule [3]) s t w a v → exec .spcTestopen s = done 3 (openWin n 1)) ∧
    (AtLive (spcRule [4]) s t w a v → exec .spcTestclose s = done 4 (closeWin n 1)) ∧
    (AtLive (spcRule [5]) s t w a v → exec .spcFeedsel s = done 5 (fun k =>
      if spcStat k n Fld.SPC_STAT_FEED = feed then k else enterSwitch n feed k))

/-- R492, R498, R499, R501, R508: the evaluation step comes 1 µs after the last; presence that has held a new level is
taken; a feed becomes valid or invalid and what waits on it follows; a switchover goes from the old gate's turn-off
through 2 µs of dead time to the drive of the new gate, and ends when that is fully on.

R496, R497, R500, R507, R510, R511: power-good rises once PGCNT has counted PGDLY; PERST_N rises PERSTDLY later where the station
drives it (`perstRise`); the end of a retry's wait brings the next ramp; a DISABLE's wait turns the slot off; low VOUT takes power-good away; RETRIES clear 10 s, and the capture windows close 250
ms, after power-good rose; the means are written after 1,000 steps. -/
def Obligations.SlotPowerProgress : Prop :=
  (∀ (s : State) (n : Fin 24) (m : SpcSample),
     let x := s.spc n.val
     exec (.spcEvaluationStep n m) s = .next (spcStep n.val m (s.reach (x.at_ + 1000))) ∧
     (∀ here, prsntInput s n.val = true → here ≠ (spcStat s n.val Fld.SPC_STAT_PRSNT == 1) →
       exec (.spcPresenceChange n here) s = .next (presence n.val here s)) ∧
     (∀ k : Fin 2, feedValid s n.val k.val = false →
       exec (.spcFeedValid n k) s = .next (feedFound n.val (setValid n.val k.val true s))) ∧
     (∀ k : Fin 2, feedValid s n.val k.val = true →
       exec (.spcFeedInvalid n k) s = .next (feedLost n.val k.val (setValid n.val k.val false s))) ∧
     (spcState s n.val = 2 → exec (.spcGateFullyOn n) s = .next (gateFull n.val s)) ∧
     (spcState s n.val = 4 → x.sw = .driving → exec (.spcGateFullyOn n) s = .next (gateFull n.val s)) ∧
     (∀ y, x.sw = .pulling y →
       exec (.spcOffConfirm n) s = .next (s.onSpc n.val (fun z => { z with sw := .dead y (s.now + 2000) }))) ∧
     (∀ y t, x.sw = .dead y t → exec (.spcDeadTimeEnd n) s =
       .next (driveGate n.val y ((s.reach t).onSpc n.val (fun z => { z with sw := .driving })))) ∧
     (∀ y, autoFeed s n.val = some y → exec (.spcAutoret n) s =
       .next (enterSwitch n.val y (s.reach ((feedOf x y).validAt + 1000000000))))) ∧
  (∀ (s : State) (n : Fin 24),
     let x := s.spc n.val
     (spcState s n.val = 3 → x.full = true → x.disAt = none → curveIdle s n.val = true → x.low < 2 →
       spcStat s n.val Fld.SPC_STAT_PG = 0 → exec (.spcPgAssert n) s = .next (pgUp n.val
         ((s.reach (s.now + (pgDly s n.val - x.pgcnt) * 1000)).onSpc n.val (fun z => { z with pgcnt := pgDly s n.val })))) ∧
     (spcStat s n.val Fld.SPC_STAT_PG = 1 → perstHeld s n.val = false → x.disAt = none →
       exec (.spcPerstRelease n) s =
         .next (perstRise n.val (s.reach (x.pgAt + perstDly s n.val)))) ∧
     (∀ t, x.disAt = some t → exec (.spcDisableWaitEnd n) s = .next (disableEnd n.val (s.reach t))) ∧
     (spcStat s n.val Fld.SPC_STAT_PG = 1 → exec (.spcVoutLow n) s = .next (pgDown n.val s)) ∧
     (∀ t, spcState s n.val = 5 → x.retryAt = some t →
       exec (.spcRetryWaitEnd n) s = .next (retryNow n.val (s.reach t))) ∧
     (spcStat s n.val Fld.SPC_STAT_PG = 1 → exec (.spcRetriesReset n) s =
       .next (setSpc n.val Fld.SPC_STAT_RETRIES 0 (s.reach (x.pgAt + 10000000000)))) ∧
     (spcStat s n.val Fld.SPC_STAT_PG = 1 → exec (.spcCapWindowClose n) s =
       .next (closeRuns n.val (s.reach (x.pgAt + 250000000)))) ∧
     (x.sums.n = 1000 → ∃ u, exec (.spcMeterUpdate n) s = .next u ∧ u = meterUpdate n.val s ∧
       (s.canon = true → (u.liv (Reg.SPC_P n.val)) = BitVec.ofNat 32 (x.sums.p / 1000))))

/-- R503 to R507: a trip by curve point, by reverse current, by a late ramp or by the fast comparator, each with its cause;
a trip turns both gates off, takes power-good low, leaves PERST_N not high, and leads to RETRYWAIT while retries are left and the cause
is one that retries, else to LOCKOUT.

R494, R497, R509: an accepted ENABLE enters QUAL with its load claimed and RETRIES zero; an accepted DISABLE enters OFF
at once from any state but ON, with no load claimed and power-good low; from ON PERST_N is no longer high and OFF is 100 µs away. -/
def Obligations.SlotTrips : Prop :=
  ((∀ (s : State) (n : Fin 24) (m : SpcSample), spcLive s n.val = true →
     (∀ k : Fin 8, ptActs s n.val k.val = true →
       exec (.spcCurveTrip n k m) s = .next (trip n.val 1 k.val (takeSpcSample n.val m s))) ∧
     exec (.spcReverseTrip n m) s = .next (trip n.val 4 0 (takeSpcSample n.val m s)) ∧
     (∀ t, (s.spc n.val).drive = some t → (s.spc n.val).full = false →
       exec (.spcRampTimeout n) s = .next (trip n.val 3 0 (s.reach (t + rampMax s n.val)))) ∧
     (mode1 s n.val = true → exec (.spcFastTrip n m) s = .next (spcStep n.val m
       ((s.reach ((s.spc n.val).at_ + 1000)).onSpc n.val (fun z => { z with fast := true }))))) ∧
   (∀ (s : State) (n cause point : Nat), n < 24 → cause < 16 → point < 8 → s.canon = true → Tab.rises s.pow.spc = true →
     let u := trip n cause point s
     (u.spc n).drive = none ∧ (u.spc n).full = false ∧ (u.spc n).perst ≠ .high ∧ spcStat u n Fld.SPC_STAT_PG = 0 ∧
     spcStat u n Fld.SPC_STAT_TRIPPED = 1 ∧
     (cause ≤ 3 ∧ spcStat s n Fld.SPC_STAT_RETRIES < spcCfg s n Fld.SPC_CFG_RETRYMAX → spcState u n = 5) ∧
     (¬(cause ≤ 3 ∧ spcStat s n Fld.SPC_STAT_RETRIES < spcCfg s n Fld.SPC_CFG_RETRYMAX) → spcState u n = 7))) ∧
  (∀ (s : State) (n load : Nat), n < 24 → load < 2 ^ 12 → s.canon = true → Tab.rises s.pow.spc = true →
     (let u := spcEnable n load s
      spcState u n = 1 ∧ slotClaim u n = load ∧ spcStat u n Fld.SPC_STAT_RETRIES = 0) ∧
     (spcState s n ≠ 3 → spcState (spcDisable n s) n = 0 ∧ slotClaim (spcDisable n s) n = 0 ∧
       spcStat (spcDisable n s) n Fld.SPC_STAT_PG = 0) ∧
     (spcState s n = 3 → spcState (spcDisable n s) n = 3 ∧ ((spcDisable n s).spc n).perst ≠ .high ∧
       ((s.spc n).disAt = none → ((spcDisable n s).spc n).disAt = some (s.now + 100000))))

/-! ## Protection and security -/

/-- R538: whatever the slots' masks say, an identity below 48 cannot write a word of slot 76 or 77, only origins 49 and 51
write SEC_OTP_CMD, and an identity below 48 cannot read another mailbox's words.

R536, R539: with the unit disabled, or with the slot's own enable off, a user master is refused and a privileged one
has the default map; with both on the slot's masks decide.

R542 to R544: EN = 0 disables the unit; EN = 1 with FENCE = 1 enables it, and with LOCK = 1 locks it; EN = 1 with FENCE = 0
sets CMDREJ; once LOCK is 1 a write of PROT_CTL ends its take with PROTECT. -/
def Obligations.ProtectionUnit : Prop :=
  (∀ (s : State) (who a : Nat),
     (who < 48 → protSlotOf a = 76 ∨ protSlotOf a = 77 → protRefuses s who a true = some 4) ∧
     (who ≠ 49 → who ≠ 51 → protRefuses s who Reg.SEC_OTP_CMD true = some 4) ∧
     (who < 48 → protSlotOf a = 79 → (a - 0x800000) / 0x100 ≠ who → protRefuses s who a false = some 4)) ∧
  (∀ (s : State) (who k : Nat) (write : Bool),
     let on := s.livB Reg.PROT_CTL Fld.PROT_CTL_EN && bit (s.liv (Reg.PROT_SLOT k 0)).toNat 0
     (on = true → (slotRefuses s k who write = none ↔ maskBit s k who write = true)) ∧
     (on = false → who < 48 → slotRefuses s k who write ≠ none) ∧
     (on = false → 48 ≤ who → who ≤ 55 → slotRefuses s k who false = none) ∧
     (on = false → 48 ≤ who → k = 76 → (slotRefuses s k who true = none ↔ who ≤ 51)) ∧
     (on = false → 48 ≤ who → k = 77 → (slotRefuses s k who true = none ↔ (who = 49 ∨ who = 51)))) ∧
  (∀ (s : State) (t : Take) (w : Nat) (v : Word),
     let a := Reg.PROT_CTL
     let en := fget v Fld.PROT_CTL_EN
     let fence := fget v Fld.PROT_CTL_FENCE
     let lock := fget v Fld.PROT_CTL_LOCK
     (en = 0 → AtLive (protCtlRule (fun v => fget v Fld.PROT_CTL_EN == 0)) s t w a v → exec .protDisable s =
       .next (liveDone t a v (fun k => k.setLivF a Fld.PROT_CTL_EN 0) s)) ∧
     (en = 1 → fence = 1 → lock = 0 →
       AtLive (protCtlRule (fun v => fget v Fld.PROT_CTL_EN == 1 && !setsLock v)) s t w a v → exec .protEnable s =
       .next (liveDone t a v (fun k => (k.setLivF a Fld.PROT_CTL_EN 1).setLivF a Fld.PROT_CTL_LOCK 0) s)) ∧
     (en = 1 → fence = 0 → AtLive (protCtlRule (fun v => fget v Fld.PROT_CTL_EN == 1 && !setsLock v)) s t w a v →
       exec .protEnable s = .next (liveDone t a v (fun k => k.setLivN Reg.PROT_STAT 1) s)) ∧
     (AtLive (protCtlRule setsLock) s t w a v → exec .protLock s =
       .next (liveDone t a v (fun k => (k.setLivF a Fld.PROT_CTL_EN 1).setLivF a Fld.PROT_CTL_LOCK 1) s)) ∧
     (AtInsn s t w 0x16 0x8000 → xAddr t w = a → liveWritable a = true → protRefuses s t.origin a true = none →
       s.livB a Fld.PROT_CTL_LOCK = true → (t.g (fD w)).extractLsb' 0 32 = v →
       let refused : Answer := .next (endTake .protect (protFault t.origin a true 6 0 s))
       (en = 0 → exec .protDisable s = refused) ∧ (en = 1 → setsLock v = false → exec .protEnable s = refused) ∧
       (setsLock v = true → exec .protLock s = refused)))

/-- R546: a write of SEC_OTP_CMD with OP 1 to 3 disarms the OTP. Without the arming word, with a command in progress, and where the test
of its own fails, it changes nothing of the OTP and CODE shows which; otherwise it is in progress, with the hash in SEC_OTP_DATA, and BUSY
reads 1.

R547: when a command ends, with the verification passed, the OTP holds what it asked for; failed, what `otpPart` leaves. It is no longer in
progress, BUSY reads 0, CODE 0 or 6, DONE 1, and a DEVICE entry and an event follow. -/
def Obligations.OtpCommands : Prop :=
  (∀ (s : State) (t : Take) (w : Nat) (v : Word),
    let a := Reg.SEC_OTP_CMD
    let done : Answer := .next (liveDone t a v (otpCommand v) s)
    (AtLive (otpRule 1) s t w a v → exec .otpProgkey s = done) ∧ (AtLive (otpRule 2) s t w a v → exec .otpRevoke s = done) ∧
    (AtLive (otpRule 3) s t w a v → exec .otpSetmin s = done)) ∧
  (∀ (s : State) (v : Word), s.canon = true → fget v Fld.SEC_OTP_CMD_OP ≠ 0 →
    let op := fget v Fld.SEC_OTP_CMD_OP
    let slot := fget v Fld.SEC_OTP_CMD_SLOT
    let value := fget v Fld.SEC_OTP_CMD_VALUE
    let u := otpCommand v s
    let armed := s.liv Reg.SEC_OTP_ARM = 0x7A9
    let code := u.livF Reg.SEC_OTP_STAT Fld.SEC_OTP_STAT_CODE
    (¬armed → u.sec = s.sec ∧ code = 2) ∧ (armed → s.sec.cmd ≠ none → u.sec = s.sec ∧ code = 3) ∧
    (∀ c, armed → s.sec.cmd = none → otpTest s op slot value = some c → u.sec = s.sec ∧ code = c) ∧
    (armed → s.sec.cmd = none → otpTest s op slot value = none →
      u.sec = { s.sec with cmd := some ⟨op, slot, value, otpHash s⟩ } ∧
      u.livF Reg.SEC_OTP_STAT Fld.SEC_OTP_STAT_BUSY = 1) ∧
    u.liv Reg.SEC_OTP_ARM = 0) ∧
  (∀ (s : State) (c : OtpCmd) (ok : Bool), s.sec.cmd = some c →
    let k := otpReport ((if ok then s.onSec (otpDone c) else otpPart c s).onSec (fun x => { x with cmd := none }))
    let r := ((k.setLivF Reg.SEC_OTP_STAT Fld.SEC_OTP_STAT_BUSY 0).setLivF Reg.SEC_OTP_STAT Fld.SEC_OTP_STAT_CODE
      (if ok then 0 else 6)).setLivF Reg.SEC_OTP_STAT Fld.SEC_OTP_STAT_DONE 1
    exec (.otpCommandDone ok) s = .next ((r.logDevice 510 c.op (r.liv Reg.SEC_OTP_STAT).toNat).raise 510)) ∧
  (∀ (c : OtpCmd) (x : Security),
    (c.op = 1 → c.slot < x.slots.length → (nth {} (otpDone c x).slots c.slot).hash = c.hash) ∧
    (c.op = 2 → c.slot < x.slots.length → (nth {} (otpDone c x).slots c.slot).revoked = true) ∧
    (c.op = 3 → (otpDone c x).min = max x.min c.value))

/-- R198, R551, R552: an SPDM request that reaches a management function is counted and answered with its response, or with ERROR, which
is counted too. CHALLENGE and GET_MEASUREMENTS are refused for another slot, index or type than those defined; one that measures the
Active Set waits while its digest is not ready; any other is answered at once (`spdmAnswer`). An MCTP control message is passed on, and a
message of another type than 0 and 5 is dropped and counted.

R553, R554: when the digest of the Active Set is ready it is shown, and every request that waited for it is answered. -/
def Obligations.SpdmRequests : Prop :=
  (∀ (s : State) (p : Fin 48), mgmtReached s p.val = true →
     let k := s.bump Reg.SEC_SPDM_REQCNT
     let say (r : SpdmReply) : Answer := .next (k.emit (.spdm p.val r))
     let err (c : Nat) : Answer := .next ((k.bump Reg.SEC_SPDM_ERRCNT).emit (.spdm p.val (.error c)))
     let n := s.sec.certs.length
     let measures (c : Instr) (r : SpdmReq) : Prop :=
       (badSpdm r = true → exec c s = err 1) ∧
       (badSpdm r = false → (measuredBy r).contains 2 = true → k.liv Reg.SEC_ASSTAT = 0 →
         exec c s = .next (k.onSec (fun x => { x with waits := x.waits ++ [(p.val, r)] }))) ∧
       (badSpdm r = false → (measuredBy r).contains 2 = false ∨ k.liv Reg.SEC_ASSTAT ≠ 0 →
         exec c s = .next (spdmAnswer p.val r k))
     exec (.getVersion p) s = say (.version 0x14) ∧ exec (.getCapabilities p) s = say (.capabilities 15 4096) ∧
     (∀ a b, a || b → exec (.negotiateAlgorithms p a b) s = say (.algorithms a b)) ∧
     exec (.negotiateAlgorithms p false false) s = err 1 ∧
     exec (.getDigests p) s = say (.digests (Config.sha384 s.sec.certs)) ∧
     (∀ off len, off < n → exec (.getCertificate p 0 off len) s =
       say (.certificate ((s.sec.certs.drop off).take (min (min len 4080) (n - off))) (n - off - min (min len 4080) (n - off)))) ∧
     (∀ (slot : Fin 16) off len, slot.val ≠ 0 ∨ n ≤ off → exec (.getCertificate p slot off len) s = err 1) ∧
     exec (.spdmUnsupported p) s = err 7 ∧
     (∀ slot sum nonce, measures (.challenge p slot sum nonce) (.challenge slot sum nonce)) ∧
     (∀ index sign slot nonce, measures (.getMeasurements p index sign slot nonce) (.measure index sign slot nonce)) ∧
     (∀ nonce, exec (.challenge p 0 0 nonce) s = .next ((k.bump Reg.SEC_SIGCNT).emit (.spdm p.val
       (.challengeAuth (Config.sha384 s.sec.certs) none (Config.spdmSign nonce []))))) ∧
     (∀ nonce, exec (.getMeasurements p 0 false 0 nonce) s = say (.measurements 4 [] none)) ∧
     exec (.mctpMessage p 0) s = .next (s.emit (.mctp p.val)) ∧
     (∀ ty : Fin 128, ty.val ≠ 0 → ty.val ≠ 5 → exec (.mctpMessage p ty) s = .next (s.bump Reg.SEC_MCTP_DROPCNT))) ∧
  (∀ s : State, s.liv Reg.SEC_ASSTAT = 0 →
     ∃ k u, exec .asDigestDone s = .next u ∧ u = s.sec.waits.foldl (fun s e => spdmAnswer e.1 e.2 s) k ∧
       k.sec.waits = [] ∧ u.sec.waits = [] ∧ u.regs.active = s.regs.active ∧
       (s.regs.canon = true → k.liv Reg.SEC_ASSTAT = 1 ∧
         ∀ i, i < 16 → k.liv (Reg.SEC_ASDIG i) = (asDigest s).extractLsb' (32 * i) 32))

/-! ## Lanes -/

/-- R163, R164, R168, R247: the states of a fabric lane in bring-up. Energy takes it from DETECT to CDR unless its port waits for a retry,
lock takes it to ALIGN, and convergence in EQ, within the declared band and after a clean run, to DESKEW with its record written. The timer of
a state makes the spare UNAVAIL and takes its lane back to DETECT; on a port that is not working it counts an expiry, from the eighth on the
port waits for its retry, and a lane that a working port does not use returns to DETECT alone or waits in READY. A lane that a degraded
port does not use and that has failed tries again after 100 ms.

R156 to R158, R173, R218: a comma on a lane from ALIGN on counts its corrected symbols. One in sync whose CRC checks is taken in (`commaIn`);
any other is a miss and ends the succession. In ALIGN the third in succession with an acceptable identity begins EQ, and one with an
identity that is not acceptable raises ALIGN_ERR. A lane that fails by its commas fails (`laneFails`). -/
def Obligations.LaneBringUp : Prop :=
  (∀ (s : State) (n : Fin 24) (l : Fin 9), isFab s n.val l.val = true → s.regs.canon = true →
    let st := laneState s n.val l.val
    let f := lanePort s n.val l.val
    let x := s.lane n.val l.val
    let b := s.bring n.val f
    (st = 1 → b.waiting = false → exec (.laneEnergyDetect n l) s = .next (setLaneState n.val l.val 2 s)) ∧
    (st = 2 → exec (.laneCdrLock n l) s = .next (setLaneState n.val l.val 3 s)) ∧
    (∀ (sync inv : Bool) (id : Word) (ser : Nat), 3 ≤ st →
      let k := countSer n.val l.val ser (perf n.val 0x0E (some f) ser {} (s.bump (Reg.LN_SERCNT n.val l.val) ser))
      let flip := if laneState k n.val l.val = 3 then inv else k.livB (Reg.LN_STAT n.val l.val) Fld.LN_STAT_POLINV
      let w := (if flip then id ^^^ 0xAAAAAAAA else id).toNat
      let y := k.lane n.val l.val
      let r := if sync && commaCrcOk w then commaIn n.val f l.val flip w (k.setLane n.val l.val { y with missed := 0 })
        else k.setLane n.val l.val { y with commas := 0, sreq := none, missed := y.missed + 1 }
      exec (.commaReceive n l sync inv id 48 ser) s =
        .next (settle (if commaFails r n.val l.val then laneFails n.val l.val r else r))) ∧
    (∀ (ctle : Fin 16) (temp droop : Byte) (taps : List Int), st = 4 → (ctleBand (s.stnRec n.val).loss).1 ≤ ctle.val →
      ctle.val ≤ (ctleBand (s.stnRec n.val).loss).2 → cleanRun s n.val l.val = true →
      exec (.eqConverge n l ctle temp droop taps) s =
        .next (setLaneState n.val l.val 5 (writeRec n.val l.val ctle.val temp.toNat droop.toNat taps s))) ∧
    (∀ d, l.val = 8 → laneTimer st = some d → exec (.laneTimerExpire n l) s = .next (settle
      (setSpareState n.val 5 15 ((setLaneState n.val 8 1 (s.reach (x.since + d))).setSpare n.val {})))) ∧
    (∀ d, l.val ≠ 8 → laneTimer st = some d → s.flState n.val f < 2 → Tab.rises s.dp.bring = true →
      ∃ u, exec (.laneTimerExpire n l) s = .next (settle u) ∧ x.since + d ≤ u.now ∧
        (u.bring n.val f).expiries = b.expiries + 1 ∧ (u.bring n.val f).failed = (b.failed || decide (8 ≤ b.expiries + 1)) ∧
        (u.bring n.val f).waiting = (b.failed || decide (8 ≤ b.expiries + 1)) ∧ (u.bring n.val f).at_ = u.now) ∧
    (∀ d, l.val ≠ 8 → laneTimer st = some d →
      let r := s.reach (x.since + d)
      2 ≤ r.flState n.val (lanePort r n.val l.val) → (r.lnk n.val (lanePort r n.val l.val)).use.contains l.val = false →
      exec (.laneTimerExpire n l) s = .next (settle (if st = 6 then r else setLaneState n.val l.val 1 r))) ∧
    (∀ l8 : Fin 8, l8.val = l.val → s.livB (Reg.FL_STAT n.val f) Fld.FL_STAT_DEGRADED = true →
      (s.lnk n.val f).use.contains l.val = false → (st = 10 ∨ x.good = false) →
      exec (.failedLaneRetry n l8) s = .next (setLaneState n.val l.val 1 (s.reach (x.since + 100000000))))) ∧
  (∀ (z : State) (n f l : Nat) (inv : Bool) (w : Nat), l ≠ 8 →
    let k := (z.setLivF (Reg.LN_STAT n l) Fld.LN_STAT_POLINV (b2n inv)).setLivF (Reg.LN_STAT n l) Fld.LN_STAT_LOGICAL (bits w 0 4)
    let x := k.lane n l
    (identityOk z n f l (bits w 0 4) = true → 2 ≤ x.commas → k.flState n f ≠ 5 → alignComma n f l inv w z = beginEq n l k) ∧
    (identityOk z n f l (bits w 0 4) = true → x.commas < 2 →
      alignComma n f l inv w z = k.setLane n l { x with commas := x.commas + 1 }) ∧
    (identityOk z n f l (bits w 0 4) = false →
      alignComma n f l inv w z = (k.setLane n l { x with commas := 0 }).raiseStn n 7 f))

/-- R159, R161, R162, R164: what happens to a fabric port's lanes together. Where every lane in use is off or past EQ, those in DESKEW
that lie within 9.0 ns become READY and good with their SKEW; a port that waits retries 100 ms after its last attempt; an overfull buffer
drops a Filler Block and counts it; an overrun raises its event.

R180, R181: MARGIN_CTL with GO = 1 starts a sweep of what it names in M5, and in any other mode RES shows the refusal; when the
symbols of a sweep have passed it ends, its errors are added to MARGIN_ERR, and DONE and WRAP are set; a Lane Margining command
changes nothing but what is answered: at most 63 errors of a step in range, or the parameters. -/
def Obligations.LanesTogether : Prop :=
  (∀ (s : State) (n : Fin 24) (f : Fin 2), fabPort s.act n.val f.val = true →
     (∀ skews : List Nat,
       let lim := if s.actB (Reg.LINK_CTL n.val) Fld.LINK_CTL_FLRATE then 1008 else 504
       let here := (fabLanes s n.val f.val ++ (if f.val = 0 then [8] else [])).filter (fun l => laneState s n.val l == 5)
       (∀ l ∈ (s.lnk n.val f.val).use, laneState s n.val l = 0 ∨ 5 ≤ laneState s n.val l) →
       (∀ l ∈ here, nth 0 skews l ≤ lim) →
       ∃ step : State → Nat → State, exec (.deskewDone n f skews) s = .next (here.foldl step s) ∧
         (∀ (k : State) (l : Nat), step k l =
           let k := setLaneState n.val l 6 (k.setLivF (Reg.LN_STAT n.val l) Fld.LN_STAT_SKEW (nth 0 skews l))
           k.setLane n.val l { k.lane n.val l with good := true, fails := 0 }) ∧
         (∀ (k : State) (l : Nat), k.regs.canon = true → laneState (step k l) n.val l = 6)) ∧
     ((s.bring n.val f.val).waiting = true → ∃ k, k = s.reach ((s.bring n.val f.val).at_ + 100000000) ∧
       exec (.trainRetryTimer n f) s =
         .next (k.setBring n.val f.val { s.bring n.val f.val with waiting := false, at_ := k.now })) ∧
     (∀ fill, 80 < fill → exec (.fillerReceive n f fill) s = .next (s.bumpF (Reg.FILLCNT n.val) Fld.FILLCNT_DEL)) ∧
     (∀ fill, fill ≤ 80 → exec (.fillerReceive n f fill) s = .next s) ∧
     exec (.elasticOverrun n f) s = .next (s.raiseStn n.val 8 f.val)) ∧
  ((∀ (s : State) (t : Take) (w a : Nat) (v : Word), AtLive marginGoRule s t w a v →
     ∃ act, exec .marginGo s = .next (liveDone t a v act s) ∧
       ∀ z : State, let k := storeCmd a v [Fld.MARGIN_CTL_GO] z
         (k.mode = 5 → act z = (k.setLivF (Reg.MARGIN_RES (stnOf a)) ⟨0, 2⟩ 0).onDp (fun d => { d with
           margin := Tab.put d.margin (stnOf a) {
             lane := fget v Fld.MARGIN_CTL_LANE
             voltage := fget v Fld.MARGIN_CTL_AXIS == 1
             positive := fget v Fld.MARGIN_CTL_DIR == 1
             step := fget v Fld.MARGIN_CTL_STEP
             eye := fget v Fld.MARGIN_CTL_EYE
             dwell := fget v Fld.MARGIN_CTL_DWELL
             at_ := k.now } })) ∧
         (k.mode ≠ 5 → act z = k.setLivF (Reg.MARGIN_RES (stnOf a)) ⟨0, 2⟩ 2)) ∧
   (∀ (s : State) (n : Fin 24) (e : Nat) (x : MarginSweep), Tab.find s.dp.margin n.val = some x →
     let symbols := 2 ^ (24 + x.dwell)
     let k := (s.reach (x.at_ + ceilDiv (symbols * 1000) (symbolRate s n.val))).onDp (fun d => { d with
       margin := Tab.del d.margin n.val })
     let c := (k.liv (Reg.MARGIN_ERR n.val)).toNat + min symbols e
     exec (.marginDone n e) s = .next (((k.setLivN (Reg.MARGIN_ERR n.val) c).setLivF (Reg.MARGIN_RES n.val)
       Fld.MARGIN_RES_WRAP (b2n (decide (2 ^ 32 ≤ c)))).setLivF (Reg.MARGIN_RES n.val) Fld.MARGIN_RES_DONE 1)) ∧
   (∀ (s : State) (n : Fin 24) (l : Fin 8) (voltage positive : Bool) (step : Fin 64) (e samples : Nat),
     stnKind s.act n.val = .pcie →
     (voltage = true ∨ step.val ≤ 32 → exec (.laneMarginingCommand n l (.step voltage positive step) e samples) s =
       .next (s.emit (.margin n.val l.val (min 63 e) samples))) ∧
     (voltage = false → 32 < step.val → exec (.laneMarginingCommand n l (.step voltage positive step) e samples) s = .next s) ∧
     exec (.laneMarginingCommand n l .report e samples) s = .next (s.emit (.marginParams n.val l.val 32 50 63 126 true true true 63))))

/-- R173, R178, R183: lanes that one evaluation finds failing fail one after another. One that is ACTIVE, or the spare in use, is counted
and raises LANE_FAIL; a failure on port 0 with the spare in STANDBY makes the spare take it over; a spare that fails in STANDBY is
UNAVAIL; any other lane stays as it is.

R167, R169: a lane's taps adapt, its temperature and droop are measured, and where one has moved too far since the record, or a tap is at its
bound, a re-adaptation is due with the causes that hold.

R171, R178: the search of the lane under re-adaptation, whose data is taken from the spare, ends: when it passes, the lane is ACTIVE, the
spare in STANDBY, the record is written, DUE clears and READAPT_DONE and a DEVICE entry follow; when it fails, the spare keeps the lane. A
spare's own search, and a restoring one, end likewise. R179: SPARE_CMD stores LANE and makes a lane due, begins to restore the held lane, or
sets CMDREJ. -/
def Obligations.SpareLane : Prop :=
  (∀ (s : State) (n : Fin 24) (ls : List (Fin 9)), exec (.laneFailure n ls) s =
    .next (settle (lanesFail n.val (ls.map (fun l => l.val)) s))) ∧
  (∀ (s : State) (n l : Nat), lanesFail n [l] s = laneFails n l s) ∧
  (∀ (s : State) (n l : Nat),
    let st := laneState s n l
    let k := (s.bump (Reg.LN_FAILCNT n l)).raiseStn n 0 (lanePort s n l)
    (isFab s n l = true → st = 7 → l ≠ 8 → laneFails n l s = portLaneFails n (lanePort s n l) l k) ∧
    (isFab s n l = true → l = 8 → st = 7 ∨ st = 8 → laneFails n l s = spareFails n k) ∧
    (isFab s n l = false ∨ (st ≠ 7 ∧ (l ≠ 8 ∨ st ≠ 8)) → laneFails n l s = s)) ∧
  (∀ (s : State) (n l : Nat), n < 24 → l < 8 → s.regs.canon = true → spareState s n = 1 → laneLogical s n l < 8 →
    let u := portLaneFails n 0 l s
    spareState u n = 2 ∧ u.livF (Reg.SPARE_STAT n) Fld.SPARE_STAT_LANE = laneLogical s n l ∧ laneState u n l = 10 ∧
    spareState (spareFails n s) n = 5) ∧
  (∀ (s : State) (n : Fin 24) (l : Fin 9) (temp droop : Byte) (taps : List Int),
    let a := Reg.LN_NOW n.val l.val
    let y := (adaptTaps n.val l.val taps s).2
    let k := y.setLiv a ((y.liv a &&& 0xFFFF0000) ||| BitVec.ofNat 32 (temp.toNat + droop.toNat * 256))
    let rec0 := k.liv (Reg.LN_REC n.val l.val)
    let ctl := k.act (Reg.SPARE_CTL n.val)
    let rt := fget rec0 Fld.LN_REC_TEMP
    let byTemp := decide (2 * min 30 (max 5 (fget ctl Fld.SPARE_CTL_DTEMP)) ≤ max (temp.toNat - rt) (rt - temp.toNat))
    let byDroop := decide (fget rec0 Fld.LN_REC_DROOP + max 2 (fget ctl Fld.SPARE_CTL_DDROOP) < droop.toNat)
    let tap := (adaptTaps n.val l.val taps s).1
    exec (.readaptDue n l temp droop taps) s = .next (if byTemp || byDroop || tap
      then setDue n.val l.val (2 ^ 17 * b2n byTemp + 2 ^ 18 * b2n byDroop + 2 ^ 19 * b2n tap) k else k)) ∧
  (∀ (s : State) (n l ctle temp droop : Nat) (taps : List Int), adapted n l ctle temp droop taps s =
    ((clearDue n l (writeRec n l ctle temp droop taps s)).raiseStn n 4 0).logDevice (16 * n + 4)) ∧
  (∀ (s : State) (n : Fin 24) (l : Nat) (ctle : Fin 16) (temp droop : Byte) (taps : List Int),
    let held := s.livF (Reg.SPARE_STAT n.val) Fld.SPARE_STAT_LANE
    let x := s.spare n.val
    let pass := Instr.readaptComplete n true ctle temp droop taps
    let back := Instr.restoreComplete n true ctle temp droop taps
    (spareState s n.val = 1 → x.inPlace = true →
      (inBand s n.val ctle.val = true → cleanRun s n.val 8 = true → exec pass s = .next (adapted n.val 8 ctle.val temp.toNat
        droop.toNat taps (s.setSpare n.val { x with inPlace := false }))) ∧
      exec (.readaptComplete n false ctle temp droop taps) s = .next (((setSpareState n.val 5 15
        (setLaneState n.val 8 10 (s.setSpare n.val {}))).raiseStn n.val 0 0).raiseStn n.val 5 0)) ∧
    (physical s n.val held = some l → spareState s n.val = 3 → x.taken = true →
      (inBand s n.val ctle.val = true → cleanRun s n.val l = true → exec pass s = .next (adapted n.val l ctle.val temp.toNat
        droop.toNat taps (setSpareState n.val 1 15 ((setLaneState n.val l 7 s).setSpare n.val {})))) ∧
      (let k := (setLaneState n.val l 10 s).raiseStn n.val 0 0
       let k := setSpareState n.val 2 held (k.setSpare n.val { k.spare n.val with counts := true, taken := true, carried := true })
       exec (.readaptComplete n false ctle temp droop taps) s =
         .next (((k.bump (Reg.SPARE_TAKECNT n.val)).raiseStn n.val 1 0).logDevice (16 * n.val + 1)))) ∧
    (physical s n.val held = some l → spareState s n.val = 4 →
      (inBand s n.val ctle.val = true → cleanRun s n.val l = true →
        let k := setSpareState n.val 1 15 ((setLaneState n.val l 7 s).setSpare n.val {})
        exec back s = .next (adapted n.val l ctle.val temp.toNat droop.toNat taps
          (k.setLane n.val l { k.lane n.val l with good := true }))) ∧
      exec (.restoreComplete n false ctle temp droop taps) s =
        .next ((setSpareState n.val 2 held (setLaneState n.val l 10 s)).raiseStn n.val 0 0))) ∧
  (∀ (s : State) (t : Take) (w a : Nat) (v : Word),
    let k := fget v Fld.SPARE_CMD_LANE
    let n := stnOf a
    let stored (z : State) : State := storeCmd a v [Fld.SPARE_CMD_OP] z
    (AtLive spareReadaptRule s t w a v →
      exec .spareCmdReadapt s = .next (liveDone t a v (fun z => spareReadapt n k (stored z)) s)) ∧
    (AtLive spareReleaseRule s t w a v →
      exec .spareCmdRelease s = .next (liveDone t a v (fun z => spareRelease n k (stored z)) s)) ∧
    (∀ z : State, k ≠ 8 → physical z n k = none →
      spareReadapt n k z = z.setLivF (Reg.SPARE_STAT n) Fld.SPARE_STAT_CMDREJ 1) ∧
    (∀ (z : State) (l : Nat), k ≠ 8 → physical z n k = some l → laneState z n l = 7 →
      spareReadapt n k z = setDue n l (2 ^ 20) z) ∧
    (∀ z : State, k = 8 → spareReadapt n k z = if spareState z n = 1 then setDue n 8 (2 ^ 20) z
      else z.setLivF (Reg.SPARE_STAT n) Fld.SPARE_STAT_CMDREJ 1) ∧
    (∀ (z : State) (l : Nat), z.livF (Reg.SPARE_STAT n) Fld.SPARE_STAT_LANE = k → k ≠ 15 → spareState z n = 2 →
      physical z n k = some l → spareRelease n k z = setSpareState n 4 k (setLaneState n l 9 z)) ∧
    (∀ z : State, z.livF (Reg.SPARE_STAT n) Fld.SPARE_STAT_LANE ≠ k →
      spareRelease n k z = z.setLivF (Reg.SPARE_STAT n) Fld.SPARE_STAT_CMDREJ 1))

/-! ## PCI Express ports -/

/-- R186, R188, R206, R208 to R210, R214: a port that may train comes up in L0 at the rate and width it reached, in flit mode where the
partner asks and the port may, and the counts of its partner's credits start afresh; a downstream port goes down as Surprise Down or as
asked; a failed lane is counted and takes a port in L0 to Recovery, from which it returns on the lanes that are left, counted and degraded, or
it goes down at once when none are left, or after 2 ms. What host requests complete on the way takes effect (`settle`). -/
def Obligations.PcieLinks : Prop :=
  ∀ (s : State) (n : Fin 24) (p : Fin 4), s.regs.canon = true →
    let x := 4 * n.val + p.val
    let u := s.pp x
    let stat := Reg.PORT_STAT n.val p.val
    (∀ (rate : Fin 7) (width : Fin 5) (rev peer : Bool), mayTrain s x = true → s.dlUp n.val p.val = false →
      rate.val ≤ maxRate s x → 2 ^ width.val ≤ lanesOf s x → Tab.rises s.dp.eport = true → ∃ k,
        exec (.pcieLinkUp n p rate width rev peer) s = .next (settle k) ∧ k.dlUp n.val p.val = true ∧
        k.livF stat Fld.PORT_STAT_LTSSM = 3 ∧ k.livF stat Fld.PORT_STAT_RATE = rate.val ∧
        k.livF stat Fld.PORT_STAT_LWIDTH = width.val ∧
        k.livF stat Fld.PORT_STAT_FLIT = b2n (peer && decide (5 ≤ maxRate s x)) ∧ (k.eport x).fc = [] ∧
        k.regs.active = s.regs.active) ∧
    (isDown s x = true → s.dlUp n.val p.val = true →
      exec (.pcieLinkDown n p true) s = .next (settle (surpriseDown x s)) ∧
      exec (.pcieLinkDown n p false) s = .next (settle (dllChanged x (pcieDown x 0 s)))) ∧
    (∀ l : Fin 16, isPcie s x = true → s.dlUp n.val p.val = true → ltssm s x = 3 → u.use.contains l.val = true →
      let k := (nth (0, 0) (layout (stnWidth s.act n.val)) p.val).1 + l.val
      let f := (s.bump (Reg.LN_FAILCNT (n.val + k / 8) (k % 8))).raiseStn (n.val + k / 8) 0 p.val
      (narrowTo u.use u.rev (l.val :: u.bad) (below u.use.length) = none →
        exec (.pcieLaneFailure n p l) s = .next (settle (surpriseDown x f))) ∧
      (∀ y, narrowTo u.use u.rev (l.val :: u.bad) (below u.use.length) = some y →
        exec (.pcieLaneFailure n p l) s = .next (settle (setP x Fld.PORT_STAT_LTSSM 4
          (f.onPp x (fun u => { u with bad := l.val :: u.bad, recAt := some f.now })))))) ∧
    (∀ t y rev replay, u.recAt = some t → ltssm s x = 4 →
      narrowTo u.use u.rev u.bad (below u.use.length) = some (y, rev) →
      Tab.rises s.dp.pports = true → ∃ k, exec (.pcieRecoveryReturn n p replay) s = .next (settle k) ∧ ltssm k x = 3 ∧
        (k.pp x).use = y ∧ (k.pp x).recAt = none ∧ k.livF stat Fld.PORT_STAT_DEGRADED = 1 ∧
        k.liv (Reg.PORT_REPCNT n.val p.val) = s.liv (Reg.PORT_REPCNT n.val p.val) + BitVec.ofNat 32 (b2n replay) ∧
        k.liv (Reg.PORT_DEGCNT n.val p.val) = s.liv (Reg.PORT_DEGCNT n.val p.val) + 1) ∧
    (∀ t, u.recAt = some t → ltssm s x = 4 →
      exec (.pcieRecoveryLimit n p) s = .next (settle (surpriseDown x (s.reach (t + 2000000)))))

/-- R211, R212, R248: LINK_CMD with OP RETRAIN or WIDTH logs its LIVE entry and is stored with OP 0; one that is refused ends its take with
REFUSED, any other begins a long operation and acts (`linkCommand`). A PCI Express port's command ends with the port in L0 on the widest lanes
that pass training, or as Surprise Down when none do.

R199: an upstream port that has been idle, with every downstream port of its partition idle too, and a downstream port whose partner asks, enter
L1 with its substate where configuration space and the Active Set both allow it and the Forecaster does not hold links; a flit-mode port halves
its width in L0p and returns.

R201, R206: the attention button sets its bit in the Slot Status of the slot's functions and raises the hot-plug event; an error message that
the trigger enable covers triggers DPC with its reason, once. -/
def Obligations.LinkCommandsAndPower : Prop :=
  ((∀ (s : State) (t : Take) (w a : Nat) (v : Word) (op : Nat) (c : Instr),
     (op = 1 ∧ c = .linkCmdRetrain) ∨ (op = 2 ∧ c = .linkCmdWidth) → AtLive (linkRule op) s t w a v →
     let n := stnOf a
     let p := fget v Fld.LINK_CMD_PORT
     let tw := fget v Fld.LINK_CMD_TWIDTH
     let k := logLive t a v s
     (linkRefused s n op p tw = true → exec c s = .next (endTake .refused (linkCmdWord a v k))) ∧
     (linkRefused s n op p tw = false → exec c s = .next (linkCommand n op p tw (linkCmdWord a v
       (startLong (if op = 1 then .retrain n p else .width n p) true (k.setTake (some (t.mark k.now)))))))) ∧
   (∀ (s : State) (n : Fin 24) (p : Fin 4) (pass : Fin 65536) (c : Option Nat),
     let x := 4 * n.val + p.val
     let u := s.pp x
     let bad := (List.range 16).filter (fun i => !bit pass.val i)
     let found := match c with
       | none => narrowTo u.use u.rev bad (u.use.length :: below u.use.length)
       | some tw => narrowTo (List.range (lanesOf s x)) false bad (below (2 * 2 ^ tw))
     u.cmd = some c →
     (∀ l rev, found = some (l, rev) → s.regs.canon = true → Tab.rises s.dp.pports = true →
       ∃ k, exec (.linkCmdEnd n p pass) s = .next (settle (if longOnPort s n.val p.val then endLong k else k)) ∧
         ltssm k x = 3 ∧ (k.pp x).use = l ∧ (k.pp x).cmd = none ∧ pStat k x Fld.PORT_STAT_LWIDTH = widthCode l.length) ∧
     (found = none → exec (.linkCmdEnd n p pass) s = .next (settle (surpriseDown x s))))) ∧
  (∀ (s : State) (n : Fin 24) (p : Fin 4) (clk : Bool), s.regs.canon = true →
     let x := 4 * n.val + p.val
     (l1Ok s x = true → isUpstream s.act n.val p.val = true → downIdle s (portPart s.act n.val p.val) = true →
       ∃ u, exec (.l1IdleExpire n p clk) s = .next u ∧ ltssm u x = 5 ∧ pStat u x Fld.PORT_STAT_SUB = l1Sub s x clk ∧
         u.dp = s.dp ∧ u.out = s.out) ∧
     (l1Ok s x = true → isDown s x = true → ∃ u, exec (.l1RequestReceive n p clk) s = .next u ∧ ltssm u x = 5 ∧
       pStat u x Fld.PORT_STAT_SUB = l1Sub s x clk ∧ u.dp = s.dp ∧ u.out = s.out) ∧
     (l1Ok s x = false → exec (.l1IdleExpire n p clk) s = .next s ∧ exec (.l1RequestReceive n p clk) s = .next s) ∧
     (isPcie s x = true → s.dlUp n.val p.val = true → ltssm s x = 3 → pStat s x Fld.PORT_STAT_FLIT = 1 →
       bit (bridgeR s x .flitL0p) 3 = true → s.actB (Reg.PORT_CFG n.val p.val) Fld.PORT_CFG_L0PEN = true →
       linkReleased s = true → (s.pp x).narrow < pStat s x Fld.PORT_STAT_LWIDTH → Tab.rises s.dp.pports = true →
       ∃ u, exec (.l0pIdleExpire n p) s = .next u ∧ pStat u x Fld.PORT_STAT_L0P = 1 ∧
         (u.pp x).narrow = (s.pp x).narrow + 1) ∧
     (0 < (s.pp x).narrow → Tab.rises s.dp.pports = true → ∃ u, exec (.l0pReturn n p) s = .next u ∧
       pStat u x Fld.PORT_STAT_L0P = 0 ∧ (u.pp x).narrow = 0) ∧
     (isDown s x = true → bits (bridgeR s x .dpcCtl) 16 2 = 2 → exec (.dpcTrigger n p false) s = .next (settle (dpcTrigger x 1 s))) ∧
     (isDown s x = true → bits (bridgeR s x .dpcCtl) 16 2 = 1 ∨ bits (bridgeR s x .dpcCtl) 16 2 = 2 →
       exec (.dpcTrigger n p true) s = .next (settle (dpcTrigger x 2 s))) ∧
     (dpcOn s x = true → ∀ r, dpcTrigger x r s = s) ∧
     ((slotFns s n.val).isEmpty = false → exec (.attnButton n) s = .next (hotplug n.val (slotStatus n.val 1 s))) ∧
     ((slotFns s n.val).isEmpty = true → exec (.attnButton n) s = .next s))

/-- R203, R325, R338, R404, R412, R463, R482: the reset of a partition by Hot Reset, by DL_Down, or by PERST_N where that is an input, frees its
locks, drops its held configuration writes, notes the instant, takes its upstream link down, and then resets its configuration space, what
lies below its bridges and its engines. It is released once the upstream link is up again and 100 ms have passed: the partition is in reset
no more, and each import is told so. -/
def Obligations.PartitionResets : Prop :=
  ∀ (s : State) (q : Fin 48) (n p : Nat), upstreamOf s.act q.val = some (n, p) →
    (∀ c : ResetBy, (c = .perst → perstInput s n = true) →
      exec (.partitionReset q c) s = .next (settle (partReset q.val (4 * n + p) (c == .hot) s))) ∧
    (perstInput s n = false → exec (.partitionReset q .perst) s = .next (settle s)) ∧
    (∀ (x : Nat) (hot : Bool),
      let d := dropHeld q.val (resetLocks q.val x s)
      let k : State := { d with parts := { d.parts with
        inReset := q.val :: d.parts.inReset.filter (fun r => r != q.val)
        rstAt := Tab.put d.parts.rstAt q.val d.now
        aerLog := Tab.del d.parts.aerLog q.val } }
      partReset q.val x hot s = resetEngines q.val (resetBridges q.val ((pcieDown x (if hot then 9 else 0) k).resetCfg q.val)) ∧
      k.parts.inReset.contains q.val = true ∧ (∀ w ∈ k.parts.held, w.part ≠ q.val)) ∧
    (s.parts.inReset.contains q.val = true → s.dlUp n p = true → ∃ k : State,
      exec (.partitionResetRelease q) s = .next (settle ((bridges k.regs.active q.val).foldl (fun s b => match b with
        | .imp i => sendMgmt (importOf s i).2.1 3 false (importOf s i).2.2.1 false [] s
        | _ => s) k)) ∧
      k.parts.inReset.contains q.val = false ∧ Tab.get 0 s.parts.rstAt q.val + 100000000 ≤ k.now) ∧
    (s.parts.inReset.contains q.val = false → exec (.partitionResetRelease q) s = .next s)

/-- R17, R147, R204, R207, R317, R347, R367, R373: a TLP that a receiving port takes is counted and logged when poisoned and uses credits; behind a TLP
that waits, and where its station holds admission, a request waits; where no policer meters the port it is admitted. A red one that waits leaves
when the buckets hold enough, with those behind it. An Unlock message comes as a TLP, and at an upstream port it ends the locks of its host
(`unlockIn`). Credits that the partner grants are added to those of their type, and what waited for them goes on. -/
def Obligations.TlpsAtPorts : Prop :=
  ∀ (s : State) (n : Fin 24) (p : Fin 4),
    let x := 4 * n.val + p.val
    (portReceives s n.val p.val = true → ∀ t, exec (.tlpReceive n p t) s = .next (tlpIn x t s)) ∧
    (portReceives s n.val p.val = false → ∀ t, exec (.tlpReceive n p t) s = .next s) ∧
    (∀ t : Tlp, t.isCpl = false →
      let k := pcieSpend x t (if t.ep then aerPoison (bridgeFn s x).1 (bridgeFn s x).2
        ((s.bump (Reg.PORT_POISCNT n.val p.val)).raiseStn n.val 15 p.val) else s)
      (flowOf k x ≠ [] → tlpIn x t s = setFlow x (flowOf k x ++ [t]) k) ∧
      (flowOf k x = [] → k.holdsAt n.val = true → tlpIn x t s = setFlow x [t] k) ∧
      (flowOf k x = [] → k.holdsAt n.val = false → meteredAs k x = none →
        tlpIn x t s = admitted x t (admitTlp x 0 t) k)) ∧
    (∀ t l q, flowOf s x = t :: l → meteredAs s x = some q → heldRed s x = true →
      let pol := policerAt s.act (Reg.GLB_PPOL q 0)
      let b := refill pol (Tab.find s.dp.ppol q) s.now
      pol.en = true → (meter pol b (t.length + pol.ovh) (preColour pol t.tc)).1 = .red →
      exec (.heldTlpRedecide n p) s =
        .next (runFlow x (t :: l) (s.advance (waitNs pol b (t.length + pol.ovh) (preColour pol t.tc))))) ∧
    (portReceives s n.val p.val = true → isUpstream s.act n.val p.val = true →
      exec (.unlockMessage n p) s = .next (tlpIn x { kind := .unlock } s)) ∧
    (∀ t c, t.kind = .unlock → isUpstream s.act n.val p.val = true → admitTlp x c t s = unlockIn x t s) ∧
    (∀ (ty : FcType) (hdr data : Nat), pciePort s.act n.val p.val = true → s.dlUp n.val p.val = true →
      Tab.rises s.dp.eport = true → Tab.rises (s.eport x).fc = true → ∃ k : State,
        let i := match ty with | .posted => 0 | .nonPosted => 1 | .cpl => 2
        exec (.pcieFcUpdate n p ty hdr data) s = .next (settle (wake n.val (drainAside x 17 k))) ∧
        Tab.get (0, 0) (k.eport x).fc i =
          ((Tab.get (0, 0) (s.eport x).fc i).1 + hdr, (Tab.get (0, 0) (s.eport x).fc i).2 + data) ∧ k.regs = s.regs)

/-! ## Fabric links -/

/-- R226, R237 to R241: what a fabric port that carries data, with no framing lost, does with a packet it reads. One in order
is accepted and NES advances, modulo 2^16; one in order with a bad checksum, or one beyond NES, makes a NAK due and NES stays;
one behind NES is a duplicate and is only counted; a stomped one, or one with a bad header, is passed over. Framing lost is
counted once and makes a NAK due; a group that cannot be corrected is counted in CHECK too and makes a NAK due from UP on. A
port below CHECK reads nothing.

R237: an acknowledgement takes every packet it covers, and no other, out of the replay buffer; one of a packet that has
not been sent is ignored, and FL_PROTO is raised.

R230, R231, R234, R237, R241: link-level short packets that a port not in DOWN receives: BOUND and BACK are taken first; ACK
and NAK acknowledge, and a NAK replays from the packet it names unless that replay runs or the port carries no data; CREDIT
renews the four counts of its half or, when a count runs ahead of what was sent, raises FL_PROTO; the replay timers send
again; a reserved subtype is counted and raises FL_PROTO. A reserved position carries two short packets: slot 0 the next
item of the rotation ACK, CREDIT 0, ACK, CREDIT 1. -/
def Obligations.LinkPackets : Prop :=
  (∀ (s : State) (n : Fin 24) (f : Fin 2) (pkt : Packet), fabPort s.act n.val f.val = true →
     let up := 3 ≤ s.flState n.val f.val ∧ (s.lnk n.val f.val).lost = false
     let k := if pkt.ackv then ackTo n.val f.val pkt.ack s else s
     let nes := (k.lnk n.val f.val).nes
     let behind := (nes + 2 ^ 16 - pkt.seq % 2 ^ 16) % 2 ^ 16
     let free (s : State) : State := if pkt.vc < 8 then giveBack n.val (pktOrigin f.val pkt none) s else s
     let bad := nakDue n.val f.val (k.bump (Reg.FL_CRCERR n.val f.val))
     (s.flState n.val f.val < 2 → ∀ rx, exec (.fabricPacketReceive n f rx pkt) s = .next s) ∧
     (s.flState n.val f.val = 2 → exec (.fabricPacketReceive n f .groupBad pkt) s =
       .next (s.bump (Reg.FL_UNCORR n.val f.val))) ∧
     (s.flState n.val f.val = 2 → ∀ rx, rx ≠ .groupBad → exec (.fabricPacketReceive n f rx pkt) s = .next s) ∧
     (3 ≤ s.flState n.val f.val → (s.lnk n.val f.val).lost = true → ∀ rx, rx ≠ .groupBad →
       exec (.fabricPacketReceive n f rx pkt) s = .next s) ∧
     (up → exec (.fabricPacketReceive n f .framingLost pkt) s =
       .next (nakDue n.val f.val ((s.bump (Reg.FL_HCRCERR n.val f.val)).onLnk n.val f.val (fun l => { l with lost := true })))) ∧
     (up → s.regs.canon = true → exec (.fabricPacketReceive n f .groupBad pkt) s =
       .next (nakDue n.val f.val (s.bump (Reg.FL_UNCORR n.val f.val)))) ∧
     (up → pkt.seq = nes → headerError pkt = false → exec (.fabricPacketReceive n f .good pkt) s =
       .next (goodPkt n.val f.val pkt (nesUp n.val f.val k))) ∧
     (up → pkt.seq = nes → headerError pkt = false →
       exec (.fabricPacketReceive n f (.crcBad false) pkt) s = .next bad ∧
       exec (.fabricPacketReceive n f (.crcBad true) pkt) s = .next (stompCopy n.val f.val pkt bad)) ∧
     (up → pkt.seq = nes → headerError pkt = true → ∀ rx, rx = .good ∨ (∃ b, rx = .crcBad b) →
       exec (.fabricPacketReceive n f rx pkt) s =
       .next ((free (dropFirst n.val f.val (nesUp n.val f.val (k.bump (Reg.FL_TYPEERR n.val f.val))))).raiseStn n.val 12 f.val)) ∧
     (up → pkt.seq = nes → exec (.fabricPacketReceive n f .stomped pkt) s =
       .next (free (dropFirst n.val f.val (nesUp n.val f.val (k.bump (Reg.FL_STOMPCNT n.val f.val)))))) ∧
     (up → pkt.seq ≠ nes → 1 ≤ behind → behind ≤ 32767 → ∀ rx, rx ≠ .groupBad → rx ≠ .framingLost →
       exec (.fabricPacketReceive n f rx pkt) s = .next (k.bump (Reg.FL_DUPCNT n.val f.val))) ∧
     (up → pkt.seq ≠ nes → ¬(1 ≤ behind ∧ behind ≤ 32767) → ∀ rx, rx ≠ .groupBad → rx ≠ .framingLost →
       exec (.fabricPacketReceive n f rx pkt) s = .next (nakDue n.val f.val (k.bump (Reg.FL_DUPCNT n.val f.val)))) ∧
     (Tab.rises s.dp.links = true →
       ((nesUp n.val f.val s).lnk n.val f.val).nes = ((s.lnk n.val f.val).nes + 1) % 2 ^ 16 ∧
       ((nesUp n.val f.val s).lnk n.val f.val).nak = false ∧
       ((nesUp n.val f.val s).lnk n.val f.val).replay = (s.lnk n.val f.val).replay ∧
       ((nakDue n.val f.val s).lnk n.val f.val).nes = (s.lnk n.val f.val).nes ∧
       ((s.lnk n.val f.val).nakSent = none → ((nakDue n.val f.val s).lnk n.val f.val).nak = true))) ∧
  (∀ (s : State) (n f a : Nat), Tab.rises s.dp.links = true →
     let l := s.lnk n f
     let covers (seq : Nat) : Bool :=
       decide (1 ≤ (a + 2 ^ 16 - seq) % 2 ^ 16) && decide ((a + 2 ^ 16 - seq) % 2 ^ 16 ≤ 32767)
     (covers l.seq = true → ackTo n f a s = s.raiseStn n 14 f) ∧
     (covers l.seq = false → ((ackTo n f a s).lnk n f).replay = l.replay.filter (fun x => !covers x.pkt.seq) ∧
       ((ackTo n f a s).lnk n f).seq = l.seq ∧ ((ackTo n f a s).lnk n f).nes = l.nes ∧
       (ackTo n f a s).regs.active = s.regs.active ∧ (ackTo n f a s).out = s.out ∧
       ∀ m g, g < 2 → f < 2 → (m, g) ≠ (n, f) → (ackTo n f a s).lnk m g = s.lnk m g)) ∧
  (∀ (s : State) (n : Fin 24) (f : Fin 2) (h : ShortHdr), fabPort s.act n.val f.val = true → 1 ≤ s.flState n.val f.val →
     let z := takeBound n.val f.val h s
     let b := backTo n.val f.val h.back z
     (Tab.rises s.dp.links = true → h.slot = 0 → h.bound ≠ 0x1FF → (z.lnk n.val f.val).lost = false) ∧
     (h.slot ≠ 0 ∨ h.bound = 0x1FF → z = s) ∧
     (∀ nes, exec (.ackReceive n f h nes) s = .next (ackTo n.val f.val nes b)) ∧
     (∀ nes, let k := ackTo n.val f.val nes b
       let again := (k.lnk n.val f.val).replay.any (fun x => x.pkt.seq == nes) &&
         !(k.lnk n.val f.val).rplRun.any (fun e => e.1 == nes)
       (carries k n.val f.val = true → again = true → exec (.nakReceive n f h nes .none) s =
         .next (settle (countReplay n.val f.val (resendFrom n.val f.val nes k)))) ∧
       (carries k n.val f.val = false ∨ again = false → ∀ e, exec (.nakReceive n f h nes e) s = .next (settle k))) ∧
     (∀ (half : Fin 2) (c0 c1 c2 c3 : Nat),
       let gap (c v : Nat) : Nat := (c + 2 ^ 16 - Tab.get 0 (b.lnk n.val f.val).sent (4 * half.val + v)) % 2 ^ 16
       (gap c0 0 ≤ 32767 → gap c1 1 ≤ 32767 → gap c2 2 ≤ 32767 → gap c3 3 ≤ 32767 → Tab.rises s.dp.links = true →
         Tab.rises (b.lnk n.val f.val).cumRx = true → ∃ u, exec (.creditReceive n f h half c0 c1 c2 c3) s = .next u ∧
           Tab.find (u.lnk n.val f.val).cumRx (4 * half.val) = some (some (c0 % 2 ^ 16)) ∧
           Tab.find (u.lnk n.val f.val).cumRx (4 * half.val + 1) = some (some (c1 % 2 ^ 16)) ∧
           Tab.find (u.lnk n.val f.val).cumRx (4 * half.val + 2) = some (some (c2 % 2 ^ 16)) ∧
           Tab.find (u.lnk n.val f.val).cumRx (4 * half.val + 3) = some (some (c3 % 2 ^ 16)) ∧ u.regs = s.regs) ∧
       (32767 < gap c0 0 ∨ 32767 < gap c1 1 ∨ 32767 < gap c2 2 ∨ 32767 < gap c3 3 →
         exec (.creditReceive n f h half c0 c1 c2 c3) s = .next (b.raiseStn n.val 14 f.val))) ∧
     (∀ sub : Fin 16, sub.val = 0 ∨ 11 ≤ sub.val → exec (.reservedSubtype n f h sub) s =
       .next ((z.bump (Reg.FL_TYPEERR n.val f.val)).raiseStn n.val 14 f.val)) ∧
     (2 ≤ s.flState n.val f.val → s.flState n.val f.val ≤ 4 →
       let l := s.lnk n.val f.val
       let r := rotation n.val f.val (toReserved n.val f.val s)
       let p := slot1 n.val f.val (l.rot % 2 == 1) r.2
       let sent := p.2.emit (.reserved n.val f.val (boundOf (pass 2016 l.stream)) ⟨0, l.bnes, r.1⟩ p.1)
       Tab.rises s.dp.links = true →
       ((p.2.lnk n.val f.val).pausing = none → exec (.reservedPositionSend n f) s = .next sent) ∧
       (∀ op tw sel a b c d, (p.2.lnk n.val f.val).pausing = some (op, tw, sel) → p.1.body = .retrainAck a b c d →
         exec (.reservedPositionSend n f) s = .next (enterPause n.val f.val op tw sel sent)) ∧
       (l.rot % 2 = 0 → r.1 = .ack l.nes l.nak) ∧ (l.rot % 2 = 1 → ∃ c, r.1 = .credit (l.rot / 2) c)) ∧
     (s.flState n.val f.val = 1 ∨ 5 ≤ s.flState n.val f.val → exec (.reservedPositionSend n f) s = .next s)) ∧
  (∀ (s : State) (n : Fin 24) (f : Fin 2),
     let l := s.lnk n.val f.val
     (∀ x r, l.replay = x :: r → carries s n.val f.val = true →
       let k := s.reach (l.rplAt + max 1 (s.actF (Reg.FL_CFG n.val f.val) Fld.FL_CFG_RPLTIME) * 100)
       exec (.replayTimerExpire n f .none) s = .next (settle (countReplay n.val f.val (resendFrom n.val f.val x.pkt.seq
         (k.onLnk n.val f.val (fun l => { l with rplAt := k.now })))))) ∧
     (l.replay = [] ∨ carries s n.val f.val = false → ∀ e, exec (.replayTimerExpire n f e) s = .next (settle s)) ∧
     (∀ x r, l.bypass = x :: r →
       let k := s.reach (l.bAt + max 1 (s.actF (Reg.FL_CFG n.val f.val) Fld.FL_CFG_BTIME) * 100)
       exec (.bypassReplayExpire n f .none) s = .next (settle ((k.bump (Reg.FL_BPLCNT n.val f.val)).onLnk n.val f.val
         (fun l => { l with bResend := some x.bseq, bAt := k.now })))) ∧
     (l.bypass = [] → ∀ e, exec (.bypassReplayExpire n f e) s = .next (settle s)))

/-- R231, R242 to R248: sequenced short packets are taken in order only. A RETRAIN_REQ in UP is answered, and in REQ by the
lower node, which shows WITHDRAWN: RETRAIN_ACK is queued, the OP, width and SEL are kept, and no further packet begins; a
port that is about to pause already answers no second one; the higher node ignores it. A RETRAIN_ACK of the other node in REQ
leads to PAUSE. WIDTH shows the partner and, in CHECK, brings the port UP when the partner is the declared one; before CHECK
the word is kept. The time limits of REQ and PAUSE raise FL_LINKDOWN and lead to TRAIN. -/
def Obligations.RetrainAndWidth : Prop :=
  ∀ (s : State) (n : Fin 24) (f : Fin 2) (h : ShortHdr), fabPort s.act n.val f.val = true →
    let b := backTo n.val f.val h.back (takeBound n.val f.val h s)
    let k := b.onLnk n.val f.val (fun l => { l with bnes := (l.bnes + 1) % 256 })
    let st := s.flState n.val f.val
    (1 ≤ st → h.bseq = (b.lnk n.val f.val).bnes → ∀ (op : Fin 2) (tw : Fin 8) (sel : Fin 2) (node : Nat),
      (st = 3 → exec (.retrainReqReceive n f h op tw sel node) s = .next (ackRequest n.val f.val op.val tw.val sel.val k)) ∧
      (st = 4 → s.node < node → exec (.retrainReqReceive n f h op tw sel node) s = .next (ackRequest n.val f.val op.val tw.val
        sel.val (k.setLivF (Reg.FL_STAT n.val f.val) Fld.FL_STAT_WITHDRAWN 1))) ∧
      (st = 4 → node ≤ s.node → exec (.retrainReqReceive n f h op tw sel node) s = .next k) ∧
      (st ≠ 3 → st ≠ 4 → exec (.retrainReqReceive n f h op tw sel node) s = .next k) ∧
      (st = 4 → node ≠ s.node → exec (.retrainAckReceive n f h op tw sel node) s =
        .next (enterPause n.val f.val op.val tw.val sel.val k)) ∧
      (st ≠ 4 ∨ node = s.node → exec (.retrainAckReceive n f h op tw sel node) s = .next k)) ∧
    (1 ≤ st → h.bseq ≠ (b.lnk n.val f.val).bnes → ∀ (op : Fin 2) (tw : Fin 8) (sel : Fin 2) (node : Nat),
      exec (.retrainReqReceive n f h op tw sel node) s = .next b ∧ exec (.retrainAckReceive n f h op tw sel node) s = .next b) ∧
    (∀ op tw sel, ((s.lnk n.val f.val).pausing.isSome = true → ackRequest n.val f.val op tw sel s = s) ∧
      ((s.lnk n.val f.val).pausing = none → Tab.rises s.dp.links = true →
        ((ackRequest n.val f.val op tw sel s).lnk n.val f.val).pausing = some (op, tw, sel) ∧
        ((ackRequest n.val f.val op tw sel s).lnk n.val f.val).ctrl =
          (s.lnk n.val f.val).ctrl ++ [.retrainAck op tw sel s.node] ∧
        carries (ackRequest n.val f.val op tw sel s) n.val f.val = false)) ∧
    (1 ≤ st → h.bseq = (b.lnk n.val f.val).bnes → s.regs.canon = true → ∀ node stn port w nes,
      let z := ((k.setLivF (Reg.FL_STAT n.val f.val) Fld.FL_STAT_PNODE node).setLivF (Reg.FL_STAT n.val f.val)
          Fld.FL_STAT_PSTN stn).setLivF (Reg.FL_STAT n.val f.val) Fld.FL_STAT_PPORT port
      (st = 1 → w < 4 → exec (.widthReceive n f h node stn port w nes false) s = .next (settle
        (z.onLnk n.val f.val (fun l => { l with peer := some (node, stn, port, nes, false) })))) ∧
      (2 ≤ st → exec (.widthReceive n f h node stn port w nes false) s =
        .next (settle (applyWidth n.val f.val node stn port nes false z))) ∧
      (let y := ackTo n.val f.val nes z
       y.flState n.val f.val = 2 → y.env = s.env →
        (node = (s.stnRec n.val).pnode → stn = (s.stnRec n.val).pstn → port = f.val →
          applyWidth n.val f.val node stn port nes false z =
            linkUp n.val f.val (y.setLivF (Reg.FL_STAT n.val f.val) Fld.FL_STAT_PEERBAD 0)) ∧
        (¬(node = (s.stnRec n.val).pnode ∧ stn = (s.stnRec n.val).pstn ∧ port = f.val) →
          applyWidth n.val f.val node stn port nes false z =
            (y.setLivF (Reg.FL_STAT n.val f.val) Fld.FL_STAT_PEERBAD 1).raiseStn n.val 13 f.val))) ∧
    (1 ≤ st → h.bseq ≠ (b.lnk n.val f.val).bnes → ∀ node stn port w nes,
      exec (.widthReceive n f h node stn port w nes false) s = .next (settle b)) ∧
    (st = 4 → exec (.retrainReqTimeout n f) s = .next (settle (toTrain n.val f.val (s.reach ((s.lnk n.val f.val).since +
      max 1 (s.actF (Reg.FL_CFG n.val f.val) Fld.FL_CFG_RQTIME) * 1000))))) ∧
    (st ≠ 4 → exec (.retrainReqTimeout n f) s = .next (settle s)) ∧
    (st = 5 → exec (.pauseTimeout n f) s =
      .next (settle (toTrain n.val f.val (s.reach ((s.lnk n.val f.val).since + 10000))))) ∧
    (st ≠ 5 → exec (.pauseTimeout n f) s = .next (settle s))

/-- R250 to R252: a request that reaches a port in UP is noted with its arrival time for an answer; a response with the TAG
of the request sent gives offset and delay (their floored halves), and one with another TAG, or TURN = 0xFFFF, changes
nothing; offset and delay are shown; beyond 1,000 ns the time steps, else it slews, and its rate stays within 100 ppm of the
free-running one; the fourth good exchange in succession sets SYNC, and a response without PSYNC clears it. -/
def Obligations.TimeExchanges : Prop :=
  (∀ (s : State) (n : Fin 24) (f : Fin 2) (h : ShortHdr) (tag : Bool), fabPort s.act n.val f.val = true →
    1 ≤ s.flState n.val f.val →
    let b := backTo n.val f.val h.back (takeBound n.val f.val h s)
    let l := b.lnk n.val f.val
    (s.flState n.val f.val = 3 → ∀ time, exec (.timeSyncRequestReceive n f h tag time) s = .next (b.onLnk n.val f.val
      (fun l => { l with tsResp := l.tsResp ++ [{ tag := tag, t2 := s.ft }] }))) ∧
    (s.flState n.val f.val ≠ 3 → ∀ time, exec (.timeSyncRequestReceive n f h tag time) s = .next b) ∧
    (∀ (t1 : Nat) (psync : Bool) (time turn : Nat), l.tsT1 = some t1 → isParent s n.val f.val = true → tag = l.tsTag → turn ≠ 0xFFFF →
      let d1 : Int := (time : Int) - t1
      let d2 : Int := (s.ft : Int) - (time + turn : Nat)
      exec (.timeSyncResponseReceive n f h tag psync time turn) s = .next (tsMeasure
        ((d1 - d2) / 2 + signed 16 (s.actF (Reg.FT_ASYM n.val) Fld.FT_ASYM_ASYM)) ((d1 + d2) / 2) psync
        (b.setLnk n.val f.val { l with tsT1 := none }))) ∧
    (∀ psync time turn, (l.tsT1 = none ∨ isParent s n.val f.val = false ∨ tag ≠ l.tsTag ∨ turn = 0xFFFF) →
      exec (.timeSyncResponseReceive n f h tag psync time turn) s = .next b)) ∧
  (∀ (s : State) (offset delay : Int), s.regs.canon = true →
    let u := tsMeasure offset delay true s
    (offset.natAbs ≤ 1000 → u.ft = s.ft ∧ u.dp.time.slew = offset ∧ u.dp.time.rate.natAbs ≤ 100000) ∧
    (u.liv Reg.GLB_FT_OFFSET).toNat = unsigned 32 (max (-(2 ^ 31)) (min (2 ^ 31 - 1) offset)) ∧
    (u.liv Reg.GLB_FT_DELAY).toNat = unsigned 32 delay ∧
    (tsMeasure offset delay false s).livF Reg.GLB_FT_STAT Fld.GLB_FT_STAT_SYNC = 0 ∧
    (1000 < offset.natAbs → u.ft = ((s.ft : Int) + offset).toNat % 2 ^ 64 ∧ u.dp.time.slew = 0 ∧
      u.livF Reg.GLB_FT_STAT Fld.GLB_FT_STAT_STEP = 1 ∧ u.dp.time.good = 0) ∧
    u.livF Reg.GLB_FT_STAT Fld.GLB_FT_STAT_VALID = 1 ∧ u.dp.time.misses = 0 ∧
    (offset.natAbs ≤ 10 → u.dp.time.good = s.dp.time.good + 1) ∧
    (offset.natAbs ≤ 10 → 3 ≤ s.dp.time.good → u.livF Reg.GLB_FT_STAT Fld.GLB_FT_STAT_SYNC = 1))

/-! ## The core and the egress ports -/

/-- R260 to R266, R293, R294: a plane that takes cells gets the next cell of a station, which goes on in flight with the next
CSN of its egress port and a slot credit; the plane's output captures it when its request is the next to be granted, counts
the codewords corrected, marks it and gives it to the resequencer, or counts a duplicate; the acknowledgement takes it out of
flight and, after a unit's last cell, frees the unit; a returned slot credit counts once.

R275, R276, R296, R297, R302, R304, R365, R367: a port that can send and has no packet begun serves the head of its
stand-aside list first and then the queue that the scheduler selects; a packet that runs dry leaves stomped, is counted, and
goes again with a new seq when its cells are there and the link takes it and has credit; the write of a spilled block
completes in its queue's turn, the read of the oldest one begins in its queue's turn when the head runs low, and when that
read ends without an error the block joins the head. -/
def Obligations.CellsAndEgressQueues : Prop :=
  (∀ (s : State) (n : Fin 24) (k : Fin 2),
     (∀ id idx turn u, planeTakes s k.val = true → nextCell s n.val = some (id, idx, turn) → s.unit id = some u →
       let z := match turn with
         | some key => s.onIng n.val (fun i => { i with last := key })
         | none => s
       exec (.cellOffer n k .none) s = .next (settle (offer n.val k.val id idx u z))) ∧
     (planeTakes s k.val = false ∨ nextCell s n.val = none → ∀ e, exec (.cellOffer n k e) s = .next (settle s)) ∧
     (∀ id idx u, u.dst / 4 < 24 → Tab.rises s.dp.ing = true → Tab.rises (s.ing n.val).csn = true →
       Tab.rises (s.ing n.val).spent = true → Tab.rises (s.ing n.val).flying = true →
       let i := s.ing n.val
       let j := (offer n.val k.val id idx u s).ing n.val
       Tab.get 0 j.csn u.dst = (Tab.get 0 i.csn u.dst + 1) % 4096 ∧
       Tab.get 0 j.spent (u.dst / 4) = Tab.get 0 i.spent (u.dst / 4) + 1 ∧
       Tab.get [] j.flying u.dst = Tab.get [] i.flying u.dst ++
         [{ csn := Tab.get 0 i.csn u.dst, uid := id, idx := idx, plane := k.val, at_ := s.now }]) ∧
     (∀ (x : Fin 96) (c : Flying) (ecc : Fin 10),
       (Tab.get [] (s.ing n.val).flying x.val).find? (fun c => c.plane == k.val && !c.captured) = some c →
       let e := x.val / 4
       let z := (s.onDp (fun d => { d with granted := Tab.put d.granted (2 * e + k.val) (some c.at_) })).bump
         (Reg.XB_CECCCNT e k.val) ecc.val
       let m := countCell (z.unit c.uid) (markCaptured n.val x.val c.csn k.val z)
       let r := Tab.get {} (m.eport x.val).reseq n.val
       let behind := (r.next + 4096 - c.csn) % 4096
       let r2 : Reseq := { r with held := r.held ++ [(c.csn, (c.uid, c.idx))] }
       let dup := (1 ≤ behind ∧ behind ≤ 2048) ∨ r.held.any (fun h => h.1 == c.csn) = true
       let now := s.livB Reg.GLB_CORE_STAT Fld.GLB_CORE_STAT_DOWN = false ∧ mayGrant s e k.val n.val c.at_ = true
       (now → dup → exec (.cellCapture n x k ecc) s = .next (settle (m.bump (Reg.XB_DUPCNT e)))) ∧
       (now → ¬dup → exec (.cellCapture n x k ecc) s = .next (settle (wake e (release n.val x.val (r.held.length + 1)
         (m.onEport x.val (fun e => { e with reseq := Tab.set {} e.reseq n.val r2 })))))) ∧
       (¬now → exec (.cellCapture n x k ecc) s = .next (settle s))) ∧
     (∀ (x : Fin 96) (c : Flying) (rest : List Flying),
       takeFirst (fun (c : Flying) => c.plane == k.val && c.captured) (Tab.get [] (s.ing n.val).flying x.val) = some (c, rest) →
       let m := s.onIng n.val (fun i => { i with flying := Tab.set [] i.flying x.val rest })
       let left := rest.any (fun d => d.uid == c.uid) = true ∨ ∃ j, Tab.find (m.ing n.val).part x.val = some (c.uid, j)
       (left → exec (.cellAckReceive n x k) s = .next (settle m)) ∧
       (¬left → exec (.cellAckReceive n x k) s = .next (settle (freeUnit c.uid m)))) ∧
     (∀ e : Fin 24, 0 < Tab.get 0 (s.ing n.val).owed e.val → Tab.rises s.dp.ing = true → Tab.rises (s.ing n.val).owed = true →
       Tab.rises (s.ing n.val).spent = true → ∃ u : State, exec (.slotCreditReturn n e) s = .next (settle u) ∧
         Tab.get 0 (u.ing n.val).owed e.val = Tab.get 0 (s.ing n.val).owed e.val - 1 ∧
         Tab.get 0 (u.ing n.val).spent e.val = Tab.get 0 (s.ing n.val).spent e.val - 1 ∧ u.regs = s.regs) ∧
     (∀ e : Fin 24, Tab.get 0 (s.ing n.val).owed e.val = 0 → exec (.slotCreditReturn n e) s = .next (settle s))) ∧
  ((∀ (s : State) (n : Fin 24) (p : Fin 4),
     let x := 4 * n.val + p.val
     let free := portSends s x = true ∧ ∀ id g q, (s.eport x).sending ≠ .begun id g q
     (free → sendAside x s = none →
       (∀ d, selectQueue s x = (none, d) → ∀ e,
         exec (.egressSelect n p e) s = .next (settle (s.onEport x (fun e => { e with sched := d })))) ∧
       (∀ q d id, selectQueue s x = (some q, d) → headUnit s x q = some id →
         exec (.egressSelect n p .none) s = .next (settle (wake n.val (serve x q d (leaveL1 x s)))))) ∧
     (∀ u, free → sendAside x s = some u → ∀ e, exec (.egressSelect n p e) s = .next (settle (wake n.val u))) ∧
     (¬free → ∀ e, exec (.egressSelect n p e) s = .next (settle s))) ∧
   (∀ (s : State) (n : Fin 24) (f : Fin 2) (id g q : Nat) (u : CUnit), s.unit id = some u →
     let x := 4 * n.val + f.val
     let here := hereCells s x (qKey g q) id
     ((s.eport x).sending = .begun id g q → here < u.cells → exec (.egressUnderrun n f) s = .next (settle
       (((sendPackets x here u s).bump (Reg.XB_UNDERCNT n.val)).onEport x (fun e => { e with sending := .stomped id g q })))) ∧
     ((s.eport x).sending = .stomped id g q → here = u.cells → fabReady s x u = true → fabCredit s x u = true →
       exec (.stompResend n f) s = .next (settle (wake n.val
         (sendUnit x (qKey g q) id u (s.onEport x (fun e => { e with sending := .none })))))) ∧
     ((s.eport x).sending = .stomped id g q → here ≠ u.cells ∨ fabReady s x u = false ∨ fabCredit s x u = false →
       exec (.stompResend n f) s = .next (settle s))) ∧
   (∀ (s : State) (n f : Nat) (p : Packet), Tab.rises s.dp.links = true →
     let l := s.lnk n f
     let m := (sendOnLink n f false p s).lnk n f
     m.seq = (l.seq + 1) % 2 ^ 16 ∧ m.nes = l.nes ∧
     m.replay = l.replay ++ [{ pkt := { p with seq := l.seq, ack := l.nes, ackv := true }, stomped := false }] ∧
     (sendOnLink n f false p s).out = s.out ++ [.packet n f { p with seq := l.seq, ack := l.nes, ackv := true } false]) ∧
   (∀ (s : State) (n : Fin 24) (p : Fin 4) (g : Fin 49) (q : Fin 8),
     let x := 4 * n.val + p.val
     let k := qKey g.val q.val
     let e := s.eq x k
     let turn := 1024 * p.val + k
     (∀ b l, spillTurn s n.val = some turn → e.mid = b :: l → b.writing = true →
       let z := (s.onDp (fun d => { d with spilled := Tab.put d.spilled n.val turn })).setEq x k
         { e with mid := { b with writing := false } :: l }
       exec (.spillWriteDone n p g q) s = .next (settle (wake n.val (addSegs n.val 1 ((perf n.val 9 (some p.val) 1
         { cls := some q.val } (driftMove true 1024 z)).bump (Reg.BUF_SPILLCNT n.val)))))) ∧
     (spillTurn s n.val ≠ some turn → exec (.spillWriteDone n p g q) s = .next (settle s)) ∧
     (∀ b l, refillTurn s n.val = some turn → e.mid = b :: l → b.reading = false → exec (.refillStart n p g q) s =
       .next (settle (addSegs n.val (-1) ((s.onDp (fun d => { d with refilled := Tab.put d.refilled n.val turn })).setEq x k
         { e with mid := { b with reading := true } :: l })))) ∧
     (refillTurn s n.val ≠ some turn → exec (.refillStart n p g q) s = .next (settle s)) ∧
     (freeSegs s n.val = 0 ∨ wantsRefill e = false → refillTurn s n.val ≠ some turn) ∧
     (∀ b b2 l, e.mid = b :: b2 :: l → b.reading = true → (s.eport x).sending = .none →
       let z := s.setEq x k { e with head := e.head ++ [b.cells], mid := b2 :: l }
       let c := giveBlocks n.val 1 ((perf n.val 0x0A (some p.val) 1 { cls := some q.val } (driftMove true 1024 z)).bump
         (Reg.BUF_REFILLCNT n.val))
       (c.eport x).sending = .none →
       (c.eq x k).head.all (fun l => !l.isEmpty && l.all (fun r => (c.unit r.1).elim false (fun u => !u.hdrBad))) = true →
         exec (.refillDone n p g q [] true) s = .next (settle (wake n.val (addSegs n.val 0 (c.setEq x k (c.eq x k))))))))

/-- R269 to R273, R277, R281, R285: a cell unacknowledged for 150 ns, or the error report of one not captured, takes its plane
out of service with its cause; its cells go again on the other plane, and without another in service the core is down. TEST and RESTORE begin on a plane
that is out and REMOVE on one that is in while the other is in and not being removed; a TEST or RESTORE that runs makes any
further one refused. A passed RESTORE returns the plane to service, a failed test leaves it as it was; a removal ends when
nothing flies on the plane; a slow stage sets SLOW and raises CORE_SLOW once. -/
def Obligations.PlanesAndSpeed : Prop :=
  (∀ (s : State) (n : Fin 24), (∀ c, oldestCell s n.val = some c →
      exec (.planeAckTimeout n) s = .next (settle (planeFault n.val c.plane 1 (s.reach (c.at_ + 150))))) ∧
    (oldestCell s n.val = none → exec (.planeAckTimeout n) s = .next (settle s))) ∧
  (∀ (s : State) (n : Fin 24) (k : Fin 2),
    let flies := (s.ing n.val).flying.any (fun e => e.2.any (fun c => c.plane == k.val && !c.captured))
    (planeIn s k.val = true → flies = true → exec (.planeErrorReport n k) s = .next (settle (planeFault n.val k.val 2 s))) ∧
    (planeIn s k.val = false ∨ flies = false → exec (.planeErrorReport n k) s = .next (settle s))) ∧
  (∀ (s : State) (n cause : Nat), n < 24 → cause < 4 → s.regs.canon = true →
    let u := planeFault n 0 cause s
    planeIn u 0 = false ∧ u.livF Reg.GLB_CORE_STAT Fld.GLB_CORE_STAT_ACAUSE = cause ∧
    u.livF Reg.GLB_CORE_STAT Fld.GLB_CORE_STAT_ASTN = n ∧
    (planeIn s 1 = false → u.livB Reg.GLB_CORE_STAT Fld.GLB_CORE_STAT_DOWN = true) ∧
    (planeIn s 1 = true → Tab.rises s.dp.ing = true → ∀ m x : Nat, m < 24 →
      (Tab.get [] (u.ing m).flying x).all (fun c => c.plane != 0) = true)) ∧
  (∀ (s : State) (t : Take) (w : Nat) (v : Word),
    let a := Reg.GLB_CORE_CMD
    let k := fget v Fld.GLB_CORE_CMD_PLANE
    let done (op : Nat) : Answer :=
      .next (liveDone t a v (fun z => coreCommand op k (storeCmd a v [Fld.GLB_CORE_CMD_OP] z)) s)
    (AtLive (coreRule [1]) s t w a v → exec .coreCmdTest s = done 1) ∧
    (AtLive (coreRule [2]) s t w a v → exec .coreCmdRestore s = done 2) ∧
    (AtLive (coreRule [3]) s t w a v → exec .coreCmdRemove s = done 3)) ∧
  (∀ (z : State) (k : Nat),
    let rejected := z.setLivF Reg.GLB_CORE_STAT Fld.GLB_CORE_STAT_CMDREJ 1
    (planeIn z k = true → coreCommand 1 k z = rejected ∧ coreCommand 2 k z = rejected) ∧
    (∀ j r, z.dp.plane = .test j r → ∀ op, op ≠ 0 → coreCommand op k z = rejected) ∧
    (planeIn z (1 - k) = false ∨ z.dp.removal = some (1 - k) → coreCommand 3 k z = rejected) ∧
    (planeIn z k = false → z.dp.plane = .none → (coreCommand 2 k z).dp.plane = .test k true ∧
      (coreCommand 1 k z).dp.plane = .test k false) ∧
    (planeIn z (1 - k) = true → planeIn z k = true → z.dp.plane = .none → z.dp.removal ≠ some (1 - k) →
      (coreCommand 3 k z).dp.removal = some k ∧ (coreCommand 3 k z).regs = z.regs)) ∧
  (∀ (s : State) (k : Nat) (r : Bool), s.dp.plane = .test k r → k < 2 → s.regs.canon = true →
    s.livB Reg.GLB_CORE_STAT Fld.GLB_CORE_STAT_DOWN = false →
    (r = true → ∃ u, exec (.planeTestDone true) s = .next (settle u) ∧ planeIn u k = true ∧ u.dp.plane = .none) ∧
    (r = false → ∃ u, exec (.planeTestDone true) s = .next (settle u) ∧ planeIn u k = planeIn s k ∧ u.dp.plane = .none) ∧
    (∃ u, exec (.planeTestDone false) s = .next (settle u) ∧ planeIn u k = planeIn s k ∧ u.dp.plane = .none ∧
      u.livF Reg.GLB_CORE_STAT (if k = 0 then Fld.GLB_CORE_STAT_ACAUSE else Fld.GLB_CORE_STAT_BCAUSE) = 3)) ∧
  (∀ (s : State) (k : Nat), s.dp.removal = some k →
    let flies := s.dp.ing.any (fun i => i.2.flying.any (fun e => e.2.any (fun c => c.plane == k)))
    (flies = true → exec .planeRemoveDone s = .next (settle s)) ∧
    (flies = false → k < 2 → s.regs.canon = true →
      ∃ u, exec .planeRemoveDone s = .next (settle u) ∧ planeIn u k = false ∧ u.dp.removal = none)) ∧
  (∀ (s : State) (ths : Fin 1024), s.regs.canon = true →
    let k := s.setLivF Reg.GLB_CORE_SPEED Fld.GLB_CORE_SPEED_THS ths.val
    (ths.val ≤ tMax k ∨ s.livB Reg.GLB_CORE_STAT Fld.GLB_CORE_STAT_SLOW = true →
      exec (.coreSpeedSample ths) s = .next (settle k)) ∧
    (tMax k < ths.val → s.livB Reg.GLB_CORE_STAT Fld.GLB_CORE_STAT_SLOW = false →
      exec (.coreSpeedSample ths) s =
        .next (settle ((k.setLivF Reg.GLB_CORE_STAT Fld.GLB_CORE_STAT_SLOW 1).raise (gEvt 9)))))

/-! ## Tunnels -/

/-- R340, R341, R338: a word of the remote send buffer joins it, or sets OVF when it is full; SEND makes one IN packet of it and
empties it; the oldest management packet of its kind is served, and its room comes back: IN words go to the mailbox of the
manager that sent them or are counted, OUT words join GLB_MRX behind the word that describes them once there is room, PRESET
acts on the exported port of the importing node or is counted; an outbound packet of a remote manager's mailbox leaves by up
to 511 words.

R307, R344, R347 to R351, R355: a routed short packet that is taken in order breaks a notice left half, and is carried on or
acts here: a wire's level, a request for a lock and its answer; SEG 0 of a notice waits, its SEG 1 sends the pair on, and a SEG
1 alone is counted; one whose queue is full is not taken. A source wire's level follows two equal samples and is sent again
at its refresh; the oldest refused sequence asks again, under a fresh LTAG, after its backoff, and a lock held too long is
released by an Unlock and answered with RES 2; a withdrawn port that is UP rejoins, another is refused, and MOVEHOLD ends. -/
def Obligations.TunnelPackets : Prop :=
  ((∀ (s : State) (t : Take) (w : Nat) (v : Word), AtLive mtxHiRule s t w Reg.GLB_MTX_HI v →
     ∃ act, exec .mtxHiWrite s = .next (liveDone t Reg.GLB_MTX_HI v act s) ∧
       ∀ z : State,
         (z.dp.fab.mtx.length < 511 → (act z).dp.fab.mtx = z.dp.fab.mtx ++ [v ++ (z.setLiv Reg.GLB_MTX_HI v).liv Reg.GLB_MTX_LO]) ∧
         (511 ≤ z.dp.fab.mtx.length → (act z).dp = z.dp ∧ act z =
           (z.setLiv Reg.GLB_MTX_HI v).setLivF Reg.GLB_MTX_CTL Fld.GLB_MTX_CTL_OVF 1)) ∧
   (∀ (s : State) (t : Take) (w : Nat) (v : Word),
     let a := Reg.GLB_MTX_CTL
     AtLive { mtxCtlRule with sel := fun a v => a == Reg.GLB_MTX_CTL && fget v Fld.GLB_MTX_CTL_SEND == 1 } s t w a v →
     exec .mtxSend s = .next (liveDone t a v (fun z =>
       let z := ((plainEffect s t a v).act z).setLivF a Fld.GLB_MTX_CTL_SEND 0
       sendMgmt (fget v Fld.GLB_MTX_CTL_DNODE) 1 (fget v Fld.GLB_MTX_CTL_END == 1) 0 false z.dp.fab.mtx
         (z.onFab (fun f => { f with mtx := [] }))) s)) ∧
   (∀ (s : State) (op : Nat) (p : Packet) (o : Origin) (n : Nat) (r : List (Packet × Origin × Nat)) (fin asserted : Bool)
     (port : Nat) (ws : List DWord),
     let isOp (e : Packet × Origin × Nat) : Bool := match e.1.body with
       | .mgmt o .. => o == op
       | _ => false
     takeFirst isOp s.dp.fab.mgmt = some ((p, o, n), r) → p.body = .mgmt op fin port asserted ws →
     let k := giveBack n o (ingUse n (o == .internal) (-(halvesOf (32 * p.len) : Int)) (s.onFab (fun f => { f with mgmt := r })))
     (op = 1 →
       (∀ i, rmgrOf k p.snode = some i → mboxOpen k (52 + i) = true →
         exec .mgmtInReceive s = .next (wordsIn (52 + i) fin ws k)) ∧
       (rmgrOf k p.snode = none → exec .mgmtInReceive s = .next (k.bump Reg.GLB_TUNERRCNT))) ∧
     (op = 2 →
       (s.dp.fab.mrx.length + ws.length + 1 ≤ 1024 → ∃ u,
         exec .mgmtOutReceive s = .next u ∧ u.dp.fab.mrx = k.dp.fab.mrx ++ (BitVec.ofNat 64
           (p.snode + ws.length * 2 ^ 12 + b2n fin * 2 ^ 21), true) :: ws.map (fun w => (w, false)) ∧ u.mbox = k.mbox) ∧
       (1024 < s.dp.fab.mrx.length + ws.length + 1 → exec .mgmtOutReceive s = .next s)) ∧
     (op = 3 →
       let here := port < 96 ∧ isExported k.act port = true ∧ (k.act (Reg.GLB_EXP port 0)).toNat % 2 ^ 12 = p.snode
       (here → exec .mgmtPresetReceive s = .next (settle (portReset port asserted k))) ∧
       (¬here → exec .mgmtPresetReceive s = .next (settle (k.bump Reg.GLB_TUNERRCNT))))) ∧
   (∀ (s : State) (i : Fin 4),
     let on := s.actB (Reg.GLB_RMGR i.val) Fld.GLB_RMGR_EN = true ∧ pktCount (s.mb (52 + i.val)).outq ≠ 0
     let q := (s.mb (52 + i.val)).outq
     let ws := (firstPacket q).1.take 511
     (on → exec (.mgmtOutSend i) s = .next (sendMgmt (s.actF (Reg.GLB_RMGR i.val) Fld.GLB_RMGR_NODE) 2
       (decide ((firstPacket q).1.length ≤ 511)) 0 false (ws.map (fun w => w.word))
       (s.setMb (52 + i.val) { s.mb (52 + i.val) with outq := q.drop ws.length }))) ∧
     (¬on → exec (.mgmtOutSend i) s = .next s))) ∧
  ((∀ (s : State) (n : Fin 24) (f : Fin 2) (h : ShortHdr), fabPort s.act n.val f.val = true → 1 ≤ s.flState n.val f.val →
     let b := backTo n.val f.val h.back (takeBound n.val f.val h s)
     let o := Origin.fabric f.val 0 0
     let z := b.onLnk n.val f.val (fun l => { l with bnes := (l.bnes + 1) % 256 })
     let k := breakSeg n.val f.val z
     (∀ d, routedRoom s d = false ∨ h.bseq ≠ (b.lnk n.val f.val).bnes →
       (∀ w level c, exec (.wireReceive n f h d w level c) s = .next b) ∧
       (∀ dport snode sport part ltag op, exec (.lockReqReceive n f h d dport snode sport part ltag op) s = .next b) ∧
       (∀ dport snode sport ltag res, exec (.lockGntReceive n f h d dport snode sport ltag res) s = .next b) ∧
       (∀ g q req hi cause, exec (.pfnReceive n f h (.pfn0 g d q req hi cause)) s = .next b) ∧
       (∀ g lo, exec (.pfnReceive n f h (.pfn1 g d lo)) s = .next b)) ∧
     (h.bseq = (b.lnk n.val f.val).bnes →
     (∀ d w level c, routedRoom s d = true →
       exec (.wireReceive n f h d w level c) s = .next (sendShort n.val [.wire d 0 w level c] k o)) ∧
     (∀ dport snode sport part ltag op, exec (.lockReqReceive n f h s.node dport snode sport part ltag op) s =
       .next (lockReqHere n.val (dport % 96) snode sport part ltag op k)) ∧
     (∀ d dport snode sport part ltag op, d ≠ s.node → routedRoom s d = true →
       exec (.lockReqReceive n f h d dport snode sport part ltag op) s =
         .next (sendShort n.val [.lockReq d dport snode sport part ltag op] k o)) ∧
     (∀ dport snode sport ltag res, exec (.lockGntReceive n f h s.node dport snode sport ltag res) s =
       .next (lockGntHere ltag res k)) ∧
     (∀ d dport snode sport ltag res, d ≠ s.node → routedRoom s d = true →
       exec (.lockGntReceive n f h d dport snode sport ltag res) s =
         .next (sendShort n.val [.lockGnt d dport snode sport ltag res] k o)) ∧
     (∀ g d q req hi cause, routedRoom s d = true → ∃ u, exec (.pfnReceive n f h (.pfn0 g d q req hi cause)) s = .next u ∧
       (Tab.rises s.dp.links = true → (u.lnk n.val f.val).seg0 = some (.pfn0 g d q req hi cause)) ∧ u.regs = k.regs) ∧
     (∀ g d lo q req hi cause, routedRoom s d = true → (z.lnk n.val f.val).seg0 = some (.pfn0 g d q req hi cause) →
       exec (.pfnReceive n f h (.pfn1 g d lo)) s = .next (sendShort n.val [.pfn0 g d q req hi cause, .pfn1 g d lo]
         (z.onLnk n.val f.val (fun l => { l with seg0 := none })) o)) ∧
     (∀ g d lo, routedRoom s d = true → (z.lnk n.val f.val).seg0 = none →
       exec (.pfnReceive n f h (.pfn1 g d lo)) s = .next (z.bump Reg.GLB_TUNERRCNT)))) ∧
   (∀ (s : State) (w : Fin 256) (pin : Bool),
     let x := wireOf s w.val
     (isSourceWire s w.val = true → x.last = some pin → x.level ≠ pin → exec (.wireSample w pin) s = .next (sendWire w.val
       (setWire w.val { x with level := pin, wcnt := (x.wcnt + 1) % 256, last := some pin } s))) ∧
     (isSourceWire s w.val = true → x.last ≠ some pin ∨ x.level = pin →
       exec (.wireSample w pin) s = .next (setWire w.val { x with last := some pin } s)) ∧
     (isSourceWire s w.val = true →
       let k := s.reach (x.at_ + max 1 ((s.act Reg.GLB_WIRE_CFG).toNat % 2 ^ 8) * 10000)
       exec (.wireRefresh w) s = .next (sendWire w.val (setWire w.val { wireOf k w.val with at_ := k.now } k))) ∧
     (isSourceWire s w.val = false → exec (.wireSample w pin) s = .next s ∧ exec (.wireRefresh w) s = .next s)) ∧
   (∀ (s : State),
     (∀ l t, s.dp.fab.locks.find? (fun l => l.backoff.isSome) = some l → l.backoff = some t →
       let k := s.reach t
       let tag := k.dp.fab.ltag
       exec .lockBackoffExpire s = .next (lockReq { l with ltag := tag } 0
         (onLock l.ltag (fun l => { l with ltag := tag, backoff := none, outstanding := true })
           (k.onFab (fun f => { f with ltag := (f.ltag + 1) % 256 }))))) ∧
     (s.dp.fab.locks.find? (fun l => l.backoff.isSome) = none → exec .lockBackoffExpire s = .next s)) ∧
   (∀ (s : State) (x : Fin 96),
     (∀ node port ltag t, (s.eport x.val).lock = .remote node port ltag t →
       let k := s.reach (t + max 1 (s.actF Reg.GLB_TUN_CFG Fld.GLB_TUN_CFG_LHOLD) * 1000000)
       exec (.lockHoldExpire x) s =
         .next ((lockAnswer (x.val / 4) x.val node port ltag 2 (sendLocal (x.val / 4) .internal
           (bits (k.act (Reg.GLB_EXP x.val 0)).toNat 12 6) x.val 0 { kind := .unlock } (setLock x.val .free k))).raise (gEvt 15))) ∧
     ((s.eport x.val).lock = .free → exec (.lockHoldExpire x) s = .next s)) ∧
   (∀ (s : State) (t : Take) (w : Nat) (v : Word),
     let a := Reg.GLB_RT_REJOIN
     AtLive { rejoinRule with sel := fun a v => a == Reg.GLB_RT_REJOIN && fget v Fld.GLB_RT_REJOIN_GO == 1 } s t w a v →
     exec .rtRejoin s = .next (liveDone t a v (fun z => rejoin (fget v Fld.GLB_RT_REJOIN_STN)
       (fget v Fld.GLB_RT_REJOIN_PORT) (((plainEffect s t a v).act z).setLivF a Fld.GLB_RT_REJOIN_GO 0)) s)) ∧
   (∀ (s : State) (n f : Nat), n < 24 → f < 2 →
     (withdrawn s n f = false ∨ s.flState n f ≠ 3 →
       rejoin n f s = s.setLivF Reg.GLB_RT_REJOIN Fld.GLB_RT_REJOIN_REJ 1) ∧
     (withdrawn s n f = true → s.flState n f = 3 → rejoin n f s = (setWithdrawn n f false s).onFab (fun g =>
       { g with moved := Tab.put g.moved (2 * n + f) s.now }))) ∧
   (∀ (s : State) (n : Fin 24) (f : Fin 2),
     (∀ t, Tab.find s.dp.fab.moved (2 * n.val + f.val) = some t →
       exec (.moveholdExpire n f) s = .next (s.reach (t + (s.act Reg.GLB_RT_CFG).toNat % 2 ^ 10 * 1000))) ∧
     (Tab.find s.dp.fab.moved (2 * n.val + f.val) = none → exec (.moveholdExpire n f) s = .next s)))

/-! ## Regions, queues, messages -/

/-- R386 to R388, R401 to R404: a registration that passes its tests takes the entry that has been FREE longest, VALID under
its next GEN, and shows its key; a refused one shows its CODE and writes nothing. A revocation puts its entry into REVOKING
and waits, or is REFUSED; when no access is left the entry goes to FREE, or back to VALID, under its next GEN. A purge that
has ended is reported. A cache fill, once a way takes the entry, serves the lookups that wait for it, in order.

R395, R396: the access check's tests, in their order: a FREE entry, a stale GEN, a REVOKING entry, the owner, the range,
the rights, the alignment of an atomic. An access is admitted only when all pass. -/
def Obligations.RegionCommands : Prop :=
  ((∀ (s : State) (t : Take) (w : Nat) (v : Word), AtLive regionRule s t w Reg.GLB_RGN_CMD v →
     exec .regionRegister s = .next (liveDone t Reg.GLB_RGN_CMD v
       (register t.origin t.serial t.pc) s)) ∧
   (∀ (s : State) (origin serial pc : Nat),
     (regTest s origin ≠ 0 → register origin serial pc s =
       (s.setLivN Reg.GLB_RGN_RES 0).setLivN Reg.GLB_RGN_STAT (regTest s origin)) ∧
     (∀ i, regTest s origin = 0 → freeEntry s = some i → Tab.rises s.eng.keys.tab = true →
       let u := register origin serial pc s
       keyWord u i 0 = BitVec.ofNat 64 (s.liv64 Reg.GLB_RGN_BASE_LO) ∧
       keyGen u i = nextGen (keyGen s i) ∧ stateIn (keyWord u i 2).toNat = 1 ∧
       (s.regs.canon = true → u.liv Reg.GLB_RGN_STAT = 0 ∧
         (u.liv Reg.GLB_RGN_RES).toNat = (i + keyGen u i * 2 ^ 20) % 2 ^ 32))) ∧
   (∀ (s : State) (t : Take) (w : Nat) (v : Word) (op : Nat) (c : Instr),
     (op = 1 ∧ c = .keyrevFree) ∨ (op = 2 ∧ c = .keyrevRekey) → AtLive (keyrevOp op) s t w Reg.GLB_KEYREV v →
     let k := logLive t Reg.GLB_KEYREV v s
     let told (z : State) : State := storeCmd Reg.GLB_KEYREV v [Fld.GLB_KEYREV_OP] z
     (revRefused s t.origin v.toNat = true → exec c s = .next (endTake .refused (told k))) ∧
     (revRefused s t.origin v.toNat = false → exec c s = .next (revStart t.origin t.serial t.pc v.toNat
       (told (startLong (.keyrev (bits v.toNat 0 20)) true (k.setTake (some (t.mark k.now)))))))) ∧
   (∀ (s : State) (i : Fin 1048576),
     (∀ r, s.eng.keys.revs.find? (fun r => r.idx == i.val) = some r → heldCount s i.val = 0 →
       stateIn (keyWord s i.val 2).toNat = 2 → exec (.keyrevComplete i) s = .next (settle (revFinish i.val r.op s))) ∧
     (s.eng.keys.revs.find? (fun r => r.idx == i.val) = none ∨ heldCount s i.val ≠ 0 →
       exec (.keyrevComplete i) s = .next (settle s))) ∧
   (∀ (s : State) (i op : Nat), Tab.rises s.eng.keys.tab = true → s.eng.keys.revs = [] → keyGen s i < 4096 →
     keyGen (revFinish i op s) i = (if keyGen s i = 4095 then 1 else keyGen s i + 1) ∧
     stateIn (keyWord (revFinish i op s) i 2).toNat = (if op = 1 then 0 else 1)) ∧
   (∀ (s : State) (p : Fin 48),
     let done := (keysOf s (fun o => ownerPart s o == some p.val)).all (fun i => keyState s i != 2)
     (purging s p.val = true → done = true → exec (.purgeComplete p) s =
       .next (((s.setLivF (Reg.GLB_RGN_PCNT p.val) ⟨31, 1⟩ 0).raise (gEvt 17) (some p.val)).logDevice p.val)) ∧
     (purging s p.val = false ∨ done = false → exec (.purgeComplete p) s = .next s)) ∧
   (∀ (s : State) (i : Fin 1048576) (bad : Bool),
     let js := s.eng.keys.wait.filter (fun w => w.1 == i.val)
     let z := if bad then keyBadNow i.val s else s
     (∀ k, js ≠ [] → takeWay i.val z = some k → exec (.keyCacheFill i bad) s =
       .next (settle (js.foldl (fun s j => serveKeyJob j.2 s) (k.onKeys (fun k => { k with
         wait := k.wait.filter (fun w => w.1 != i.val) }))))) ∧
     (js = [] → exec (.keyCacheFill i bad) s = .next (settle s)))) ∧
  (∀ (s : State) (key off len : Nat) (a : Access),
     let i := key % 2 ^ 20
     let code := accessCheck s key off len a
     (keyState s i = 0 → code = 1) ∧
     (keyState s i ≠ 0 → key / 2 ^ 20 ≠ keyGen s i → code = 2) ∧
     (keyState s i = 2 → key / 2 ^ 20 = keyGen s i → code = 3) ∧
     (code = 0 ↔ keyState s i ≠ 0 ∧ keyState s i ≠ 2 ∧ key / 2 ^ 20 = keyGen s i ∧ ownerTest s i a = true ∧
       a.high = false ∧ off + len ≤ keyLen s i ∧ off + len < 2 ^ 64 ∧ Nat.land (keyRights s i) a.need = a.need ∧
       (a.atomic = true → (keyBase s i + off) % 8 = 0 ∧ len = 8)) ∧
     code ≤ 7)

/-- R411 to R414: a doorbell that passes its tests moves PI (or NCI), and the ring is read on (or a notification tried again); a
refused one is counted and shows its DBCODE. START, STOP and FREE show their CMDCODE, which tells the first test that fails,
and act when it is 0; a queue's state changes with nothing else of it and of the other queues.

R418, R422, R425 to R429: an FME with room starts the next descriptor of the next queue in turn, and none while data is held;
DESC_END ends a descriptor whose status is known and no other; a WAIT that has waited its time ends TIMEOUT, a notification
that has met a full ring for 1 ms NFULL; the status given first to a descriptor stays, and no other descriptor gets it.

R430, R432, R616: the CI of an event ring follows a write of its own partition that keeps it within the ring, and any
other value changes nothing; a completion of the whole data ends the TLP of the engine's request that it answers with that
data, an unsuccessful one without, and so does 50 ms without one; where none waits, nothing changes. -/
def Obligations.QueuesAndDescriptors : Prop :=
  ((∀ (s : State) (t : Take) (w : Nat) (v : Word),
     let i := fget v Fld.GLB_QDB_QUEUE
     let x := fget v Fld.GLB_QDB_VALUE
     let q := s.q i
     let pCode := dbTest s t.origin i q.ccnt q.pi (2 ^ q.rlog) x
     let nCode := dbTest s t.origin i q.ncnt q.nci (2 ^ q.nrlog) x
     (AtLive qdbRule s t w Reg.GLB_QDB v → ∃ act, exec .qdbWrite s = .next (liveDone t Reg.GLB_QDB v act s) ∧
       ∀ z : State, z.eng.qs = s.eng.qs → z.regs.active = s.regs.active →
         (pCode = 0 → act z = settle (pumpRing i ((z.setLiv Reg.GLB_QDB v).onQ i (fun q => { q with pi := x })))) ∧
         (pCode ≠ 0 → act z = dbRefuse pCode (z.setLiv Reg.GLB_QDB v))) ∧
     (AtLive qndbRule s t w Reg.GLB_QNDB v → ∃ act, exec .qndbWrite s = .next (liveDone t Reg.GLB_QNDB v act s) ∧
       ∀ z : State, z.eng.qs = s.eng.qs → z.regs.active = s.regs.active →
         (nCode = 0 → act z = settle (retryNotify i ((z.setLiv Reg.GLB_QNDB v).onQ i (fun q => { q with nci := x })))) ∧
         (nCode ≠ 0 → act z = dbRefuse nCode (z.setLiv Reg.GLB_QNDB v)))) ∧
   (∀ (s : State) (t : Take) (w : Nat) (v : Word) (op : Nat) (c : Instr),
     (op = 1 ∧ c = .qcmdStart) ∨ (op = 2 ∧ c = .qcmdStop) ∨ (op = 3 ∧ c = .qcmdFree) →
     AtLive (qcmdRule [op]) s t w Reg.GLB_QCMD v →
     let i := fget v Fld.GLB_QCMD_QUEUE
     ∃ act, exec c s = .next (liveDone t Reg.GLB_QCMD v act s) ∧
       ∀ z : State,
         let k := storeCmd Reg.GLB_QCMD v [Fld.GLB_QCMD_OP] z
         let code := qcmdCode k t.origin i op
         let k := k.setLivF Reg.GLB_QSTAT Fld.GLB_QSTAT_CMDCODE code
         (code ≠ 0 → act z = k) ∧
         (code = 0 → act z = settle (if op = 1 then startQueue i k else if op = 2 then stopQueue i false k else setSt i .free k))) ∧
   (∀ (s : State) (origin i op : Nat), op = 1 ∨ op = 2 ∨ op = 3 →
     let st := (s.q i).st
     let row := (op = 1 ∧ (st = .free ∨ st = .stopped ∨ st = .error)) ∨ (op = 2 ∧ st = .active) ∨
       (op = 3 ∧ (st = .stopped ∨ st = .error))
     (holdsQueue s origin i = false → qcmdCode s origin i op = 1) ∧
     (holdsQueue s origin i = true → ¬row → qcmdCode s origin i op = 2) ∧
     (holdsQueue s origin i = true → row → op ≠ 1 → qcmdCode s origin i op = 0)) ∧
   (∀ (s : State) (i : Nat) (st : QState), Tab.rises s.eng.qs = true → ((setSt i st s).q i).st = st ∧
     ((setSt i st s).q i).pi = (s.q i).pi ∧ ((setSt i st s).q i).w = (s.q i).w ∧
     ∀ j, j ≠ i → (setSt i st s).q j = s.q j)) ∧
  ((∀ (s : State) (e : Fin 48),
     (∀ i, engineRoom s (e.val / 2) = true → nextQueue s e.val = some i →
       exec (.descStart e) s = .next (settle (startDesc i s))) ∧
     (engineRoom s (e.val / 2) = false ∨ nextQueue s e.val = none → exec (.descStart e) s = .next (settle s)) ∧
     (s.holds = true → nextQueue s e.val = none)) ∧
   (∀ (s : State) (q : Fin 65536) (n : Word),
     exec (.descEnd q n) s = .next (settle (endDesc q.val n.toNat s)) ∧
     ((s.q q.val).descs.find? (fun d => d.n == n.toNat) = none → endDesc q.val n.toNat s = s) ∧
     (∀ d, (s.q q.val).descs.find? (fun d => d.n == n.toNat) = some d → d.status = none → endDesc q.val n.toNat s = s)) ∧
   (∀ (s : State) (q : Fin 65536) (n : Word),
     let waiting := (s.q q.val).descs.find? (fun d => d.n == n.toNat && d.waits && d.op == 6 && d.f 5 0 20 != 0)
     (∀ d, waiting = some d →
       exec (.waitTimeout q n) s = .next (settle (setStatus q.val d.n 0x19 (s.reach (d.start + d.f 5 0 20 * 1000))))) ∧
     (waiting = none → exec (.waitTimeout q n) s = .next (settle s))) ∧
   (∀ (s : State) (n : Fin 24) (a b c : Nat),
     (∀ r t, findReasm s n.val a b c = some r → r.full = some t → r.st = .notify → r.recording = false →
       exec (.notifyFullTimeout n a b c) s = .next (settle (messageEnd (keyFme r.rkey)
         n.val r 0x15 ((s.reach (t + 1000000)).bump (Reg.NFULLCNT (keyFme r.rkey)))))) ∧
     (∀ r, findReasm s n.val a b c = some r → r.full = none ∨ r.st ≠ .notify ∨ r.recording = true →
       exec (.notifyFullTimeout n a b c) s = .next (settle s)) ∧
     (findReasm s n.val a b c = none → exec (.notifyFullTimeout n a b c) s = .next (settle s))) ∧
   (∀ (s : State) (i n code : Nat), Tab.rises s.eng.qs = true →
     ((setStatus i n code s).q i).descs = (s.q i).descs.map (fun d =>
       if d.n = n ∧ d.status.isNone then { d with status := some code } else d) ∧ (setStatus i n code s).regs = s.regs)) ∧
  ((∀ (s : State) (t : Take) (w q : Nat) (v : Word), q < 48 →
     AtLive { evrRule with sel := fun a _ => isEvr a && a % 16 == 12 } s t w (Reg.GLB_EVR q 3) v →
     let pi := (s.liv (Reg.GLB_EVR q 2)).toNat % 2 ^ 16
     let ci := v.toNat % 2 ^ 16
     (t.origin < 48 → t.origin = q) ∧
     ∃ act, exec .evrCiWrite s = .next (liveDone t (Reg.GLB_EVR q 3) v act s) ∧
       ∀ z : State, z.regs = s.regs →
         ((pi + 2 ^ 16 - ci) % 2 ^ 16 ≤ 2 ^ evrLog (s.liv (Reg.GLB_EVR q 0)).toNat →
           act z = (z.setLivF (Reg.GLB_EVR q 3) ⟨0, 16⟩ ci).intx) ∧
         (2 ^ evrLog (s.liv (Reg.GLB_EVR q 0)).toNat < (pi + 2 ^ 16 - ci) % 2 ^ 16 → act z = z)) ∧
   (∀ (s : State) (id : Nat) (j : Job) (u : Sub) (t : Nat), subOf s id = some (j, u) → u.sent = some t → u.res = none →
     (∀ ep (d : List Byte), d.length = u.len →
       exec (.hostCompletion id true ep d) s = .next (settle (subEnd id (.ok d ep) s))) ∧
     (∀ ep (d : List Byte), d.length ≠ u.len → exec (.hostCompletion id true ep d) s = .next (settle s)) ∧
     (∀ ep d, exec (.hostCompletion id false ep d) s = .next (settle (subEnd id .fail s))) ∧
     exec (.hostCompletionTimeout id) s = .next (settle (subEnd id .fail (s.reach (t + 50000000)))) ∧
     (j.subs = [u] → id % 64 = 0 → ∀ r, (subEnd id r s).eng.io.ready = s.eng.io.ready ++ [(j.work, joinRes [{ u with res := some r }])])) ∧
   (∀ (s : State) (id : Nat), subOf s id = none ∨ (∃ j u, subOf s id = some (j, u) ∧ (u.sent = none ∨ u.res.isSome = true)) →
     (∀ ok ep d, exec (.hostCompletion id ok ep d) s = .next (settle s)) ∧
     exec (.hostCompletionTimeout id) s = .next (settle s)))

/-- R421, R424, R437 to R445, R621: the oldest packet of a kind that waits at an FME is taken and served by what its kind
calls for; where none waits, nothing is taken; an answer without its tracker changes nothing, and while data is held a
request of another node is answered with a NAK. An FME with room sends its next packet.

R442 to R448, R452: the timers of messages: a packet without an answer is sent again after RTO, its window set back unless it
waits after a PEND, and a refused one after its NAKWAIT; 2 ms end a message TIMEOUT, and an unfinished reassembly, which is
then held with that result and told to the ring of the region's owner, if it has one; a held entry with its result, an idle
destination context and a pacing wait end at their time, and a round after one smoothed RTT. -/
def Obligations.FmeMessages : Prop :=
  (∀ (s : State) (e : Fin 48),
     let went (f : Packet → State → State) (p : Packet) (z : State) : Answer := .next (settle (f p z))
     let resp (arg : Packet → List Byte) (p : Packet) : State → State := respIn e.val p (hdrOf p) (arg p)
     (engineRoom s (e.val / 2) = true → exec (.fmePacketSend e) s = .next (settle (handSegs e.val (sendNext e.val s)))) ∧
     (engineRoom s (e.val / 2) = false → exec (.fmePacketSend e) s = .next (settle s)) ∧
     (∀ p z, takeFme e.val 1 s = some (p, z) → exec (.fmeWreqReceive e) s = went (reqIn e.val) p z) ∧
     (∀ p z, takeFme e.val 2 s = some (p, z) → exec (.fmeRreqReceive e) s = went (reqIn e.val) p z) ∧
     (∀ p z, takeFme e.val 4 s = some (p, z) → exec (.fmeAreqReceive e) s = went (reqIn e.val) p z) ∧
     (∀ p z, takeFme e.val 3 s = some (p, z) → exec (.fmeRrespReceive e) s = went (resp dataOf) p z) ∧
     (∀ p z, takeFme e.val 5 s = some (p, z) →
       exec (.fmeArespReceive e) s = went (resp (fun p => toBytes 8 (hdrOf p).arg)) p z) ∧
     (∀ p z, takeFme e.val 6 s = some (p, z) → exec (.fmeAckReceive e) s = went (fun p => ackIn e.val (hdrOf p)) p z) ∧
     (∀ p z, takeFme e.val 7 s = some (p, z) → exec (.fmeNakReceive e) s = went (fun p => nakIn e.val (hdrOf p)) p z) ∧
     (takeFme e.val 1 s = none → exec (.fmeWreqReceive e) s = .next (settle s)) ∧
     (takeFme e.val 2 s = none → exec (.fmeRreqReceive e) s = .next (settle s)) ∧
     (takeFme e.val 3 s = none → exec (.fmeRrespReceive e) s = .next (settle s)) ∧
     (takeFme e.val 4 s = none → exec (.fmeAreqReceive e) s = .next (settle s)) ∧
     (takeFme e.val 5 s = none → exec (.fmeArespReceive e) s = .next (settle s)) ∧
     (takeFme e.val 6 s = none → exec (.fmeAckReceive e) s = .next (settle s)) ∧
     (takeFme e.val 7 s = none → exec (.fmeNakReceive e) s = .next (settle s)) ∧
     (∀ pt p z, takeFme e.val pt s = some (p, z) → (hdrOf p).pt = pt ∧ z.regs = s.regs ∧ z.eng = s.eng) ∧
     (∀ p, s.holdsAt (e.val / 2) = true → p.snode ≠ s.node → reqIn e.val p s = sendNak e.val p (hdrOf p) 0x81 s) ∧
     (∀ h, answers s e.val h.mid h.pidx (h.arg % 2 ^ 16) = none → ackIn e.val h s = s ∧ nakIn e.val h s = s)) ∧
  (∀ (s : State) (e : Fin 48) (mid pidx : Nat),
     (∀ m t, trackOf s e.val mid pidx = some (m, t) →
       let z := s.reach (t.at_ + rtoNs s)
       (t.st = .out ∨ t.st = .pend → t.pended = false → exec (.fmeRtoExpire e mid pidx) s =
         .next (settle (sendCopy e.val m t ((z.bump (Reg.RTOCNT e.val)).onDest e.val m.dnode (setback z true))))) ∧
       (t.st = .out ∨ t.st = .pend → t.pended = true → exec (.fmeRtoExpire e mid pidx) s =
         .next (settle (sendCopy e.val m t z))) ∧
       (t.st ≠ .out → t.st ≠ .pend → exec (.fmeRtoExpire e mid pidx) s = .next (settle s)) ∧
       (∀ d, t.st = .nakWait d → exec (.nakwaitExpire e mid pidx) s = .next (settle (sendCopy e.val m t (s.reach d)))) ∧
       ((∀ d, t.st ≠ .nakWait d) → exec (.nakwaitExpire e mid pidx) s = .next (settle s))) ∧
     (trackOf s e.val mid pidx = none →
       exec (.fmeRtoExpire e mid pidx) s = .next (settle s) ∧ exec (.nakwaitExpire e mid pidx) s = .next (settle s)) ∧
     (∀ m t, s.msg e.val mid = some m → m.started = some t → exec (.fmeMessageTimeout e mid) s =
       .next (settle (closeMsg e.val { m with fail := some 0x16 } (s.reach (t + 2000000))))) ∧
     ((s.msg e.val mid).bind (fun m => m.started) = none → exec (.fmeMessageTimeout e mid) s = .next (settle s))) ∧
  (∀ (s : State) (n : Fin 24) (a b c : Nat),
     (∀ r, findReasm s n.val a b c = some r → r.st = .open_ →
       let k := onReasm n.val a b c (fun r => { r with st := .held, result := some 0x16 })
         ((s.reach (r.since + 2000000)).bump (Reg.REASM_TOCNT n.val))
       let i := r.rkey % 2 ^ 20
       let done (k : State) : Answer := .next (settle (k.raiseLimited (gEvt 18) none (512 + n.val)).intx)
       (keyState k i = 0 ∨ ownerPart k (keyOwner k i) = none → exec (.reasmTimeout n a b c) s = done k) ∧
       (∀ q, keyState k i ≠ 0 → ownerPart k (keyOwner k i) = some q → q < 48 →
         exec (.reasmTimeout n a b c) s = done (ringWrite q 5 a r.rkey r.roff k))) ∧
     (∀ r, findReasm s n.val a b c = some r → r.st = .held → r.result.isSome = true →
       let k := s.reach (r.last + 2 * rtoNs s)
       exec (.reasmHeldExpire n a b c) s = .next (setReasm n.val ((reasmOf k n.val).filter (fun r => !r.is a b c)) k)) ∧
     (∀ r, findReasm s n.val a b c = some r → r.st ≠ .open_ → exec (.reasmTimeout n a b c) s = .next (settle s)) ∧
     (∀ r, findReasm s n.val a b c = some r → r.st ≠ .held ∨ r.result = none →
       exec (.reasmHeldExpire n a b c) s = .next s) ∧
     (findReasm s n.val a b c = none →
       exec (.reasmTimeout n a b c) s = .next (settle s) ∧ exec (.reasmHeldExpire n a b c) s = .next s)) ∧
  (∀ (s : State) (e : Fin 48) (node : Fin 4096),
     (∀ d, s.dest e.val node.val = some d →
       (∀ t, d.idle = some t → exec (.destContextRelease e node) s = .next (addLiv (Reg.DSTACT e.val) (-1)
         ((s.reach (t + 1000000)).onFme e.val (fun g => { g with dests := Tab.del g.dests node.val })))) ∧
       (d.idle = none → exec (.destContextRelease e node) s = .next s) ∧
       (∀ t r, d.round = some t → d.rtt = some r →
         exec (.ccRoundEnd e node) s = .next ((s.reach (t + r)).onDest e.val node.val (endRound (s.reach (t + r))))) ∧
       (d.round = none ∨ d.rtt = none → exec (.ccRoundEnd e node) s = .next s) ∧
       (∀ t, d.pace = some t → exec (.pacingWaitEnd e node) s =
         .next ((s.reach t).onDest e.val node.val (fun d => { d with pace := none }))) ∧
       (d.pace = none → exec (.pacingWaitEnd e node) s = .next s)) ∧
     (s.dest e.val node.val = none → exec (.destContextRelease e node) s = .next s ∧
       exec (.ccRoundEnd e node) s = .next s ∧ exec (.pacingWaitEnd e node) s = .next s))

/-! ## DMA channels, cue lines, slices -/

/-- R456, R460 to R464: an accepted producer index is stored and the ring read goes on, a refused one sets CMDREJ; START,
PAUSE and ABORT act for the channel's own origin, another's is refused; PAUSE holds a channel in RUN or WAITGO and is refused
in the other states, an ABORT is refused in IDLE and, without a descriptor in progress, leads to IDLE, a START is refused in
M0, M4 and M5 and in RUN and WAITGO; a channel in RUN comes to its next descriptor, the channel that the mover selects moves
a beat, and a descriptor that has ended is ended.

R465 to R469: the pulse that has waited longest on a line is counted and reaches the waiting take, the WAITs, the gated
channels and the restarted timers, in this order, and is forwarded; a timer is armed by a manager's write of its word 0 and
fires at its time, again after its period when its mode is 2; a source on a line that its partition does not own sends
nothing and is counted, and a pulse that finds 64 waiting is lost, counted and reported. -/
def Obligations.DmaAndCues : Prop :=
  ((∀ (s : State) (t : Take) (w a : Nat) (v : Word), AtLive chPiRule s t w a v →
     let c := chOf a
     let ok := originOwns s t.origin (chOwner s c) && piFits s c (v.toNat % 2 ^ 16)
     (ok = true → exec .chPiWrite s = .next (liveDone t a v
       (fun z => settle (pumpFetch c (z.setLivN a (v.toNat % 2 ^ 16)))) s)) ∧
     (ok = false → exec .chPiWrite s = .next (liveDone t a v (cmdRej c) s))) ∧
   (∀ (s : State) (t : Take) (w a : Nat) (v : Word),
     let c := chOf a
     let own := originOwns s t.origin (chOwner s c)
     let done (act : State → State) : Answer := .next (liveDone t a v act s)
     (AtLive (chCmdRule [1]) s t w a v → own = true →
       exec .chStart s = done (fun z => settle (startChan c (fget v Fld.CH_CMD_CLRGO == 1) z))) ∧
     (AtLive (chCmdRule [2]) s t w a v → own = true → exec .chPause s = done (pauseChan c)) ∧
     (AtLive (chCmdRule [3]) s t w a v → own = true → exec .chAbort s = done (fun z => settle (abortChan c z))) ∧
     (AtLive (chCmdRule [1]) s t w a v → own = false → exec .chStart s = done (cmdRej c)) ∧
     (AtLive (chCmdRule [2]) s t w a v → own = false → exec .chPause s = done (cmdRej c)) ∧
     (AtLive (chCmdRule [3]) s t w a v → own = false → exec .chAbort s = done (cmdRej c))) ∧
   (∀ (s : State) (c : Nat), c < 64 → s.regs.canon = true →
     (chState s c = 1 ∨ chState s c = 2 → chState (pauseChan c s) c = 3) ∧
     (chState s c = 0 ∨ chState s c = 3 → pauseChan c s = cmdRej c s) ∧
     (chState s c = 0 → abortChan c s = cmdRej c s) ∧
     (chState s c ≠ 0 → (s.chan c).cur = none → chState (abortChan c s) c = 0) ∧
     (s.mode = 0 ∨ s.mode = 4 ∨ s.mode = 5 ∨ chState s c = 1 ∨ chState s c = 2 → ∀ b, startChan c b s = cmdRej c s)) ∧
   (∀ (s : State) (c : Fin 64),
     exec (.dmaDescStart c) s = .next (settle (nextCh c.val s)) ∧
     (chState s c.val ≠ 1 → nextCh c.val s = s) ∧
     (∀ d, selectCh s = some d → exec .dmaBeat s = .next (settle (moveBeat d s))) ∧
     (selectCh s = none → exec .dmaBeat s = .next (settle s)) ∧
     (chEnded s c.val = true → exec (.dmaDescEnd c) s = .next (settle (chEnd c.val s))) ∧
     (chEnded s c.val = false → exec (.dmaDescEnd c) s = .next (settle s)))) ∧
  ((∀ (s : State) (l : Fin 256) (k : Nat), Tab.get 0 s.cues.waiting l.val = k + 1 →
     let z := { s with cues := { s.cues with waiting := Tab.set 0 s.cues.waiting l.val k } }
     exec (.cuePulseDeliver l) s = .next (settle (cueForward l.val (cueRestart l.val (cueGo l.val (waitCue l.val
       (cueTake l.val (perf 73 5 (some l.val) 1 {} (z.bump (Reg.CUE_CNT l.val)))))))))) ∧
   (∀ (s : State) (l : Fin 256), Tab.get 0 s.cues.waiting l.val = 0 → exec (.cuePulseDeliver l) s = .next (settle s)) ∧
   (∀ (s : State) (t : Take) (w i : Nat) (v : Word), i < 16 →
     AtLive { tmrRule with sel := fun a _ => isTmr a && a % 16 == 0 } s t w (Reg.CUE_TMR i 0) v →
     48 ≤ t.origin ∧ exec .cueTimerArm s = .next (liveDone t (Reg.CUE_TMR i 0) v
       (fun z => armTimer i v ((plainEffect s t (Reg.CUE_TMR i 0) v).act z)) s)) ∧
   (∀ (s : State) (i : Nat) (v : Word), Tab.rises s.eng.tmr = true →
     (v.toNat % 4 = 0 → Tab.find (armTimer i v s).eng.tmr i = none) ∧
     (v.toNat % 4 = 1 ∨ v.toNat % 4 = 2 → ∃ m, Tab.find (armTimer i v s).eng.tmr i = some m ∧ m.line = bits v.toNat 2 8 ∧
       m.next = some (s.now + max 4 (s.liv (Reg.CUE_TMR i 1)).toNat)) ∧
     (v.toNat % 4 = 3 → ∃ m, Tab.find (armTimer i v s).eng.tmr i = some m ∧ m.next = some (s.liv64 (Reg.CUE_TMR i 2)))) ∧
   (∀ (s : State) (t : Fin 16) (m : CueTimer) (d : Nat), Tab.find s.eng.tmr t.val = some m → m.next = some d →
     let k := if m.mode = 3 then s.reachFt d else s.reach d
     let m2 := { m with next := if m.mode = 2 then some (d + m.period) else none }
     exec (.cueTimerFire t) s = .next (cuePulse none m.line (k.onEng (fun e => { e with tmr := Tab.put e.tmr t.val m2 })))) ∧
   (∀ (s : State) (t : Fin 16), (Tab.find s.eng.tmr t.val).bind (fun m => m.next) = none → exec (.cueTimerFire t) s = .next s) ∧
   (∀ (s : State) (q l : Nat), cueOwnedBy s.act l q = false → cuePulse (some q) l s = s.bump Reg.CUE_DENYCNT) ∧
   (∀ (s : State) (l : Nat), 64 ≤ Tab.get 0 s.cues.waiting l →
     (cueAccept l s).cues = s.cues ∧ cueAccept l s = (((s.bump Reg.CUE_LOSTCNT).setLivN Reg.CUE_STAT (1 + l * 256)).raiseLimited (gEvt 20))))

/-- R476 to R479, R481, R482, R484: a slice command shows its CODE; an accepted LULL begins the long operation, a refused one
ends the take REFUSED; accepted, RESUME, RESET and FLUSH act at once, and refused they only show their CODE: that of a
foreign partition, then of a slice not bound, then of a state without a row. The Lull is reached when nothing of the slice
is outstanding and its log, begun by then, is written; a RESET is done when its purge is, and a FLUSH when its lines are,
with its cue. -/
def Obligations.SliceCommands : Prop :=
  (∀ (s : State) (t : Take) (w : Nat) (v : Word),
    let a := Reg.GLB_SLICECMD
    let i := fget v Fld.GLB_SLICECMD_SLICE
    let op := fget v Fld.GLB_SLICECMD_OP
    let code := sliceCode s t.origin i op
    let told (z : State) : State := (storeCmd a v [Fld.GLB_SLICECMD_OP] z).setLivN Reg.GLB_SLICESTAT (code + 16 * i)
    let done (act : State → State) : Answer := .next (liveDone t a v act s)
    let k := logLive t a v s
    (AtLive (sliceRule [1]) s t w a v → code ≠ 0 → exec .sliceLull s = .next (endTake .refused (told k))) ∧
    (AtLive (sliceRule [1]) s t w a v → code = 0 → exec .sliceLull s = .next (settle (beginLull i
      ((told (startLong (.lull i) true (k.setTake (some (t.mark k.now))))).onSl i
        (fun x => { x with late := false, lullCue := sliceCue v }))))) ∧
    (AtLive (sliceRule [2]) s t w a v → code = 0 → exec .sliceResume s = done (fun z => settle (resumeSlice i (told z)))) ∧
    (AtLive (sliceRule [3]) s t w a v → code = 0 → exec .sliceReset s = done (fun z => settle (clearSlice i (told z)))) ∧
    (AtLive (sliceRule [4]) s t w a v → code = 0 →
      exec .sliceFlush s = done (fun z => settle (flushSlice i (sliceCue v) (told z)))) ∧
    (AtLive (sliceRule [2]) s t w a v → code ≠ 0 → exec .sliceResume s = done told) ∧
    (AtLive (sliceRule [3]) s t w a v → code ≠ 0 → exec .sliceReset s = done told) ∧
    (AtLive (sliceRule [4]) s t w a v → code ≠ 0 → exec .sliceFlush s = done told)) ∧
  (∀ (s : State) (t : Fin 4096),
    let x := s.sl t.val
    (x.st = 2 → sliceQuiet s t.val = true → x.lullFlush = true → x.lines = 0 →
      exec (.sliceLullReached t) s = .next (settle (enterLull t.val s))) ∧
    (x.st ≠ 2 ∨ sliceQuiet s t.val = false ∨ (x.lullFlush = true ∧ 0 < x.lines) →
      exec (.sliceLullReached t) s = .next (settle s)) ∧
    (x.resetting = true → keysOf s (isSlice t.val) = [] → exec (.sliceResetDone t) s =
      .next (((s.onSl t.val (fun x => { x with resetting := false })).raise (gEvt 17) (some (slicePart s t.val))).logDevice
        (slicePart s t.val))) ∧
    (x.resetting = false ∨ keysOf s (isSlice t.val) ≠ [] → exec (.sliceResetDone t) s = .next s) ∧
    (x.flushing = true → x.lines = 0 → x.flushCue = none → exec (.sliceFlushDone t) s =
      .next (s.onSl t.val (fun x => { x with flushing := false, flushCue := none }))) ∧
    (∀ l, x.flushing = true → x.lines = 0 → x.flushCue = some l → exec (.sliceFlushDone t) s = .next (cuePulse
      (some (slicePart s t.val)) l (s.onSl t.val (fun x => { x with flushing := false, flushCue := none })))) ∧
    (x.flushing = false ∨ 0 < x.lines → exec (.sliceFlushDone t) s = .next s)) ∧
  (∀ (s : State) (origin t op : Nat), 1 ≤ op → op ≤ 4 →
    let st := (s.sl t).st
    let row := (op = 1 ∧ st = 1) ∨ ((op = 2 ∨ op = 3) ∧ st = 0) ∨ (op = 4 ∧ st ≠ 2)
    let foreign := origin < 48 ∧ slicePart s t ≠ origin
    (foreign → sliceCode s origin t op = 1) ∧
    (¬foreign → sliceBound s t = false → sliceCode s origin t op = 2) ∧
    (¬foreign → sliceBound s t = true → ¬row → sliceCode s origin t op = 3))

/-! ## Wire forms -/

/-- R224, R225: the header of a packet whose fields fit their widths reads back with every field at its value, and a header
whose hcrc is not the CRC-12 of its other bits is turned away. -/
def Obligations.HeadersReadBack : Prop :=
  (∀ p : Packet, p.wf = true → readHeader (packetHeader p) p.body = some p) ∧
  (∀ (h : Nat) (b : PBody), h % 2 ^ 12 ≠ hcrc (h / 2 ^ 12) % 2 ^ 12 → readHeader h b = none)

/-- R229, R230: a short packet of every subtype reads back with every field of its body, BSEQ, BACK and BOUND at its value;
one whose CRC-16 fails, or of a reserved subtype, is turned away. -/
def Obligations.ShortPacketsReadBack : Prop :=
  (∀ (bound : Nat) (k : Short), bound < 2 ^ 9 → k.bseq < 2 ^ 8 → k.back < 2 ^ 8 → k.body.wf = true →
    readShort (shortWord bound k) = some (k, bound)) ∧
  (∀ h : Nat, h % 2 ^ 16 ≠ shortCrc (h / 2 ^ 16) % 2 ^ 16 → readShort h = none) ∧
  (∀ h : Nat, bits h 124 4 = 0 ∨ 11 ≤ bits h 124 4 → readShort h = none)

/-! ## Every step -/

/-- The model's invariant: a step never takes the register tables, the mailboxes or the executing take's
general registers out of their canonical form, so that a
register that is written reads as written and two equal machines are equal data (R69, R594). -/
def Obligations.StepKeepsCanonicalForm : Prop := ∀ s t : State, s.canon = true → step s = .next t → t.canon = true

/-- Every command ends in a next state, and none touches the commands that wait behind it: a step takes exactly the front
of the queue (log entry 3). -/
def Obligations.StepTakesOneCommand : Prop :=
  ∀ s : State, ∃ t, step s = .next t ∧ t.pending = s.pending.tail
end

