-- ==== Sys2Proof/Laws/Tab.lean ====
section
/-! SUPPORT. The laws of sparse tables: read after write, and the canonical form that every operation keeps. -/

namespace Sys2Proof.Machine

variable {α : Type}

/-! ## Read after write -/

@[simp] theorem Tab.find_nil (k : Nat) : Tab.find ([] : Tab α) k = none := rfl

@[simp] theorem Tab.find_put_self (t : Tab α) (k : Nat) (v : α) : Tab.find (Tab.put t k v) k = some v := by
  induction t with
  | nil => simp [Tab.put, Tab.find]
  | cons e t ih =>
    obtain ⟨j, w⟩ := e
    unfold Tab.put
    split
    · simp [Tab.find]
    · split
      · simp [Tab.find]
      · unfold Tab.find
        rw [if_neg (by omega), if_neg (by omega)]
        exact ih

theorem Tab.find_put_ne (t : Tab α) {k i : Nat} (v : α) (h : i ≠ k) : Tab.find (Tab.put t k v) i = Tab.find t i := by
  induction t with
  | nil => simp [Tab.put, Tab.find, Ne.symm h]
  | cons e t ih =>
    obtain ⟨j, w⟩ := e
    unfold Tab.put
    split
    · rename_i hk
      by_cases hi : i < k
      · simp [Tab.find, Ne.symm h, hi, show j ≠ i by omega, show i < j by omega]
      · simp [Tab.find, Ne.symm h, hi]
    · split
      · rename_i hk
        subst hk
        simp [Tab.find, Ne.symm h]
      · simp [Tab.find, ih]

/-- Below the first key nothing is listed. -/
theorem Tab.find_none_of_risesFrom {t : Tab α} {lo k : Nat} (h : Tab.risesFrom lo t = true) (hk : k ≤ lo) :
    Tab.find t k = none := by
  cases t with
  | nil => rfl
  | cons e t =>
    obtain ⟨j, w⟩ := e
    simp only [Tab.risesFrom, Bool.and_eq_true, decide_eq_true_eq] at h
    simp [Tab.find, show j ≠ k by omega, show k < j by omega]

theorem Tab.risesFrom_mono {t : Tab α} {lo hi : Nat} (h : Tab.risesFrom hi t = true) (hl : lo ≤ hi) :
    Tab.risesFrom lo t = true := by
  cases t with
  | nil => rfl
  | cons e t =>
    obtain ⟨j, w⟩ := e
    simp only [Tab.risesFrom, Bool.and_eq_true, decide_eq_true_eq] at h ⊢
    exact ⟨by omega, h.2⟩

theorem Tab.rises_of_risesFrom {t : Tab α} {lo : Nat} (h : Tab.risesFrom lo t = true) : Tab.rises t = true := by
  cases t with
  | nil => rfl
  | cons e t =>
    obtain ⟨j, w⟩ := e
    simp only [Tab.risesFrom, Bool.and_eq_true] at h
    exact h.2

@[simp] theorem Tab.find_del_ne (t : Tab α) {k i : Nat} (h : i ≠ k) (hr : Tab.rises t = true) :
    Tab.find (Tab.del t k) i = Tab.find t i := by
  induction t with
  | nil => rfl
  | cons e t ih =>
    obtain ⟨j, w⟩ := e
    unfold Tab.del
    split
    · rename_i hj
      subst hj
      simp only [Tab.find, if_neg (Ne.symm h)]
      split
      · exact Tab.find_none_of_risesFrom hr (by omega)
      · rfl
    · simp only [Tab.find, ih (Tab.rises_of_risesFrom hr)]

theorem Tab.find_del_self (t : Tab α) (k : Nat) (hr : Tab.rises t = true) : Tab.find (Tab.del t k) k = none := by
  induction t with
  | nil => rfl
  | cons e t ih =>
    obtain ⟨j, w⟩ := e
    unfold Tab.del
    split
    · rename_i hj
      exact Tab.find_none_of_risesFrom hr (by omega)
    · rename_i hj
      simp only [Tab.find, if_neg hj, ih (Tab.rises_of_risesFrom hr)]
      split <;> rfl

/-! ## The canonical form -/

theorem Tab.risesFrom_put {t : Tab α} {lo k : Nat} (v : α) (h : Tab.risesFrom lo t = true) (hk : lo < k) :
    Tab.risesFrom lo (Tab.put t k v) = true := by
  induction t generalizing lo with
  | nil => simp [Tab.put, Tab.risesFrom, hk]
  | cons e t ih =>
    obtain ⟨j, w⟩ := e
    simp only [Tab.risesFrom, Bool.and_eq_true, decide_eq_true_eq] at h
    unfold Tab.put
    split
    · simp only [Tab.risesFrom, Bool.and_eq_true, decide_eq_true_eq]
      exact ⟨hk, by omega, h.2⟩
    · split
      · rename_i hj
        subst hj
        simp only [Tab.risesFrom, Bool.and_eq_true, decide_eq_true_eq]
        exact ⟨hk, h.2⟩
      · simp only [Tab.risesFrom, Bool.and_eq_true, decide_eq_true_eq]
        exact ⟨h.1, ih h.2 (by omega)⟩

theorem Tab.rises_put {t : Tab α} (k : Nat) (v : α) (h : Tab.rises t = true) : Tab.rises (Tab.put t k v) = true := by
  cases t with
  | nil => simp [Tab.put, Tab.rises, Tab.risesFrom]
  | cons e t =>
    obtain ⟨j, w⟩ := e
    unfold Tab.put
    split
    · simp only [Tab.rises, Tab.risesFrom, Bool.and_eq_true, decide_eq_true_eq]
      exact ⟨by omega, h⟩
    · split
      · rename_i hj
        subst hj
        exact h
      · exact Tab.risesFrom_put v h (by omega)

theorem Tab.risesFrom_del {t : Tab α} {lo : Nat} (k : Nat) (h : Tab.risesFrom lo t = true) :
    Tab.risesFrom lo (Tab.del t k) = true := by
  induction t generalizing lo with
  | nil => rfl
  | cons e t ih =>
    obtain ⟨j, w⟩ := e
    simp only [Tab.risesFrom, Bool.and_eq_true, decide_eq_true_eq] at h
    unfold Tab.del
    split
    · exact Tab.risesFrom_mono h.2 (by omega)
    · simp only [Tab.risesFrom, Bool.and_eq_true, decide_eq_true_eq]
      exact ⟨h.1, ih h.2⟩

theorem Tab.rises_del {t : Tab α} (k : Nat) (h : Tab.rises t = true) : Tab.rises (Tab.del t k) = true := by
  cases t with
  | nil => rfl
  | cons e t =>
    obtain ⟨j, w⟩ := e
    unfold Tab.del
    split
    · exact Tab.rises_of_risesFrom h
    · exact Tab.risesFrom_del k h

theorem Tab.mem_put {t : Tab α} {k : Nat} {v : α} {e : Nat × α} (h : e ∈ Tab.put t k v) : e = (k, v) ∨ e ∈ t := by
  induction t with
  | nil => simpa [Tab.put] using h
  | cons x t ih =>
    obtain ⟨j, w⟩ := x
    unfold Tab.put at h
    split at h
    · simpa using h
    · split at h
      · simp only [List.mem_cons] at h ⊢
        rcases h with h | h
        · exact .inl h
        · exact .inr (.inr h)
      · simp only [List.mem_cons] at h ⊢
        rcases h with h | h
        · exact .inr (.inl h)
        · rcases ih h with h | h
          · exact .inl h
          · exact .inr (.inr h)

theorem Tab.mem_del {t : Tab α} {k : Nat} {e : Nat × α} (h : e ∈ Tab.del t k) : e ∈ t := by
  induction t with
  | nil => exact h
  | cons x t ih =>
    obtain ⟨j, w⟩ := x
    unfold Tab.del at h
    split at h
    · exact List.mem_cons_of_mem _ h
    · simp only [List.mem_cons] at h ⊢
      rcases h with h | h
      · exact .inl h
      · exact .inr (ih h)

theorem Tab.risesFrom_keep {t : Tab α} {lo : Nat} (q : Nat → Bool) (h : Tab.risesFrom lo t = true) :
    Tab.risesFrom lo (Tab.keep q t) = true := by
  induction t generalizing lo with
  | nil => rfl
  | cons e t ih =>
    obtain ⟨j, w⟩ := e
    simp only [Tab.risesFrom, Bool.and_eq_true, decide_eq_true_eq] at h
    simp only [Tab.keep, List.filter_cons]
    split
    · simp only [Tab.risesFrom, Bool.and_eq_true, decide_eq_true_eq]
      exact ⟨h.1, ih h.2⟩
    · exact ih (Tab.risesFrom_mono h.2 (by omega))

variable [DecidableEq α]

theorem Tab.wf_iff (d : Nat → α) (t : Tab α) :
    Tab.wf d t = true ↔ Tab.rises t = true ∧ ∀ e ∈ t, e.2 ≠ d e.1 := by
  simp [Tab.wf]

/-- Writing keeps the canonical form. -/
theorem Tab.wf_set {d : Nat → α} {t : Tab α} (k : Nat) (v : α) (h : Tab.wf d t = true) :
    Tab.wf d (Tab.set (d k) t k v) = true := by
  rw [Tab.wf_iff] at h ⊢
  unfold Tab.set
  split
  · exact ⟨Tab.rises_del k h.1, fun e he => h.2 e (Tab.mem_del he)⟩
  · rename_i hv
    refine ⟨Tab.rises_put k v h.1, fun e he => ?_⟩
    rcases Tab.mem_put he with rfl | he
    · exact hv
    · exact h.2 e he

theorem Tab.get_set_self {d : α} {t : Tab α} (k : Nat) (v : α) (h : Tab.rises t = true) :
    (Tab.find (Tab.set d t k v) k).getD d = v := by
  unfold Tab.set
  split
  · rename_i hv
    simp [Tab.find_del_self t k h, hv]
  · simp

theorem Tab.find_set_ne {d : α} {t : Tab α} {k i : Nat} (v : α) (hi : i ≠ k) (h : Tab.rises t = true) :
    Tab.find (Tab.set d t k v) i = Tab.find t i := by
  unfold Tab.set
  split
  · exact Tab.find_del_ne t hi h
  · exact Tab.find_put_ne t v hi

theorem Tab.wf_rises {d : Nat → α} {t : Tab α} (h : Tab.wf d t = true) : Tab.rises t = true :=
  ((Tab.wf_iff d t).1 h).1

/-- Keeping the entries of some keys keeps the canonical form. -/
theorem Tab.wf_keep {d : Nat → α} {t : Tab α} (q : Nat → Bool) (h : Tab.wf d t = true) :
    Tab.wf d (Tab.keep q t) = true := by
  rw [Tab.wf_iff] at h ⊢
  refine ⟨?_, fun e he => h.2 e (List.mem_filter.1 he).1⟩
  cases t with
  | nil => rfl
  | cons e t =>
    obtain ⟨j, w⟩ := e
    simp only [Tab.keep, List.filter_cons]
    split
    · exact Tab.risesFrom_keep q h.1
    · exact Tab.rises_of_risesFrom (Tab.risesFrom_keep q h.1)

end Sys2Proof.Machine
end

