-- ==== Sys2Proof/Laws/State.lean ====
section
/-! SUPPORT. What each update of the state leaves, field by field, and what the accessors read after a write. -/

namespace Sys2Proof.Machine

variable (s : State)

/-! ## `setShd` -/

@[simp] theorem State.setShd_pending (a : Nat) (v : Word) : (s.setShd a v).pending = s.pending := rfl
@[simp] theorem State.setShd_now (a : Nat) (v : Word) : (s.setShd a v).now = s.now := rfl
@[simp] theorem State.setShd_ft (a : Nat) (v : Word) : (s.setShd a v).ft = s.ft := rfl
@[simp] theorem State.setShd_fresh (a : Nat) (v : Word) : (s.setShd a v).fresh = s.fresh := rfl
@[simp] theorem State.setShd_latches (a : Nat) (v : Word) : (s.setShd a v).latches = s.latches := rfl
@[simp] theorem State.setShd_mbox (a : Nat) (v : Word) : (s.setShd a v).mbox = s.mbox := rfl
@[simp] theorem State.setShd_partI3c (a : Nat) (v : Word) : (s.setShd a v).partI3c = s.partI3c := rfl
@[simp] theorem State.setShd_partJtag (a : Nat) (v : Word) : (s.setShd a v).partJtag = s.partJtag := rfl
@[simp] theorem State.setShd_dir (a : Nat) (v : Word) : (s.setShd a v).dir = s.dir := rfl
@[simp] theorem State.setShd_slate (a : Nat) (v : Word) : (s.setShd a v).slate = s.slate := rfl
@[simp] theorem State.setShd_evt (a : Nat) (v : Word) : (s.setShd a v).evt = s.evt := rfl
@[simp] theorem State.setShd_cues (a : Nat) (v : Word) : (s.setShd a v).cues = s.cues := rfl
@[simp] theorem State.setShd_rst (a : Nat) (v : Word) : (s.setShd a v).rst = s.rst := rfl
@[simp] theorem State.setShd_scrub (a : Nat) (v : Word) : (s.setShd a v).scrub = s.scrub := rfl
@[simp] theorem State.setShd_boot (a : Nat) (v : Word) : (s.setShd a v).boot = s.boot := rfl
@[simp] theorem State.setShd_sec (a : Nat) (v : Word) : (s.setShd a v).sec = s.sec := rfl
@[simp] theorem State.setShd_env (a : Nat) (v : Word) : (s.setShd a v).env = s.env := rfl
@[simp] theorem State.setShd_parts (a : Nat) (v : Word) : (s.setShd a v).parts = s.parts := rfl
@[simp] theorem State.setShd_dp (a : Nat) (v : Word) : (s.setShd a v).dp = s.dp := rfl
@[simp] theorem State.setShd_eng (a : Nat) (v : Word) : (s.setShd a v).eng = s.eng := rfl
@[simp] theorem State.setShd_pow (a : Nat) (v : Word) : (s.setShd a v).pow = s.pow := rfl
@[simp] theorem State.setShd_drift (a : Nat) (v : Word) : (s.setShd a v).drift = s.drift := rfl
@[simp] theorem State.setShd_out (a : Nat) (v : Word) : (s.setShd a v).out = s.out := rfl

/-! ## `setAct` -/

@[simp] theorem State.setAct_pending (a : Nat) (v : Word) : (s.setAct a v).pending = s.pending := rfl
@[simp] theorem State.setAct_now (a : Nat) (v : Word) : (s.setAct a v).now = s.now := rfl
@[simp] theorem State.setAct_ft (a : Nat) (v : Word) : (s.setAct a v).ft = s.ft := rfl
@[simp] theorem State.setAct_fresh (a : Nat) (v : Word) : (s.setAct a v).fresh = s.fresh := rfl
@[simp] theorem State.setAct_latches (a : Nat) (v : Word) : (s.setAct a v).latches = s.latches := rfl
@[simp] theorem State.setAct_mbox (a : Nat) (v : Word) : (s.setAct a v).mbox = s.mbox := rfl
@[simp] theorem State.setAct_partI3c (a : Nat) (v : Word) : (s.setAct a v).partI3c = s.partI3c := rfl
@[simp] theorem State.setAct_partJtag (a : Nat) (v : Word) : (s.setAct a v).partJtag = s.partJtag := rfl
@[simp] theorem State.setAct_dir (a : Nat) (v : Word) : (s.setAct a v).dir = s.dir := rfl
@[simp] theorem State.setAct_slate (a : Nat) (v : Word) : (s.setAct a v).slate = s.slate := rfl
@[simp] theorem State.setAct_evt (a : Nat) (v : Word) : (s.setAct a v).evt = s.evt := rfl
@[simp] theorem State.setAct_cues (a : Nat) (v : Word) : (s.setAct a v).cues = s.cues := rfl
@[simp] theorem State.setAct_rst (a : Nat) (v : Word) : (s.setAct a v).rst = s.rst := rfl
@[simp] theorem State.setAct_scrub (a : Nat) (v : Word) : (s.setAct a v).scrub = s.scrub := rfl
@[simp] theorem State.setAct_boot (a : Nat) (v : Word) : (s.setAct a v).boot = s.boot := rfl
@[simp] theorem State.setAct_sec (a : Nat) (v : Word) : (s.setAct a v).sec = s.sec := rfl
@[simp] theorem State.setAct_env (a : Nat) (v : Word) : (s.setAct a v).env = s.env := rfl
@[simp] theorem State.setAct_parts (a : Nat) (v : Word) : (s.setAct a v).parts = s.parts := rfl
@[simp] theorem State.setAct_dp (a : Nat) (v : Word) : (s.setAct a v).dp = s.dp := rfl
@[simp] theorem State.setAct_eng (a : Nat) (v : Word) : (s.setAct a v).eng = s.eng := rfl
@[simp] theorem State.setAct_pow (a : Nat) (v : Word) : (s.setAct a v).pow = s.pow := rfl
@[simp] theorem State.setAct_drift (a : Nat) (v : Word) : (s.setAct a v).drift = s.drift := rfl
@[simp] theorem State.setAct_out (a : Nat) (v : Word) : (s.setAct a v).out = s.out := rfl

/-! ## `setLiv` -/

@[simp] theorem State.setLiv_pending (a : Nat) (v : Word) : (s.setLiv a v).pending = s.pending := rfl
@[simp] theorem State.setLiv_now (a : Nat) (v : Word) : (s.setLiv a v).now = s.now := rfl
@[simp] theorem State.setLiv_ft (a : Nat) (v : Word) : (s.setLiv a v).ft = s.ft := rfl
@[simp] theorem State.setLiv_fresh (a : Nat) (v : Word) : (s.setLiv a v).fresh = s.fresh := rfl
@[simp] theorem State.setLiv_latches (a : Nat) (v : Word) : (s.setLiv a v).latches = s.latches := rfl
@[simp] theorem State.setLiv_mbox (a : Nat) (v : Word) : (s.setLiv a v).mbox = s.mbox := rfl
@[simp] theorem State.setLiv_partI3c (a : Nat) (v : Word) : (s.setLiv a v).partI3c = s.partI3c := rfl
@[simp] theorem State.setLiv_partJtag (a : Nat) (v : Word) : (s.setLiv a v).partJtag = s.partJtag := rfl
@[simp] theorem State.setLiv_dir (a : Nat) (v : Word) : (s.setLiv a v).dir = s.dir := rfl
@[simp] theorem State.setLiv_slate (a : Nat) (v : Word) : (s.setLiv a v).slate = s.slate := rfl
@[simp] theorem State.setLiv_evt (a : Nat) (v : Word) : (s.setLiv a v).evt = s.evt := rfl
@[simp] theorem State.setLiv_cues (a : Nat) (v : Word) : (s.setLiv a v).cues = s.cues := rfl
@[simp] theorem State.setLiv_rst (a : Nat) (v : Word) : (s.setLiv a v).rst = s.rst := rfl
@[simp] theorem State.setLiv_scrub (a : Nat) (v : Word) : (s.setLiv a v).scrub = s.scrub := rfl
@[simp] theorem State.setLiv_boot (a : Nat) (v : Word) : (s.setLiv a v).boot = s.boot := rfl
@[simp] theorem State.setLiv_sec (a : Nat) (v : Word) : (s.setLiv a v).sec = s.sec := rfl
@[simp] theorem State.setLiv_env (a : Nat) (v : Word) : (s.setLiv a v).env = s.env := rfl
@[simp] theorem State.setLiv_parts (a : Nat) (v : Word) : (s.setLiv a v).parts = s.parts := rfl
@[simp] theorem State.setLiv_dp (a : Nat) (v : Word) : (s.setLiv a v).dp = s.dp := rfl
@[simp] theorem State.setLiv_eng (a : Nat) (v : Word) : (s.setLiv a v).eng = s.eng := rfl
@[simp] theorem State.setLiv_pow (a : Nat) (v : Word) : (s.setLiv a v).pow = s.pow := rfl
@[simp] theorem State.setLiv_drift (a : Nat) (v : Word) : (s.setLiv a v).drift = s.drift := rfl
@[simp] theorem State.setLiv_out (a : Nat) (v : Word) : (s.setLiv a v).out = s.out := rfl

/-! ## `emit` -/

@[simp] theorem State.emit_pending (o : Out) : (s.emit o).pending = s.pending := rfl
@[simp] theorem State.emit_now (o : Out) : (s.emit o).now = s.now := rfl
@[simp] theorem State.emit_ft (o : Out) : (s.emit o).ft = s.ft := rfl
@[simp] theorem State.emit_fresh (o : Out) : (s.emit o).fresh = s.fresh := rfl
@[simp] theorem State.emit_regs (o : Out) : (s.emit o).regs = s.regs := rfl
@[simp] theorem State.emit_latches (o : Out) : (s.emit o).latches = s.latches := rfl
@[simp] theorem State.emit_mbox (o : Out) : (s.emit o).mbox = s.mbox := rfl
@[simp] theorem State.emit_partI3c (o : Out) : (s.emit o).partI3c = s.partI3c := rfl
@[simp] theorem State.emit_partJtag (o : Out) : (s.emit o).partJtag = s.partJtag := rfl
@[simp] theorem State.emit_dir (o : Out) : (s.emit o).dir = s.dir := rfl
@[simp] theorem State.emit_slate (o : Out) : (s.emit o).slate = s.slate := rfl
@[simp] theorem State.emit_evt (o : Out) : (s.emit o).evt = s.evt := rfl
@[simp] theorem State.emit_cues (o : Out) : (s.emit o).cues = s.cues := rfl
@[simp] theorem State.emit_rst (o : Out) : (s.emit o).rst = s.rst := rfl
@[simp] theorem State.emit_scrub (o : Out) : (s.emit o).scrub = s.scrub := rfl
@[simp] theorem State.emit_boot (o : Out) : (s.emit o).boot = s.boot := rfl
@[simp] theorem State.emit_sec (o : Out) : (s.emit o).sec = s.sec := rfl
@[simp] theorem State.emit_env (o : Out) : (s.emit o).env = s.env := rfl
@[simp] theorem State.emit_parts (o : Out) : (s.emit o).parts = s.parts := rfl
@[simp] theorem State.emit_dp (o : Out) : (s.emit o).dp = s.dp := rfl
@[simp] theorem State.emit_eng (o : Out) : (s.emit o).eng = s.eng := rfl
@[simp] theorem State.emit_pow (o : Out) : (s.emit o).pow = s.pow := rfl
@[simp] theorem State.emit_drift (o : Out) : (s.emit o).drift = s.drift := rfl

/-! ## `latch` -/

@[simp] theorem State.latch_pending (p : Path) (a : Nat) (w : Word) : (s.latch p a w).pending = s.pending := rfl
@[simp] theorem State.latch_now (p : Path) (a : Nat) (w : Word) : (s.latch p a w).now = s.now := rfl
@[simp] theorem State.latch_ft (p : Path) (a : Nat) (w : Word) : (s.latch p a w).ft = s.ft := rfl
@[simp] theorem State.latch_fresh (p : Path) (a : Nat) (w : Word) : (s.latch p a w).fresh = s.fresh := rfl
@[simp] theorem State.latch_regs (p : Path) (a : Nat) (w : Word) : (s.latch p a w).regs = s.regs := rfl
@[simp] theorem State.latch_mbox (p : Path) (a : Nat) (w : Word) : (s.latch p a w).mbox = s.mbox := rfl
@[simp] theorem State.latch_partI3c (p : Path) (a : Nat) (w : Word) : (s.latch p a w).partI3c = s.partI3c := rfl
@[simp] theorem State.latch_partJtag (p : Path) (a : Nat) (w : Word) : (s.latch p a w).partJtag = s.partJtag := rfl
@[simp] theorem State.latch_dir (p : Path) (a : Nat) (w : Word) : (s.latch p a w).dir = s.dir := rfl
@[simp] theorem State.latch_slate (p : Path) (a : Nat) (w : Word) : (s.latch p a w).slate = s.slate := rfl
@[simp] theorem State.latch_evt (p : Path) (a : Nat) (w : Word) : (s.latch p a w).evt = s.evt := rfl
@[simp] theorem State.latch_cues (p : Path) (a : Nat) (w : Word) : (s.latch p a w).cues = s.cues := rfl
@[simp] theorem State.latch_rst (p : Path) (a : Nat) (w : Word) : (s.latch p a w).rst = s.rst := rfl
@[simp] theorem State.latch_scrub (p : Path) (a : Nat) (w : Word) : (s.latch p a w).scrub = s.scrub := rfl
@[simp] theorem State.latch_boot (p : Path) (a : Nat) (w : Word) : (s.latch p a w).boot = s.boot := rfl
@[simp] theorem State.latch_sec (p : Path) (a : Nat) (w : Word) : (s.latch p a w).sec = s.sec := rfl
@[simp] theorem State.latch_env (p : Path) (a : Nat) (w : Word) : (s.latch p a w).env = s.env := rfl
@[simp] theorem State.latch_parts (p : Path) (a : Nat) (w : Word) : (s.latch p a w).parts = s.parts := rfl
@[simp] theorem State.latch_dp (p : Path) (a : Nat) (w : Word) : (s.latch p a w).dp = s.dp := rfl
@[simp] theorem State.latch_eng (p : Path) (a : Nat) (w : Word) : (s.latch p a w).eng = s.eng := rfl
@[simp] theorem State.latch_pow (p : Path) (a : Nat) (w : Word) : (s.latch p a w).pow = s.pow := rfl
@[simp] theorem State.latch_drift (p : Path) (a : Nat) (w : Word) : (s.latch p a w).drift = s.drift := rfl
@[simp] theorem State.latch_out (p : Path) (a : Nat) (w : Word) : (s.latch p a w).out = s.out := rfl

/-! ## `unlatch` -/

@[simp] theorem State.unlatch_pending (p : Path) (a : Nat) : (s.unlatch p a).pending = s.pending := rfl
@[simp] theorem State.unlatch_now (p : Path) (a : Nat) : (s.unlatch p a).now = s.now := rfl
@[simp] theorem State.unlatch_ft (p : Path) (a : Nat) : (s.unlatch p a).ft = s.ft := rfl
@[simp] theorem State.unlatch_fresh (p : Path) (a : Nat) : (s.unlatch p a).fresh = s.fresh := rfl
@[simp] theorem State.unlatch_regs (p : Path) (a : Nat) : (s.unlatch p a).regs = s.regs := rfl
@[simp] theorem State.unlatch_mbox (p : Path) (a : Nat) : (s.unlatch p a).mbox = s.mbox := rfl
@[simp] theorem State.unlatch_partI3c (p : Path) (a : Nat) : (s.unlatch p a).partI3c = s.partI3c := rfl
@[simp] theorem State.unlatch_partJtag (p : Path) (a : Nat) : (s.unlatch p a).partJtag = s.partJtag := rfl
@[simp] theorem State.unlatch_dir (p : Path) (a : Nat) : (s.unlatch p a).dir = s.dir := rfl
@[simp] theorem State.unlatch_slate (p : Path) (a : Nat) : (s.unlatch p a).slate = s.slate := rfl
@[simp] theorem State.unlatch_evt (p : Path) (a : Nat) : (s.unlatch p a).evt = s.evt := rfl
@[simp] theorem State.unlatch_cues (p : Path) (a : Nat) : (s.unlatch p a).cues = s.cues := rfl
@[simp] theorem State.unlatch_rst (p : Path) (a : Nat) : (s.unlatch p a).rst = s.rst := rfl
@[simp] theorem State.unlatch_scrub (p : Path) (a : Nat) : (s.unlatch p a).scrub = s.scrub := rfl
@[simp] theorem State.unlatch_boot (p : Path) (a : Nat) : (s.unlatch p a).boot = s.boot := rfl
@[simp] theorem State.unlatch_sec (p : Path) (a : Nat) : (s.unlatch p a).sec = s.sec := rfl
@[simp] theorem State.unlatch_env (p : Path) (a : Nat) : (s.unlatch p a).env = s.env := rfl
@[simp] theorem State.unlatch_parts (p : Path) (a : Nat) : (s.unlatch p a).parts = s.parts := rfl
@[simp] theorem State.unlatch_dp (p : Path) (a : Nat) : (s.unlatch p a).dp = s.dp := rfl
@[simp] theorem State.unlatch_eng (p : Path) (a : Nat) : (s.unlatch p a).eng = s.eng := rfl
@[simp] theorem State.unlatch_pow (p : Path) (a : Nat) : (s.unlatch p a).pow = s.pow := rfl
@[simp] theorem State.unlatch_drift (p : Path) (a : Nat) : (s.unlatch p a).drift = s.drift := rfl
@[simp] theorem State.unlatch_out (p : Path) (a : Nat) : (s.unlatch p a).out = s.out := rfl

/-! ## `setMb` -/

@[simp] theorem State.setMb_pending (m : Nat) (b : Mbox) : (s.setMb m b).pending = s.pending := rfl
@[simp] theorem State.setMb_now (m : Nat) (b : Mbox) : (s.setMb m b).now = s.now := rfl
@[simp] theorem State.setMb_ft (m : Nat) (b : Mbox) : (s.setMb m b).ft = s.ft := rfl
@[simp] theorem State.setMb_fresh (m : Nat) (b : Mbox) : (s.setMb m b).fresh = s.fresh := rfl
@[simp] theorem State.setMb_regs (m : Nat) (b : Mbox) : (s.setMb m b).regs = s.regs := rfl
@[simp] theorem State.setMb_latches (m : Nat) (b : Mbox) : (s.setMb m b).latches = s.latches := rfl
@[simp] theorem State.setMb_partI3c (m : Nat) (b : Mbox) : (s.setMb m b).partI3c = s.partI3c := rfl
@[simp] theorem State.setMb_partJtag (m : Nat) (b : Mbox) : (s.setMb m b).partJtag = s.partJtag := rfl
@[simp] theorem State.setMb_dir (m : Nat) (b : Mbox) : (s.setMb m b).dir = s.dir := rfl
@[simp] theorem State.setMb_slate (m : Nat) (b : Mbox) : (s.setMb m b).slate = s.slate := rfl
@[simp] theorem State.setMb_evt (m : Nat) (b : Mbox) : (s.setMb m b).evt = s.evt := rfl
@[simp] theorem State.setMb_cues (m : Nat) (b : Mbox) : (s.setMb m b).cues = s.cues := rfl
@[simp] theorem State.setMb_rst (m : Nat) (b : Mbox) : (s.setMb m b).rst = s.rst := rfl
@[simp] theorem State.setMb_scrub (m : Nat) (b : Mbox) : (s.setMb m b).scrub = s.scrub := rfl
@[simp] theorem State.setMb_boot (m : Nat) (b : Mbox) : (s.setMb m b).boot = s.boot := rfl
@[simp] theorem State.setMb_sec (m : Nat) (b : Mbox) : (s.setMb m b).sec = s.sec := rfl
@[simp] theorem State.setMb_env (m : Nat) (b : Mbox) : (s.setMb m b).env = s.env := rfl
@[simp] theorem State.setMb_parts (m : Nat) (b : Mbox) : (s.setMb m b).parts = s.parts := rfl
@[simp] theorem State.setMb_dp (m : Nat) (b : Mbox) : (s.setMb m b).dp = s.dp := rfl
@[simp] theorem State.setMb_eng (m : Nat) (b : Mbox) : (s.setMb m b).eng = s.eng := rfl
@[simp] theorem State.setMb_pow (m : Nat) (b : Mbox) : (s.setMb m b).pow = s.pow := rfl
@[simp] theorem State.setMb_drift (m : Nat) (b : Mbox) : (s.setMb m b).drift = s.drift := rfl
@[simp] theorem State.setMb_out (m : Nat) (b : Mbox) : (s.setMb m b).out = s.out := rfl

/-! ## `setTake` -/

@[simp] theorem State.setTake_pending (t : Option Take) : (s.setTake t).pending = s.pending := rfl
@[simp] theorem State.setTake_now (t : Option Take) : (s.setTake t).now = s.now := rfl
@[simp] theorem State.setTake_ft (t : Option Take) : (s.setTake t).ft = s.ft := rfl
@[simp] theorem State.setTake_fresh (t : Option Take) : (s.setTake t).fresh = s.fresh := rfl
@[simp] theorem State.setTake_regs (t : Option Take) : (s.setTake t).regs = s.regs := rfl
@[simp] theorem State.setTake_latches (t : Option Take) : (s.setTake t).latches = s.latches := rfl
@[simp] theorem State.setTake_mbox (t : Option Take) : (s.setTake t).mbox = s.mbox := rfl
@[simp] theorem State.setTake_partI3c (t : Option Take) : (s.setTake t).partI3c = s.partI3c := rfl
@[simp] theorem State.setTake_partJtag (t : Option Take) : (s.setTake t).partJtag = s.partJtag := rfl
@[simp] theorem State.setTake_slate (t : Option Take) : (s.setTake t).slate = s.slate := rfl
@[simp] theorem State.setTake_evt (t : Option Take) : (s.setTake t).evt = s.evt := rfl
@[simp] theorem State.setTake_cues (t : Option Take) : (s.setTake t).cues = s.cues := rfl
@[simp] theorem State.setTake_rst (t : Option Take) : (s.setTake t).rst = s.rst := rfl
@[simp] theorem State.setTake_scrub (t : Option Take) : (s.setTake t).scrub = s.scrub := rfl
@[simp] theorem State.setTake_boot (t : Option Take) : (s.setTake t).boot = s.boot := rfl
@[simp] theorem State.setTake_sec (t : Option Take) : (s.setTake t).sec = s.sec := rfl
@[simp] theorem State.setTake_env (t : Option Take) : (s.setTake t).env = s.env := rfl
@[simp] theorem State.setTake_parts (t : Option Take) : (s.setTake t).parts = s.parts := rfl
@[simp] theorem State.setTake_dp (t : Option Take) : (s.setTake t).dp = s.dp := rfl
@[simp] theorem State.setTake_eng (t : Option Take) : (s.setTake t).eng = s.eng := rfl
@[simp] theorem State.setTake_pow (t : Option Take) : (s.setTake t).pow = s.pow := rfl
@[simp] theorem State.setTake_drift (t : Option Take) : (s.setTake t).drift = s.drift := rfl
@[simp] theorem State.setTake_out (t : Option Take) : (s.setTake t).out = s.out := rfl

/-! ## `setLong` -/

@[simp] theorem State.setLong_pending (l : Option LongOp) : (s.setLong l).pending = s.pending := rfl
@[simp] theorem State.setLong_now (l : Option LongOp) : (s.setLong l).now = s.now := rfl
@[simp] theorem State.setLong_ft (l : Option LongOp) : (s.setLong l).ft = s.ft := rfl
@[simp] theorem State.setLong_fresh (l : Option LongOp) : (s.setLong l).fresh = s.fresh := rfl
@[simp] theorem State.setLong_regs (l : Option LongOp) : (s.setLong l).regs = s.regs := rfl
@[simp] theorem State.setLong_latches (l : Option LongOp) : (s.setLong l).latches = s.latches := rfl
@[simp] theorem State.setLong_mbox (l : Option LongOp) : (s.setLong l).mbox = s.mbox := rfl
@[simp] theorem State.setLong_partI3c (l : Option LongOp) : (s.setLong l).partI3c = s.partI3c := rfl
@[simp] theorem State.setLong_partJtag (l : Option LongOp) : (s.setLong l).partJtag = s.partJtag := rfl
@[simp] theorem State.setLong_slate (l : Option LongOp) : (s.setLong l).slate = s.slate := rfl
@[simp] theorem State.setLong_evt (l : Option LongOp) : (s.setLong l).evt = s.evt := rfl
@[simp] theorem State.setLong_cues (l : Option LongOp) : (s.setLong l).cues = s.cues := rfl
@[simp] theorem State.setLong_rst (l : Option LongOp) : (s.setLong l).rst = s.rst := rfl
@[simp] theorem State.setLong_scrub (l : Option LongOp) : (s.setLong l).scrub = s.scrub := rfl
@[simp] theorem State.setLong_boot (l : Option LongOp) : (s.setLong l).boot = s.boot := rfl
@[simp] theorem State.setLong_sec (l : Option LongOp) : (s.setLong l).sec = s.sec := rfl
@[simp] theorem State.setLong_env (l : Option LongOp) : (s.setLong l).env = s.env := rfl
@[simp] theorem State.setLong_parts (l : Option LongOp) : (s.setLong l).parts = s.parts := rfl
@[simp] theorem State.setLong_dp (l : Option LongOp) : (s.setLong l).dp = s.dp := rfl
@[simp] theorem State.setLong_eng (l : Option LongOp) : (s.setLong l).eng = s.eng := rfl
@[simp] theorem State.setLong_pow (l : Option LongOp) : (s.setLong l).pow = s.pow := rfl
@[simp] theorem State.setLong_drift (l : Option LongOp) : (s.setLong l).drift = s.drift := rfl
@[simp] theorem State.setLong_out (l : Option LongOp) : (s.setLong l).out = s.out := rfl

/-! ## `draw` -/

@[simp] theorem State.draw_pending : (s.draw ).pending = s.pending := rfl
@[simp] theorem State.draw_now : (s.draw ).now = s.now := rfl
@[simp] theorem State.draw_ft : (s.draw ).ft = s.ft := rfl
@[simp] theorem State.draw_regs : (s.draw ).regs = s.regs := rfl
@[simp] theorem State.draw_latches : (s.draw ).latches = s.latches := rfl
@[simp] theorem State.draw_mbox : (s.draw ).mbox = s.mbox := rfl
@[simp] theorem State.draw_partI3c : (s.draw ).partI3c = s.partI3c := rfl
@[simp] theorem State.draw_partJtag : (s.draw ).partJtag = s.partJtag := rfl
@[simp] theorem State.draw_dir : (s.draw ).dir = s.dir := rfl
@[simp] theorem State.draw_slate : (s.draw ).slate = s.slate := rfl
@[simp] theorem State.draw_evt : (s.draw ).evt = s.evt := rfl
@[simp] theorem State.draw_cues : (s.draw ).cues = s.cues := rfl
@[simp] theorem State.draw_rst : (s.draw ).rst = s.rst := rfl
@[simp] theorem State.draw_scrub : (s.draw ).scrub = s.scrub := rfl
@[simp] theorem State.draw_boot : (s.draw ).boot = s.boot := rfl
@[simp] theorem State.draw_sec : (s.draw ).sec = s.sec := rfl
@[simp] theorem State.draw_env : (s.draw ).env = s.env := rfl
@[simp] theorem State.draw_parts : (s.draw ).parts = s.parts := rfl
@[simp] theorem State.draw_dp : (s.draw ).dp = s.dp := rfl
@[simp] theorem State.draw_eng : (s.draw ).eng = s.eng := rfl
@[simp] theorem State.draw_pow : (s.draw ).pow = s.pow := rfl
@[simp] theorem State.draw_drift : (s.draw ).drift = s.drift := rfl
@[simp] theorem State.draw_out : (s.draw ).out = s.out := rfl

/-! ## `onDp` -/

@[simp] theorem State.onDp_pending (f : DataPath → DataPath) : (s.onDp f).pending = s.pending := rfl
@[simp] theorem State.onDp_now (f : DataPath → DataPath) : (s.onDp f).now = s.now := rfl
@[simp] theorem State.onDp_ft (f : DataPath → DataPath) : (s.onDp f).ft = s.ft := rfl
@[simp] theorem State.onDp_fresh (f : DataPath → DataPath) : (s.onDp f).fresh = s.fresh := rfl
@[simp] theorem State.onDp_regs (f : DataPath → DataPath) : (s.onDp f).regs = s.regs := rfl
@[simp] theorem State.onDp_latches (f : DataPath → DataPath) : (s.onDp f).latches = s.latches := rfl
@[simp] theorem State.onDp_mbox (f : DataPath → DataPath) : (s.onDp f).mbox = s.mbox := rfl
@[simp] theorem State.onDp_partI3c (f : DataPath → DataPath) : (s.onDp f).partI3c = s.partI3c := rfl
@[simp] theorem State.onDp_partJtag (f : DataPath → DataPath) : (s.onDp f).partJtag = s.partJtag := rfl
@[simp] theorem State.onDp_dir (f : DataPath → DataPath) : (s.onDp f).dir = s.dir := rfl
@[simp] theorem State.onDp_slate (f : DataPath → DataPath) : (s.onDp f).slate = s.slate := rfl
@[simp] theorem State.onDp_evt (f : DataPath → DataPath) : (s.onDp f).evt = s.evt := rfl
@[simp] theorem State.onDp_cues (f : DataPath → DataPath) : (s.onDp f).cues = s.cues := rfl
@[simp] theorem State.onDp_rst (f : DataPath → DataPath) : (s.onDp f).rst = s.rst := rfl
@[simp] theorem State.onDp_scrub (f : DataPath → DataPath) : (s.onDp f).scrub = s.scrub := rfl
@[simp] theorem State.onDp_boot (f : DataPath → DataPath) : (s.onDp f).boot = s.boot := rfl
@[simp] theorem State.onDp_sec (f : DataPath → DataPath) : (s.onDp f).sec = s.sec := rfl
@[simp] theorem State.onDp_env (f : DataPath → DataPath) : (s.onDp f).env = s.env := rfl
@[simp] theorem State.onDp_parts (f : DataPath → DataPath) : (s.onDp f).parts = s.parts := rfl
@[simp] theorem State.onDp_eng (f : DataPath → DataPath) : (s.onDp f).eng = s.eng := rfl
@[simp] theorem State.onDp_pow (f : DataPath → DataPath) : (s.onDp f).pow = s.pow := rfl
@[simp] theorem State.onDp_drift (f : DataPath → DataPath) : (s.onDp f).drift = s.drift := rfl
@[simp] theorem State.onDp_out (f : DataPath → DataPath) : (s.onDp f).out = s.out := rfl

/-! ## `onEng` -/

@[simp] theorem State.onEng_pending (f : Engines → Engines) : (s.onEng f).pending = s.pending := rfl
@[simp] theorem State.onEng_now (f : Engines → Engines) : (s.onEng f).now = s.now := rfl
@[simp] theorem State.onEng_ft (f : Engines → Engines) : (s.onEng f).ft = s.ft := rfl
@[simp] theorem State.onEng_fresh (f : Engines → Engines) : (s.onEng f).fresh = s.fresh := rfl
@[simp] theorem State.onEng_regs (f : Engines → Engines) : (s.onEng f).regs = s.regs := rfl
@[simp] theorem State.onEng_latches (f : Engines → Engines) : (s.onEng f).latches = s.latches := rfl
@[simp] theorem State.onEng_mbox (f : Engines → Engines) : (s.onEng f).mbox = s.mbox := rfl
@[simp] theorem State.onEng_partI3c (f : Engines → Engines) : (s.onEng f).partI3c = s.partI3c := rfl
@[simp] theorem State.onEng_partJtag (f : Engines → Engines) : (s.onEng f).partJtag = s.partJtag := rfl
@[simp] theorem State.onEng_dir (f : Engines → Engines) : (s.onEng f).dir = s.dir := rfl
@[simp] theorem State.onEng_slate (f : Engines → Engines) : (s.onEng f).slate = s.slate := rfl
@[simp] theorem State.onEng_evt (f : Engines → Engines) : (s.onEng f).evt = s.evt := rfl
@[simp] theorem State.onEng_cues (f : Engines → Engines) : (s.onEng f).cues = s.cues := rfl
@[simp] theorem State.onEng_rst (f : Engines → Engines) : (s.onEng f).rst = s.rst := rfl
@[simp] theorem State.onEng_scrub (f : Engines → Engines) : (s.onEng f).scrub = s.scrub := rfl
@[simp] theorem State.onEng_boot (f : Engines → Engines) : (s.onEng f).boot = s.boot := rfl
@[simp] theorem State.onEng_sec (f : Engines → Engines) : (s.onEng f).sec = s.sec := rfl
@[simp] theorem State.onEng_env (f : Engines → Engines) : (s.onEng f).env = s.env := rfl
@[simp] theorem State.onEng_parts (f : Engines → Engines) : (s.onEng f).parts = s.parts := rfl
@[simp] theorem State.onEng_dp (f : Engines → Engines) : (s.onEng f).dp = s.dp := rfl
@[simp] theorem State.onEng_pow (f : Engines → Engines) : (s.onEng f).pow = s.pow := rfl
@[simp] theorem State.onEng_drift (f : Engines → Engines) : (s.onEng f).drift = s.drift := rfl
@[simp] theorem State.onEng_out (f : Engines → Engines) : (s.onEng f).out = s.out := rfl

/-! ## `onFcst` -/

@[simp] theorem State.onFcst_pending (f : Fcst → Fcst) : (s.onFcst f).pending = s.pending := rfl
@[simp] theorem State.onFcst_now (f : Fcst → Fcst) : (s.onFcst f).now = s.now := rfl
@[simp] theorem State.onFcst_ft (f : Fcst → Fcst) : (s.onFcst f).ft = s.ft := rfl
@[simp] theorem State.onFcst_fresh (f : Fcst → Fcst) : (s.onFcst f).fresh = s.fresh := rfl
@[simp] theorem State.onFcst_regs (f : Fcst → Fcst) : (s.onFcst f).regs = s.regs := rfl
@[simp] theorem State.onFcst_latches (f : Fcst → Fcst) : (s.onFcst f).latches = s.latches := rfl
@[simp] theorem State.onFcst_mbox (f : Fcst → Fcst) : (s.onFcst f).mbox = s.mbox := rfl
@[simp] theorem State.onFcst_partI3c (f : Fcst → Fcst) : (s.onFcst f).partI3c = s.partI3c := rfl
@[simp] theorem State.onFcst_partJtag (f : Fcst → Fcst) : (s.onFcst f).partJtag = s.partJtag := rfl
@[simp] theorem State.onFcst_dir (f : Fcst → Fcst) : (s.onFcst f).dir = s.dir := rfl
@[simp] theorem State.onFcst_slate (f : Fcst → Fcst) : (s.onFcst f).slate = s.slate := rfl
@[simp] theorem State.onFcst_evt (f : Fcst → Fcst) : (s.onFcst f).evt = s.evt := rfl
@[simp] theorem State.onFcst_cues (f : Fcst → Fcst) : (s.onFcst f).cues = s.cues := rfl
@[simp] theorem State.onFcst_rst (f : Fcst → Fcst) : (s.onFcst f).rst = s.rst := rfl
@[simp] theorem State.onFcst_scrub (f : Fcst → Fcst) : (s.onFcst f).scrub = s.scrub := rfl
@[simp] theorem State.onFcst_boot (f : Fcst → Fcst) : (s.onFcst f).boot = s.boot := rfl
@[simp] theorem State.onFcst_sec (f : Fcst → Fcst) : (s.onFcst f).sec = s.sec := rfl
@[simp] theorem State.onFcst_env (f : Fcst → Fcst) : (s.onFcst f).env = s.env := rfl
@[simp] theorem State.onFcst_parts (f : Fcst → Fcst) : (s.onFcst f).parts = s.parts := rfl
@[simp] theorem State.onFcst_dp (f : Fcst → Fcst) : (s.onFcst f).dp = s.dp := rfl
@[simp] theorem State.onFcst_eng (f : Fcst → Fcst) : (s.onFcst f).eng = s.eng := rfl
@[simp] theorem State.onFcst_drift (f : Fcst → Fcst) : (s.onFcst f).drift = s.drift := rfl
@[simp] theorem State.onFcst_out (f : Fcst → Fcst) : (s.onFcst f).out = s.out := rfl

/-! ## `onAvs` -/

@[simp] theorem State.onAvs_pending (f : Avs → Avs) : (s.onAvs f).pending = s.pending := rfl
@[simp] theorem State.onAvs_now (f : Avs → Avs) : (s.onAvs f).now = s.now := rfl
@[simp] theorem State.onAvs_ft (f : Avs → Avs) : (s.onAvs f).ft = s.ft := rfl
@[simp] theorem State.onAvs_fresh (f : Avs → Avs) : (s.onAvs f).fresh = s.fresh := rfl
@[simp] theorem State.onAvs_regs (f : Avs → Avs) : (s.onAvs f).regs = s.regs := rfl
@[simp] theorem State.onAvs_latches (f : Avs → Avs) : (s.onAvs f).latches = s.latches := rfl
@[simp] theorem State.onAvs_mbox (f : Avs → Avs) : (s.onAvs f).mbox = s.mbox := rfl
@[simp] theorem State.onAvs_partI3c (f : Avs → Avs) : (s.onAvs f).partI3c = s.partI3c := rfl
@[simp] theorem State.onAvs_partJtag (f : Avs → Avs) : (s.onAvs f).partJtag = s.partJtag := rfl
@[simp] theorem State.onAvs_dir (f : Avs → Avs) : (s.onAvs f).dir = s.dir := rfl
@[simp] theorem State.onAvs_slate (f : Avs → Avs) : (s.onAvs f).slate = s.slate := rfl
@[simp] theorem State.onAvs_evt (f : Avs → Avs) : (s.onAvs f).evt = s.evt := rfl
@[simp] theorem State.onAvs_cues (f : Avs → Avs) : (s.onAvs f).cues = s.cues := rfl
@[simp] theorem State.onAvs_rst (f : Avs → Avs) : (s.onAvs f).rst = s.rst := rfl
@[simp] theorem State.onAvs_scrub (f : Avs → Avs) : (s.onAvs f).scrub = s.scrub := rfl
@[simp] theorem State.onAvs_boot (f : Avs → Avs) : (s.onAvs f).boot = s.boot := rfl
@[simp] theorem State.onAvs_sec (f : Avs → Avs) : (s.onAvs f).sec = s.sec := rfl
@[simp] theorem State.onAvs_env (f : Avs → Avs) : (s.onAvs f).env = s.env := rfl
@[simp] theorem State.onAvs_parts (f : Avs → Avs) : (s.onAvs f).parts = s.parts := rfl
@[simp] theorem State.onAvs_dp (f : Avs → Avs) : (s.onAvs f).dp = s.dp := rfl
@[simp] theorem State.onAvs_eng (f : Avs → Avs) : (s.onAvs f).eng = s.eng := rfl
@[simp] theorem State.onAvs_drift (f : Avs → Avs) : (s.onAvs f).drift = s.drift := rfl
@[simp] theorem State.onAvs_out (f : Avs → Avs) : (s.onAvs f).out = s.out := rfl

/-! ## `onSpc` -/

@[simp] theorem State.onSpc_pending (n : Nat) (f : Spc → Spc) : (s.onSpc n f).pending = s.pending := rfl
@[simp] theorem State.onSpc_now (n : Nat) (f : Spc → Spc) : (s.onSpc n f).now = s.now := rfl
@[simp] theorem State.onSpc_ft (n : Nat) (f : Spc → Spc) : (s.onSpc n f).ft = s.ft := rfl
@[simp] theorem State.onSpc_fresh (n : Nat) (f : Spc → Spc) : (s.onSpc n f).fresh = s.fresh := rfl
@[simp] theorem State.onSpc_regs (n : Nat) (f : Spc → Spc) : (s.onSpc n f).regs = s.regs := rfl
@[simp] theorem State.onSpc_latches (n : Nat) (f : Spc → Spc) : (s.onSpc n f).latches = s.latches := rfl
@[simp] theorem State.onSpc_mbox (n : Nat) (f : Spc → Spc) : (s.onSpc n f).mbox = s.mbox := rfl
@[simp] theorem State.onSpc_partI3c (n : Nat) (f : Spc → Spc) : (s.onSpc n f).partI3c = s.partI3c := rfl
@[simp] theorem State.onSpc_partJtag (n : Nat) (f : Spc → Spc) : (s.onSpc n f).partJtag = s.partJtag := rfl
@[simp] theorem State.onSpc_dir (n : Nat) (f : Spc → Spc) : (s.onSpc n f).dir = s.dir := rfl
@[simp] theorem State.onSpc_slate (n : Nat) (f : Spc → Spc) : (s.onSpc n f).slate = s.slate := rfl
@[simp] theorem State.onSpc_evt (n : Nat) (f : Spc → Spc) : (s.onSpc n f).evt = s.evt := rfl
@[simp] theorem State.onSpc_cues (n : Nat) (f : Spc → Spc) : (s.onSpc n f).cues = s.cues := rfl
@[simp] theorem State.onSpc_rst (n : Nat) (f : Spc → Spc) : (s.onSpc n f).rst = s.rst := rfl
@[simp] theorem State.onSpc_scrub (n : Nat) (f : Spc → Spc) : (s.onSpc n f).scrub = s.scrub := rfl
@[simp] theorem State.onSpc_boot (n : Nat) (f : Spc → Spc) : (s.onSpc n f).boot = s.boot := rfl
@[simp] theorem State.onSpc_sec (n : Nat) (f : Spc → Spc) : (s.onSpc n f).sec = s.sec := rfl
@[simp] theorem State.onSpc_env (n : Nat) (f : Spc → Spc) : (s.onSpc n f).env = s.env := rfl
@[simp] theorem State.onSpc_parts (n : Nat) (f : Spc → Spc) : (s.onSpc n f).parts = s.parts := rfl
@[simp] theorem State.onSpc_dp (n : Nat) (f : Spc → Spc) : (s.onSpc n f).dp = s.dp := rfl
@[simp] theorem State.onSpc_eng (n : Nat) (f : Spc → Spc) : (s.onSpc n f).eng = s.eng := rfl
@[simp] theorem State.onSpc_drift (n : Nat) (f : Spc → Spc) : (s.onSpc n f).drift = s.drift := rfl
@[simp] theorem State.onSpc_out (n : Nat) (f : Spc → Spc) : (s.onSpc n f).out = s.out := rfl

/-! ## `onSec` -/

@[simp] theorem State.onSec_pending (f : Security → Security) : (s.onSec f).pending = s.pending := rfl
@[simp] theorem State.onSec_now (f : Security → Security) : (s.onSec f).now = s.now := rfl
@[simp] theorem State.onSec_ft (f : Security → Security) : (s.onSec f).ft = s.ft := rfl
@[simp] theorem State.onSec_fresh (f : Security → Security) : (s.onSec f).fresh = s.fresh := rfl
@[simp] theorem State.onSec_regs (f : Security → Security) : (s.onSec f).regs = s.regs := rfl
@[simp] theorem State.onSec_latches (f : Security → Security) : (s.onSec f).latches = s.latches := rfl
@[simp] theorem State.onSec_mbox (f : Security → Security) : (s.onSec f).mbox = s.mbox := rfl
@[simp] theorem State.onSec_partI3c (f : Security → Security) : (s.onSec f).partI3c = s.partI3c := rfl
@[simp] theorem State.onSec_partJtag (f : Security → Security) : (s.onSec f).partJtag = s.partJtag := rfl
@[simp] theorem State.onSec_dir (f : Security → Security) : (s.onSec f).dir = s.dir := rfl
@[simp] theorem State.onSec_slate (f : Security → Security) : (s.onSec f).slate = s.slate := rfl
@[simp] theorem State.onSec_evt (f : Security → Security) : (s.onSec f).evt = s.evt := rfl
@[simp] theorem State.onSec_cues (f : Security → Security) : (s.onSec f).cues = s.cues := rfl
@[simp] theorem State.onSec_rst (f : Security → Security) : (s.onSec f).rst = s.rst := rfl
@[simp] theorem State.onSec_scrub (f : Security → Security) : (s.onSec f).scrub = s.scrub := rfl
@[simp] theorem State.onSec_boot (f : Security → Security) : (s.onSec f).boot = s.boot := rfl
@[simp] theorem State.onSec_env (f : Security → Security) : (s.onSec f).env = s.env := rfl
@[simp] theorem State.onSec_parts (f : Security → Security) : (s.onSec f).parts = s.parts := rfl
@[simp] theorem State.onSec_dp (f : Security → Security) : (s.onSec f).dp = s.dp := rfl
@[simp] theorem State.onSec_eng (f : Security → Security) : (s.onSec f).eng = s.eng := rfl
@[simp] theorem State.onSec_pow (f : Security → Security) : (s.onSec f).pow = s.pow := rfl
@[simp] theorem State.onSec_drift (f : Security → Security) : (s.onSec f).drift = s.drift := rfl
@[simp] theorem State.onSec_out (f : Security → Security) : (s.onSec f).out = s.out := rfl

@[simp] theorem State.setShd_regs_live (a : Nat) (v : Word) : (s.setShd a v).regs.live = s.regs.live := rfl
@[simp] theorem State.setShd_regs_active (a : Nat) (v : Word) : (s.setShd a v).regs.active = s.regs.active := rfl
@[simp] theorem State.setShd_regs_badA (a : Nat) (v : Word) : (s.setShd a v).regs.badA = s.regs.badA := rfl
@[simp] theorem State.setShd_regs_badS (a : Nat) (v : Word) : (s.setShd a v).regs.badS = s.regs.badS := rfl
@[simp] theorem State.setAct_regs_live (a : Nat) (v : Word) : (s.setAct a v).regs.live = s.regs.live := rfl
@[simp] theorem State.setAct_regs_shadow (a : Nat) (v : Word) : (s.setAct a v).regs.shadow = s.regs.shadow := rfl
@[simp] theorem State.setAct_regs_badA (a : Nat) (v : Word) : (s.setAct a v).regs.badA = s.regs.badA := rfl
@[simp] theorem State.setAct_regs_badS (a : Nat) (v : Word) : (s.setAct a v).regs.badS = s.regs.badS := rfl
@[simp] theorem State.setLiv_regs_active (a : Nat) (v : Word) : (s.setLiv a v).regs.active = s.regs.active := rfl
@[simp] theorem State.setLiv_regs_shadow (a : Nat) (v : Word) : (s.setLiv a v).regs.shadow = s.regs.shadow := rfl
@[simp] theorem State.setLiv_regs_badA (a : Nat) (v : Word) : (s.setLiv a v).regs.badA = s.regs.badA := rfl
@[simp] theorem State.setLiv_regs_badS (a : Nat) (v : Word) : (s.setLiv a v).regs.badS = s.regs.badS := rfl
@[simp] theorem State.setTake_dir_last (t : Option Take) : (s.setTake t).dir.last = s.dir.last := rfl
@[simp] theorem State.setTake_dir_longop (t : Option Take) : (s.setTake t).dir.longop = s.dir.longop := rfl
@[simp] theorem State.setTake_dir_cutAt (t : Option Take) : (s.setTake t).dir.cutAt = s.dir.cutAt := rfl
@[simp] theorem State.setLong_dir_last (l : Option LongOp) : (s.setLong l).dir.last = s.dir.last := rfl
@[simp] theorem State.setLong_dir_take (l : Option LongOp) : (s.setLong l).dir.take = s.dir.take := rfl
@[simp] theorem State.setLong_dir_cutAt (l : Option LongOp) : (s.setLong l).dir.cutAt = s.dir.cutAt := rfl
@[simp] theorem State.setTake_take (t : Option Take) : (s.setTake t).dir.take = t := rfl
@[simp] theorem State.setLong_longop (l : Option LongOp) : (s.setLong l).dir.longop = l := rfl
@[simp] theorem State.emit_out (o : Out) : (s.emit o).out = s.out ++ [o] := rfl
@[simp] theorem State.onDp_dp (f : DataPath → DataPath) : (s.onDp f).dp = f s.dp := rfl
@[simp] theorem State.onEng_eng (f : Engines → Engines) : (s.onEng f).eng = f s.eng := rfl
@[simp] theorem State.onSec_sec (f : Security → Security) : (s.onSec f).sec = f s.sec := rfl

/-! ## Reading after a write -/

variable {s}

theorem State.liv_setLiv_ne {a b : Nat} (v : Word) (h : b ≠ a) (hc : s.regs.canon = true) :
    (s.setLiv a v).liv b = s.liv b := by
  simp only [Regs.canon, Bool.and_eq_true] at hc
  simp [State.liv, State.setLiv, Tab.find_set_ne v h (Tab.wf_rises hc.2)]

theorem State.liv_setLiv_self (a : Nat) (v : Word) (hc : s.regs.canon = true) : (s.setLiv a v).liv a = v := by
  simp only [Regs.canon, Bool.and_eq_true] at hc
  exact Tab.get_set_self a v (Tab.wf_rises hc.2)

theorem State.shd_setShd_self (a : Nat) (v : Word) (hc : s.regs.canon = true) : (s.setShd a v).shd a = v := by
  simp only [Regs.canon, Bool.and_eq_true] at hc
  exact Tab.get_set_self a v (Tab.wf_rises hc.1.2)

theorem State.shd_setShd_ne {a b : Nat} (v : Word) (h : b ≠ a) (hc : s.regs.canon = true) :
    (s.setShd a v).shd b = s.shd b := by
  simp only [Regs.canon, Bool.and_eq_true] at hc
  simp [State.shd, State.setShd, Tab.find_set_ne v h (Tab.wf_rises hc.1.2)]

theorem State.act_setLiv (a b : Nat) (v : Word) : (s.setLiv a v).act b = s.act b := rfl
theorem State.shd_setLiv (a b : Nat) (v : Word) : (s.setLiv a v).shd b = s.shd b := rfl
theorem State.act_setShd (a b : Nat) (v : Word) : (s.setShd a v).act b = s.act b := rfl
theorem State.liv_setShd (a b : Nat) (v : Word) : (s.setShd a v).liv b = s.liv b := rfl

/-- Writing a word keeps the tables canonical. -/
theorem State.canon_setLiv (a : Nat) (v : Word) (hc : s.regs.canon = true) : (s.setLiv a v).regs.canon = true := by
  simp only [Regs.canon, Bool.and_eq_true] at hc ⊢
  exact ⟨hc.1, Tab.wf_set a v hc.2⟩

theorem State.canon_setShd (a : Nat) (v : Word) (hc : s.regs.canon = true) : (s.setShd a v).regs.canon = true := by
  simp only [Regs.canon, Bool.and_eq_true] at hc ⊢
  exact ⟨⟨hc.1.1, Tab.wf_set a v hc.1.2⟩, hc.2⟩

theorem State.canon_setAct (a : Nat) (v : Word) (hc : s.regs.canon = true) : (s.setAct a v).regs.canon = true := by
  simp only [Regs.canon, Bool.and_eq_true] at hc ⊢
  exact ⟨⟨Tab.wf_set a v hc.1.1, hc.1.2⟩, hc.2⟩

theorem State.mb_setMb_self (m : Nat) (b : Mbox) (h : Tab.rises s.mbox = true) : (s.setMb m b).mb m = b :=
  Tab.get_set_self m b h

theorem State.mb_setMb_ne {m k : Nat} (b : Mbox) (hk : k ≠ m) (h : Tab.rises s.mbox = true) :
    (s.setMb m b).mb k = s.mb k := by
  simp [State.mb, State.setMb, Tab.get, Tab.find_set_ne b hk h]

/-- Writing a mailbox keeps the table canonical. -/
theorem State.wf_setMb (m : Nat) (b : Mbox) (h : Tab.wf (fun _ => ({} : Mbox)) s.mbox = true) :
    Tab.wf (fun _ => ({} : Mbox)) (s.setMb m b).mbox = true :=
  Tab.wf_set (d := fun _ => ({} : Mbox)) m b h

end Sys2Proof.Machine
end

