-- ==== Sys2Proof/Laws/Frames.lean ====
section
/-! SUPPORT. All that the shared operations may change: counting, INTx wires, events, slate entries, the passing of
time. -/

namespace Sys2Proof.Machine

variable {s u v : State}

/-! ## The relations -/

theorem OnlyLive.refl (s : State) : OnlyLive s s := ⟨s.regs.live, rfl⟩

theorem OnlyLive.trans (h : OnlyLive s u) (k : OnlyLive u v) : OnlyLive s v := by
  obtain ⟨l, rfl⟩ := h
  obtain ⟨m, rfl⟩ := k
  exact ⟨m, rfl⟩

theorem OnlyIntx.refl (s : State) : OnlyIntx s s := ⟨s.parts.intx, s.out, rfl⟩

theorem OnlyIntx.trans (h : OnlyIntx s u) (k : OnlyIntx u v) : OnlyIntx s v := by
  obtain ⟨x, o, rfl⟩ := h
  obtain ⟨y, p, rfl⟩ := k
  exact ⟨y, p, rfl⟩

theorem OnlyEvents.refl (s : State) : OnlyEvents s s := ⟨_, _, _, _, rfl⟩

theorem OnlyEvents.trans (h : OnlyEvents s u) (k : OnlyEvents u v) : OnlyEvents s v := by
  obtain ⟨l, e, x, o, rfl⟩ := h
  obtain ⟨m, f, y, p, rfl⟩ := k
  exact ⟨m, f, y, p, rfl⟩

theorem OnlyLog.refl (s : State) : OnlyLog s s := ⟨_, _, _, _, _, _, rfl⟩

theorem OnlyLog.trans (h : OnlyLog s u) (k : OnlyLog u v) : OnlyLog s v := by
  obtain ⟨l, e, x, o, g, d, rfl⟩ := h
  obtain ⟨m, f, y, p, k, w, rfl⟩ := k
  exact ⟨m, f, y, p, k, w, rfl⟩

theorem OnlyLive.events (h : OnlyLive s u) : OnlyEvents s u := by
  obtain ⟨l, rfl⟩ := h
  exact ⟨l, s.evt, s.parts.intx, s.out, rfl⟩

theorem OnlyIntx.events (h : OnlyIntx s u) : OnlyEvents s u := by
  obtain ⟨x, o, rfl⟩ := h
  exact ⟨s.regs.live, s.evt, x, o, rfl⟩

theorem OnlyEvents.log (h : OnlyEvents s u) : OnlyLog s u := by
  obtain ⟨l, e, x, o, rfl⟩ := h
  exact ⟨l, e, x, o, s.slate, s.drift, rfl⟩

/-! ## Folds -/

theorem foldl_rel {α : Type} {R : State → State → Prop} (hr : ∀ s, R s s) (ht : ∀ {a b c}, R a b → R b c → R a c)
    {f : State → α → State} (hf : ∀ s a, R s (f s a)) (l : List α) (s : State) : R s (l.foldl f s) := by
  induction l generalizing s with
  | nil => exact hr s
  | cons a l ih => exact ht (hf s a) (ih _)

theorem forUpto_rel {R : State → State → Prop} (hr : ∀ s, R s s) (ht : ∀ {a b c}, R a b → R b c → R a c)
    {f : Nat → State → State} (hf : ∀ i s, R s (f i s)) (n : Nat) (s : State) : R s (forUpto n f s) := by
  induction n with
  | zero => exact hr s
  | succ n ih => exact ht ih (hf n _)

/-! ## Live words and counters -/

theorem onlyLive_setLiv (s : State) (a : Nat) (w : Word) : OnlyLive s (s.setLiv a w) := ⟨_, rfl⟩
theorem onlyLive_setLivN (s : State) (a x : Nat) : OnlyLive s (s.setLivN a x) := ⟨_, rfl⟩
theorem onlyLive_setLivF (s : State) (a : Nat) (f : Fld) (x : Nat) : OnlyLive s (s.setLivF a f x) := ⟨_, rfl⟩
theorem onlyLive_bump (s : State) (a k : Nat) : OnlyLive s (s.bump a k) := ⟨_, rfl⟩
theorem onlyLive_setLiv64 (s : State) (a x : Nat) : OnlyLive s (s.setLiv64 a x) := ⟨_, rfl⟩

theorem onlyLive_perfAdd (u c k : Nat) (s : State) : OnlyLive s (perfAdd u c k s) := by
  unfold perfAdd
  try extract_lets
  split
  · exact (onlyLive_setLiv64 s _ _).trans (onlyLive_setLivN _ _ _)
  · exact onlyLive_setLiv64 s _ _

theorem onlyLive_perfAny (u code : Nat) (occs : List (Option Nat × Occ × Nat)) (s : State) :
    OnlyLive s (perfAny u code occs s) := by
  unfold perfAny
  split
  · exact .refl s
  · refine foldl_rel OnlyLive.refl OnlyLive.trans (fun s c => ?_) _ s
    dsimp only
    split
    · exact .refl s
    · exact onlyLive_perfAdd _ _ _ s

theorem onlyLive_perf (u code : Nat) (arg : Option Nat) (k : Nat) (o : Occ) (s : State) :
    OnlyLive s (perf u code arg k o s) := onlyLive_perfAny _ _ _ s

theorem onlyLive_countInstr (t : Take) (s : State) : OnlyLive s (countInstr t s) := onlyLive_perf _ _ _ _ _ s

/-! ## INTx wires -/

theorem onlyIntx_emit (s : State) (o : Out) : OnlyIntx s (s.emit o) := ⟨s.parts.intx, _, rfl⟩

theorem onlyIntx_sendWires (x old new : Nat) (s : State) : OnlyIntx s (sendWires x old new s) := by
  unfold sendWires
  refine forUpto_rel OnlyIntx.refl OnlyIntx.trans (fun i s => ?_) 4 s
  split
  · exact .refl s
  · exact onlyIntx_emit s _

theorem onlyIntx_put (s : State) (x : Tab (Nat × Nat)) : OnlyIntx s { s with parts := { s.parts with intx := x } } :=
  ⟨x, s.out, rfl⟩

theorem onlyIntx_syncIntx (q : Nat) (s : State) : OnlyIntx s (syncIntx q s) := by
  unfold syncIntx
  try extract_lets
  repeat' (first
    | with_reducible refine OnlyIntx.trans ?_ (onlyIntx_sendWires _ _ _ _)
    | with_reducible exact OnlyIntx.refl _
    | split
    | extract_lets
    | with_reducible refine OnlyIntx.trans ?_ (onlyIntx_put _ _))

theorem onlyIntx_intx (s : State) : OnlyIntx s s.intx :=
  foldl_rel OnlyIntx.refl OnlyIntx.trans (fun s q => onlyIntx_syncIntx q s) _ s

/-! ## Events -/

theorem onlyEvents_evt (s : State) (e : Events) : OnlyEvents s { s with evt := e } := ⟨_, e, _, _, rfl⟩

theorem onlyEvents_ringPut (q ty info d2 d3 : Nat) (s : State) : OnlyEvents s (ringPut q ty info d2 d3 s) :=
  (onlyIntx_emit s _).events.trans (onlyLive_setLivN _ _ _).events

theorem onlyEvents_ringLose (q k : Nat) (s : State) : OnlyEvents s (ringLose q k s) :=
  (onlyLive_setLivN s _ _).events.trans (onlyEvents_evt _ _)

theorem onlyEvents_ringWrite (q ty info d2 d3 : Nat) (s : State) : OnlyEvents s (ringWrite q ty info d2 d3 s) := by
  unfold ringWrite
  extract_lets
  split
  · exact onlyEvents_ringLose _ _ _
  split
  · split
    · exact onlyEvents_ringLose _ _ _
    · exact onlyEvents_ringPut _ _ _ _ _ _
  split
  · exact onlyEvents_ringLose _ _ _
  · with_reducible refine OnlyEvents.trans ?_ (onlyEvents_ringPut _ _ _ _ _ _)
    with_reducible refine OnlyEvents.trans ?_ (onlyEvents_evt _ _)
    with_reducible exact onlyEvents_ringPut _ _ _ _ _ _

theorem onlyEvents_eventEntry (q g stn port : Nat) (s : State) : OnlyEvents s (eventEntry q g stn port s) := by
  have go (k : Nat) : OnlyEvents s (eventEntry.go q g stn port k s) :=
    (onlyEvents_evt s _).trans (onlyEvents_ringWrite _ _ _ _ _ _)
  unfold eventEntry
  try extract_lets
  repeat' split
  · with_reducible exact (onlyLive_bump s _ _).events
  · with_reducible exact go _
  · with_reducible exact go _

theorem onlyEvents_raise (s : State) (g : Nat) (q? : Option Nat) (stn port : Nat) :
    OnlyEvents s (s.raise g q? stn port) := by
  unfold State.raise
  extract_lets a s1 s2 s3 s4 fm s5
  have h1 : OnlyEvents s s1 := (onlyLive_setLiv s _ _).events
  have h2 : OnlyEvents s s2 := h1.trans ((onlyLive_bump s1 _ _).trans (onlyLive_perf _ _ _ _ _ _)).events
  have h3 : OnlyEvents s s3 := h2.trans (onlyLive_setLivN s2 _ _).events
  have h4 : OnlyEvents s s4 := by
    cases q? with
    | none => exact h3
    | some q => exact h3.trans (onlyEvents_eventEntry q g stn port s3)
  have h5 : OnlyEvents s s5 := by
    clear_value s4
    simp only [s5]
    split
    · exact h4.trans (onlyEvents_eventEntry _ _ _ _ s4)
    · exact h4
  exact h5.trans (onlyIntx_intx s5).events

theorem onlyEvents_raiseLimited (s : State) (g : Nat) (q? : Option Nat) : OnlyEvents s (s.raiseLimited g q?) := by
  unfold State.raiseLimited
  repeat' (first
    | with_reducible refine OnlyEvents.trans ?_ (onlyEvents_raise _ _ _ _ _)
    | with_reducible exact OnlyEvents.refl _
    | split
    | extract_lets
    | with_reducible exact onlyEvents_evt _ _)

theorem onlyEvents_raiseStn (s : State) (n i p : Nat) : OnlyEvents s (s.raiseStn n i p) := by
  unfold State.raiseStn
  split
  · exact .refl s
  · exact onlyEvents_raise _ _ _ _ _

theorem onlyEvents_raiseStnWhole (s : State) (n i : Nat) : OnlyEvents s (s.raiseStnWhole n i) := by
  unfold State.raiseStnWhole
  split
  · exact .refl s
  · exact onlyEvents_raise _ _ _ _ _

theorem onlyEvents_devErr (s : State) (cause : Fld) : OnlyEvents s (s.devErr cause) :=
  (onlyLive_setLivF s _ _ _).events.trans (onlyEvents_raise _ _ _ _ _)

theorem onlyEvents_protFault (who a : Nat) (w : Bool) (c p : Nat) (s : State) :
    OnlyEvents s (protFault who a w c p s) :=
  ((onlyLive_bump s _ _).trans ((onlyLive_setLivN _ _ _).trans (onlyLive_setLivN _ _ _))).events.trans
    (onlyEvents_raiseLimited _ _ _)

/-! ## The slate log -/

theorem onlyLog_slate (s : State) (g : Slate) : OnlyLog s { s with slate := g } := ⟨_, _, _, _, g, _, rfl⟩

theorem onlyLog_driftMove (q : Bool) (k : Nat) (s : State) : OnlyLog s (driftMove q k s) :=
  OnlyLog.trans ⟨_, _, _, _, _, _, rfl⟩ (onlyLive_perf _ _ _ _ _ _).events.log

theorem onlyEvents_slateAdvance (k : Nat) (s : State) : OnlyEvents s (slateAdvance k s) := by
  unfold slateAdvance
  extract_lets rd before after s1 s2 s3 s4
  have h1 : OnlyEvents s s1 := (onlyLive_bump s _ _).events
  have h2 : OnlyEvents s s2 := by
    clear_value s1
    simp only [s2]
    split
    · exact (h1.trans (onlyLive_setLivF s1 _ _ _).events).trans (onlyEvents_raise _ _ _ _ _)
    · exact h1
  clear_value s2
  split
  · exact ((h2.trans ((onlyLive_bump s2 _ _).trans (onlyLive_setLivN _ _ _)).events).trans
      (onlyLive_setLivF _ _ _ _).events).trans (onlyEvents_raise _ _ _ _ _)
  · exact h2

theorem onlyLog_slatePut (e : Entry) (s : State) : OnlyLog s (slatePut e s) := by
  unfold slatePut
  try extract_lets
  with_reducible refine OnlyLog.trans ?_ (onlyEvents_slateAdvance _ _).log
  with_reducible refine OnlyLog.trans ?_ (onlyLog_slate _ _)
  with_reducible refine OnlyLog.trans ?_ (onlyLog_driftMove _ _ _)
  with_reducible exact (onlyLive_perf _ _ _ _ _ _).events.log

theorem onlyLog_slateReserve (s : State) : OnlyLog s (slateReserve s) := by
  unfold slateReserve
  try extract_lets
  with_reducible refine OnlyLog.trans ?_ (onlyEvents_slateAdvance _ _).log
  with_reducible exact onlyLog_slate _ _

theorem onlyLog_checkpoint (s : State) : OnlyLog s (checkpoint s) := by
  unfold checkpoint
  try extract_lets
  with_reducible refine OnlyLog.trans ?_ (onlyLog_slateReserve _)
  with_reducible refine OnlyLog.trans ?_ (onlyLog_slate _ _)
  with_reducible refine OnlyLog.trans ?_ (onlyLive_setLivN _ _ _).events.log
  with_reducible exact onlyLog_slatePut _ _

theorem onlyLog_log (s : State) (e : Entry) : OnlyLog s (s.log e) := by
  unfold State.log checkpointIfDue
  try extract_lets
  split
  · with_reducible refine OnlyLog.trans ?_ (onlyLog_checkpoint _)
    with_reducible refine OnlyLog.trans ?_ (onlyLog_slate _ _)
    with_reducible exact onlyLog_slatePut _ _
  · with_reducible refine OnlyLog.trans ?_ (onlyLog_slate _ _)
    with_reducible exact onlyLog_slatePut _ _

end Sys2Proof.Machine
end

