-- ==== Sys2Proof/Laws/Wire.lean ====
section
/-! SUPPORT. Reading back the fields that a word was spelt from. -/

namespace Sys2Proof.Machine

/-- Fields read back, each reduced to its width. -/
theorem readFields_lsbFields (l : List (Nat × Nat)) :
    readFields (l.map (fun e => e.1)) (lsbFields l) = l.map (fun e => e.2 % 2 ^ e.1) := by
  induction l with
  | nil => rfl
  | cons e l ih =>
    have h : e.2 % 2 ^ e.1 < 2 ^ e.1 := Nat.mod_lt _ (Nat.two_pow_pos _)
    simp only [List.map, readFields, lsbFields, Nat.add_mul_mod_self_left, Nat.mod_mod,
      Nat.add_mul_div_left _ _ (Nat.two_pow_pos _), Nat.div_eq_of_lt h, Nat.zero_add, ih]

/-- What stands above a check value of `w` bits. -/
theorem above_check (w c x : Nat) : (c % 2 ^ w + 2 ^ w * x) / 2 ^ w = x := by
  rw [Nat.add_mul_div_left _ _ (Nat.two_pow_pos _), Nat.div_eq_of_lt (Nat.mod_lt _ (Nat.two_pow_pos _)), Nat.zero_add]

/-- A check value of `w` bits. -/
theorem check_below (w c x : Nat) : (c % 2 ^ w + 2 ^ w * x) % 2 ^ w = c % 2 ^ w := by
  rw [Nat.add_mul_mod_self_left, Nat.mod_mod]

/-- The lowest field. -/
theorem bits_lsbFields_first (w v : Nat) (l : List (Nat × Nat)) : bits (lsbFields ((w, v) :: l)) 0 w = v % 2 ^ w := by
  simp only [bits, lsbFields, Nat.pow_zero, Nat.div_one, Nat.add_mul_mod_self_left, Nat.mod_mod]

/-- A field above the lowest stands in the rest. -/
theorem bits_lsbFields_rest (w v : Nat) (l : List (Nat × Nat)) (lo k : Nat) :
    bits (lsbFields ((w, v) :: l)) (w + lo) k = bits (lsbFields l) lo k := by
  have h : (v % 2 ^ w + 2 ^ w * lsbFields l) / 2 ^ w = lsbFields l := above_check w v _
  simp only [bits, lsbFields, Nat.pow_add, ← Nat.div_div_eq_div_mul, h]

/-- A flag of one bit reads back. -/
theorem b2n_mod_two (b : Bool) : (b2n b % 2 ^ 1 == 1) = b := by cases b <;> rfl

/-- A field above the lowest, by its place in the word. -/
theorem bits_lsbFields_skip (w v : Nat) (l : List (Nat × Nat)) (o k : Nat) (h : w ≤ o) :
    bits (lsbFields ((w, v) :: l)) o k = bits (lsbFields l) (o - w) k := by
  have e := bits_lsbFields_rest w v l (o - w) k
  rwa [Nat.add_sub_cancel' h] at e

/-- The lowest field, when it fits. -/
theorem bits_lsbFields_fits (w v : Nat) (l : List (Nat × Nat)) (h : v < 2 ^ w) :
    bits (lsbFields ((w, v) :: l)) 0 w = v := by
  rw [bits_lsbFields_first, Nat.mod_eq_of_lt h]

/-- A flag above the lowest field, by its place in the word. -/
theorem bit_lsbFields_skip (w v : Nat) (l : List (Nat × Nat)) (o : Nat) (h : w ≤ o) :
    bit (lsbFields ((w, v) :: l)) o = bit (lsbFields l) (o - w) := by
  have e : ∀ x i, bit x i = (bits x i 1 == 1) := fun _ _ => rfl
  rw [e, e, bits_lsbFields_skip w v l o 1 h]

/-- The lowest field, a flag. -/
theorem bit_lsbFields_first (b : Bool) (l : List (Nat × Nat)) : bit (lsbFields ((1, b2n b) :: l)) 0 = b := by
  have e : ∀ x i, bit x i = (bits x i 1 == 1) := fun _ _ => rfl
  rw [e, bits_lsbFields_first, b2n_mod_two]

/-- A word of fields stays below the sum of their widths. -/
theorem lsbFields_lt (l : List (Nat × Nat)) : lsbFields l < 2 ^ (l.map (fun e => e.1)).sum := by
  induction l with
  | nil => exact Nat.one_pos
  | cons e l ih =>
    have h : e.2 % 2 ^ e.1 < 2 ^ e.1 := Nat.mod_lt _ (Nat.two_pow_pos _)
    simp only [lsbFields, List.map, List.sum_cons, Nat.pow_add]
    have k := Nat.mul_le_mul_left (2 ^ e.1) (Nat.succ_le_of_lt ih)
    simp only [Nat.succ_eq_add_one, Nat.mul_add, Nat.mul_one] at k
    omega

end Sys2Proof.Machine
end

