-- ==== Sys2Proof/Tests/Slice0.lean ====
section
/-! SUPPORT. The model's own tests: ill-formed commands that the check refuses, and for every statement with premises
states and operands that meet them. -/

open Sys2Proof Sys2Proof.Machine

namespace Sys2Proof.Tests

set_option Elab.async false

/-! ## Helpers -/

/-- An instruction word of format A or B (R38): opcode, d, a, b. -/
def ins (op d a b : Nat) : Nat := op * 2 ^ 26 + d * 2 ^ 21 + a * 2 ^ 16 + b * 2 ^ 11

/-- A take of mailbox 51 about to execute the word `w`, with one more instruction behind it; G1 = 5, G2 = 7. -/
def tk (w : Nat) : Take :=
  { origin := 51, serial := 1, code := [BitVec.ofNat 32 w, 0], regs := [(1, 5), (2, 7)], startFt := 0, startNow := 0 }

/-- The state after reset with the take `t` executing. -/
def run (t : Take) : State := State.reset.setTake (some t)

/-- The premises of an instruction hold for the take `tk w` after reset. -/
abbrev Here (w op rsv : Nat) : Prop := AtInsn (run (tk w)) (tk w) w op rsv

theorem test_reset_empty : State.reset.pending = [] := by decide

/-! ## Tylyn -/

theorem witness_StepRunsFrontCommand : ({ State.reset with pending := [.add, .sub] } : State).pending = .add :: [.sub] := by
  decide

theorem witness_EmptyQueueTicks : State.reset.pending = [] := by decide

/-- Every three-register and immediate instruction finds its premises. -/
theorem witness_RegisterResults :
    (∀ op ∈ [1, 2, 3, 4, 5, 6, 7, 8, 9], Here (ins op 3 1 2) op 0x7FF) ∧
    (∀ op ∈ [0xA, 0xB, 0xC, 0xD], Here (ins op 3 1 31) op 0) ∧ Here (ins 0xE 3 1 0 + 63) 0xE 0xFFC0 ∧
    Here (ins 0xF 3 1 0 + 63) 0xF 0xFFC0 ∧ (∀ op ∈ [0x10, 0x11], Here (ins op 3 0 31) op 0x1E0000 ∧
      bit (ins op 3 0 31) 16 = false ∧ Here (ins op 3 1 31) op 0x1E0000 ∧ bit (ins op 3 1 31) 16 = true) ∧
    Here (ins 0x24 3 0 0) 0x24 0x1FFFFF ∧ Here 0 0 0x3FFFFFF ∧ (tk 0).pc + 1 < (tk 0).code.length ∧
    (tk 0).canon = true := by decide +kernel

/-- A branch at index 1 of a take of four words, by `off` words on the condition `c`. -/
def tBrc (c off : Nat) : Take := { tk 0 with code := [0, BitVec.ofNat 32 (ins 0x1D 1 2 0 + c * 2 ^ 13 + off), 0, 0], pc := 1 }

/-- Each condition of BRC at the ends of the take, outside it, and not taken. -/
theorem witness_BrcConditions : ∀ c ∈ [0, 1, 2, 3, 4, 5, 6, 7], ∀ off ∈ [0, 2, 3, 0x1FFF, 0x1FFE],
    let w := ins 0x1D 1 2 0 + c * 2 ^ 13 + off
    AtInsn (run (tBrc c off)) (tBrc c off) w 0x1D 0 ∧ (tBrc c off).pc + 1 < (tBrc c off).code.length ∧
    bits w 13 3 = c ∧ (tBrc c off).g (fD w) = 5 ∧ (tBrc c off).g (fA w) = 7 ∧
    ((tBrc c off).pc : Int) + signed 13 (bits w 0 13) = (if off < 4 then 1 + (off : Int) else (off : Int) - 0x1FFF) := by
  decide +kernel

/-- A take of two words at index 0 with a return stack. -/
def tJump (w : Nat) (stack : List Nat) : Take := { tk w with stack := stack }

theorem witness_ControlFlow :
    (∀ p ∈ ([(0x1C, 1), (0x1C, 2), (0x1C, 0x3FFFFFF), (0x1E, 1), (0x1E, 2)] : List (Nat × Nat)),
      let w := p.1 * 2 ^ 26 + p.2
      AtInsn (run (tJump w [])) (tJump w []) w p.1 0 ∧
      (0 + signed 26 (bits w 0 26) : Int) = (if p.2 < 4 then (p.2 : Int) else -1)) ∧
    AtInsn (run (tJump (0x1E * 2 ^ 26 + 1) [1, 1, 1, 1, 1, 1, 1])) (tJump (0x1E * 2 ^ 26 + 1) [1, 1, 1, 1, 1, 1, 1])
      (0x1E * 2 ^ 26 + 1) 0x1E 0 ∧
    AtInsn (run (tJump (0x1E * 2 ^ 26 + 1) [1, 1, 1, 1, 1, 1, 1, 1])) (tJump (0x1E * 2 ^ 26 + 1) [1, 1, 1, 1, 1, 1, 1, 1])
      (0x1E * 2 ^ 26 + 1) 0x1E 0 ∧
    (∀ l ∈ [[], [1], [2]], AtInsn (run (tJump (0x1F * 2 ^ 26) l)) (tJump (0x1F * 2 ^ 26) l) (0x1F * 2 ^ 26) 0x1F 0x3FFFFFF) ∧
    (let t := { tk 0 with code := [0] }; AtInsn (run t) t 0 0 0x3FFFFFF ∧ t.code.length ≤ t.pc + 1) ∧
    (Here (ins 1 3 1 2) 1 0x7FF ∧ (tk 0).canon = true ∧ fD (ins 1 3 1 2) ≠ 0 ∧
      ∀ u ∈ [goesOn ((tk (ins 1 3 1 2)).setG 3 12) 1 (run (tk (ins 1 3 1 2)))], u.dir.take.isSome = true) := by
  decide +kernel

/-- Takes about to execute WAITT on G1 = 5, WAITT on a time beyond the limit, WAITCUE and FIRECUE on line 3. -/
def tWait (w : Nat) (g : Nat) : Take := { tk w with regs := [(1, BitVec.ofNat 64 g)] }

/-- A take that waits. -/
def tWaits (x : TakeWait) : Take := { tk 0 with wait := x }

theorem witness_Waits :
    (let w := ins 0x25 0 1 0
     AtInsn (run (tWait w 0)) (tWait w 0) w 0x25 0x3E0FFFF ∧ ((tWait w 0).g (fA w)).toNat ≤ (run (tWait w 0)).ft ∧
     AtInsn (run (tWait w 2000000)) (tWait w 2000000) w 0x25 0x3E0FFFF ∧
     (run (tWait w 2000000)).ft < ((tWait w 2000000).g (fA w)).toNat ∧
     ((tWait w 2000000).g (fA w)).toNat ≤ (tWait w 2000000).startFt + 2000000 ∧
     AtInsn (run (tWait w 2000001)) (tWait w 2000001) w 0x25 0x3E0FFFF ∧
     (tWait w 2000001).startFt + 2000000 < ((tWait w 2000001).g (fA w)).toNat) ∧
    ((run (tWaits (.time 5))).dir.take = some (tWaits (.time 5)) ∧ (run (tWaits (.time 5))).dir.longop = none ∧
     (tWaits (.time 5)).wait = .time 5) ∧
    (∀ k ∈ [1, 2000], let w := 0x28 * 2 ^ 26 + 3 * 2 ^ 21 + 3 * 2 ^ 12 + k
     Here w 0x28 0x100000 ∧ bits w 0 12 = k ∧ cueMay (run (tk w)) (originPart (tk w).origin) (bits w 12 8) = true) ∧
    (∀ k ∈ [0, 2001], let w := 0x28 * 2 ^ 26 + 3 * 2 ^ 21 + 3 * 2 ^ 12 + k
     Here w 0x28 0x100000 ∧ bits w 0 12 = k) ∧
    (run (tWaits (.cue 3 1000 2))).dir.take = some (tWaits (.cue 3 1000 2)) ∧
    (let w := 0x29 * 2 ^ 26 + 3 * 2 ^ 12
     Here w 0x29 0x3F00FFF ∧ cueMay (run (tk w)) (originPart (tk w).origin) (bits w 12 8) = true ∧
     Tab.get 0 (run (tk w)).cues.waiting (bits w 12 8) < 64) := by decide +kernel

/-- A state with a CUTAT of origin `o` pending and a take of origin `o'` executing. -/
def cutPends (t : Take) (o : Nat) : State :=
  { run t with dir := { (run t).dir with cutAt := some ⟨o, 1, 0, [], false⟩ } }

/-- A take about to HALT with two results and the journal `j`. -/
def tHalt (j : List (Nat × Word)) : Take := { tk (ins 0x20 2 0 0) with journal := j }

theorem witness_TakeEndings :
    (AtInsn (run (tHalt [])) (tHalt []) (ins 0x20 2 0 0) 0x20 0x1FFFFF ∧
     journalRefused (run (tHalt [])) (tHalt []).journal = none) ∧
    (let t := tHalt [(Reg.FCST_BASE, 0x3FFFF)]
     AtInsn (run t) t (ins 0x20 2 0 0) 0x20 0x1FFFFF ∧ journalRefused (run t) t.journal = some (0, 0)) ∧
    Here (0x2E * 2 ^ 26) 0x2E 0x3FFFFFE ∧
    (∀ o ∈ [51, 3], AtInsn (cutPends (tk (0x2E * 2 ^ 26 + 1)) o) (tk (0x2E * 2 ^ 26 + 1)) (0x2E * 2 ^ 26 + 1) 0x2E 0x3FFFFFE ∧
      bit (0x2E * 2 ^ 26 + 1) 0 = true) ∧
    (let t : Take := { tk (0x2E * 2 ^ 26 + 1) with origin := 5 }
     AtInsn (cutPends t 3) t (0x2E * 2 ^ 26 + 1) 0x2E 0x3FFFFFE ∧ t.origin ≠ 3 ∧ ¬(48 ≤ t.origin ∧ t.origin ≤ 55)) ∧
    Here (ins 0x30 0 1 0 + 9) 0x30 0x3E00000 ∧
    (fetch (run (tk (0x3F * 2 ^ 26))) = some (tk (0x3F * 2 ^ 26), 0x3F * 2 ^ 26) ∧
     opcodeKnown (opcode (0x3F * 2 ^ 26)) = false) ∧
    ((run (tk 0)).dir.take = some (tk 0) ∧ (run (tk 0)).dir.longop = none ∧ (tk 0).mismatches = 0) ∧
    (let t : Take := { tk 0 with mismatches := 1 }; (run t).dir.take = some t ∧ t.mismatches ≠ 0) := by decide +kernel

theorem witness_AnswerOfATake : Tab.wf (fun _ => ({} : Mbox)) State.reset.mbox = true ∧
    ({ tk 0 with origin := 3 } : Take).origin ≠ 51 := by decide +kernel

/-! ## States with ports -/

/-- Sets a field of a word of both sets. -/
def both (a : Nat) (f : Fld) (x : Nat) (s : State) : State :=
  (s.setAct a (fset (s.act a) f x)).setShd a (fset (s.shd a) f x)

/-- A booted device. -/
def up : State := { State.reset with boot := { State.reset.boot with step := 9, readable := true } }

/-- Station `n` a PCI Express station with its port 0 enabled, of role `role` in partition `q`, its link up. -/
def pcieAt (n role q : Nat) (s : State) : State :=
  let s := both (Reg.LINK_CTL n) Fld.LINK_CTL_KIND 1 (both (Reg.LINK_CTL n) Fld.LINK_CTL_EN 1 s)
  let s := both (Reg.PORT_CFG n 0) Fld.PORT_CFG_ROLE role (both (Reg.PORT_CFG n 0) Fld.PORT_CFG_PART q s)
  s.setLivF (Reg.PORT_STAT n 0) Fld.PORT_STAT_DLUP 1

/-- A booted device whose partition 0 has a host at port 0 of station 0 and a device at port 0 of station 1. -/
def host : State := pcieAt 1 0 0 (pcieAt 0 1 0 up)

/-- The word whose X-format instruction has opcode `op`, Gd = G2 and address G1 (R42). -/
def xw (op sbit : Nat) : Nat := op * 2 ^ 26 + 2 * 2 ^ 21 + 2 ^ 16 + sbit * 2 ^ 15

/-- A take about to execute an X-format instruction on the address `a` with the value `v`. -/
def tX (op sbit a v : Nat) : Take :=
  { tk (xw op sbit) with regs := Tab.set 0 [(1, BitVec.ofNat 64 a)] 2 (BitVec.ofNat 64 v) }

/-! ## Mailboxes and the start of a take -/

/-- Mailbox 0 of the host's partition with the inbound words `q`. -/
def inbox (q : List MWord) (dis : Bool) : State := host.setMb 0 { inq := q, discarding := dis }

/-- Mailbox 49 holds one outbound word. -/
def outbox : State := up.setMb 49 { outq := [⟨5, true, false, false⟩] }

theorem witness_Mailboxes :
    (reachesMbox (inbox [] false) (.bar 0) 0 = true ∧ (inbox [] false).dir.longop = none ∧
     ((inbox [] false).mb 0).inq.length < 8192 ∧ ((inbox [] false).mb 0).discarding = false ∧
     pktCount ((inbox [] false).mb 0).inq < 8191) ∧
    (reachesMbox (inbox [] true) (.bar 0) 0 = true ∧ ((inbox [] true).mb 0).discarding = true) ∧
    reachesMbox State.reset (.bar 0) 0 = false ∧
    (reachesMbox up (bytePath .i3c) 49 = true ∧ up.partialOf .i3c = none) ∧
    (let l : List Byte := [1, 2, 3, 4, 5, 6, 7]
     let s := up.setPartial .i3c (some ⟨49, false, l⟩)
     reachesMbox s (bytePath .i3c) 49 = true ∧ l.length = 7 ∧ s.partialOf .i3c = some ⟨49, false, l⟩) ∧
    (Tab.wf (fun _ => ({} : Mbox)) outbox.mbox = true ∧ pathLive outbox .i3c = true ∧ outbox.boot.readable = true ∧
     protRefuses outbox (pathIdent outbox .i3c) (outWordAddr 49) false = none ∧ reachesMbox outbox .i3c 49 = true ∧
     (outbox.mb 49).outq = ⟨5, true, false, false⟩ :: []) := by decide +kernel

/-- Mailbox 3 holds a whole packet: one instruction, serial number 7 (R33). -/
def waiting : State :=
  State.reset.setMb 3 { inq := [⟨0x7A4E000100000007, false, false, false⟩, ⟨0, true, false, false⟩] }

theorem witness_TakesBegin :
    (dirFree waiting = true ∧ (waiting.dir.last + 1 + 3) % 64 = 3 ∧
     (∀ j < 3, ¬(0 < pktCount (waiting.mb ((waiting.dir.last + 1 + j) % 64)).inq ∧
       (waiting.mb ((waiting.dir.last + 1 + j) % 64)).outq.length + 32 ≤ 4096)) ∧
     0 < pktCount (waiting.mb 3).inq ∧ (waiting.mb 3).outq.length + 32 ≤ 4096 ∧
     malformed (firstPacket (waiting.mb 3).inq).1 = false ∧
     bits (nth { word := 0, last := true } (firstPacket (waiting.mb 3).inq).1 0).word.toNat 0 32 ≠
       (waiting.liv (Reg.MBOX_LASTSER 3)).toNat) := by decide +kernel

/-! ## Register access -/

/-- Station 1 is a member of a x16 pair, and upstream ports are written in both stations. -/
def paired (s : State) : State :=
  both (Reg.PORT_CFG 0 0) ⟨0, 1⟩ 1 (both (Reg.PORT_CFG 1 0) ⟨0, 1⟩ 1 (both (Reg.LINK_CTL 1) ⟨0, 3⟩ 5 s))

/-- RDREG finds its premises on a shadowed word from either set, on a live word, on a low word, and on a latched high
word. -/
theorem witness_RdregValues :
    (∀ p ∈ ([(0, Reg.LINK_CTL 0), (1, Reg.LINK_CTL 0), (0, Reg.GLB_TAKECNT), (0, Reg.GLB_FT_NOW_LO)] : List (Nat × Nat)),
      let t := tX 0x14 p.1 p.2 0
      AtInsn (run t) t (xw 0x14 p.1) 0x14 0 ∧ t.pc + 1 < t.code.length ∧ xAddr t (xw 0x14 p.1) = p.2 ∧
      (regRow p.2).isSome = true ∧ protRefuses (run t) t.origin p.2 false = none ∧
      isShadowed p.2 = decide (p.2 = Reg.LINK_CTL 0) ∧ bit (xw 0x14 p.1) 15 = decide (p.1 = 1)) ∧
    partner Reg.GLB_TAKECNT = none ∧ isHigh Reg.GLB_TAKECNT = false ∧
    partner Reg.GLB_FT_NOW_LO = some (Reg.GLB_FT_NOW_LO + 4) ∧
    (let t := tX 0x14 0 (Reg.GLB_FT_NOW_LO + 4) 0
     let s := (run t).latch .director (Reg.GLB_FT_NOW_LO + 4) 9
     AtInsn s t (xw 0x14 0) 0x14 0 ∧ protRefuses s t.origin (Reg.GLB_FT_NOW_LO + 4) false = none ∧
     isShadowed (Reg.GLB_FT_NOW_LO + 4) = false ∧ partner (Reg.GLB_FT_NOW_LO + 4) = none ∧
     isHigh (Reg.GLB_FT_NOW_LO + 4) = true ∧ s.latched .director (Reg.GLB_FT_NOW_LO + 4) = some 9) ∧
    (∀ b ∈ [0, 1],
      let t := tX 0x14 b (Reg.PORT_CFG 1 0) 0
      let s := paired (run t)
      AtInsn s t (xw 0x14 b) 0x14 0 ∧ (regRow (Reg.PORT_CFG 1 0)).isSome = true ∧
      protRefuses s t.origin (Reg.PORT_CFG 1 0) false = none ∧ mutedIn s.act (Reg.PORT_CFG 1 0) = true ∧
      mutedIn (overlay s.shd t.journal) (Reg.PORT_CFG 1 0) = true ∧ mutedIn s.act (Reg.LINK_CTL 1) = false ∧
      mutedIn (overlay s.shd t.journal) (Reg.LINK_CTL 1) = false) := by decide +kernel

/-- R189: a port register of the upper member of a x16 pair reads as reset. -/
theorem test_pair_register_reads_reset :
    readWord (paired State.reset) (Reg.PORT_CFG 1 0) = 0x208F00 ∧ readWord (paired State.reset) (Reg.PORT_CFG 0 0) = 0x208F01 := by
  decide +kernel

theorem witness_RegisterWrites :
    (let t := tX 0x15 0 (Reg.LINK_CTL 0) 9
     AtInsn (run t) t (xw 0x15 0) 0x15 0x8000 ∧ (regRow (Reg.LINK_CTL 0)).any (fun r => r.tw != 0) = true ∧
     protRefuses (run t) t.origin (Reg.LINK_CTL 0) true = none ∧ (isUser t.origin && managerOnly (Reg.LINK_CTL 0)) = false ∧
     (run t).dir.cutAt = none) ∧
    (let t := tX 0x15 0 Reg.GLB_TAKECNT 9
     AtInsn (run t) t (xw 0x15 0) 0x15 0x8000 ∧ (regRow Reg.GLB_TAKECNT).any (fun r => r.tw == 0) = true) ∧
    (let t := tX 0x15 0 3 9; AtInsn (run t) t (xw 0x15 0) 0x15 0x8000 ∧ regRow 3 = none) ∧
    (let t := tX 0x16 0 Reg.GLB_TAKECNT 9; AtInsn (run t) t (xw 0x16 0) 0x16 0x8000 ∧ liveWritable Reg.GLB_TAKECNT = false) ∧
    (let t := tX 0x16 0 (Reg.MBOX_STAT 0) 9
     AtLive plainRule (run t) t (xw 0x16 0) (Reg.MBOX_STAT 0) 9 ∧
     (regRow (Reg.MBOX_STAT 0)).isSome = true) := by decide +kernel

theorem witness_JournalsAndCommits : State.reset.regs.canon = true ∧
    (tHalt [(Reg.LINK_CTL 0, 9)]).journal.map (fun e => e.1) = [Reg.LINK_CTL 0] ∧ [Reg.LINK_CTL 0].Nodup := by decide +kernel

/-- A take about to execute a TBLR (0x18) or TBLW (0x19) of word `k` of entry 0 of table `tb`. -/
def tTbl (op tb k : Nat) : Take := { tk (op * 2 ^ 26 + 2 * 2 ^ 21 + 3 * 2 ^ 16 + tb * 2 ^ 14 + k) with regs := [(2, 7)] }

theorem witness_DriftTableAccess :
    (∀ p ∈ ([(0, 3), (1, 31), (2, 7), (0, 4), (3, 0)] : List (Nat × Nat)),
      let w := 0x18 * 2 ^ 26 + 2 * 2 ^ 21 + 3 * 2 ^ 16 + p.1 * 2 ^ 14 + p.2
      let t := tTbl 0x18 p.1 p.2
      AtInsn (run t) t w 0x18 0x3FE0 ∧ bits w 14 2 = p.1 ∧ bits w 0 5 = p.2 ∧
      slotRefuses (run t) 80 t.origin false = none ∧ (t.g (fA w)).toNat < tabEntries p.1) ∧
    (∀ p ∈ ([(0, 3), (1, 0)] : List (Nat × Nat)),
      let w := 0x19 * 2 ^ 26 + 2 * 2 ^ 21 + 3 * 2 ^ 16 + p.1 * 2 ^ 14 + p.2
      let t := tTbl 0x19 p.1 p.2
      AtInsn (run t) t w 0x19 0x3FE0 ∧ slotRefuses (run t) 80 t.origin true = none ∧
      tblwRefused (run t) t.origin p.1 0 p.2 (t.g (fD w)) = false) ∧
    (let t := tTbl 0x19 3 0; AtInsn (run t) t (0x19 * 2 ^ 26 + 2 * 2 ^ 21 + 3 * 2 ^ 16 + 3 * 2 ^ 14) 0x19 0x3FE0) := by
  decide +kernel

/-- A configuration write held. -/
def held : State := { host with parts := { host.parts with held := [⟨0, 1, .command, 1, 15, 6, 0, 0, 0⟩] } }

theorem witness_HostConfigurationWrites :
    (host.hostUp 0 = true ∧ cfgHas host 0 1 .command = true) ∧
    (held.parts.held = ⟨0, 1, .command, 1, 15, 6, 0, 0, 0⟩ :: [] ∧ held.dir.longop = none ∧ held.rst.warm = .idle ∧
     held.rst.cold = false ∧ held.rst.rail = false) := by decide +kernel

/-- The low words and what a path finds there. -/
def lowWords : List Nat := [Reg.GLB_FT_NOW_LO, Reg.GLB_MRX_LO, Reg.SPC_E_LO 23, Reg.FCST_RAIL 5 0, Reg.PC_FIX_LO 73,
  Reg.PC_VAL_LO 0 0]

theorem witness_DirectReads :
    (∀ a ∈ lowWords, pathLive up .i3c = true ∧ up.boot.readable = true ∧
      (∀ b ∈ [a, a + 4], (regRow b).isSome = true ∧ protRefuses up (pathIdent up .i3c) b false = none ∧
        viewed up (pathIdent up .i3c) b (readWord up b) = readWord up b) ∧ partner a = some (a + 4) ∧ isPort a = false) ∧
    (let a := Reg.GLB_FT_NOW_LO + 4
     let s := up.latch .i3c a 9
     partner a = none ∧ isHigh a = true ∧ s.latched .i3c a = some 9 ∧ (regRow a).isSome = true ∧ isPort a = false ∧
     protRefuses s (pathIdent s .i3c) a false = none ∧ (isUser (pathIdent s .i3c) && hidden s (pathIdent s .i3c) a) = false) ∧
    (∀ a ∈ [0, 1, 2], protRefuses up (pathIdent up .i3c) (apertureAddr a 0) false = none) ∧
    State.reset.boot.readable = false := by decide +kernel

/-! ## Cuts and long operations -/

theorem witness_SealedWhileCutPends :
    (let t := tX 0x15 0 (Reg.LINK_CTL 0) 9
     AtInsn (cutPends t 3) t (xw 0x15 0) 0x15 0x8000 ∧ protRefuses (cutPends t 3) t.origin (Reg.LINK_CTL 0) true = none ∧
     (cutPends t 3).dir.cutAt = some ⟨3, 1, 0, [], false⟩) ∧
    (∀ p ∈ ([(0x2C * 2 ^ 26, 0x2C, 0x3FFFFFF), (0x2D * 2 ^ 26 + 2 ^ 16, 0x2D, 0x3E0FFFF)] : List (Nat × Nat × Nat)),
      AtInsn (cutPends (tk p.1) 3) (tk p.1) p.1 p.2.1 p.2.2) ∧
    (let t : Take := { tk (0x2E * 2 ^ 26 + 1) with origin := 3 }
     AtInsn (cutPends t 3) t (0x2E * 2 ^ 26 + 1) 0x2E 0x3FFFFFE ∧ t.origin = 3 ∧
     AtInsn (run t) t (0x2E * 2 ^ 26 + 1) 0x2E 0x3FFFFFE ∧ t.pc + 1 < t.code.length) ∧
    (let t : Take := { tk (0x2C * 2 ^ 26) with origin := 3 }
     AtInsn (run t) t (0x2C * 2 ^ 26) 0x2C 0x3FFFFFF ∧ bit ((run t).act Reg.GLB_CUTCTL).toNat 0 = false) ∧
    (let t : Take := { tk (0x2D * 2 ^ 26 + 2 ^ 16) with origin := 3 }
     AtInsn (run t) t (0x2D * 2 ^ 26 + 2 ^ 16) 0x2D 0x3E0FFFF ∧ (run t).ft < (t.g 1).toNat ∧
     (t.g 1).toNat ≤ (run t).ft + 2 ^ 32) := by decide +kernel

/-- A take about to execute a CUT (0x2C) or a CUTAT at fabric time `g`. -/
def tCut (op g : Nat) : Take :=
  { tk (op * 2 ^ 26 + (if op = 0x2D then 2 ^ 16 else 0)) with regs := [(1, BitVec.ofNat 64 g)] }

/-- A CUTAT is pending, set by mailbox 51, its time `g`. -/
def cutWaits (g : Nat) : State :=
  ({ State.reset with dir := { State.reset.dir with cutAt := some ⟨51, 1, 0, [], false⟩ } }.setLivN Reg.GLB_CUTTIME_LO g).setLivF
    Reg.GLB_FT_STAT Fld.GLB_FT_STAT_SYNC 1

/-- The Shadow Set a cut meets is one no condition of the chapters refuses. -/
abbrev CutOk (s : State) (t : Take) : Prop := s.dir.cutAt = none ∧ leavesBad s t = false ∧ cutForeign s t = false ∧
  cutRefused s t.origin (overlaid s t.journal) = false ∧ journalRefused s t.journal = none

theorem witness_CutsExchangeTheSets :
    (AtInsn (run (tCut 0x2C 1)) (tCut 0x2C 1) (0x2C * 2 ^ 26) 0x2C 0x3FFFFFF ∧ CutOk (run (tCut 0x2C 1)) (tCut 0x2C 1)) ∧
    (AtInsn (run (tCut 0x2D (2 ^ 32))) (tCut 0x2D (2 ^ 32)) (0x2D * 2 ^ 26 + 2 ^ 16) 0x2D 0x3E0FFFF ∧
     CutOk (run (tCut 0x2D (2 ^ 32))) (tCut 0x2D (2 ^ 32)) ∧ (run (tCut 0x2D (2 ^ 32))).ft + 2 ^ 32 = 2 ^ 32) ∧
    AtInsn (run (tCut 0x2D 0)) (tCut 0x2D 0) (0x2D * 2 ^ 26 + 2 ^ 16) 0x2D 0x3E0FFFF ∧
    AtInsn (run (tCut 0x2D (2 ^ 32 + 1))) (tCut 0x2D (2 ^ 32 + 1)) (0x2D * 2 ^ 26 + 2 ^ 16) 0x2D 0x3E0FFFF ∧
    (let s := cutWaits 5
     let r : State := { s.reachFt (cutTime s) with dir := { (s.reachFt (cutTime s)).dir with cutAt := none } }
     s.dir.cutAt = some ⟨51, 1, 0, [], false⟩ ∧ s.dir.longop = none ∧ r.regs.badS = [] ∧ cutRefused r 51 r.regs.shadow = false ∧
     (logCut 51 1 0 true r).livB Reg.GLB_FT_STAT Fld.GLB_FT_STAT_SYNC = true) := by decide +kernel

/-- A long operation that began at 0, which the take `t` waits for or not. -/
def longRuns (k : LongKind) (byTake : Bool) (t : Option Take) : State :=
  { State.reset with dir := { State.reset.dir with take := t, longop := some ⟨k, 0, byTake⟩ } }

theorem witness_LongOperationsEnd :
    (let s := longRuns .cut true (some (tk 0))
     s.dir.longop = some ⟨.cut, 0, true⟩ ∧ s.eng.io.ready = []) ∧
    (∀ p ∈ ([(true, some (tk 0)), (false, some (tk 0)), (false, none)] : List (Bool × Option Take)),
      let s := longRuns (.lull 3) p.1 p.2
      s.dir.longop = some ⟨.lull 3, 0, p.1⟩ ∧ LongKind.lull 3 ≠ .cut ∧
      (overrun (.lull 3) ((s.reach (0 + 2000000)).setLong none)).dir.take = p.2) := by decide +kernel

theorem witness_CutatThatFailsItsCheck :
    (let s : State := { cutWaits 5 with regs := { (cutWaits 5).regs with badS := [8] } }
     s.dir.cutAt = some ⟨51, 1, 0, [], false⟩ ∧ s.dir.longop = none ∧ (s.reachFt (cutTime s)).regs.badS ≠ []) ∧
    (let s := (cutWaits 5).setShd (Reg.LINK_CTL 0) 9
     let r : State := { s.reachFt (cutTime s) with dir := { (s.reachFt (cutTime s)).dir with cutAt := none } }
     cutRefused r 51 r.regs.shadow = true) := by decide +kernel

/-! ## Live writes -/

/-- `s` with a take about to execute a WRLIVE of `v` to the address `a`. -/
def liveOn (s : State) (a v : Nat) : State := s.setTake (some (tX 0x16 0 a v))

/-- The premises of a live write under the rule `r` hold at `liveOn s a v`. -/
abbrev LiveAt (r : LiveRule) (s : State) (a v : Nat) : Prop :=
  AtLive r (liveOn s a v) (tX 0x16 0 a v) (xw 0x16 0) a (BitVec.ofNat 32 v)

/-! ## The slate log -/

theorem witness_SlateTimeNeverDecreases : State.reset.slate.time < 2 ^ 64 - 1 ∧ State.reset.ft < 2 ^ 64 := by decide +kernel

/-- A slate log with something uncovered, a signature being made, and four entries. -/
def slated : State :=
  { State.reset with slate := { State.reset.slate with uncovered := some 0, signing := [3], count := 4 } }.setLivN
    Reg.GLB_SLATE_HEAD 4

/-- HOLD stands since 0 with a limit of 1 ms. -/
def holding : State :=
  ({ State.reset with rst := { State.reset.rst with holdAt := some 0 } }.setLivF Reg.GLB_DRAINCTL Fld.GLB_DRAINCTL_HOLD
    1).setLivF Reg.GLB_DRAINCTL Fld.GLB_DRAINCTL_LIMIT 1

/-- A unit is in the device. -/
def carrying (s : State) : State := s.onDp (fun d => { d with units := [(0, {
  src := 0, origin := .internal, dst := 0, group := 0, queue := 0, cells := 1, half := 1, body := .short [] })] })

theorem witness_SlateCommands :
    slated.slate.uncovered = some 0 ∧ slated.slate.signing = 3 :: [] ∧
    (∀ v ∈ [0, 4, 5], LiveAt slateRdRule slated Reg.GLB_SLATE_RD v ∧
      (((BitVec.ofNat 32 v).toNat + 2 ^ 32 - 0) % 2 ^ 32 ≤ (slated.head + 2 ^ 32 - 0) % 2 ^ 32 ↔ v ≠ 5)) ∧
    rdTakes (logLive (tX 0x16 0 Reg.GLB_SLATE_RD 4) Reg.GLB_SLATE_RD 4 (liveOn slated Reg.GLB_SLATE_RD 4)) 4 = true ∧
    (∀ v ∈ [0, 1], LiveAt drainRule State.reset Reg.GLB_DRAINCTL v) ∧
    (holding.rst.holdAt = some 0 ∧ drainLimit holding ≠ 0 ∧
     drainStat (holding.reach (0 + drainLimit holding)) % 2 = 1 ∧
     drainStat ((carrying holding).reach (0 + drainLimit (carrying holding))) % 2 = 0) := by decide +kernel

/-! ## Counters, upkeep, clocks -/

theorem witness_CounterCommands :
    LiveAt (pcCtlRule (fun v => !bit v.toNat 9 && !bit v.toNat 10)) State.reset (Reg.PC_CTL 73) 1 ∧
    LiveAt (pcCtlRule (fun v => bit v.toNat 9)) State.reset (Reg.PC_CTL 0) (2 ^ 9) ∧
    LiveAt (pcCtlRule (fun v => bit v.toNat 10)) State.reset (Reg.PC_CTL 0) (2 ^ 10) ∧
    (∀ i ∈ [0, 1, 2, 3], LiveAt (pcAllRule (fun v => bit v.toNat i)) State.reset Reg.PC_ALL (2 ^ i)) := by decide +kernel

/-- A counter of the last unit at its largest value. -/
def fullCounter : State := State.reset.setLiv64 (Reg.PC_VAL_LO 73 7) (2 ^ 48 - 1)

theorem witness_CounterAddsAndOverflows : fullCounter.regs.canon = true ∧ 7 < perfCounters 73 ∧
    fullCounter.liv64 (Reg.PC_VAL_LO 73 7) < 2 ^ 48 ∧ 2 ^ 48 ≤ fullCounter.liv64 (Reg.PC_VAL_LO 73 7) + 1 ∧
    fullCounter.liv64 (Reg.PC_VAL_LO 73 7) + 0 < 2 ^ 48 ∧ 3 < perfCounters 72 := by decide +kernel

/-- A sweep waits. -/
def sweeping : State := State.reset.onFcst (fun f => { f with sweeps := [{ at_ := 0, charges := [] }] })

/-- Some spare rows, and none. -/
def rows (k : Nat) : State := State.reset.setLivN Reg.GLB_DRIFT_SPARE k

theorem witness_Upkeep : fcstLevel State.reset = 0 ∧ 0 < ((rows 64).liv Reg.GLB_DRIFT_SPARE).toNat % 2 ^ 16 ∧
    ((rows 0).liv Reg.GLB_DRIFT_SPARE).toNat % 2 ^ 16 = 0 ∧ sweeping.pow.fcst.sweeps = { at_ := 0 } :: [] ∧
    8 ∈ ({ State.reset with regs := { State.reset.regs with badA := [8] } } : State).regs.badA := by decide +kernel

/-- The references fitted; REFCLK_A, B and FREFCLK valid as given. -/
def clocks (a b f : Nat) : State :=
  let s : State := { up with env := { up.env with refBFit := true, frefFit := true } }
  ((s.setLivF Reg.GLB_CLK_STAT Fld.GLB_CLK_STAT_AOK a).setLivF Reg.GLB_CLK_STAT Fld.GLB_CLK_STAT_BOK b).setLivF
    Reg.GLB_CLK_STAT Fld.GLB_CLK_STAT_FOK f

/-- A source of fabric time, with or without PPS_IN. -/
def source (pps : Nat) : State :=
  both Reg.GLB_FT_CTL Fld.GLB_FT_CTL_ROLE 1 (both Reg.GLB_FT_CTL Fld.GLB_FT_CTL_PPSEN pps up)

/-- Station `n` a fabric station with its one port enabled and its link up. -/
def fabAt (n : Nat) (s : State) : State :=
  let s := both (Reg.LINK_CTL n) Fld.LINK_CTL_KIND 2 (both (Reg.LINK_CTL n) Fld.LINK_CTL_EN 1 s)
  s.setLivF (Reg.FL_STAT n 0) Fld.FL_STAT_STATE 3

theorem witness_ClocksAndFabricTime :
    (watched (clocks 1 1 1) 2 = true ∧ (clocks 1 1 1).livB Reg.GLB_CLK_STAT Fld.GLB_CLK_STAT_FOK = true) ∧
    (watched (clocks 1 1 1) 0 = true ∧ (clocks 1 1 1).livB Reg.GLB_CLK_STAT Fld.GLB_CLK_STAT_AOK = true ∧
     refUse ((clocks 1 1 1).setLivF Reg.GLB_CLK_STAT Fld.GLB_CLK_STAT_AOK 0) = 0 ∧
     ((clocks 1 1 1).setLivF Reg.GLB_CLK_STAT Fld.GLB_CLK_STAT_AOK 0).livB Reg.GLB_CLK_STAT Fld.GLB_CLK_STAT_BOK = true) ∧
    (watched (clocks 1 1 0) 2 = true ∧ (clocks 1 1 0).livB Reg.GLB_CLK_STAT Fld.GLB_CLK_STAT_FOK = false) ∧
    (∀ v ∈ [2, 3], LiveAt clkCmdRule (clocks 1 0 1) Reg.GLB_CLK_CMD v ∧ bit v 2 = false) ∧
    LiveAt ftSetRule (source 0) Reg.GLB_FT_SET_HI 9 ∧
    (isSource up = false ∧ isSource (source 0) = true ∧ ppsEn (source 0) = false ∧ isSource (source 1) = true ∧
     ppsEn (source 1) = true) ∧
    ((source 1).onTime (fun r => { r with waitLoad := some 9 })).dp.time.waitLoad = some 9 ∧
    ((source 1).onTime (fun r => { r with loaded := true })).dp.time.loaded = true ∧
    (((source 1).onTime (fun r => { r with ppsAt := some 0 })).setLivF Reg.GLB_FT_STAT Fld.GLB_FT_STAT_PPSOK 1).livB
      Reg.GLB_FT_STAT Fld.GLB_FT_STAT_PPSOK = true ∧
    (let s := fabAt 0 up
     let r := s.reach (s.dp.time.at_ + 2 ^ min 10 (s.actF Reg.GLB_FT_CTL Fld.GLB_FT_CTL_PERIOD) * 1000)
     isSource s = false ∧ parentPort s = (0, 0) ∧ (r.lnk 0 0).tsT1 = none ∧ (r.lnk 0 0).tsReq = false ∧
     fabPort r.act 0 0 = true ∧ r.flState 0 0 = 3) := by decide +kernel

/-! ## Resets and boot -/

/-- COLD_RST_N low, and a supply out of range. -/
def cold : State := { State.reset with rst := { State.reset.rst with cold := true } }
def noRail : State := { State.reset with rst := { State.reset.rst with rail := true } }

theorem witness_ColdResets : (State.reset.rst.cold = false ∧ State.reset.rst.rail = false) ∧
    (cold.rst.cold = true ∧ cold.rst.rail = false ∧ cold.regs.canon = true) ∧
    (noRail.rst.rail = true ∧ noRail.rst.cold = false ∧ noRail.regs.canon = true) ∧ State.reset.rst.thermtrip = false ∧
    ({ State.reset with rst := { State.reset.rst with thermtrip := true } } : State).rst.thermtrip = true := by
  decide +kernel

/-- The phases of a warm reset. -/
def warmAt (x : WarmPhase) : State := { up with rst := { up.rst with warm := x, warmPin := true } }

/-- Station 2 waits for its reset. -/
def stnWaits : State := { up with rst := { up.rst with station := some 2 } }

theorem witness_WarmAndStationResets : up.rst.warm = .idle ∧
    ((warmAt .draining).rst.warm = .draining ∧ (warmAt .draining).slate.signing = [] ∧ (warmAt .draining).sec.cmd = none ∧
     (warmAt .draining).boot.retry = none ∧ (warmAt .draining).rst.warmPin = true ∧
     (warmAt .draining).regs.canon = true) ∧
    (isStnWord (Reg.LINK_CTL 0) && keptInStn (Reg.LINK_CTL 0)) = false ∧
    (isStnWord (Reg.SPC_STAT 0) && keptInStn (Reg.SPC_STAT 0)) = true ∧
    (warmAt .held).rst.warm = .held ∧ LiveAt rstWarmRule up Reg.GLB_RSTCMD 1 ∧ LiveAt rstStnRule up Reg.GLB_RSTCMD 2 ∧
    stnResetOk up 2 = true ∧ stnResetOk host 0 = false ∧ Tab.rises up.pow.spc = true ∧
    (stnWaits.rst.station = some 2 ∧ stnEmpty stnWaits 2 = true ∧ stnWaits.regs.canon = true) := by decide +kernel

/-- A declaration: node 0, passive cooling, 50 W, nothing connected; and a boot take of one instruction. -/
def envBytes : List Byte := [0x4E, 0x45, 1, 0, 0, 0, 0, 24, 50, 0, 0, 0, 0, 0, 0, 0] ++ List.replicate 384 0
def takeBytes : List Byte := [1, 0, 0, 0, 1, 0, 0x4E, 0x7A, 0, 0, 0, 0x80, 0, 0, 0, 0]

/-- A reel of that body: its constants, part and stepping, lengths and offsets, without a key or a signature. -/
def image : List Byte :=
  [0x4C, 0x52, 0x4C, 0x46, 1, 0, 0, 0, 0, 0, 0, 0, 0x92, 0x91, 0, 0, 0xA0, 1, 0, 0, 0, 0, 0, 0, 0x90, 1, 0, 0, 0x90, 1, 0, 0,
   1, 0, 0, 0] ++ List.replicate 8156 0 ++ envBytes ++ takeBytes

/-- What such a reel holds. -/
def reel0 : Reel := { keyslot := 0, rollback := 0, digest := 77, env := envBytes, takes := [leWords 2 takeBytes] }

/-- Boot at step `k`; from step 6 a reel is in use. -/
def bootAt (k : Nat) : State :=
  { State.reset with boot := { State.reset.boot with step := k, answer := some 0, reel := some reel0 } }

/-- The key of the image in slot 0. -/
def keyFit : State :=
  { bootAt 5 with sec := { (bootAt 5).sec with slots := [{ hash := reelKeyHash image }, {}, {}, {}] } }

theorem witness_BootSteps : (∀ k ∈ [1, 2, 3, 4, 5, 6, 7, 8], (bootAt k).boot.step = k) ∧
    (bootAt 4).regs.canon = true ∧ (checkReel (bootAt 5) none).2 = none ∧ (bootAt 6).boot.reel = some reel0 ∧
    (checkEnv reel0.env).isSome = true ∧ Tab.rises (bootAt 7).mbox = true ∧ (checkEnv []).isSome = false ∧
    (bootAt 8).boot.answer = some 0 ∧ (bootAt 8).dir.cutAt = none ∧
    ({ bootAt 8 with dir := { (bootAt 8).dir with cutAt := some ⟨51, 1, 0, [], false⟩ } } : State).dir.cutAt ≠ none := by
  decide +kernel

/-- A reel whose key hash the slot holds and whose signature is valid is accepted; both are what Config's opaque functions say. -/
theorem witness_reelAccepted (hk : reelKeyHash image ≠ 0) (hv : ∀ k m g, Config.verify k m g = true) :
    keyFit.boot.step = 5 ∧ ∃ x, checkReel keyFit (some image) = (0, some x) := by
  have h1 : headerOk keyFit image = true := by decide +kernel
  have h2 : ((reelTakes image).isSome && reelKeyslot image == 0 && reelRollback image == 0) = true := by decide +kernel
  have h3 : keySlot keyFit 0 = { hash := reelKeyHash image } := rfl
  have h4 : keyFit.sec.min = 0 := by decide +kernel
  simp only [Bool.and_eq_true, beq_iff_eq, Option.isSome_iff_exists] at h2
  obtain ⟨⟨⟨ts, ht⟩, hs⟩, hr⟩ := h2
  exact ⟨rfl, _, by simp [checkReel, h1, ht, hs, hr, h3, h4, hk, hv]; rfl⟩

/-! ## Power -/

/-- The AVSBus master as given. -/
def avs (a : Avs) : State := State.reset.onAvs (fun _ => a)

theorem witness_VoltageWritesAndReadback :
    (let s := avs { set := 710 }
     s.pow.avs.dead = false ∧ s.pow.avs.wait = false ∧ s.pow.avs.again = none ∧ vcoreChoice s = some 720) ∧
    (avs { again := some 700, last := some 0 }).pow.avs.again = some 700 ∧
    ((avs { wait := true }).pow.avs.wait = true ∧ (730 : Nat) ≤ (avs { wait := true }).pow.avs.set + 10 ∧
     (avs { wait := true }).pow.avs.set ≤ 730 + 10) ∧
    (avs { wait := true, retries := 2 }).pow.avs.retries < 3 ∧ 3 ≤ (avs { wait := true, retries := 3 }).pow.avs.retries ∧
    (avs { dead := true }).pow.avs.dead = true := by decide +kernel

theorem witness_ForecasterAccounts : State.reset.regs.canon = true ∧ Tab.rises State.reset.pow.fcst.part = true ∧
    State.reset.livB Reg.GLB_FT_STAT Fld.GLB_FT_STAT_VALID = false ∧
    (State.reset.setLivF Reg.GLB_FT_STAT Fld.GLB_FT_STAT_VALID 1).livB Reg.GLB_FT_STAT Fld.GLB_FT_STAT_VALID = true ∧
    (sweeping.pow.fcst.sweeps = { at_ := 0 } :: [] ∧ fcstLevel sweeping = 0) := by decide +kernel

theorem witness_SlotPowerCommands : ∀ op ∈ [1, 2, 3, 4, 5], LiveAt (spcRule [op]) up (Reg.SPC_CMD 23) op := by decide +kernel

/-- SPC `n` in a state, as given. -/
def spcAt (n st : Nat) (x : Spc) : State := (toState n st host).onSpc n (fun _ => x)

/-- The same with power-good. -/
def spcGood (n : Nat) (x : Spc) : State := setSpc n Fld.SPC_STAT_PG 1 (spcAt n 3 x)

theorem witness_SlotPowerProgress :
    (prsntInput host 1 = true ∧ true ≠ (spcStat host 1 Fld.SPC_STAT_PRSNT == 1)) ∧ feedValid host 1 1 = false ∧
    feedValid (setValid 1 1 true host) 1 1 = true ∧ spcState (spcAt 1 2 {}) 1 = 2 ∧
    (spcState (spcAt 1 4 { sw := .driving }) 1 = 4 ∧ ((spcAt 1 4 { sw := .driving }).spc 1).sw = .driving) ∧
    ((spcAt 1 4 { sw := .pulling 1 }).spc 1).sw = .pulling 1 ∧ ((spcAt 1 4 { sw := .dead 1 5 }).spc 1).sw = .dead 1 5 ∧
    (let s := both (Reg.SPC_CFG 1) Fld.SPC_CFG_AUTORET 1 (setValid 1 0 true (setSpc 1 Fld.SPC_STAT_FEED 1 (spcAt 1 3 {})))
     autoFeed s 1 = some 0) ∧
    (let s := spcAt 1 3 { full := true }
     (s.spc 1).full = true ∧ (s.spc 1).disAt = none ∧ curveIdle s 1 = true ∧ spcStat s 1 Fld.SPC_STAT_PG = 0) ∧
    (spcStat (spcGood 1 {}) 1 Fld.SPC_STAT_PG = 1 ∧ perstHeld (spcGood 1 {}) 1 = false) ∧
    ((spcAt 1 3 { disAt := some 5 }).spc 1).disAt = some 5 ∧
    (spcState (spcAt 1 5 { retryAt := some 5 }) 1 = 5 ∧ ((spcAt 1 5 { retryAt := some 5 }).spc 1).retryAt = some 5) ∧
    (((spcAt 1 3 { sums := { n := 1000, p := 5000 } }).spc 1).sums.n = 1000 ∧
     (spcAt 1 3 { sums := { n := 1000, p := 5000 } }).canon = true) := by decide +kernel

theorem witness_SlotTrips : spcLive (spcAt 1 2 { drive := some 0 }) 1 = true ∧
    ptActs ((spcAt 1 2 {}).setAct (Reg.SPC_CURVE 1 7 0) 0x80000000) 1 7 = true ∧
    (((spcAt 1 2 { drive := some 0 }).spc 1).drive = some 0 ∧ ((spcAt 1 2 { drive := some 0 }).spc 1).full = false) ∧
    mode1 (both (Reg.SPC_CFG 1) Fld.SPC_CFG_MODE 1 (spcAt 1 3 {})) 1 = true ∧
    ((spcAt 23 3 {}).canon = true ∧ Tab.rises (spcAt 23 3 {}).pow.spc = true) ∧
    (let s := both (Reg.SPC_CFG 1) Fld.SPC_CFG_RETRYMAX 1 (spcAt 1 3 {})
     spcStat s 1 Fld.SPC_STAT_RETRIES < spcCfg s 1 Fld.SPC_CFG_RETRYMAX ∧ s.canon = true) ∧
    (spcState (spcAt 23 3 {}) 23 = 3 ∧ ((spcAt 23 3 {}).spc 23).disAt = none ∧ spcState (spcAt 23 2 {}) 23 ≠ 3) := by
  decide +kernel

/-! ## Protection and security -/

/-- The unit enabled, and the slot of the register `k` enabled for reads by origin 3 alone. -/
def prot : State := (State.reset.setLivF Reg.PROT_CTL Fld.PROT_CTL_EN 1).setLiv (Reg.PROT_SLOT 5 0) 1 |>.setLiv
  (Reg.PROT_SLOT 5 2) 8

theorem witness_ProtectionUnit :
    (protSlotOf (Reg.PROT_SLOT 0 0) = 76 ∧ protSlotOf Reg.SEC_OTP_CMD = 77 ∧ protSlotOf (outWordAddr 5) = 79 ∧
     (outWordAddr 5 - 0x800000) / 0x100 ≠ 3) ∧
    (prot.livB Reg.PROT_CTL Fld.PROT_CTL_EN && bit (prot.liv (Reg.PROT_SLOT 5 0)).toNat 0) = true ∧
    maskBit prot 5 3 false = true ∧ maskBit prot 5 4 false = false ∧
    State.reset.livB Reg.PROT_CTL Fld.PROT_CTL_EN = false := by decide +kernel

theorem witness_ProtectionControl :
    (∀ v ∈ [1, 3, 7], fget (BitVec.ofNat 32 v) Fld.PROT_CTL_EN = v % 2) ∧
    LiveAt (protCtlRule (fun v => fget v Fld.PROT_CTL_EN == 0)) State.reset Reg.PROT_CTL 0 ∧
    (let v := (fset (fset 0 Fld.PROT_CTL_EN 1) Fld.PROT_CTL_FENCE 1).toNat
     LiveAt (protCtlRule (fun v => fget v Fld.PROT_CTL_EN == 1 && !setsLock v)) State.reset Reg.PROT_CTL v) ∧
    (let v := (fset 0 Fld.PROT_CTL_EN 1).toNat
     LiveAt (protCtlRule (fun v => fget v Fld.PROT_CTL_EN == 1 && !setsLock v)) State.reset Reg.PROT_CTL v) ∧
    (let v := (fset (fset (fset 0 Fld.PROT_CTL_EN 1) Fld.PROT_CTL_FENCE 1) Fld.PROT_CTL_LOCK 1).toNat
     LiveAt (protCtlRule setsLock) State.reset Reg.PROT_CTL v ∧
     (let s := liveOn (State.reset.setLivF Reg.PROT_CTL Fld.PROT_CTL_LOCK 1) Reg.PROT_CTL v
      AtInsn s (tX 0x16 0 Reg.PROT_CTL v) (xw 0x16 0) 0x16 0x8000 ∧ liveWritable Reg.PROT_CTL = true ∧
      protRefuses s 51 Reg.PROT_CTL true = none ∧ s.livB Reg.PROT_CTL Fld.PROT_CTL_LOCK = true ∧
      setsLock (BitVec.ofNat 32 v) = true)) := by decide +kernel

/-- The OTP armed, with key slot 0 blank and key slot 1 in use. -/
def armed : State := { State.reset with sec := { State.reset.sec with slots := [{}, { hash := 5 }, { hash := 6 }, {}] } }.setLivN
  Reg.SEC_OTP_ARM 0x7A9

/-- A value of SEC_OTP_CMD. -/
def otpWord (op slot value : Nat) : Word :=
  fset (fset (fset 0 Fld.SEC_OTP_CMD_OP op) Fld.SEC_OTP_CMD_SLOT slot) Fld.SEC_OTP_CMD_VALUE value

theorem witness_OtpCommands :
    (∀ op ∈ [1, 2, 3], LiveAt (otpRule op) armed Reg.SEC_OTP_CMD (otpWord op 1 0).toNat ∧
      fget (otpWord op 1 0) Fld.SEC_OTP_CMD_OP ≠ 0) ∧ armed.canon = true ∧ armed.liv Reg.SEC_OTP_ARM = 0x7A9 ∧
    State.reset.liv Reg.SEC_OTP_ARM ≠ 0x7A9 ∧ armed.sec.cmd = none ∧ otpTest armed 1 0 0 = none ∧
    otpTest armed 2 1 0 = none ∧ otpTest armed 3 0 0 = none ∧
    (∀ op ∈ [1, 2, 3], (armed.onSec (fun x => { x with cmd := some ⟨op, 1, 4, 9⟩ })).sec.cmd = some ⟨op, 1, 4, 9⟩) ∧
    1 < armed.sec.slots.length := by decide +kernel

/-- A host whose management function answers, with a certificate store of 8 bytes. -/
def attested : State := host.onSec (fun x => { x with certs := [1, 2, 3, 4, 5, 6, 7, 8] })

theorem witness_SpdmRequests : mgmtReached attested 0 = true ∧ 7 < attested.sec.certs.length ∧
    (attested.bump Reg.SEC_SPDM_REQCNT).liv Reg.SEC_ASSTAT = 0 ∧ attested.regs.canon = true := by decide +kernel

/-! ## Lanes -/

/-- Station 0 a fabric station whose port 0 uses lanes 0 to 7; lane `l` in the state `st`. -/
def laneAt (l st : Nat) : State :=
  setLaneState 0 l st ((fabAt 0 up).onDp (fun d => { d with links := Tab.put d.links 0 { use := List.range 8 } }))

/-- The identity words of logical lanes 0 and 9 with SREQ 15. -/
def identity0 : Word := 0x3F000F00
def identity9 : Word := 0x96000F09

theorem witness_LaneBringUp :
    (isFab (laneAt 0 1) 0 0 = true ∧ (laneAt 0 1).regs.canon = true ∧ ((laneAt 0 1).bring 0 0).waiting = false) ∧
    (∀ st ∈ [1, 2, 3, 4], laneState (laneAt 0 st) 0 0 = st) ∧
    (commaCrcOk identity0.toNat = true ∧ commaCrcOk identity9.toNat = true) ∧
    (let s := (laneAt 0 3).setLane 0 0 { (laneAt 0 3).lane 0 0 with commas := 2 }
     let k2 := (s.bump (Reg.LN_SERCNT 0 0) 0).setLane 0 0 { s.lane 0 0 with sreq := some 15 }
     identityOk k2 0 0 0 0 = true ∧ (k2.lane 0 0).commas = 2 ∧ k2.flState 0 0 ≠ 5 ∧ identityOk k2 0 0 0 9 = false) ∧
    ((ctleBand ((laneAt 0 4).stnRec 0).loss).1 ≤ 0 ∧ (4 : Nat) ≤ (ctleBand ((laneAt 0 4).stnRec 0).loss).2) ∧
    (∀ l ∈ [8, 7], laneTimer (laneState (laneAt l 5) 0 l) = some 1000000) ∧
    ((laneAt 7 5).setLivF (Reg.FL_STAT 0 0) Fld.FL_STAT_STATE 1).flState 0 0 < 2 ∧ Tab.rises (laneAt 7 5).dp.bring = true ∧
    (let s := (setLaneState 0 7 10 ((fabAt 0 up).onDp (fun d => { d with links := Tab.put d.links 0 { use := [0, 1] } }))).setLivF
       (Reg.FL_STAT 0 0) Fld.FL_STAT_DEGRADED 1
     s.livB (Reg.FL_STAT 0 0) Fld.FL_STAT_DEGRADED = true ∧ (s.lnk 0 0).use.contains 7 = false ∧ laneState s 0 7 = 10) := by
  decide +kernel

/-- All lanes of port 0 of station 0 in DESKEW. -/
def deskewing : State := (List.range 8).foldl (fun s l => setLaneState 0 l 5 s) (laneAt 0 5)

/-- The state in mode `k`. -/
def inMode (k : Nat) (s : State) : State := both Reg.GLB_MODE Fld.GLB_MODE_MODE k s

theorem witness_LanesTogether :
    (fabPort deskewing.act 0 0 = true ∧
     (∀ l ∈ (deskewing.lnk 0 0).use, laneState deskewing 0 l = 0 ∨ 5 ≤ laneState deskewing 0 l) ∧
     (∀ l ∈ List.range 8, nth 0 (List.replicate 8 504) l ≤ 504)) ∧
    (deskewing.setBring 0 0 { waiting := true }).dp.bring = [(0, { waiting := true })] ∧
    (∀ s ∈ [inMode 1 up, inMode 5 up], LiveAt marginGoRule s (Reg.MARGIN_CTL 2) (2 ^ 31)) ∧ (inMode 5 up).mode = 5 ∧ (inMode 1 up).mode ≠ 5 ∧
    (let s := up.onDp (fun d => { d with margin := [(2, ⟨3, false, true, 7, 1, 0, 5⟩)] })
     Tab.find s.dp.margin 2 = some ⟨3, false, true, 7, 1, 0, 5⟩) ∧
    stnKind host.act 0 = .pcie := by decide +kernel

/-- Lane 3 of station 0 is active as logical lane 3, the spare in the state `sp` for logical lane `k`. -/
def spared (sp k : Nat) : State :=
  (setSpareState 0 sp k (setLaneState 0 3 7 (laneAt 0 7))).setLivF (Reg.LN_STAT 0 3) Fld.LN_STAT_LOGICAL 3

/-- A value of SPARE_CMD. -/
def spareWord (op lane : Nat) : Nat := (fset (fset 0 Fld.SPARE_CMD_OP op) Fld.SPARE_CMD_LANE lane).toNat

theorem witness_SpareLane :
    (isFab (spared 1 15) 0 3 = true ∧ laneState (spared 1 15) 0 3 = 7 ∧ laneState (laneAt 3 6) 0 3 ≠ 7 ∧
     laneState (setLaneState 0 8 7 (spared 1 15)) 0 8 = 7) ∧
    ((spared 1 15).regs.canon = true ∧ spareState (spared 1 15) 0 = 1 ∧ laneLogical (spared 1 15) 0 3 < 8) ∧
    (∀ sp ∈ [3, 4], spareState (spared sp 3) 0 = sp ∧ (spared sp 3).livF (Reg.SPARE_STAT 0) Fld.SPARE_STAT_LANE = 3 ∧
      physical (spared sp 3) 0 3 = some 3) ∧
    LiveAt spareReadaptRule (spared 1 15) (Reg.SPARE_CMD 0) (spareWord 1 3) ∧
    LiveAt spareReleaseRule (spared 2 3) (Reg.SPARE_CMD 0) (spareWord 2 3) ∧
    physical (spared 1 15) 0 9 = none ∧ physical (spared 1 15) 0 3 = some 3 ∧ spareState (spared 2 3) 0 = 2 := by
  decide +kernel

/-! ## PCI Express ports -/

/-- `s` with a PCI identity, so that ports may train. -/
def named (s : State) : State := both Reg.GLB_PCIID ⟨0, 16⟩ 0x1234 s

/-- Port 0 of station 1, downstream of partition 0, without its link. -/
def dark : State := named (host.setLivF (Reg.PORT_STAT 1 0) Fld.PORT_STAT_DLUP 0)

/-- The link of that port in the LTSSM state `st` on lanes 0 to 7, with the record `u`. -/
def portAt (st : Nat) (u : PPort) : State :=
  (setP 4 Fld.PORT_STAT_LTSSM st (named host)).onPp 4 (fun _ => { u with use := List.range 8 })

theorem witness_PcieLinks :
    (mayTrain dark 0 = true ∧ dark.regs.canon = true ∧ (let s := dark.setLivF (Reg.PORT_STAT 0 0) Fld.PORT_STAT_DLUP 0
       mayTrain s 0 = true ∧ s.dlUp 0 0 = false ∧ 6 ≤ maxRate s 0 ∧ 2 ^ 3 ≤ lanesOf s 0 ∧ Tab.rises s.dp.eport = true)) ∧
    (isDown host 4 = true ∧ host.dlUp 1 0 = true) ∧
    (isPcie (portAt 3 {}) 4 = true ∧ ltssm (portAt 3 {}) 4 = 3 ∧ ((portAt 3 {}).pp 4).use.contains 7 = true ∧
     narrowTo (List.range 8) false [7] (below 8) = some ([0, 1, 2, 3], false) ∧
     narrowTo (List.range 8) false (7 :: [0, 1, 2, 3, 4, 5, 6]) (below 8) = none) ∧
    (let s := portAt 4 { recAt := some 5, bad := [7] }
     (s.pp 4).recAt = some 5 ∧ ltssm s 4 = 4 ∧ narrowTo (s.pp 4).use false (s.pp 4).bad (below (s.pp 4).use.length) =
       some ([0, 1, 2, 3], false) ∧ Tab.rises s.dp.pports = true) := by decide +kernel

/-- A value of LINK_CMD. -/
def linkWord (op port tw : Nat) : Nat :=
  (fset (fset (fset 0 Fld.LINK_CMD_OP op) Fld.LINK_CMD_PORT port) Fld.LINK_CMD_TWIDTH tw).toNat

/-- Configuration space and the Active Set let both ports of partition 0 sleep. -/
def sleepy : State :=
  let s := (host.setCfg 0 0 .linkCtl 2).setCfg 0 (bridgeFn host 4).2 .linkCtl 2
  let s := (setP 0 Fld.PORT_STAT_LTSSM 3 (setP 4 Fld.PORT_STAT_LTSSM 3 s))
  both (Reg.PORT_CFG 0 0) Fld.PORT_CFG_L1EN 1 (both (Reg.PORT_CFG 1 0) Fld.PORT_CFG_L1EN 1
    (both Reg.FCST_CFG Fld.FCST_CFG_IDLE 1 s))

/-- A flit-mode port whose width may halve. -/
def flitPort : State :=
  let s := (host.setCfg 0 (bridgeFn host 4).2 .flitL0p 8)
  let s := setP 4 Fld.PORT_STAT_FLIT 1 (setP 4 Fld.PORT_STAT_LWIDTH 3 (setP 4 Fld.PORT_STAT_LTSSM 3 s))
  both (Reg.PORT_CFG 1 0) Fld.PORT_CFG_L0PEN 1 (both Reg.FCST_CFG Fld.FCST_CFG_IDLE 1 s)

/-- Slot 1 has a hot-plug port. -/
def slotted : State :=
  let s := both (Reg.PORT_CFG 1 0) Fld.PORT_CFG_HP 1 host
  { s with env := { s.env with stations := [{}, { slotw := 75 }] } }

theorem witness_LinkCommandsAndPower :
    (∀ op ∈ [1, 2], ∀ p ∈ [0, 1], LiveAt (linkRule op) host (Reg.LINK_CMD 1) (linkWord op p 3) ∧
      linkRefused host 1 op p 3 = decide (p = 1)) ∧
    (let s := portAt 4 { cmd := some (some 2) }
     (s.pp 4).cmd = some (some 2) ∧ s.regs.canon = true ∧ Tab.rises s.dp.pports = true ∧
     narrowTo (List.range (lanesOf s 4)) false ((List.range 16).filter (fun i => !bit 0xFFFF i)) (below (2 * 2 ^ 2)) =
       some ([0, 1, 2, 3], false)) ∧
    (l1Ok sleepy 0 = true ∧ isUpstream sleepy.act 0 0 = true ∧ sleepy.regs.canon = true ∧
     downIdle (setP 4 Fld.PORT_STAT_LTSSM 5 sleepy) 0 = true ∧ l1Ok (setP 4 Fld.PORT_STAT_LTSSM 5 sleepy) 0 = true ∧
     l1Ok sleepy 4 = true ∧ isDown sleepy 4 = true ∧ l1Ok host 4 = false) ∧
    (isPcie flitPort 4 = true ∧ flitPort.dlUp 1 0 = true ∧ ltssm flitPort 4 = 3 ∧ pStat flitPort 4 Fld.PORT_STAT_FLIT = 1 ∧
     bit (bridgeR flitPort 4 .flitL0p) 3 = true ∧ flitPort.actB (Reg.PORT_CFG 1 0) Fld.PORT_CFG_L0PEN = true ∧
     linkReleased flitPort = true ∧ (flitPort.pp 4).narrow < pStat flitPort 4 Fld.PORT_STAT_LWIDTH ∧
     Tab.rises flitPort.dp.pports = true) ∧
    0 < ((portAt 3 { narrow := 1 }).pp 4).narrow ∧
    (∀ k ∈ [1, 2], bits (bridgeR (host.setCfg 0 (bridgeFn host 4).2 .dpcCtl (BitVec.ofNat 32 (k * 2 ^ 16))) 4 .dpcCtl) 16 2 = k) ∧
    dpcOn (setP 4 Fld.PORT_STAT_DPC 1 host) 4 = true ∧ (slotFns slotted 1).isEmpty = false ∧
    (slotFns host 1).isEmpty = true := by decide +kernel

/-- Partition 0 in reset. -/
def inReset : State := { host with parts := { host.parts with inReset := [0] } }

theorem witness_PartitionResets : upstreamOf host.act 0 = some (0, 0) ∧ inReset.parts.inReset.contains 0 = true ∧
    inReset.dlUp 0 0 = true ∧ host.parts.inReset.contains 0 = false := by decide +kernel

/-- A memory write and a memory read. -/
def mwr : Tlp := { kind := .memWr, addr := 0x1000, span := 4, data := [1, 2, 3, 4] }
def mrd : Tlp := { kind := .memRd, addr := 0x1000, span := 4 }

/-- The host's port holds `mwr` back as red; the partition's policer has colour-aware buckets that are empty. -/
def redHeld : State :=
  let s := both (Reg.GLB_PPOL 0 0) ⟨0, 1⟩ 1 host
  s.onDp (fun d => { d with ing := [(0, { flow := [(0, [mwr])], heldOnce := [(0, true)] })],
                            ppol := [(0, { c := 0, e := 0, at_ := 0 })] })

theorem witness_TlpsAtPorts :
    (portReceives host 0 0 = true ∧ portReceives up 0 0 = false) ∧
    (mwr.ep = false ∧ mwr.isCpl = false ∧ mwr.kind ≠ .unlock ∧ flowOf host 0 = [] ∧ Tab.rises host.dp.ing = true ∧
     Tab.rises (host.ing 0).flow = true ∧ (inMode 5 host).holdsAt 0 = true ∧ (inMode 1 host).holdsAt 1 = false ∧ meteredAs host 4 = none) ∧
    (flowOf redHeld 0 = mwr :: [] ∧ meteredAs redHeld 0 = some 0 ∧ heldRed redHeld 0 = true ∧
     (let pol := policerAt redHeld.act (Reg.GLB_PPOL 0 0)
      pol.en = true ∧ (meter pol (refill pol (Tab.find redHeld.dp.ppol 0) redHeld.now) (mwr.length + pol.ovh)
        (preColour pol mwr.tc)).1 = .red)) ∧
    isUpstream host.act 0 0 = true ∧ (pciePort host.act 1 0 = true ∧ host.dlUp 1 0 = true ∧
     Tab.rises host.dp.eport = true ∧ Tab.rises (host.eport 4).fc = true) := by decide +kernel

/-! ## Fabric links -/

/-- Port 0 of station 0 a fabric port in the link state `st`, with the link record `l`. -/
def linkAt (st : Nat) (l : Link) : State :=
  ((fabAt 0 up).setLivF (Reg.FL_STAT 0 0) Fld.FL_STAT_STATE st).onDp (fun d => { d with links := [(0, l)] })

/-- A fabric packet: a TLP, sequence number `seq`, of type `ty`. -/
def pkt (ty seq : Nat) : Packet :=
  { type := ty, vc := 0, dnode := 0, snode := 5, seq := seq, ack := 0, len := 1, body := .tlp { domain := 7, part := 0 } mwr }

theorem witness_LinkPackets :
    (fabPort (linkAt 3 {}).act 0 0 = true ∧ (linkAt 2 {}).flState 0 0 < 3 ∧ 3 ≤ (linkAt 3 {}).flState 0 0 ∧
     Tab.rises (linkAt 3 {}).dp.links = true) ∧
    (headerError (pkt 1 0) = false ∧ headerError (pkt 0 0) = true ∧ (pkt 1 0).ackv = true) ∧
    (∀ p ∈ ([(65535, 1), (32769, 32767), (32768, 32768), (1, 65535)] : List (Nat × Nat)),
      ((0 : Nat) + 2 ^ 16 - p.1 % 2 ^ 16) % 2 ^ 16 = p.2) ∧
    (let l : Link := { seq := 1, replay := [{ pkt := pkt 1 0 }] }
     (1 + 2 ^ 16 - l.seq) % 2 ^ 16 = 0 ∧ (32768 + 2 ^ 16 - l.seq) % 2 ^ 16 = 32767 ∧
     ((linkAt 3 l).lnk 0 0).replay = { pkt := pkt 1 0 } :: [] ∧ (linkAt 3 l).flState 0 0 = 3 ∧
     (linkAt 3 l).lnk 0 0 = l ∧
     (let k := ackTo 0 0 0 (backTo 0 0 0 (linkAt 3 l))
      k.flState 0 0 = 3 ∧ (k.lnk 0 0).replay.any (fun x => x.pkt.seq == 0) = true) ∧
     (ackTo 0 0 0 (backTo 0 0 0 (linkAt 5 l))).flState 0 0 = 5) ∧
    ((linkAt 3 {}).lnk 0 0).cumRx = [] ∧
    ((linkAt 3 { bypass := [⟨0, 0, .ack 0 false⟩] }).lnk 0 0).bypass = ⟨0, 0, .ack 0 false⟩ :: [] ∧
    (∀ r ∈ [0, 1], ((linkAt 2 { rot := r }).lnk 0 0).rot = r) ∧ 2 ≤ (linkAt 4 {}).flState 0 0 ∧
    (linkAt 4 {}).flState 0 0 ≤ 4 := by decide +kernel

/-- The declaration names station 3 of node 9 as the partner of station 0. -/
def peered (s : State) : State := { s with env := { s.env with stations := [{ pnode := 9, pstn := 3 }] } }

theorem witness_RetrainAndWidth :
    (∀ st ∈ [2, 3, 4, 5], (linkAt st {}).flState 0 0 = st ∧ ((backTo 0 0 0 (linkAt st {})).lnk 0 0).bnes = 0) ∧
    (linkAt 4 {}).node < 1 ∧ ¬(linkAt 4 {}).node < 0 ∧ (linkAt 2 {}).regs.canon = true ∧
    ((peered (linkAt 2 {})).stnRec 0).pnode = 9 ∧ ((peered (linkAt 2 {})).stnRec 0).pstn = 3 ∧
    (linkAt 2 {}).flState 0 0 = 2 := by decide +kernel

theorem witness_TimeExchanges :
    (fabPort (linkAt 3 {}).act 0 0 = true ∧ 1 ≤ (linkAt 2 {}).flState 0 0 ∧ (linkAt 3 {}).flState 0 0 = 3) ∧
    (let s := linkAt 3 { tsT1 := some 5, tsTag := true }
     ((backTo 0 0 0 s).lnk 0 0).tsT1 = some 5 ∧ isParent s 0 0 = true ∧ true = ((backTo 0 0 0 s).lnk 0 0).tsTag) ∧
    (State.reset.regs.canon = true ∧ (-1000 : Int).natAbs ≤ 1000 ∧ 1000 < (1001 : Int).natAbs ∧ (-10 : Int).natAbs ≤ 10) ∧
    3 ≤ (State.reset.onTime (fun r => { r with good := 3 })).dp.time.good := by decide +kernel

/-! ## The core and the egress ports -/

/-- Both planes in service, the station of `fabAt` and the host's device at stations 0 and 1. -/
def core : State := ((fabAt 0 (pcieAt 1 0 0 up)).setLivF Reg.GLB_CORE_STAT Fld.GLB_CORE_STAT_AIN 1).setLivF
  Reg.GLB_CORE_STAT Fld.GLB_CORE_STAT_BIN 1

/-- A unit of `n` cells from station 0 to logical port `x`. -/
def unitTo (x n : Nat) (b : Body) : CUnit :=
  { src := 0, origin := .internal, dst := x, group := 48, queue := 3, cells := n, half := 2 * n, body := b }

/-- Unit 7 is on its way from station 0 to port 4; its second cell is next. -/
def offering : State := core.onDp (fun d => { d with
  units := [(7, unitTo 4 2 (.tlp 0 0 mwr))], ing := [(0, { part := [(4, (7, 1))] })] })

/-- A cell of unit 7 is in flight to port 4 on plane A. -/
def flying (c : Flying) : State := core.onDp (fun d => { d with
  units := [(7, unitTo 4 1 (.tlp 0 0 mwr))], ing := [(0, { flying := [(4, [c])] })] })

/-- The same at plane A's first cell. -/
def cell0 : Flying := { csn := 0, uid := 7, idx := 0, plane := 0, at_ := 0 }

theorem witness_CellsThroughTheCore :
    (planeTakes offering 0 = true ∧ nextCell offering 0 = some (7, 1, none) ∧
     offering.unit 7 = some (unitTo 4 2 (.tlp 0 0 mwr))) ∧
    planeTakes (core.setLivF Reg.GLB_CORE_STAT Fld.GLB_CORE_STAT_AIN 0) 0 = false ∧
    ((unitTo 95 2 (.tlp 0 0 mwr)).dst / 4 < 24 ∧ Tab.rises offering.dp.ing = true ∧
     Tab.rises (offering.ing 0).csn = true ∧ Tab.rises (offering.ing 0).spent = true ∧
     Tab.rises (offering.ing 0).flying = true) ∧
    ((flying cell0).livB Reg.GLB_CORE_STAT Fld.GLB_CORE_STAT_DOWN = false ∧
     (Tab.get [] ((flying cell0).ing 0).flying 4).find? (fun c => c.plane == 0 && !c.captured) = some cell0) ∧
    (takeFirst (fun (c : Flying) => c.plane == 0 && c.captured)
      (Tab.get [] ((flying { cell0 with captured := true }).ing 0).flying 4) = some ({ cell0 with captured := true }, []) ∧
     Tab.find ((flying { cell0 with captured := true }).ing 0).part 4 = none) ∧
    (let c := { cell0 with captured := true }
     takeFirst (fun (c : Flying) => c.plane == 0 && c.captured) [c, { c with csn := 1, idx := 1 }] =
       some (c, [{ c with csn := 1, idx := 1 }])) ∧
    (let s := core.onDp (fun d => { d with ing := [(0, { owed := [(23, 1)], spent := [(23, 1)] })] })
     0 < Tab.get 0 (s.ing 0).owed 23 ∧ Tab.rises s.dp.ing = true ∧ Tab.rises (s.ing 0).owed = true ∧
     Tab.rises (s.ing 0).spent = true) := by decide +kernel

/-- A queue of port `x` with unit 7 in it, which carries `b`, and the packet in progress. -/
def queued (x : Nat) (b : Body) (sending : Sending) : State := core.onDp (fun d => { d with
  units := [(7, unitTo x 1 b)],
  eport := [(x, { queues := [(qKey 48 3, { tail := [(7, 0)] })], fc := [(0, (9, 99))], sending := sending })] })

/-- A queue whose packet may go. -/
def served : State := (queued 0 (.pkt (pkt 1 0) none) .none).onDp (fun d => { d with links := [(0, {
  cumRx := [(0, some 100)] })] })

/-- A TLP stands aside at port 4. -/
def standing : State := setP 4 Fld.PORT_STAT_LTSSM 3 (core.onDp (fun d => { d with
  units := [(7, unitTo 4 1 (.tlp 0 0 mwr))],
  eport := [(4, { aside := [(7, qKey 48 3)], fc := [(0, (9, 99))], queues := [(qKey 48 3, { tail := [(7, 0)] })] })] }))

theorem witness_EgressQueues :
    (portSends (queued 0 (.pkt (pkt 1 0) none) .none) 0 = true ∧
     ((queued 0 (.pkt (pkt 1 0) none) .none).eport 0).sending = .none ∧
     ((queued 0 (.pkt (pkt 1 0) none) .none).eport 0).aside = []) ∧ portSends up 0 = false ∧
    (selectQueue core 0).1 = none ∧
    ((selectQueue served 0).1 = some (qKey 48 3) ∧ headUnit served 0 (qKey 48 3) = some 7 ∧ portSends served 0 = true) ∧
    ((standing.eport 4).sending = .none ∧ portSends standing 4 = true ∧ (sendAside 4 standing).isSome = true) ∧
    (let s := (queued 0 (.pkt (pkt 1 0) none) (.begun 7 48 3))
     s.unit 7 = some (unitTo 0 1 (.pkt (pkt 1 0) none)) ∧ (s.eport 0).sending = .begun 7 48 3) ∧
    (let s := queued 0 (.pkt (pkt 1 0) none) (.stomped 7 48 3)
     (s.eport 0).sending = .stomped 7 48 3 ∧ hereCells s 0 (qKey 48 3) 7 = 1 ∧
     fabReady s 0 (unitTo 0 1 (.pkt (pkt 1 0) none)) = true) ∧
    Tab.rises (linkAt 3 {}).dp.links = true ∧
    (∀ p ∈ ([(true, false), (false, false), (false, true)] : List (Bool × Bool)),
      let b : Block := { cells := [(7, 0)], writing := p.1, reading := p.2 }
      let s := core.onDp (fun d => { d with eport := [(0, { queues := [(qKey 48 7, { mid := [b, b] })] })] })
      (s.eq 0 (qKey 48 7)).mid = b :: b :: [] ∧ (s.eq 0 (qKey 48 7)).head.flatten.length < 96 ∧ 1 ≤ freeSegs s 0) ∧
    (core.eq 0 (qKey 48 7)).mid = [] ∧
    (let b : Block := { cells := [(7, 0)], reading := true }
     let s := core.onDp (fun d => { d with units := [(7, unitTo 0 1 (.pkt (pkt 1 0) none))],
                                           eport := [(0, { queues := [(qKey 48 7, { mid := [b, b] })] })] })
     let z := s.setEq 0 (qKey 48 7) { s.eq 0 (qKey 48 7) with head := [b.cells], mid := [b] }
     ((z.eq 0 (qKey 48 7)).head.all (fun l => !l.isEmpty && l.all (fun r => (z.unit r.1).elim false (fun u =>
       !u.hdrBad)))) = true) := by decide +kernel

/-- Both planes out of service but for those given. -/
def planes (a b : Nat) : State := (core.setLivF Reg.GLB_CORE_STAT Fld.GLB_CORE_STAT_AIN a).setLivF
  Reg.GLB_CORE_STAT Fld.GLB_CORE_STAT_BIN b

theorem witness_PlanesAndSpeed :
    oldestCell (flying cell0) 0 = some cell0 ∧
    (planeIn (flying cell0) 0 = true ∧ ((flying cell0).ing 0).flying.any (fun e => e.2.any (fun c =>
      c.plane == 0 && !c.captured)) = true) ∧
    ((planes 1 0).regs.canon = true ∧ planeIn (planes 1 0) 1 = false) ∧
    (∀ op ∈ [1, 2, 3], LiveAt (coreRule [op]) (planes 1 0) Reg.GLB_CORE_CMD
      ((fset (fset 0 Fld.GLB_CORE_CMD_OP op) Fld.GLB_CORE_CMD_PLANE 1).toNat)) ∧
    (planeIn (planes 1 1) 1 = true ∧ planeIn (planes 1 0) 0 = true ∧ (planes 1 1).dp.plane = .none) ∧
    (∀ k ∈ [0, 1], let s := (planes 1 1).onDp (fun d => { d with plane := .test k true })
      s.dp.plane = .test k true ∧ s.livB Reg.GLB_CORE_STAT Fld.GLB_CORE_STAT_DOWN = false) ∧
    (let s := (planes 1 1).onDp (fun d => { d with removal := some 1 })
     s.dp.removal = some 1 ∧ s.regs.canon = true ∧ s.dp.ing.any (fun i => i.2.flying.any (fun e => e.2.any (fun c =>
       c.plane == 1))) = false) ∧
    (0 ≤ tMax (core.setLivF Reg.GLB_CORE_SPEED Fld.GLB_CORE_SPEED_THS 0) ∧
     tMax (core.setLivF Reg.GLB_CORE_SPEED Fld.GLB_CORE_SPEED_THS 1023) < 1023 ∧
     core.livB Reg.GLB_CORE_STAT Fld.GLB_CORE_STAT_SLOW = false) := by decide +kernel

/-! ## Tunnels, wires, locks, routes -/

/-- `s` with the fabric record changed. -/
def fab (f : Fabric → Fabric) (s : State) : State := s.onFab f

/-- A management packet of OP `op` from node 5 with one word. -/
def mgmt (op : Nat) : Packet := { type := 4, vc := 0, dnode := 0, snode := 5, len := 1, body := .mgmt op true 4 true [9] }

/-- Such a packet waits at a booted device whose manager 1 is node 5 and whose port 4 is exported to node 5. -/
def mgmtWaits (op : Nat) : State :=
  let s := both (Reg.GLB_RMGR 1) Fld.GLB_RMGR_EN 1 (both (Reg.GLB_RMGR 1) Fld.GLB_RMGR_NODE 5 host)
  fab (fun f => { f with mgmt := [(mgmt op, .internal, 0)] }) (both (Reg.GLB_EXP 4 0) ⟨0, 26⟩ (5 + 2 ^ 25) s)

/-- The same without the manager and the export. -/
def mgmtLost (op : Nat) : State := fab (fun f => { f with mgmt := [(mgmt op, .internal, 0)] }) host

theorem witness_MgmtPackets :
    LiveAt mtxHiRule up Reg.GLB_MTX_HI 7 ∧ up.dp.fab.mtx.length < 511 ∧
    511 ≤ (fab (fun f => { f with mtx := List.replicate 511 0 }) up).dp.fab.mtx.length ∧
    LiveAt { mtxCtlRule with sel := fun a v => a == Reg.GLB_MTX_CTL && fget v Fld.GLB_MTX_CTL_SEND == 1 } up Reg.GLB_MTX_CTL
      (fset (fset 0 Fld.GLB_MTX_CTL_SEND 1) Fld.GLB_MTX_CTL_DNODE 5).toNat ∧
    (let s := mgmtWaits 1
     let k := giveBack 0 .internal (fab (fun f => { f with mgmt := [] }) s)
     s.dp.fab.mgmt = [(mgmt 1, .internal, 0)] ∧ (mgmt 1).body = .mgmt 1 true 4 true [9] ∧ rmgrOf k 5 = some 1 ∧
     mboxOpen k 53 = true) ∧
    rmgrOf (mgmtLost 1) 5 = none ∧ (mgmt 2).body = .mgmt 2 true 4 true [9] ∧
    (mgmtWaits 2).dp.fab.mrx.length + [(9 : DWord)].length + 1 ≤ 1024 ∧ (mgmt 3).body = .mgmt 3 true 4 true [9] ∧
    (let s := mgmtWaits 3
     isExported s.act 4 = true ∧ (s.act (Reg.GLB_EXP 4 0)).toNat % 2 ^ 12 = (mgmt 3).snode) ∧
    isExported (mgmtLost 3).act 4 = false ∧
    (let s := (mgmtWaits 1).setMb 53 { outq := [⟨5, true, false, false⟩] }
     s.actB (Reg.GLB_RMGR 1) Fld.GLB_RMGR_EN = true ∧ pktCount (s.mb 53).outq ≠ 0) := by decide +kernel

/-- Source wire 3. -/
def wired (x : Wire) : State :=
  fab (fun f => { f with wires := [(3, x)] }) (both (Reg.GLB_WIRE 3) ⟨0, 1⟩ 1 (linkAt 3 {}))

/-- A locked sequence of partition 0 backs off. -/
def lock0 : LockSeq := { part := 0, imp := 0, up := 0, node := 5, dport := 1, domain := 7, ltag := 0, backoff := some 5 }
def backing : State := fab (fun f => { f with locks := [lock0] }) host

/-- Port 4 is held by node 5. -/
def farHeld : State := setLock 4 (.remote 5 1 2 3) host

theorem witness_WiresLocksRoutes :
    (let s := linkAt 3 {}
     fabPort s.act 0 0 = true ∧ 1 ≤ s.flState 0 0 ∧ (0 : Nat) = ((backTo 0 0 0 s).lnk 0 0).bnes ∧
     (((backTo 0 0 0 s).onLnk 0 0 (fun l => { l with bnes := 1 })).lnk 0 0).seg0 = none ∧ routedRoom s s.node = true ∧
     7 ≠ s.node ∧ routedRoom s 7 = true ∧ Tab.rises s.dp.links = true) ∧
    (∀ x ∈ ([{ level := true, last := some false }, { level := false, last := some true }, { last := none }] : List Wire),
      isSourceWire (wired x) 3 = true ∧ wireOf (wired x) 3 = x) ∧
    (backing.dp.fab.locks.find? (fun l => l.backoff.isSome) = some lock0 ∧ lock0.backoff = some 5) ∧
    (farHeld.eport 4).lock = .remote 5 1 2 3 ∧
    LiveAt { rejoinRule with sel := fun a v => a == Reg.GLB_RT_REJOIN && fget v Fld.GLB_RT_REJOIN_GO == 1 } up
      Reg.GLB_RT_REJOIN (fset 0 Fld.GLB_RT_REJOIN_GO 1).toNat ∧ withdrawn up 23 1 = false ∧
    Tab.find (fab (fun f => { f with moved := [(47, 5)] }) up).dp.fab.moved 47 = some 5 := by decide +kernel

/-! ## Regions, queues, messages -/

/-- `s` with the engines changed. -/
def eng (f : Engines → Engines) (s : State) : State := s.onEng f

/-- Partition 0 may hold regions, and a region of 4 KiB is staged for it. -/
def staged0 : State :=
  ((both (Reg.GLB_RGN_PLIM 0 0) ⟨0, 21⟩ 4 host).setLivN Reg.GLB_RGN_LEN_LO 4096).setLivN Reg.GLB_RGN_ATTR 0x11

/-- Entry `i` of the key table is owned by partition 0, with GEN 7 and the state `st`. -/
def keyed (i st : Nat) (s : State) : State := eng (fun e => { e with keys := { e.keys with tab :=
  [(4 * i + 1, 4096), (4 * i + 2, BitVec.ofNat 64 (7 + st * 2 ^ 12 + 0x11 * 2 ^ 14))] } }) s

/-- A revocation of entry `i` is in progress. -/
def revoking (i op held : Nat) : State := eng (fun e => { e with keys := { e.keys with
  revs := [{ idx := i, op := op, cue := 0, cueEn := false, origin := 51, serial := 1, pc := 0 }],
  held := if held = 0 then [] else [(i, held)] } }) (keyed i 2 host)

/-- The purge of partition 0 is in progress. -/
def purges (s : State) : State := s.setLivF (Reg.GLB_RGN_PCNT 0) ⟨31, 1⟩ 1

theorem witness_RegionCommands :
    LiveAt regionRule staged0 Reg.GLB_RGN_CMD 1 ∧ regTest staged0 51 = 0 ∧ freeEntry staged0 = some 0 ∧
    Tab.rises staged0.eng.keys.tab = true ∧ staged0.regs.canon = true ∧ regTest host 51 ≠ 0 ∧
    (∀ op ∈ [1, 2], let v := (fset 0 Fld.GLB_KEYREV_OP op).toNat
      LiveAt (keyrevOp op) (keyed 0 1 host) Reg.GLB_KEYREV v ∧ revRefused (keyed 0 1 host) 51 v = false ∧
      LiveAt (keyrevOp op) (keyed 0 0 host) Reg.GLB_KEYREV v ∧ revRefused (keyed 0 0 host) 51 v = true) ∧
    (∀ h ∈ [0, 1], let s := revoking 1048575 1 h
      (s.eng.keys.revs.find? (fun r => r.idx == 1048575)).isSome = true ∧ heldCount s 1048575 = h ∧
      stateIn (keyWord s 1048575 2).toNat = 2) ∧
    (Tab.rises (keyed 3 2 host).eng.keys.tab = true ∧ (keyed 3 2 host).eng.keys.revs = [] ∧ keyGen (keyed 3 2 host) 3 < 4096) ∧
    (purging (purges host) 0 = true ∧
     ((keysOf (purges host) (fun o => ownerPart (purges host) o == some 0)).all (fun i => keyState (purges host) i != 2)) = true) ∧
    (let s := purges (keyed 3 2 host)
     purging s 0 = true ∧ ((keysOf s (fun o => ownerPart s o == some 0)).all (fun i => keyState s i != 2)) = false) ∧
    (let s := eng (fun e => { e with keys := { e.keys with wait := [(5, .desc 0 1)] } }) host
     s.eng.keys.wait = [(5, .desc 0 1)] ∧ (takeWay 5 s).isSome = true) := by decide +kernel

theorem witness_AccessCheckOrder :
    let s := keyed 0 1 host
    let a : Access := { owner := some ⟨false, 0⟩, need := 1 }
    keyState host 0 = 0 ∧ (keyState s 0 ≠ 0 ∧ 8 * 2 ^ 20 / 2 ^ 20 ≠ keyGen s 0) ∧
    (keyState (keyed 0 2 host) 0 = 2 ∧ 7 * 2 ^ 20 / 2 ^ 20 = keyGen (keyed 0 2 host) 0) ∧
    accessCheck s (7 * 2 ^ 20) 0 4096 a = 0 ∧ accessCheck s (7 * 2 ^ 20) 1 4096 a = 5 := by decide +kernel

/-- Queue `i` of partition 0 in a state, with the rest of its context as given; FME 0, 16 entries, 8 outstanding. -/
def queueAt (i : Nat) (q : Queue) : State :=
  eng (fun e => { e with qs := [(i, { q with w := [4, 0, 4, BitVec.ofNat 64 (8 * 2 ^ 23 + 2 ^ 19)] })] }) host

/-- A descriptor `n` of OP `op`. -/
def desc (n op : Nat) (st : Option Nat) : Desc :=
  { n := n, ws := [BitVec.ofNat 64 op, 0, BitVec.ofNat 64 (2 ^ 48), 0, 0, 7, 0, 0], status := st }

/-- A value of GLB_QDB or of GLB_QCMD. -/
def dbWord (i x : Nat) : Nat := i + x * 2 ^ 16

theorem witness_DoorbellsAndQueueCommands :
    (∀ p ∈ ([(0, 0), (16, 0), (17, 3)] : List (Nat × Nat)), let s := queueAt 65535 { st := .active }
      LiveAt qdbRule s Reg.GLB_QDB (dbWord 65535 p.1) ∧ LiveAt qndbRule s Reg.GLB_QNDB (dbWord 65535 0) ∧
      fget (BitVec.ofNat 32 (dbWord 65535 p.1)) Fld.GLB_QDB_QUEUE = 65535 ∧
      fget (BitVec.ofNat 32 (dbWord 65535 p.1)) Fld.GLB_QDB_VALUE = p.1 ∧
      dbTest s 51 65535 (s.q 65535).ccnt (s.q 65535).pi (2 ^ (s.q 65535).rlog) p.1 = p.2 ∧
      dbTest s 51 65535 (s.q 65535).ncnt (s.q 65535).nci (2 ^ (s.q 65535).nrlog) 0 = 0) ∧
    (∀ p ∈ ([(1, .free, 0), (1, .active, 2), (2, .active, 0), (3, .stopped, 0), (3, .active, 2)] : List (Nat × QState × Nat)),
      let s := inMode 1 (queueAt 9 { st := p.2.1 })
      LiveAt (qcmdRule [p.1]) s Reg.GLB_QCMD (dbWord 9 p.1) ∧ fget (BitVec.ofNat 32 (dbWord 9 p.1)) Fld.GLB_QCMD_QUEUE = 9 ∧
      qcmdCode s 51 9 p.1 = p.2.2) ∧ Tab.rises (queueAt 9 {}).eng.qs = true := by decide +kernel

/-- Queue 9 active with one ring entry read. -/
def startable : State := inMode 1 (queueAt 9 { st := .active, ring := [some [7, 0, 0, 0, 0, 0, 0, 0]], lastStart := 0 })

/-- Queue 9 with the descriptor `d` in progress. -/
def working (d : Desc) : State := queueAt 9 { st := .active, descs := [d] }

/-- A reassembly entry at station 0. -/
def reasm0 (st : RState) : Reasm := { snode := 5, sfme := 1, mid := 2, st := st, since := 0, last := 0, rkey := 0, roff := 0 }
def gathering (r : Reasm) : State := eng (fun e => { e with reasm := [(0, [r])] }) host

theorem witness_DescriptorsStartAndEnd :
    (engineRoom startable 0 = true ∧ nextQueue startable 0 = some 9) ∧ nextQueue host 0 = none ∧
    (inMode 5 startable).holds = true ∧
    (let s := working (desc 3 7 (some 0))
     ((s.q 9).descs.find? (fun d => d.n == 4)).isNone = true ∧
     (s.q 9).descs.find? (fun d => d.n == 3) = some (desc 3 7 (some 0))) ∧
    ((working (desc 3 7 none)).q 9).descs.find? (fun d => d.n == 3) = some (desc 3 7 none) ∧
    ((working (desc 3 6 none)).q 9).descs.find? (fun d => d.n == 3 && d.waits && d.op == 6 && d.f 5 0 20 != 0) =
      some (desc 3 6 none) ∧
    (let r := { reasm0 .notify with full := some 4 }
     findReasm (gathering r) 0 5 1 2 = some r ∧ r.full = some 4 ∧ r.st = .notify ∧ r.recording = false) ∧
    Tab.rises (working (desc 3 6 none)).eng.qs = true := by decide +kernel

/-- A job of one TLP of 4 bytes, sent at 5. -/
def job0 : Job := { work := .chMark 0, part := 0, slice := none, port := 0, posted := false, subs := [{ addr := 0, len := 4, sent := some 5 }] }
def asking : State := eng (fun e => { e with io := { e.io with jobs := [(3, job0)], next := 4 } }) host

theorem witness_RingConsumersAndCompletions :
    (∀ v ∈ [0, 1], let s := host.setLivN (Reg.GLB_EVR 47 2) 4
      LiveAt { evrRule with sel := fun a _ => isEvr a && a % 16 == 12 } s (Reg.GLB_EVR 47 3) v) ∧
    (let s := host.setLivN (Reg.GLB_EVR 47 2) 4
     ((s.liv (Reg.GLB_EVR 47 2)).toNat % 2 ^ 16 + 2 ^ 16 - 0) % 2 ^ 16 ≤ 2 ^ evrLog (s.liv (Reg.GLB_EVR 47 0)).toNat ∧
     2 ^ evrLog (s.liv (Reg.GLB_EVR 47 0)).toNat < ((s.liv (Reg.GLB_EVR 47 2)).toNat % 2 ^ 16 + 2 ^ 16 - 5) % 2 ^ 16) ∧
    subOf asking 192 = some (job0, { addr := 0, len := 4, sent := some 5 }) ∧ 192 % 64 = 0 ∧
    job0.subs = [{ addr := 0, len := 4, sent := some 5 }] ∧ [(1 : Byte), 2, 3, 4].length = 4 ∧ subOf host 192 = none := by
  decide +kernel

/-- An FME packet of kind `pt` from node 5, waiting at FME 0. -/
def fmePkt (pt : Nat) : Packet := { type := 3, vc := 0, dnode := 0, snode := 5, len := 1, body := .fme { pt := pt } [] }
def fmeWaits (pt : Nat) : State := host.onDp (fun d => { d with fmeIn := [(0, [fmePkt pt])] })

theorem witness_FmePackets :
    engineRoom host 0 = true ∧ engineRoom (host.setLivF (Reg.BUF_ING 0) Fld.BUF_ING_INTUSE 8000) 0 = false ∧
    (∀ pt ∈ [1, 2, 3, 4, 5, 6, 7], (takeFme 0 pt (fmeWaits pt)).isSome = true ∧
      (takeFme 0 pt (fmeWaits pt)).all (fun r => r.1 == fmePkt pt) = true) ∧
    takeFme 0 6 host = none ∧ (inMode 5 host).holdsAt 0 = true ∧ (fmePkt 1).snode ≠ (inMode 5 host).node ∧
    answers host 0 0 0 0 = none := by decide +kernel

/-- A message of queue 9 in progress at FME 0 with one packet out. -/
def msg0 : Msg :=
  { cl := .queue 9 3, mid := 2, op := 1, dnode := 5, domain := 0, vc := 1, bulk := false, rkey := 0, roff := 0
    len := 4, laddr := 0, part := 0, slice := none, next := 1, started := some 7 }
def track0 (st : TrackState) (pended : Bool) : Track :=
  { pidx := 0, st := st, path := 0, ts := 0, at_ := 7, bytes := 4, data := [1, 2, 3, 4], pended := pended }
def sending (t : Track) (d : Dest) : State :=
  eng (fun e => { e with fme := [(0, { msgs := [{ msg0 with tracks := [t] }], dests := [(5, d)] })] }) host

theorem witness_FmeTimers :
    (∀ p ∈ ([(.out, false), (.pend, true), (.nakWait 9, false)] : List (TrackState × Bool)),
      let s := sending (track0 p.1 p.2) { w := 4096 }
      trackOf s 0 2 0 = some ({ msg0 with tracks := [track0 p.1 p.2] }, track0 p.1 p.2) ∧
      s.msg 0 2 = some { msg0 with tracks := [track0 p.1 p.2] }) ∧ msg0.started = some 7 ∧
    (findReasm (gathering (reasm0 .open_)) 0 5 1 2 = some (reasm0 .open_) ∧
     keyState (onReasm 0 5 1 2 (fun r => { r with st := .held, result := some 0x16 })
       (((gathering (reasm0 .open_)).reach ((reasm0 .open_).since + 2000000)).bump (Reg.REASM_TOCNT 0))) 0 = 0) ∧
    (let r := { reasm0 .held with result := some 0 }
     findReasm (gathering r) 0 5 1 2 = some r ∧ r.result.isSome = true) ∧
    (let d : Dest := { w := 4096, idle := some 3, round := some 4, rtt := some 5, pace := some 6 }
     (sending (track0 .out false) d).dest 0 5 = some d) ∧
    (sending (track0 .out false) { w := 4096 }).dest 0 5 = some { w := 4096 } := by decide +kernel

/-! ## DMA channels, cue lines, slices -/

/-- Channel 63 in the state `st`, owned by partition 0, with the record `x`. -/
def chanAt (st : Nat) (x : Chan) : State := setChStat 63 Fld.CH_STAT_STATE st (eng (fun e => { e with ch := [(63, x)] }) host)

/-- A FILL of 64 bytes. -/
def fill : List DWord := [2, 64, 0, 0x1000, 5, 0, 0, 0]

/-- A take of partition `q` about to write `v` to the address `a`. -/
def liveBy (q : Nat) (s : State) (a v : Nat) : State := s.setTake (some { tX 0x16 0 a v with origin := q })

/-- The protection unit lets partition 0 write the registers of slot `k`. -/
def letIn (k : Nat) (s : State) : State :=
  ((s.setLivF Reg.PROT_CTL Fld.PROT_CTL_EN 1).setLiv (Reg.PROT_SLOT k 0) 1).setLiv (Reg.PROT_SLOT k 4) 1

theorem witness_DmaChannels :
    (∀ p ∈ ([(1, true), (17, false)] : List (Nat × Bool)), LiveAt chPiRule (chanAt 0 {}) (Reg.CH_PI 63) p.1 ∧
      chOf (Reg.CH_PI 63) = 63 ∧
      (originOwns (chanAt 0 {}) 51 (chOwner (chanAt 0 {}) 63) && piFits (chanAt 0 {}) 63 (p.1 % 2 ^ 16)) = p.2) ∧
    (∀ op ∈ [1, 2, 3], LiveAt (chCmdRule [op]) (chanAt 1 {}) (Reg.CH_CMD 63) op ∧
      originOwns (chanAt 1 {}) 51 (chOwner (chanAt 1 {}) 63) = true ∧
      (let t := { tX 0x16 0 (Reg.CH_CMD 63) op with origin := 0 }
       let s := liveBy 0 (letIn 73 (both (Reg.CH_CFG 63) Fld.CH_CFG_OWNER 3 (chanAt 1 {}))) (Reg.CH_CMD 63) op
       AtLive (chCmdRule [op]) s t (xw 0x16 0) (Reg.CH_CMD 63) (BitVec.ofNat 32 op) ∧
       originOwns s 0 (chOwner s 63) = false)) ∧
    (∀ st ∈ [0, 1, 2, 3], chState (chanAt st {}) 63 = st ∧ (chanAt st {}).regs.canon = true ∧
      ((chanAt st {}).chan 63).cur = none) ∧ (inMode 0 host).mode = 0 ∧
    (let s := chanAt 1 { cur := some fill }
     selectCh s = some 63 ∧ chEnded s 63 = false) ∧ selectCh host = none ∧
    chEnded (chanAt 1 { cur := some fill, mv := 64 }) 63 = true := by decide +kernel

/-- `k` pulses wait on line 255. -/
def pulses (k : Nat) : State := { host with cues := { host.cues with waiting := if k = 0 then [] else [(255, k)] } }

/-- Cue timer 15 is armed. -/
def ticking (mode : Nat) : State := eng (fun e => { e with tmr := [(15, ⟨mode, 3, 0, false, 100, some 500⟩)] }) host

theorem witness_CueLines :
    (∀ k ∈ [0, 1, 64], Tab.get 0 (pulses k).cues.waiting 255 = k) ∧
    (∀ v ∈ [0, 1, 2, 3], LiveAt { tmrRule with sel := fun a _ => isTmr a && a % 16 == 0 } host (Reg.CUE_TMR 15 0) v ∧
      (BitVec.ofNat 32 v).toNat % 4 = v) ∧ Tab.rises host.eng.tmr = true ∧
    (∀ m ∈ [1, 2, 3], Tab.find (ticking m).eng.tmr 15 = some ⟨m, 3, 0, false, 100, some 500⟩) ∧
    cueOwnedBy host.act 3 0 = false := by decide +kernel

/-- Slice 4095 bound to partition 0, with the record `x`. -/
def sliced (x : Slice) : State :=
  eng (fun e => { e with slices := [(4095, x)] }) (both (Reg.GLB_SLICE 4095 0) ⟨0, 1⟩ 1 host)

/-- A value of GLB_SLICECMD. -/
def sliceWord (op : Nat) : Nat := (fset (fset 0 Fld.GLB_SLICECMD_SLICE 4095) Fld.GLB_SLICECMD_OP op).toNat

theorem witness_SliceCommands :
    (∀ p ∈ ([(1, 1), (2, 0), (3, 0), (4, 1)] : List (Nat × Nat)),
      LiveAt (sliceRule [p.1]) (sliced { st := p.2 }) Reg.GLB_SLICECMD (sliceWord p.1) ∧
      fget (BitVec.ofNat 32 (sliceWord p.1)) Fld.GLB_SLICECMD_SLICE = 4095 ∧
      fget (BitVec.ofNat 32 (sliceWord p.1)) Fld.GLB_SLICECMD_OP = p.1 ∧ sliceCode (sliced { st := p.2 }) 51 4095 p.1 = 0) ∧
    (∀ p ∈ ([(1, 0), (2, 1)] : List (Nat × Nat)),
      LiveAt (sliceRule [p.1]) (sliced { st := p.2 }) Reg.GLB_SLICECMD (sliceWord p.1) ∧
      sliceCode (sliced { st := p.2 }) 51 4095 p.1 ≠ 0) ∧
    (let s := sliced { st := 2, lullFlush := true }
     (s.sl 4095).st = 2 ∧ sliceQuiet s 4095 = true ∧ (s.sl 4095).lullFlush = true ∧ (s.sl 4095).lines = 0) ∧
    ((sliced { st := 1 }).sl 4095).st ≠ 2 ∧
    (let s := sliced { resetting := true }
     (s.sl 4095).resetting = true ∧ keysOf s (isSlice 4095) = []) ∧ ((sliced {}).sl 4095).resetting = false ∧
    (∀ c ∈ [none, some 7], let s := sliced { flushing := true, flushCue := c }
      (s.sl 4095).flushing = true ∧ (s.sl 4095).lines = 0 ∧ (s.sl 4095).flushCue = c) ∧
    0 < ((sliced { lines := 1 }).sl 4095).lines ∧ slicePart (sliced {}) 4095 ≠ 3 := by decide +kernel

/-! ## Every step -/

theorem witness_StepKeepsCanonicalForm : State.reset.canon = true ∧ (run (tk (ins 1 3 1 2))).canon = true ∧
    Goes { run (tk (ins 1 3 1 2)) with pending := [.add] } := ⟨by decide +kernel, by decide +kernel, _, rfl⟩

/-! ## Ill-formed commands: one for each check -/

/-- Each check of a TLP refuses one. -/
theorem test_illformed_tlp : mwr.wf = true ∧ ∀ t ∈ [{ mwr with addr := 2 ^ 64 }, { mwr with span := 4097 }, { mwr with hdr := 8 },
    { mwr with hdr := 68 }, { mwr with hdr := 14 }, { mwr with tc := 8 }, { mwr with req := 2 ^ 16 }, { mwr with tag := 2 ^ 14 },
    { mwr with cid := 2 ^ 16 }, { mwr with status := 8 }, { mwr with data := List.replicate 4097 0 },
    { mwr with pasid := some (2 ^ 20) }, { mwr with aop := 3 }], t.wf = false := by decide +kernel

/-- Each check of an FME header refuses one. -/
theorem test_illformed_fme : ({ pt := 1 } : FmeHdr).wf = true ∧ ∀ h ∈ ([{ pt := 16 }, { pt := 1, aop := 4 },
    { pt := 1, domain := 2 ^ 16 }, { pt := 1, rkey := 2 ^ 32 }, { pt := 1, off := 2 ^ 48 }, { pt := 1, tq := 2 ^ 16 },
    { pt := 1, mid := 2 ^ 24 }, { pt := 1, sfme := 48 }, { pt := 1, pidx := 2 ^ 20 }, { pt := 1, arg := 2 ^ 64 }] : List FmeHdr),
    h.wf = false := by decide +kernel

/-- Each check of a payload refuses one. -/
theorem test_illformed_body : ∀ b ∈ ([.tlp { domain := 2 ^ 16, part := 0 } mwr, .tlp { domain := 0, part := 64 } mwr,
    .tlp { domain := 0, part := 0 } { mwr with tc := 8 }, .tlpRest { domain := 2 ^ 16, part := 0 } [],
    .tlpRest { domain := 0, part := 0, cont := true } [], .tlpRest { domain := 0, part := 0 } (List.replicate 4097 0),
    .fme { pt := 16 } [], .fme { pt := 1 } (List.replicate 4097 0), .mgmt 16 true 0 false [], .mgmt 1 true 128 false [],
    .mgmt 1 true 0 false (List.replicate 512 0)] : List PBody), b.wf = false := by decide +kernel

/-- Each check of a packet refuses one. -/
theorem test_illformed_packet : (pkt 1 0).wf = true ∧ ∀ p ∈ [pkt 16 0, { pkt 1 0 with vc := 16 }, { pkt 1 0 with dnode := 4096 },
    { pkt 1 0 with dport := 128 }, { pkt 1 0 with snode := 4096 }, { pkt 1 0 with sport := 128 }, pkt 1 65536,
    { pkt 1 0 with ack := 65536 }, { pkt 1 0 with colour := 4 }, { pkt 1 0 with len := 256 }, { pkt 1 0 with flowhash := 256 },
    { pkt 1 0 with ts := 65536 }, { pkt 1 0 with path := 4 }, { pkt 1 0 with body := .fme { pt := 16 } [] }], p.wf = false := by
  decide +kernel

/-- Each check of a short packet refuses one. -/
theorem test_illformed_short : ({ bseq := 256, back := 0 } : ShortHdr).wf = false ∧ ({ bseq := 0, back := 256 } : ShortHdr).wf = false ∧
    ({ bseq := 0, back := 0, bound := 512 } : ShortHdr).wf = false ∧
    ∀ b ∈ ([.ack 65536 false, .credit 2 [0, 0, 0, 0], .credit 0 [0], .credit 0 [0, 0, 0, 65536],
    .retrainReq 2 0 0 0, .retrainAck 2 0 0 0, .retrainReq 0 8 0 0, .retrainAck 0 8 0 0, .retrainReq 0 0 2 0, .retrainAck 0 0 2 0,
    .retrainReq 0 0 0 4096, .retrainAck 0 0 0 4096, .width 4096 0 0 0 0 false, .width 0 32 0 0 0 false, .width 0 0 2 0 0 false,
    .width 0 0 0 8 0 false, .width 0 0 0 0 65536 false, .timeSync true false false (2 ^ 64) 0,
    .timeSync true false false 0 65536, .wire 4096 0 0 true 0, .wire 0 128 0 true 0, .wire 0 0 256 true 0, .wire 0 0 0 true 256,
    .lockReq 4096 0 0 0 0 0 0, .lockReq 0 128 0 0 0 0 0, .lockReq 0 0 4096 0 0 0 0, .lockReq 0 0 0 128 0 0 0,
    .lockReq 0 0 0 0 64 0 0, .lockReq 0 0 0 0 0 256 0, .lockReq 0 0 0 0 0 0 4, .lockGnt 4096 0 0 0 0 0, .lockGnt 0 128 0 0 0 0,
    .lockGnt 0 0 4096 0 0 0, .lockGnt 0 0 0 128 0 0, .lockGnt 0 0 0 0 256 0, .lockGnt 0 0 0 0 0 4, .pfn0 256 0 0 0 0 0,
    .pfn0 0 4096 0 0 0 0, .pfn0 0 0 64 0 0 0, .pfn0 0 0 0 65536 0 0, .pfn0 0 0 0 0 (2 ^ 32) 0, .pfn0 0 0 0 0 0 16,
    .pfn1 256 0 0, .pfn1 0 4096 0, .pfn1 0 0 (2 ^ 30)] : List ShortBody), b.wf = false := by decide +kernel

/-- The header of a short packet, and one that does not fit. -/
def okHdr : ShortHdr := { bseq := 0, back := 0 }
def badHdr : ShortHdr := { bseq := 256, back := 0 }

/-- Every command of the links that WellFormed tells about, with each of its checks failed. -/
theorem test_illformed_links : ∀ c ∈ ([.commaReceive 0 0 true false 0 129 0, .commaReceive 0 0 true false 0 0 (2 ^ 32),
    .deskewDone 0 0 (List.replicate 10 0), .fillerReceive 0 0 129, .marginDone 0 (2 ^ 64), .tlpReceive 0 0 { mwr with tc := 8 },
    .pcieFcUpdate 0 0 .posted 65536 0, .pcieFcUpdate 0 0 .posted 0 (2 ^ 24), .fabricPacketReceive 0 0 .good (pkt 16 0),
    .ackReceive 0 0 badHdr 0, .ackReceive 0 0 okHdr 65536, .nakReceive 0 0 badHdr 0 .none, .nakReceive 0 0 okHdr 65536 .none,
    .creditReceive 0 0 badHdr 0 0 0 0 0, .creditReceive 0 0 okHdr 0 65536 0 0 0, .creditReceive 0 0 okHdr 0 0 65536 0 0,
    .creditReceive 0 0 okHdr 0 0 0 65536 0, .creditReceive 0 0 okHdr 0 0 0 0 65536, .retrainReqReceive 0 0 badHdr 0 0 0 0,
    .retrainReqReceive 0 0 okHdr 0 0 0 4096, .retrainAckReceive 0 0 badHdr 0 0 0 0, .retrainAckReceive 0 0 okHdr 0 0 0 4096,
    .widthReceive 0 0 badHdr 0 0 0 0 0 false, .widthReceive 0 0 okHdr 4096 0 0 0 0 false,
    .timeSyncRequestReceive 0 0 badHdr false 0, .timeSyncRequestReceive 0 0 okHdr false (2 ^ 64),
    .timeSyncResponseReceive 0 0 badHdr false false 0 0, .timeSyncResponseReceive 0 0 okHdr false false 0 65536,
    .wireReceive 0 0 badHdr 0 0 true 0, .wireReceive 0 0 okHdr 4096 0 true 0, .wireReceive 0 0 okHdr 0 256 true 0,
    .wireReceive 0 0 okHdr 0 0 true 256, .lockReqReceive 0 0 badHdr 0 0 0 0 0 0 0, .lockReqReceive 0 0 okHdr 0 0 0 0 0 0 4,
    .lockGntReceive 0 0 badHdr 0 0 0 0 0 0, .lockGntReceive 0 0 okHdr 0 0 0 0 0 4, .pfnReceive 0 0 badHdr (.pfn1 0 0 0),
    .pfnReceive 0 0 okHdr (.pfn1 256 0 0), .pfnReceive 0 0 okHdr (.ack 0 false), .reservedSubtype 0 0 badHdr 0,
    .reservedSubtype 0 0 okHdr 10] : List Instr), WellFormed c = false := by decide +kernel

/-- The same for the others. -/
theorem test_illformed_others : ∀ c ∈ ([.configWriteArrival 0 0 .command 0 0 0 65536 0, .configWriteArrival 0 0 .command 0 0 0 0 (2 ^ 14),
    .notifyFullTimeout 0 4096 0 0, .notifyFullTimeout 0 0 48 0, .notifyFullTimeout 0 0 0 (2 ^ 24), .reasmTimeout 0 4096 0 0,
    .reasmTimeout 0 0 48 0, .reasmTimeout 0 0 0 (2 ^ 24), .reasmHeldExpire 0 4096 0 0, .reasmHeldExpire 0 0 48 0,
    .reasmHeldExpire 0 0 0 (2 ^ 24), .fmeRtoExpire 0 (2 ^ 24) 0, .fmeRtoExpire 0 0 (2 ^ 20), .nakwaitExpire 0 (2 ^ 24) 0,
    .nakwaitExpire 0 0 (2 ^ 20), .fmeMessageTimeout 0 (2 ^ 24), .hostCompletion 0 true false (List.replicate 4097 0),
    .getCertificate 0 0 65536 0, .getCertificate 0 0 0 65536, .configScrub [(true, 0xD00000, false)], .keyCacheScrub (2 ^ 32) [],
    .refillDone 0 0 0 0 (List.replicate 13 .none) false, .eqConverge 0 0 0 0 0 [0], .readaptDue 0 0 0 0 [],
    .readaptComplete 0 true 0 0 0 (List.replicate 25 32768), .restoreComplete 0 true 0 0 0 [],
    .laneFailure 0 (List.replicate 10 0), .laneMarginingCommand 0 0 (.step true true 0) (2 ^ 64) 0,
    .laneMarginingCommand 0 0 (.step true true 0) 0 (2 ^ 64)] : List Instr), WellFormed c = false := by decide +kernel

/-- Commands at the ends of their ranges are well formed. -/
theorem test_wellformed : ∀ c ∈ ([.add, .nop, .commaReceive 23 8 true false 0 128 0, .tlpReceive 0 0 mwr,
    .fabricPacketReceive 23 1 .good (pkt 15 65535), .reservedSubtype 0 0 okHdr 11, .pfnReceive 0 0 okHdr (.pfn0 255 0 0 0 0 15),
    .notifyFullTimeout 23 4095 47 (2 ^ 24 - 1)] : List Instr), WellFormed c = true := by decide +kernel


/-! ## Configuration space -/

/-- R192: the management function's identifiers; R187: a bridge's I/O windows are zero. -/
theorem test_config_identifiers :
    cfgShown (named host) 0 1 0 = (0x91941234, 0xFFFFFFFF) ∧ cfgShown (named host) 0 2 0 = (0x91931234, 0xFFFFFFFF) ∧
    cfgShown host 0 0 7 = (0, 0xFFFF) ∧ ownFn host 0 { kind := .cfgRd, cid := 0x301 } = some 1 := by decide +kernel

/-- R322: BAR2 of a bound function shows the low word that its host has written, as a 64-bit memory BAR; BAR4 is zero. -/
theorem test_emulated_bar :
    (let s := { both (Reg.GLB_VFB 5 4) ⟨0, 6⟩ 16 host with
        parts := { host.parts with vfbar := [(11, 0x123450000)] } }
     vfBarShown s 5 2 = (0x23450004, 0xFFFFFFF7) ∧ vfBarShown s 5 3 = (1, 0xFFFFFFFF) ∧
     vfBarShown s 5 4 = (0, 0xFFFFFFFF)) := by decide +kernel


/-! ## Wire forms -/

/-- R113: the IDCODE. R216: the data bytes of a region at every width. -/
theorem test_idcode_region :
    idcode = 0xC919256B ∧ [8, 4, 2, 1].map regionData = [7616, 3808, 1904, 952] ∧
    [8, 4, 2, 1].map shortLength = [212, 236, 248, 254] := by decide +kernel

/-- R227, R229: the check values of the two standard codes over the digits 1 to 9; R218: parity makes a codeword. -/
theorem test_checks :
    frameCheck ((List.range 9).map (fun i => BitVec.ofNat 8 (0x31 + i))) = [0x26, 0x39, 0xF4, 0xCB] ∧
    crc 16 0x1021 0xFFFF ((List.range 9).flatMap (fun i => msbBits 8 (0x31 + i))) = 0x29B1 ∧
    isCodeword ([1, 2, 3, 255] ++ rsParity [1, 2, 3, 255]) = true ∧
    isCodeword ([1, 2, 3, 254] ++ rsParity [1, 2, 3, 255]) = false := by decide +kernel

/-- R151, R152: levels of a byte, and what precoding sends of them. -/
theorem test_symbols :
    byteLevels 0xB4 = [0, 1, 2, 3] ∧ precode 0 [0, 1, 2, 3] = [0, 1, 1, 2] ∧
    unprecode 0 [0, 1, 1, 2] = [0, 1, 2, 3] := by decide +kernel

/-- R224, R229: a header and a short packet read back, and a bit turned over is seen. -/
theorem test_packet_words :
    (let p : Packet := { type := 1, vc := 2, dnode := 3, dport := 95, snode := 5, sport := 6, seq := 65535, ack := 8,
                         len := 128, path := 3, body := .mgmt 1 true 0 false [] }
     p.wf = true ∧ readHeader (packetHeader p) p.body = some p ∧ readHeader (packetHeader p ^^^ 2 ^ 100) p.body = none ∧
     packetHeader p / 2 ^ 120 = 0x12) ∧
    (let k : Short := ⟨7, 9, .pfn0 1 2 3 4 5 6⟩
     k.body.wf = true ∧ readShort (shortWord 0x1FF k) = some (k, 0x1FF) ∧ readShort (11 * 2 ^ 124) = none ∧ readShort (shortWord 0x1FF k + 2 ^ 20) = none) := by decide +kernel

/-! ## Lanes of PCI Express ports, Drift bandwidth -/

/-- R313: GLB_DRIFT_BW shows the bytes of the microsecond that ends. -/
theorem test_drift_bw :
    let s := (driftMove true 5000 (driftMove false 2999 State.reset)).advance 1000
    (s.liv Reg.GLB_DRIFT_BW) = 0x00020005 ∧ ((s.advance 1000).liv Reg.GLB_DRIFT_BW) = 0 := by decide +kernel
/-! ## The remaining clauses: Tylyn, mailboxes, cuts -/

/-- A CUTAT is pending while a long operation of another kind runs. -/
def cutMeetsLong : State :=
  { cutWaits 5 with dir := { (cutWaits 5).dir with longop := some ⟨.lull 3, 0, false⟩ } }

/-- A CUTAT is pending and fabric time has no synchronisation. -/
def cutNoSync : State := (cutWaits 5).setLivF Reg.GLB_FT_STAT Fld.GLB_FT_STAT_SYNC 0

/-- A take of partition 3 about to run the Drift table instruction `op`, the protection unit on. -/
def tblUser (op : Nat) : Take := { tTbl op 0 3 with origin := 3 }
def guarded (t : Take) : State := (run t).setLivF Reg.PROT_CTL Fld.PROT_CTL_EN 1

theorem witness_ControlFlowAndWaits_limit :
    (∀ x ∈ [TakeWait.time 2000000, .cue 3 2000000 2], (run (tWaits x)).dir.take = some (tWaits x) ∧
      (run (tWaits x)).dir.longop = none ∧ (tWaits x).wait = x ∧ (tWaits x).pc + 1 < (tWaits x).code.length) ∧
    (tWaits (.time 2000000)).limitAt ≤ ((run (tWaits (.time 2000000))).reachFt 2000000).now ∧
    ((run (tWaits (.time 1999999))).reachFt 1999999).now < (tWaits (.time 1999999)).limitAt ∧
    (tWaits (.cue 3 2000000 2)).limitAt ≤ ((run (tWaits (.cue 3 2000000 2))).reach 2000000).now ∧
    ((run (tWaits (.cue 3 1999999 2))).reach 1999999).now < (tWaits (.cue 3 1999999 2)).limitAt := by decide +kernel

/-- An inbound queue with a packet begun: at the end of the FIFO, behind a long operation, and being discarded. -/
theorem witness_Mailboxes_discards :
    (let s := inbox (List.replicate 8192 ⟨0, false, false, false⟩) false
     reachesMbox s (.bar 0) 0 = true ∧ (decide (8192 ≤ (s.mb 0).inq.length)) = true ∧ 0 < openLen (s.mb 0).inq) ∧
    (let s : State := { inbox [⟨0, false, false, false⟩] false with dir := { ({} : Director) with longop := some ⟨.cut, 0, false⟩ } }
     s.dir.longop.isSome = true ∧ openLen (s.mb 0).inq = 1) ∧
    (let s := inbox (List.replicate 2049 ⟨0, false, false, false⟩) false
     (!false && openLen (s.mb 0).inq + 1 == 2050) = true) ∧
    (let s := up.setPartial .i3c (some ⟨49, false, [1]⟩)
     reachesMbox s (bytePath .i3c) 49 = true ∧ ¬((⟨49, false, [1]⟩ : Partial).mbox = 49 ∧ (⟨49, false, [1]⟩ : Partial).last = true)) := by
  decide +kernel

theorem witness_DriftTableAccess_protected : ∀ op ∈ [0x18, 0x19],
    AtInsn (guarded (tblUser op)) (tblUser op) (op * 2 ^ 26 + 2 * 2 ^ 21 + 3 * 2 ^ 16 + 3) op 0x3FE0 ∧
    slotRefuses (guarded (tblUser op)) 80 3 (op == 0x19) = some 2 := by decide +kernel

theorem witness_CutsExchangeTheSets_due :
    (cutMeetsLong.dir.cutAt = some ⟨51, 1, 0, [], false⟩ ∧ cutMeetsLong.dir.longop = some ⟨.lull 3, 0, false⟩) ∧
    (let r0 := cutNoSync.reachFt (cutTime cutNoSync)
     let r : State := { r0 with dir := { r0.dir with cutAt := none } }
     cutNoSync.dir.longop = none ∧ r.regs.badS = [] ∧ cutRefused r 51 r.regs.shadow = false ∧
     (logCut 51 1 0 true r).livB Reg.GLB_FT_STAT Fld.GLB_FT_STAT_SYNC = false) := by decide +kernel

/-- GLB_DRAINCTL is written 0 while HOLD stands. -/
theorem witness_SlateCommands_drain : holding.livB Reg.GLB_DRAINCTL Fld.GLB_DRAINCTL_HOLD = true ∧
    LiveAt drainRule holding Reg.GLB_DRAINCTL 1 ∧ LiveAt drainRule holding Reg.GLB_DRAINCTL 0 := by decide +kernel

/-- The slate log at its last free slot: the LIVE entry of a write moves RD past its old value. -/
def slateFull : State := slated.setLivN Reg.GLB_SLATE_HEAD 1048576

theorem witness_SlateCommands_full : LiveAt slateRdRule slateFull Reg.GLB_SLATE_RD 0 ∧
    rdTakes (logLive (tX 0x16 0 Reg.GLB_SLATE_RD 0) Reg.GLB_SLATE_RD 0 (liveOn slateFull Reg.GLB_SLATE_RD 0)) 0 = false := by
  decide +kernel
/-! ## The remaining clauses: upkeep, security, lanes, ports -/

/-- The Forecaster at level 1 with two levels of scrub deferral, and a pass that ends at its next unit. -/
def deferring : State :=
  both Reg.FCST_CFG Fld.FCST_CFG_SCRDEF 1 (State.reset.setLivF Reg.FCST_STAT Fld.FCST_STAT_LEVEL 1)
def lastUnit : State := State.reset.setLivN Reg.GLB_SCRUB_DPOS (2 ^ 24 - 1)

/-- Lane 8 of station 23 is due for re-adaptation. -/
def dueLane : State := State.reset.onFcst (fun f => { f with due := [(23, 8, 5)] })

theorem witness_Upkeep_deferral :
    (1 ≤ fcstLevel deferring ∧ max deferring.now (deferring.scrub.pass + dPos deferring * dPass deferring / 2 ^ 24) < scrubLimit deferring) ∧
    2 ^ 24 ≤ dPos lastUnit + 1 ∧ dPos State.reset + 1 < 2 ^ 24 ∧
    dueLane.pow.fcst.due.find? (fun e => e.1 == 23 && e.2.1 == 8) = some (23, 8, 5) := by decide +kernel

/-- Reference A lost while B is used and lost too. -/
def bothLost : State := (clocks 0 0 1).setLivF Reg.GLB_CLK_STAT Fld.GLB_CLK_STAT_USE 1

theorem witness_ClocksAndFabricTime_revalid :
    watched bothLost 0 = true ∧ bothLost.livB Reg.GLB_CLK_STAT (refOk 0) = false ∧
    (let k := (bothLost.advance 1000000).setLivF Reg.GLB_CLK_STAT (refOk 0) 1
     refUse k ≠ 0 ∧ k.livB Reg.GLB_CLK_STAT (refOk 1) = false) ∧
    (let s := clocks 0 1 1
     watched s 0 = true ∧ s.livB Reg.GLB_CLK_STAT (refOk 0) = false ∧
     refUse ((s.advance 1000000).setLivF Reg.GLB_CLK_STAT (refOk 0) 1) = 0) := by decide +kernel

/-- The I3C address at both ends of its range; a warm reset without the pin; the TEST strap. -/
theorem witness_ColdAndWarmResets_rest :
    (∀ x ∈ [0, 7], 0x58 + (cold.setLivF Reg.GLB_STRAP Fld.GLB_STRAP_I3CA x).livF Reg.GLB_STRAP Fld.GLB_STRAP_I3CA = 0x58 + x) ∧
    ({ warmAt .draining with rst := { (warmAt .draining).rst with warmPin := false } } : State).rst.warmPin = false ∧
    ({ warmAt .draining with rst := { (warmAt .draining).rst with warmPin := false } } : State).rst.warm = .draining ∧
    (up.setLivF Reg.GLB_STRAP Fld.GLB_STRAP_TEST 1).livB Reg.GLB_STRAP Fld.GLB_STRAP_TEST = true ∧
    vcoreChoice (avs { set := 710 }) ≠ none := by decide +kernel

/-- PROT_CTL is written after it has been locked. -/
theorem witness_ProtectionUnit_locked : ∀ v ∈ [0, (fset (fset 0 Fld.PROT_CTL_EN 1) Fld.PROT_CTL_FENCE 1).toNat],
    let s := liveOn (State.reset.setLivF Reg.PROT_CTL Fld.PROT_CTL_LOCK 1) Reg.PROT_CTL v
    AtInsn s (tX 0x16 0 Reg.PROT_CTL v) (xw 0x16 0) 0x16 0x8000 ∧ protRefuses s 51 Reg.PROT_CTL true = none ∧
    s.livB Reg.PROT_CTL Fld.PROT_CTL_LOCK = true ∧ setsLock (BitVec.ofNat 32 v) = false := by decide +kernel

/-- A command is in progress; a slot already programmed is programmed again. -/
theorem witness_OtpCommands_refused :
    (armed.onSec (fun x => { x with cmd := some ⟨1, 1, 4, 9⟩ })).sec.cmd ≠ none ∧
    (armed.onSec (fun x => { x with cmd := some ⟨1, 1, 4, 9⟩ })).canon = true ∧ otpTest armed 1 1 0 = some 4 := by
  decide +kernel

/-- A lane whose last intervals were clean, and lane 7 of a port that is up without it. -/
def cleanLane (l st : Nat) : State := (laneAt l st).setLane 0 l { (laneAt l st).lane 0 l with clean := 4096 }
def spareSeat (st : Nat) : State :=
  setLaneState 0 7 st ((fabAt 0 up).onDp (fun d => { d with links := [(0, { use := [0, 1, 2, 3] })] }))

theorem witness_LaneBringUp_equalised :
    (cleanRun (cleanLane 0 4) 0 0 = true ∧ laneState (cleanLane 0 4) 0 0 = 4 ∧ isFab (cleanLane 0 4) 0 0 = true) ∧
    (∀ st ∈ [5, 6], (laneTimer (laneState (spareSeat st) 0 7)).isSome = true) ∧
    2 ≤ (spareSeat 5).flState 0 0 ∧ ((spareSeat 5).lnk 0 0).use.contains 7 = false ∧
    commaFails ((laneAt 0 7).setLane 0 0 { (laneAt 0 7).lane 0 0 with missed := 2 }) 0 0 = true := by decide +kernel

/-- The spare as given, lane 3 and the spare with clean intervals. -/
def seeking (sp k : Nat) (x : Spare) : State :=
  let s := (spared sp k).setSpare 0 x
  let s := s.setLane 0 3 { s.lane 0 3 with clean := 4096 }
  s.setLane 0 8 { s.lane 0 8 with clean := 4096 }

theorem witness_SpareLane_adaptation :
    (let s := seeking 1 15 { inPlace := true }
     spareState s 0 = 1 ∧ (s.spare 0).inPlace = true ∧ inBand s 0 0 = true ∧ inBand s 0 5 = false ∧ cleanRun s 0 8 = true) ∧
    (let s := seeking 3 3 { taken := true }
     spareState s 0 = 3 ∧ (s.spare 0).taken = true ∧ physical s 0 3 = some 3 ∧ cleanRun s 0 3 = true) ∧
    (let s := seeking 4 3 {}
     spareState s 0 = 4 ∧ physical s 0 3 = some 3) ∧
    LiveAt spareReadaptRule (spared 1 15) (Reg.SPARE_CMD 0) (spareWord 1 8) := by decide +kernel

theorem witness_PartitionResets_pins : perstInput host 0 = true ∧ perstInput (fabAt 0 host) 0 = false ∧
    (let s := pcieAt 0 1 0 (pcieAt 1 1 0 up)
     upstreamOf s.act 0 = some (0, 0)) := by decide +kernel

/-- L1 is asked for where the Active Set does not allow it; a port wakes from L0p. -/
theorem witness_LinkCommandsAndPower_rest :
    l1Ok host 4 = false ∧ longOnPort (portAt 4 { cmd := some (some 2) }) 1 0 = false ∧
    longOnPort { portAt 4 { cmd := some (some 2) } with dir := { ({} : Director) with longop := some ⟨.width 1 0, 0, true⟩ } } 1 0 = true := by
  decide +kernel
/-! ## The remaining clauses: links, the core, tunnels, engines -/

/-- Every reception that the table of R239 tells apart: framing lost, a packet before its turn, a packet again. -/
theorem witness_LinkPackets_receptions :
    ((linkAt 3 { lost := true }).lnk 0 0).lost = true ∧ (linkAt 1 {}).flState 0 0 = 1 ∧
    (let h : ShortHdr := { bseq := 0, back := 0, bound := 3, slot := 0 }
     ((takeBound 0 0 h (linkAt 3 { lost := true })).lnk 0 0).lost = false) ∧
    (let l : Link := { seq := 1, replay := [{ pkt := pkt 1 0 }], rplRun := some (0, 5) }
     carries (linkAt 3 l) 0 0 = true ∧ ((linkAt 3 l).lnk 0 0).rplRun.any (fun e => e.1 == 0) = true ∧
     carries (linkAt 5 l) 0 0 = false) ∧
    ((1 : Nat) + 2 ^ 16 - Tab.get 0 ((linkAt 3 {}).lnk 0 0).sent 0) % 2 ^ 16 ≤ 32767 ∧
    32767 < ((65535 : Nat) + 2 ^ 16 - Tab.get 0 ((linkAt 3 {}).lnk 0 0).sent 0) % 2 ^ 16 ∧
    (∀ r ∈ [0, 1], let s := linkAt 3 { pausing := some (0, 0, 0), rot := r, ctrl := [.retrainAck 0 0 0 0] }
     let p := slot1 0 0 (r == 1) (rotation 0 0 (toReserved 0 0 s)).2
     (p.2.lnk 0 0).pausing = some (0, 0, 0) ∧ p.1.body = .retrainAck 0 0 0 0) := by decide +kernel

/-- A port that pauses already, a port in TRAIN whose partner is none yet, and a partner that is not the declared one. -/
theorem witness_RetrainAndWidth_partners :
    ((linkAt 3 { pausing := some (0, 0, 0) }).lnk 0 0).pausing.isSome = true ∧ (linkAt 1 {}).flState 0 0 = 1 ∧
    ((linkAt 3 {}).lnk 0 0).pausing = none ∧ ((backTo 0 0 0 (linkAt 3 {})).lnk 0 0).bnes ≠ 1 ∧
    (let z := peered (linkAt 2 {})
     let y := ackTo 0 0 0 z
     y.flState 0 0 = 2 ∧ y.env = z.env ∧ ¬((8 : Nat) = (z.stnRec 0).pnode ∧ (3 : Nat) = (z.stnRec 0).pstn ∧ (0 : Nat) = 0)) := by
  decide +kernel

theorem witness_TimeExchanges_untimed :
    (linkAt 2 {}).flState 0 0 ≠ 3 ∧ 1 ≤ (linkAt 2 {}).flState 0 0 ∧
    (let l : Link := { tsT1 := some 5, tsTag := true }
     isParent (linkAt 3 l) 0 0 = true ∧ false ≠ ((linkAt 3 l).lnk 0 0).tsTag) ∧
    State.reset.regs.canon = true ∧ (10 : Int).natAbs ≤ 10 ∧ ¬(11 : Int).natAbs ≤ 10 ∧ (1000 : Int).natAbs ≤ 1000 ∧
    1000 < (1001 : Int).natAbs := by decide +kernel

/-- Stations 0 and 1 each have a cell for port 4 on plane A, asked for at 0 and at `t`. -/
def rivals (t : Nat) (g : Tab (Option Nat)) : State := core.onDp (fun d => { d with
  units := [(7, unitTo 4 1 (.tlp 0 0 mwr)), (8, { unitTo 4 1 (.tlp 0 0 mwr) with src := 1 })]
  ing := [(0, { flying := [(4, [cell0])] }), (1, { flying := [(4, [{ cell0 with uid := 8, at_ := t }])] })]
  granted := g })

/-- A unit of two cells, whose first is captured. -/
def halfway : State := core.onDp (fun d => { d with
  units := [(7, unitTo 4 2 (.tlp 0 0 mwr))]
  ing := [(0, { flying := [(4, [{ cell0 with captured := true }, { cell0 with csn := 1, idx := 1 }])] })] })

/-- Blocks in writing, waiting and in reading at queue 7 of group 48 of port 0. -/
def blocks (w r : Bool) : State :=
  let b : Block := { idx := 1, cells := [(7, 0)], writing := w, reading := r }
  core.onDp (fun d => { d with
    units := [(7, unitTo 0 1 (.pkt (pkt 1 0) none))]
    eport := [(0, { queues := [(qKey 48 7, { mid := [b, { b with idx := 2 }] })] })] })

/-- A packet of two cells one of which is here, begun at port 0. -/
def cutShort : State := core.onDp (fun d => { d with
  units := [(7, unitTo 0 2 (.pkt (pkt 1 0) none))]
  eport := [(0, { queues := [(qKey 48 3, { tail := [(7, 0)] })], sending := .begun 7 48 3 })] })

theorem witness_CellsAndEgressQueues_rest :
    (mayGrant (rivals 0 []) 1 0 0 0 = true ∧ mayGrant (rivals 0 [(2, some 0)]) 1 0 0 0 = true ∧
     mayGrant (rivals 5 []) 1 0 1 5 = false ∧ (rivals 5 []).livB Reg.GLB_CORE_STAT Fld.GLB_CORE_STAT_DOWN = false ∧
     (Tab.get [] ((rivals 5 []).ing 1).flying 4).find? (fun c => c.plane == 0 && !c.captured) = some { cell0 with uid := 8, at_ := 5 }) ∧
    (takeFirst (fun (c : Flying) => c.plane == 0 && c.captured) (Tab.get [] (halfway.ing 0).flying 4) =
       some ({ cell0 with captured := true }, [{ cell0 with csn := 1, idx := 1 }])) ∧
    ((selectQueue served 0).1 = some (qKey 48 3) ∧ headUnit served 0 (qKey 48 3) = some 7 ∧ sendAside 0 served = none) ∧
    ((sendAside 4 standing).isSome = true ∧ portSends standing 4 = true ∧ (standing.eport 4).sending = .none) ∧
    ((cutShort.eport 0).sending = .begun 7 48 3 ∧ hereCells cutShort 0 (qKey 48 3) 7 = 1 ∧
     cutShort.unit 7 = some (unitTo 0 2 (.pkt (pkt 1 0) none))) ∧
    (let s := (queued 0 (.pkt (pkt 1 0) none) (.stomped 7 48 3)).onDp (fun d => { d with links := [(0, { cumRx := [(0, some 100)] })] })
     fabReady s 0 (unitTo 0 1 (.pkt (pkt 1 0) none)) = true ∧ fabCredit s 0 (unitTo 0 1 (.pkt (pkt 1 0) none)) = true ∧
     hereCells s 0 (qKey 48 3) 7 = 1) ∧
    fabCredit (queued 0 (.pkt (pkt 1 0) none) (.stomped 7 48 3)) 0 (unitTo 0 1 (.pkt (pkt 1 0) none)) = false ∧
    spillTurn (blocks true false) 0 = some (qKey 48 7) ∧ spillTurn (blocks false false) 0 = none ∧
    refillTurn (blocks false false) 0 = some (qKey 48 7) ∧ refillTurn (blocks true false) 0 = none ∧
    (((blocks false true).eport 0).sending = .none ∧
     (∃ b b2, ((blocks false true).eq 0 (qKey 48 7)).mid = b :: b2 :: [] ∧ b.reading = true)) := by
  refine ⟨?_, ?_, ?_, ?_, ?_, ?_, ?_, ?_, ?_, ?_, ?_, ?_, ⟨_, _, rfl, rfl⟩⟩ <;> decide +kernel

/-- A test of plane B that does not restore it; plane B is being removed while a cell of it is in flight. -/
theorem witness_PlanesAndSpeed_rest :
    ((planes 1 1).onDp (fun d => { d with plane := .test 1 false })).dp.plane = .test 1 false ∧
    (let s := (flying { cell0 with plane := 1 }).onDp (fun d => { d with removal := some 1 })
     s.dp.removal = some 1 ∧ s.dp.ing.any (fun i => i.2.flying.any (fun e => e.2.any (fun c => c.plane == 1))) = true) ∧
    (planeIn (planes 1 1) 0 = true ∧ planeIn (planes 1 1) 1 = true ∧ (planes 1 1).dp.removal ≠ some 0) ∧
    ((planes 1 1).onDp (fun d => { d with removal := some 0 })).dp.removal = some (1 - 1) := by decide +kernel

/-- The route to node 7 leads to port 0 of station 0, whose queue of short packets holds `k` cells. -/
def routeFull (k : Nat) : State := ((linkAt 3 {}).setAct (Reg.GLB_ROUTE 7) 0x80).onDp (fun d => { d with
  eport := [(0, { queues := [(qKey 48 8, { tail := List.replicate k (7, 0) })] })] })

/-- No room for a routed packet; a second segment without a first; a level that does not change; nothing exported. -/
theorem witness_TunnelPackets_rest :
    (fabPort (routeFull 12).act 0 0 = true ∧ routedRoom (routeFull 12) 7 = false ∧ routedRoom (routeFull 11) 7 = true ∧
     1 ≤ (routeFull 12).flState 0 0 ∧ 7 ≠ (routeFull 12).node) ∧
    ((linkAt 3 {}).lnk 0 0).seg0 = none ∧
    ((linkAt 3 { seg0 := some (.pfn0 1 7 0 0 0 0) }).lnk 0 0).seg0 = some (.pfn0 1 7 0 0 0 0) ∧
    (let x : Wire := { level := true, last := some true }
     wireOf (wired x) 3 = x ∧ x.last = some true) ∧
    isSourceWire up 3 = false ∧ isExported (mgmtLost 3).act 4 = false ∧
    (let s := fab (fun f => { f with mrx := List.replicate 1023 (0, false) }) (mgmtWaits 2)
     1024 < s.dp.fab.mrx.length + [(9 : DWord)].length + 1) ∧
    (fab (fun f => { f with locks := [{ lock0 with backoff := none }] }) host).dp.fab.locks.find? (fun l => l.backoff.isSome) = none ∧
    (setLock 4 .free host).eport 4 = { host.eport 4 with lock := .free } ∧
    (let s := (setWithdrawn 0 0 true (linkAt 3 {}))
     withdrawn s 0 0 = true ∧ s.flState 0 0 = 3) := by decide +kernel

/-- A reassembly entry whose region has an owner. -/
def ownedReasm : State := eng (fun e => { e with reasm := [(0, [reasm0 .open_])] }) (keyed 0 1 host)

theorem witness_Engines_rest :
    (let k := onReasm 0 5 1 2 (fun r => { r with st := .held, result := some 0x16 })
       ((ownedReasm.reach ((reasm0 .open_).since + 2000000)).bump (Reg.REASM_TOCNT 0))
     findReasm ownedReasm 0 5 1 2 = some (reasm0 .open_) ∧ keyState k 0 ≠ 0 ∧ ownerPart k (keyOwner k 0) = some 0) ∧
    (engineRoom (startable.setLivF (Reg.BUF_ING 0) Fld.BUF_ING_INTUSE 8000) 0 = false) ∧
    (let s := eng (fun e => { e with keys := { e.keys with wait := [(5, .desc 0 1)] } }) host
     (takeWay 5 (keyBadNow 5 s)).isSome = true) ∧
    (Tab.find (eng (fun e => { e with tmr := [(15, ⟨1, 3, 0, false, 100, none⟩)] }) host).eng.tmr 15).bind (fun m => m.next) = none ∧
    (∀ p ∈ ([(3, 1), (4, 2)] : List (Nat × Nat)),
      LiveAt (sliceRule [p.1]) (sliced { st := p.2 }) Reg.GLB_SLICECMD (sliceWord p.1) ∧
      sliceCode (sliced { st := p.2 }) 51 4095 p.1 = 3) ∧
    (sliceBound host 4095 = false ∧ slicePart (sliced {}) 4095 ≠ 3 ∧ sliceCode (sliced {}) 3 4095 2 = 1) ∧
    subOf (eng (fun e => { e with io := { e.io with jobs := [(3, { job0 with subs := [{ addr := 0, len := 4, sent := none }] })] } }) host) 192 =
      some ({ job0 with subs := [{ addr := 0, len := 4, sent := none }] }, { addr := 0, len := 4, sent := none }) := by decide +kernel
end Sys2Proof.Tests
end

section
/-! PROOFS. The Director: how an instruction of the executing take runs, how the take goes on or ends, what an answer
leaves unchanged, how a take begins, and the statements about taking, branching, reading registers and sealing. -/

namespace Sys2Proof.Machine

variable {s u : State} {t : Take} {w op rsv : Nat}

/-! ## The effects of the commands named here -/

theorem exec_takeSelect (ue : Bool) (s : State) : exec (.takeSelect ue) s = execTakeSelect ue s := rfl
theorem exec_brc (s : State) : exec .brc s = execBrc s := rfl
theorem exec_rdreg (s : State) : exec .rdreg s = execRdreg s := rfl
theorem exec_wrreg (s : State) : exec .wrreg s = execWrreg s := rfl
theorem exec_cut (s : State) : exec .cut s = execCut s := rfl
theorem exec_cutat (s : State) : exec .cutat s = execCutat s := rfl
theorem exec_abortCancel (s : State) : exec .abortCancel s = execAbortCancel s := rfl

/-! ## Running one instruction (R38) -/

/-- The take that can execute is the executing take. -/
theorem take_of_ready (h : ready s = some t) : s.dir.take = some t := by
  unfold ready at h
  split at h
  · next t' ht _ =>
    split at h
    · rw [ht, ← Option.some.inj h]
    · cases h
  · cases h

/-- The take that fetches an instruction is the executing take. -/
theorem take_of_fetch (h : fetch s = some (t, w)) : s.dir.take = some t := by
  unfold fetch at h
  split at h
  · cases h
  · next t' ht =>
    obtain ⟨rfl, -⟩ := Prod.mk.inj (Option.some.inj h)
    exact take_of_ready ht

/-- An instruction at the program counter runs its meaning. -/
theorem insn_of_atInsn (h : AtInsn s t w op rsv) (sem : Take → Nat → State → State) (sel : Nat → Bool)
    (hsel : sel w = true) : insn op rsv sem s sel = .next (sem t w s) := by
  obtain ⟨hf, hop, hrsv⟩ := h
  simp only [insn, hf, hop, hsel, hrsv, and_self, if_true, ne_eq, not_true_eq_false, if_false]

/-! ## Going on and ending -/

theorem endTake_eq_endsWith (st : Status) (h : s.dir.take = some t) : endTake st s = endsWith t st s := by
  simp only [endTake, endWith, h, endsWith]

theorem goTo_of_inside {pc : Int} (s : State) (h : 0 ≤ pc) (h' : pc < t.code.length) :
    goTo t pc s = goesOn t pc.toNat s := by
  rw [goTo, if_pos ⟨h, h'⟩, goesOn]

theorem goTo_of_outside {pc : Int} (s : State) (h : ¬(0 ≤ pc ∧ pc < t.code.length)) :
    goTo t pc s = endsWith t .illegal s := by
  rw [goTo, if_neg h, endTake_eq_endsWith .illegal (s.setTake_take (some t))]
  rfl

theorem retire_of_lt (s : State) (h : t.pc + 1 < t.code.length) : retire t s = goesOn t (t.pc + 1) s := by
  rw [retire, if_pos h, goesOn]

@[simp] theorem Take.setG_pc (t : Take) (i : Nat) (v : DWord) : (t.setG i v).pc = t.pc := by
  unfold Take.setG
  split <;> rfl

@[simp] theorem Take.setG_code (t : Take) (i : Nat) (v : DWord) : (t.setG i v).code = t.code := by
  unfold Take.setG
  split <;> rfl

theorem retireG_of_lt (d : Nat) (v : DWord) (s : State) (h : t.pc + 1 < t.code.length) :
    retireG t d v s = goesOn (t.setG d v) (t.pc + 1) s := by
  rw [retireG, retire_of_lt s (by simpa using h), Take.setG_pc]

/-! ## What an answer leaves unchanged (R62) -/

/-- Counting, events and log entries leave the Director's record. -/
theorem OnlyLog.dir (h : OnlyLog s u) : u.dir = s.dir := by
  obtain ⟨_, _, _, _, _, _, rfl⟩ := h
  rfl

/-- Counting, events and log entries leave the Shadow Set. -/
theorem OnlyLog.shadow (h : OnlyLog s u) : u.regs.shadow = s.regs.shadow := by
  obtain ⟨_, _, _, _, _, _, rfl⟩ := h
  rfl

/-- The boot ROM's reading of an answer touches mailbox 51 and its own record alone. -/
theorem bootAnswer_frame (code : Nat) (s : State) :
    (bootAnswer code s).dir = s.dir ∧ (bootAnswer code s).regs = s.regs := by
  unfold bootAnswer
  cases hl : s.boot.left with
  | nil => simp [hl]
  | cons p l =>
    by_cases hc : code = 0
    · simp [hl, hc]
    · simp [hl, hc]

/-- An answer counts and moves words of mailboxes; the Director's record and the Shadow Set stay. -/
theorem answerTake_frame (m serial : Nat) (st : Status) (pc : Nat) (results : List DWord) (s : State) :
    (answerTake m serial st pc results s).dir = s.dir ∧
    (answerTake m serial st pc results s).regs.shadow = s.regs.shadow := by
  unfold answerTake
  extract_lets b s1 s2 s3
  have hlog : OnlyLog s2 s3 :=
    (((onlyLive_bump s2 _ _).trans (onlyLive_perf _ _ _ _ _ _)).events.trans (onlyIntx_intx _).events).log
  have h3 : s3.dir = s.dir ∧ s3.regs.shadow = s.regs.shadow := ⟨hlog.dir, hlog.shadow⟩
  clear_value s3
  split
  · obtain ⟨hdir, hregs⟩ := bootAnswer_frame st.code s3
    exact ⟨hdir.trans h3.1, hregs ▸ h3.2⟩
  · exact h3

/-- An uncorrectable Drift error is counted, logged and reported. -/
theorem onlyEvents_driftUe (store loc : Nat) (s : State) : OnlyEvents s (driftUe store loc s) :=
  ((onlyLive_bump s _ _).trans ((onlyLive_setLivN _ _ _).trans (onlyLive_setLivN _ _ _))).events.trans
    (onlyEvents_devErr _ _)

theorem spillUe_dir (m : Nat) (s : State) : (spillUe m s).dir = s.dir := by
  unfold spillUe
  extract_lets q
  split
  · exact (onlyEvents_driftUe _ _ _).log.dir
  · rfl

/-! ## Beginning a take (R34 to R37) -/

/-- The general registers zero, the return stack and the journal empty, the first instruction next and nothing waited
for (R37). -/
def Take.Fresh (t : Take) : Prop :=
  (∀ i, t.g i = 0) ∧ t.stack = [] ∧ t.journal = [] ∧ t.pc = 0 ∧ t.wait = .none

/-- The take of the packet words `ws` of mailbox `m`, as it begins in the state `s` (R33, R37). -/
def newTake (m : Nat) (ws : List MWord) (s : State) : Take :=
  let h := (nth { word := 0, last := true } ws 0).word.toNat
  { origin := m, serial := bits h 0 32, code := (bodyCode (ws.drop 1)).take (bits h 32 13)
    startFt := s.ft, startNow := s.now }

theorem newTake_fresh (m : Nat) (ws : List MWord) (s : State) : (newTake m ws s).Fresh :=
  ⟨fun i => by simp [newTake, Take.g, Tab.get], rfl, rfl, rfl, rfl⟩

/-- The serial number in the header of the oldest packet of mailbox `m` (R33). -/
def firstSerial (m : Nat) (s : State) : Nat :=
  bits (nth { word := 0, last := true } (firstPacket (s.mb m).inq).1 0).word.toNat 0 32

/-- The Director turns to mailbox `m`, its read latches clear (R36, R592). -/
def turnsTo (m : Nat) (s : State) : State :=
  { s with dir := { s.dir with last := m }, latches := s.latches.filter (fun e => !(e.1 == .director)) }

/-- The three ways of the oldest packet of mailbox `m`: malformed, a duplicate, or a take (R34, R35, R37). -/
theorem beginTake_eq (m : Nat) (s : State) :
    beginTake m s =
      if malformed (firstPacket (s.mb m).inq).1 then answerTake m (firstSerial m s) .malformed 0 [] (turnsTo m s)
      else if firstSerial m s = (s.liv (Reg.MBOX_LASTSER m)).toNat then
        answerTake m (firstSerial m s) .duplicate 0 [] (turnsTo m s)
      else ((turnsTo m s).setLivN (Reg.MBOX_LASTSER m) (firstSerial m s)).setTake
        (some (newTake m (firstPacket (s.mb m).inq).1 s)) := rfl

/-- A packet that is neither malformed nor a duplicate begins as the executing take, with its words left in place. -/
theorem beginTake_of_new {m : Nat} (hm : malformed (firstPacket (s.mb m).inq).1 = false)
    (hd : firstSerial m s ≠ (s.liv (Reg.MBOX_LASTSER m)).toNat) :
    (beginTake m s).dir.take = some (newTake m (firstPacket (s.mb m).inq).1 s) ∧ (beginTake m s).dir.last = m ∧
    (beginTake m s).mbox = s.mbox := by
  rw [beginTake_eq, if_neg (by simp [hm]), if_neg hd]
  exact ⟨rfl, rfl, rfl⟩

/-- Where no take executes, the one that executes once a packet has been taken up is the packet's own. -/
theorem eq_newTake_of_beginTake (m : Nat) (hs : s.dir.take = none) (ht : (beginTake m s).dir.take = some t) :
    t = newTake m (firstPacket (s.mb m).inq).1 s := by
  have hnone : (turnsTo m s).dir.take = none := hs
  rw [beginTake_eq] at ht
  split at ht
  · simp [(answerTake_frame ..).1, hnone] at ht
  · split at ht
    · simp [(answerTake_frame ..).1, hnone] at ht
    · exact (Option.some.inj ht).symm

/-! ## Selecting a take (R36) -/

theorem canServe_iff (s : State) (m : Nat) :
    canServe s m = true ↔ 0 < pktCount (s.mb m).inq ∧ (s.mb m).outq.length + 32 ≤ 4096 := by
  simp [canServe, Nat.pos_iff_ne_zero]

theorem take_none_of_dirFree (h : dirFree s = true) : s.dir.take = none := by
  simp only [dirFree, Bool.and_eq_true, Option.isNone_iff_eq_none] at h
  tauto

/-- The least number below the bound that the predicate holds of. -/
theorem firstBelow_eq_some {n k : Nat} {q : Nat → Bool} (hk : k < n) (hq : q k = true) (hlt : ∀ j < k, q j = false) :
    firstBelow n q = some k := by
  rw [firstBelow, List.find?_range_eq_some]
  exact ⟨hq, by simpa using hk, fun j hj => by simp [hlt j hj]⟩

/-- The free Director takes up the first mailbox in turn that it can serve. -/
theorem execTakeSelect_of_first {k : Nat} (hfree : dirFree s = true) (hk : k < 64)
    (hserve : canServe s ((s.dir.last + 1 + k) % 64) = true)
    (hlt : ∀ j < k, canServe s ((s.dir.last + 1 + j) % 64) = false) :
    execTakeSelect false s = .next (beginTake ((s.dir.last + 1 + k) % 64) s) := by
  simp [execTakeSelect, hfree, firstBelow_eq_some hk hserve hlt]

/-- A take that executes once the free Director has selected is one that has just begun. -/
theorem fresh_of_execTakeSelect {ue : Bool} (hfree : dirFree s = true) (hu : execTakeSelect ue s = .next u)
    (ht : u.dir.take = some t) : t.Fresh := by
  have hnone := take_none_of_dirFree hfree
  unfold execTakeSelect at hu
  rw [if_pos hfree] at hu
  split at hu
  · cases hu
    cases hnone ▸ ht
  · next i _ =>
    cases hu
    have hspill : (if ue then spillUe ((s.dir.last + 1 + i) % 64) s else s).dir.take = none := by
      cases ue
      · exact hnone
      · simpa [spillUe_dir] using hnone
    exact eq_newTake_of_beginTake _ hspill ht ▸ newTake_fresh _ _ _

/-- Settles O9: the first mailbox in turn is served, and a take begins as `newTake`. -/
theorem takesBegin : Obligations.TakesBegin := by
  constructor
  · intro s k hfree hk hskip m ws hpkt hroom hwhole hnew
    have hserve : canServe s m = true := (canServe_iff s m).2 ⟨hpkt, hroom⟩
    have hlt : ∀ j < k, canServe s ((s.dir.last + 1 + j) % 64) = false := fun j hj =>
      Bool.eq_false_iff.2 fun h => hskip j hj ((canServe_iff s _).1 h)
    obtain ⟨htake, hlast, hmbox⟩ := beginTake_of_new hwhole hnew
    exact ⟨beginTake m s, newTake m ws s, execTakeSelect_of_first hfree hk hserve hlt, htake, rfl, hlast, rfl, hmbox⟩
  · intro s u t ue hfree hu ht
    exact fresh_of_execTakeSelect hfree hu ht

/-! ## Branches (R40, R41) -/

/-- What each condition of BRC asks (R41). -/
theorem condHolds_iff {c : Nat} (hc : c < 8) (a b : DWord) :
    condHolds c a b = true ↔
      (c = 0 ∧ a = b) ∨ (c = 1 ∧ a ≠ b) ∨ (c = 2 ∧ a.toNat < b.toNat) ∨ (c = 3 ∧ a.toNat ≥ b.toNat) ∨
      (c = 4 ∧ a.toInt < b.toInt) ∨ (c = 5 ∧ a.toInt ≥ b.toInt) ∨ (c = 6 ∧ a &&& b ≠ 0) ∨ (c = 7 ∧ a &&& b = 0) := by
  interval_cases c <;> simp [condHolds]

/-- A BRC whose condition holds goes to its target; any other retires. -/
theorem execBrc_of_atInsn (h : AtInsn s t w 0x1D 0) :
    execBrc s = .next (if condHolds (bits w 13 3) (t.g (fD w)) (t.g (fA w)) then goTo t (target t 13 (bits w 0 13)) s
      else retire t s) :=
  insn_of_atInsn h _ _ rfl

/-- Settles O4: `condHolds` is the table of R41, and `goTo` and `retire` say where the take goes on. -/
theorem brcConditions : Obligations.BrcConditions := by
  intro s t w h hpc a b dst c taken
  have hcond : condHolds c a b = true ↔ taken := condHolds_iff (Nat.mod_lt _ (by decide)) a b
  rw [exec_brc, execBrc_of_atInsn h]
  refine ⟨fun htaken hlo hhi => ?_, fun htaken hout => ?_, fun hnot => ?_⟩
  · rw [if_pos (hcond.2 htaken)]
    exact congrArg _ (goTo_of_inside s hlo hhi)
  · rw [if_pos (hcond.2 htaken)]
    exact congrArg _ (goTo_of_outside s hout)
  · rw [if_neg (mt hcond.1 hnot), retire_of_lt s hpc]

/-! ## The value of a word (R45, R189, R592) -/

theorem readWord_of_muted {a : Nat} (h : mutedIn s.act a = true) : readWord s a = resetVal a := by
  rw [readWord, if_pos h]

theorem readWord_of_shadowed {a : Nat} (h : mutedIn s.act a = false) (hs : isShadowed a = true) :
    readWord s a = s.act a := by
  rw [readWord, if_neg (by simp [h]), if_pos hs]

theorem readWord_of_live {a : Nat} (h : mutedIn s.act a = false) (hs : isShadowed a = false) :
    readWord s a = s.rd a := by
  rw [readWord, if_neg (by simp [h]), if_neg (by simp [hs])]

/-- The addresses of the port registers of a station. -/
theorem mutedIn_range {v : View} {a : Nat} (h : mutedIn v a = true) :
    0x100000 ≤ a ∧ a < 0x280000 ∧ 0x1100 ≤ a % 0x10000 ∧ a % 0x10000 < 0x1200 := by
  simp only [mutedIn, Bool.and_eq_true, decide_eq_true_eq] at h
  tauto

/-- A low word lies in the global block, is the energy of a slot, or lies above the stations (R592). -/
theorem partner_range {a h : Nat} (hp : partner a = some h) :
    a < 0x100000 ∨ a % 0x10000 = 0x2844 ∨ 0x280000 ≤ a := by
  by_contra hn
  push Not at hn
  obtain ⟨hlo, hoff, hhi⟩ := hn
  have hglb : a ≠ Reg.GLB_FT_NOW_LO ∧ a ≠ Reg.GLB_MRX_LO := by unfold Reg.GLB_FT_NOW_LO Reg.GLB_MRX_LO; omega
  have hrail : ¬Reg.FCST_RAIL 0 0 ≤ a := by unfold Reg.FCST_RAIL; omega
  have hunit : ¬0x780000 ≤ a / 0x200 * 0x200 := by omega
  simp [partner, hglb.1, hglb.2, hoff, hrail, hunit] at hp

/-- A port register is no low word. -/
theorem partner_of_muted {v : View} {a : Nat} (h : mutedIn v a = true) : partner a = none := by
  obtain ⟨hlo, hhi, hoff, hoff'⟩ := mutedIn_range h
  by_contra hp
  obtain ⟨b, hb⟩ := Option.ne_none_iff_exists'.1 hp
  have := partner_range hb
  omega

/-- A port register is no high word. -/
theorem isHigh_of_muted {v : View} {a : Nat} (h : mutedIn v a = true) : isHigh a = false := by
  obtain ⟨hlo, hhi, hoff, hoff'⟩ := mutedIn_range h
  by_contra hi
  simp only [isHigh, Bool.not_eq_false, Bool.and_eq_true, beq_iff_eq] at hi
  have := partner_range hi.2
  omega

/-- A low word is no port register. -/
theorem mutedIn_of_partner (v : View) {a h : Nat} (hp : partner a = some h) : mutedIn v a = false :=
  Bool.eq_false_iff.2 fun hm => by simp [partner_of_muted hm] at hp

/-! ## One read (R592) -/

theorem readOne_of_partner (path : Path) {a h : Nat} (hp : partner a = some h) :
    readOne path a s = (readWord s a, readTakes a (s.latch path h (readWord s h))) := by
  simp [readOne, hp]

theorem readOne_of_latched (path : Path) {a : Nat} {v : Word} (hp : partner a = none) (hi : isHigh a = true)
    (hv : s.latched path a = some v) : readOne path a s = (v, s.unlatch path a) := by
  simp [readOne, hp, hi, hv]

theorem readOne_of_plain (path : Path) {a : Nat} (hp : partner a = none) (hi : isHigh a = false) :
    readOne path a s = (readWord s a, s) := by
  simp [readOne, hp, hi]

/-! ## RDREG (R42, R44, R45) -/

theorem takeRead_of_shadow {a : Nat} (hs : isShadowed a = true) :
    takeRead t a true s =
      (if mutedIn (overlay s.shd t.journal) a then resetVal a else overlay s.shd t.journal a, s) := by
  simp [takeRead, hs]

theorem takeRead_of_active {a : Nat} (hs : isShadowed a = true) : takeRead t a false s = (readWord s a, s) := by
  simp [takeRead, hs]

theorem takeRead_of_live {a : Nat} (sh : Bool) (hs : isShadowed a = false) :
    takeRead t a sh s = readOne .director a s := by
  simp [takeRead, hs]

/-- A port register of the upper member of a pair reads as reset, from the Active Set and live (R189). -/
theorem takeRead_of_muted {a : Nat} {sh : Bool} (hm : mutedIn s.act a = true) (hsel : (isShadowed a && sh) = false) :
    takeRead t a sh s = (resetVal a, s) := by
  cases hs : isShadowed a with
  | true =>
    obtain rfl : sh = false := by simpa [hs] using hsel
    rw [takeRead_of_active hs, readWord_of_muted hm]
  | false =>
    rw [takeRead_of_live sh hs, readOne_of_plain _ (partner_of_muted hm) (isHigh_of_muted hm), readWord_of_muted hm]

/-- An RDREG of a word that is there and may be read gives Gd what its take sees of the word (R45, R540). -/
theorem execRdreg_of_allowed (h : AtInsn s t w 0x14 0) (hpc : t.pc + 1 < t.code.length)
    (hrow : (regRow (xAddr t w)).isSome = true) (hprot : protRefuses s t.origin (xAddr t w) false = none) {v : Word}
    {s' : State} (hread : takeRead t (xAddr t w) (bit w 15) s = (v, s')) :
    execRdreg s = .next (goesOn (t.setG (fD w) ((viewed s t.origin (xAddr t w) v).setWidth 64)) (t.pc + 1) s') := by
  rw [execRdreg, insn_of_atInsn h _ _ rfl]
  simp only [Option.isNone_eq_false_iff.2 hrow, Bool.false_eq_true, if_false, hprot, hread, retireG_of_lt _ _ _ hpc]

/-- Settles O10: each way of reading is one equation of `takeRead`. -/
theorem rdregValues : Obligations.RdregValues := by
  intro s t w h hpc a done hrow hprot
  rw [exec_rdreg]
  have read {v : Word} {s' : State} (hread : takeRead t a (bit w 15) s = (v, s')) : execRdreg s = done v s' :=
    execRdreg_of_allowed h hpc hrow hprot hread
  refine ⟨fun hs hbit hm => read ?_, fun hs hbit hm => read ?_, fun hs hbit hm => read ?_, fun hm hsel => read ?_,
    fun hs hm hp hi => read ?_, fun b hs hp => read ?_, fun v hs hp hi hv => read ?_⟩
  · rw [hbit, takeRead_of_active hs, readWord_of_shadowed hm hs]
  · rw [hbit, takeRead_of_shadow hs, hm]
    rfl
  · rw [hbit, takeRead_of_shadow hs, hm]
    rfl
  · exact takeRead_of_muted hm hsel
  · rw [takeRead_of_live _ hs, readOne_of_plain _ hp hi, readWord_of_live hm hs]
  · rw [takeRead_of_live _ hs, readOne_of_partner _ hp, readWord_of_live (mutedIn_of_partner _ hp) hs]
  · rw [takeRead_of_live _ hs, readOne_of_latched _ hp hi hv]

/-! ## Sealing (R53) and cuts by user origins (R74) -/

/-- The journalled write of a word that its take may write meets the seal. -/
theorem execWrreg_of_sealed {c : CutAt} {r : RegRow} (hcut : s.dir.cutAt = some c) (h : AtInsn s t w 0x15 0x8000)
    (hrow : regRow (xAddr t w) = some r) (htw : r.tw ≠ 0) (hprot : protRefuses s t.origin (xAddr t w) true = none)
    (hman : (isUser t.origin && managerOnly (xAddr t w)) = false) : execWrreg s = .next (endsWith t .sealed s) := by
  rw [execWrreg, insn_of_atInsn h _ _ rfl]
  simp [hrow, htw, hprot, hman, sealed, hcut, endTake_eq_endsWith .sealed (take_of_fetch h.1)]

theorem cutTests_of_pending {c : CutAt} (hcut : s.dir.cutAt = some c) (ht : s.dir.take = some t)
    (go : State → State) : cutTests t go s = endsWith t .sealed s := by
  simp [cutTests, hcut, endTake_eq_endsWith .sealed ht]

theorem cutTests_of_foreign (hcut : s.dir.cutAt = none) (ht : s.dir.take = some t) (hf : cutForeign s t = true)
    (go : State → State) : cutTests t go s = endsWith t .refused s := by
  simp [cutTests, hcut, hf, endTake_eq_endsWith .refused ht]

theorem cutForeign_of_user (ho : t.origin < 48) (hu : bit (s.act Reg.GLB_CUTCTL).toNat 0 = false) :
    cutForeign s t = true := by
  simpa [cutForeign, bit, ho] using hu

theorem execCutat_of_pending {c : CutAt} (hcut : s.dir.cutAt = some c) (h : AtInsn s t w 0x2D 0x3E0FFFF) :
    execCutat s = .next (endsWith t .sealed s) := by
  rw [execCutat, insn_of_atInsn h _ _ rfl]
  simp [hcut, endTake_eq_endsWith .sealed (take_of_fetch h.1)]

/-- A CUTAT whose time is neither past nor too far ahead comes to the tests of a cut. -/
theorem execCutat_of_foreign (hcut : s.dir.cutAt = none) (h : AtInsn s t w 0x2D 0x3E0FFFF)
    (hlate : s.ft < (t.g (fA w)).toNat) (hsoon : (t.g (fA w)).toNat ≤ s.ft + 2 ^ 32) (hf : cutForeign s t = true) :
    execCutat s = .next (endsWith t .refused s) := by
  rw [execCutat, insn_of_atInsn h _ _ rfl]
  simp only [hcut, Option.isSome_none, Bool.false_eq_true, if_false, if_neg (Nat.not_le.2 hlate),
    if_neg (Nat.not_lt.2 hsoon), cutTests_of_foreign hcut (take_of_fetch h.1) hf]

/-! ## ABORT with C = 1 (R53): nothing pends, the take may cancel, or it may not -/

/-- A take that retires an instruction, or ends past its last one, leaves the pending CUTAT and the Shadow Set. -/
theorem retire_frame (t : Take) (s : State) :
    (retire t s).dir.cutAt = s.dir.cutAt ∧ (retire t s).regs.shadow = s.regs.shadow := by
  have hcount (u : State) : OnlyLog u (countInstr t u) := (onlyLive_countInstr t u).events.log
  by_cases h : t.pc + 1 < t.code.length
  · rw [retire, if_pos h, (hcount _).dir, (hcount _).shadow]
    exact ⟨rfl, rfl⟩
  · have ht : (countInstr t (s.setTake (some t))).dir.take = some t := by rw [(hcount _).dir]; rfl
    rw [retire, if_neg h, endTake_eq_endsWith .illegal ht, endsWith, (answerTake_frame ..).1, (answerTake_frame ..).2]
    simp [(hcount _).dir, (hcount _).shadow]

theorem retireMark_frame (t : Take) (s : State) :
    (retireMark t s).dir.cutAt = s.dir.cutAt ∧ (retireMark t s).regs.shadow = s.regs.shadow := by
  unfold retireMark
  extract_lets s1
  cases s1.dir.take with
  | none => exact retire_frame t s
  | some t' => exact retire_frame t s

/-- The pending CUTAT is taken away and the CUTAT_CANCEL entry logged (R53). -/
def cancelled (t : Take) (s : State) : State :=
  ({ s with dir := { s.dir with cutAt := none } } : State).log
    { origin := t.origin, serial := t.serial, kind := 6, pc := t.pc, new := cutTime s }

theorem cancelled_frame (t : Take) (s : State) :
    (cancelled t s).dir.cutAt = none ∧ (cancelled t s).regs.shadow = s.regs.shadow := by
  have h : OnlyLog _ (cancelled t s) := onlyLog_log _ _
  exact ⟨by rw [h.dir], h.shadow⟩

theorem execAbortCancel_of_none (hcut : s.dir.cutAt = none) (h : AtInsn s t w 0x2E 0x3FFFFFE) (hc : bit w 0 = true) :
    execAbortCancel s = .next (retire t s) := by
  rw [execAbortCancel, insn_of_atInsn h _ _ hc]
  simp only [hcut]

theorem execAbortCancel_of_may {c : CutAt} (hcut : s.dir.cutAt = some c) (h : AtInsn s t w 0x2E 0x3FFFFFE)
    (hc : bit w 0 = true) (hmay : t.origin = c.origin ∨ (48 ≤ t.origin ∧ t.origin ≤ 55)) :
    execAbortCancel s = .next (retireMark t (cancelled t s)) := by
  rw [execAbortCancel, insn_of_atInsn h _ _ hc]
  simp only [hcut, if_pos hmay]
  rfl

theorem execAbortCancel_of_mayNot {c : CutAt} (hcut : s.dir.cutAt = some c) (h : AtInsn s t w 0x2E 0x3FFFFFE)
    (hc : bit w 0 = true) (hmay : ¬(t.origin = c.origin ∨ (48 ≤ t.origin ∧ t.origin ≤ 55))) :
    execAbortCancel s = .next (endsWith t .protect s) := by
  rw [execAbortCancel, insn_of_atInsn h _ _ hc]
  simp only [hcut, if_neg hmay, endTake_eq_endsWith .protect (take_of_fetch h.1)]

/-! ## GLB_DIRSTAT (R67) -/

theorem rd_dirStat (s : State) : s.rd Reg.GLB_DIRSTAT = BitVec.ofNat 32 (dirStat s) := by
  simp [State.rd, glbWord, Reg.GLB_DIRSTAT]

theorem b2n_lt_two (b : Bool) : b2n b < 2 := by cases b <;> decide

/-- BUSY, TAKE and CUTPEND are the three lowest bits of GLB_DIRSTAT; the fields above lie at multiples of 8. -/
theorem dirStat_low (s : State) :
    dirStat s % 8 = b2n s.dir.longop.isSome + 2 * b2n s.dir.take.isSome + 4 * b2n s.dir.cutAt.isSome := by
  have hlong := b2n_lt_two s.dir.longop.isSome
  have htake := b2n_lt_two s.dir.take.isSome
  have hcut := b2n_lt_two s.dir.cutAt.isSome
  unfold dirStat
  split <;> split <;> omega

/-- GLB_DIRSTAT.CUTPEND shows whether a CUTAT is pending. -/
theorem cutPend_eq (s : State) : bit (s.rd Reg.GLB_DIRSTAT).toNat 2 = s.dir.cutAt.isSome := by
  have hlong := b2n_lt_two s.dir.longop.isSome
  have htake := b2n_lt_two s.dir.take.isSome
  have hlow := dirStat_low s
  have hpend : dirStat s % 2 ^ 32 / 2 ^ 2 % 2 = b2n s.dir.cutAt.isSome := by
    have hcut := b2n_lt_two s.dir.cutAt.isSome
    omega
  rw [rd_dirStat, BitVec.toNat_ofNat, bit, hpend]
  cases s.dir.cutAt.isSome <;> rfl

/-- Settles O16: each ending is the equation of its command where a CUTAT pends, or where a user origin may not cut. -/
theorem sealedWhileCutPends : Obligations.SealedWhileCutPends := by
  constructor
  · intro s t w
    constructor
    · intro c hcut
      refine ⟨fun r h hrow htw hprot hman => execWrreg_of_sealed hcut h hrow htw hprot hman, fun h => ?_,
        execCutat_of_pending hcut, fun h hc hmay => ?_, execAbortCancel_of_mayNot hcut, ?_⟩
      · rw [exec_cut, execCut, insn_of_atInsn h _ _ rfl, cutTests_of_pending hcut (take_of_fetch h.1)]
      · obtain ⟨hnone, hshadow⟩ := cancelled_frame t s
        obtain ⟨hcutAt, hsh⟩ := retireMark_frame t (cancelled t s)
        exact ⟨_, execAbortCancel_of_may hcut h hc hmay, hcutAt.trans hnone, hsh.trans hshadow⟩
      · rw [cutPend_eq, hcut]
        rfl
    · intro hcut h hc hpc
      rw [exec_abortCancel, execAbortCancel_of_none hcut h hc, retire_of_lt s hpc]
  · intro s t w hcut ho hu
    have hf := cutForeign_of_user ho hu
    constructor
    · intro h
      rw [exec_cut, execCut, insn_of_atInsn h _ _ rfl, cutTests_of_foreign hcut (take_of_fetch h.1) hf]
    · intro h hlate hsoon
      exact execCutat_of_foreign hcut h hlate hsoon hf

end Sys2Proof.Machine
end

section
/-! PROOFS. What the passing of time may change, and the CUTAT whose later check fails (R78). -/

namespace Sys2Proof.Machine

variable {s u v : State}

/-! ## What the passing of time may change (R251, R313, R578) -/

/-- Only what time touches differs: live words, the sums of Drift traffic, the two clocks, the slew of fabric time. -/
def OnlyTime (s u : State) : Prop :=
  ∃ l d n f y, u = { s with regs := { s.regs with live := l }, drift := d, now := n, ft := f,
                            dp := { s.dp with time := y } }

theorem OnlyTime.refl (s : State) : OnlyTime s s := ⟨_, _, _, _, _, rfl⟩

theorem OnlyTime.trans (h : OnlyTime s u) (k : OnlyTime u v) : OnlyTime s v := by
  obtain ⟨_, _, _, _, _, rfl⟩ := h
  obtain ⟨l, d, n, f, y, rfl⟩ := k
  exact ⟨l, d, n, f, y, rfl⟩

theorem OnlyLive.time (h : OnlyLive s u) : OnlyTime s u := by
  obtain ⟨l, rfl⟩ := h
  exact ⟨l, _, _, _, _, rfl⟩

/-- Time leaves the Director's record. -/
theorem OnlyTime.dir (h : OnlyTime s u) : u.dir = s.dir := by
  obtain ⟨_, _, _, _, _, rfl⟩ := h
  rfl

/-- Time leaves the Active Set. -/
theorem OnlyTime.active (h : OnlyTime s u) : u.regs.active = s.regs.active := by
  obtain ⟨_, _, _, _, _, rfl⟩ := h
  rfl

/-- Time leaves the Shadow Set. -/
theorem OnlyTime.shadow (h : OnlyTime s u) : u.regs.shadow = s.regs.shadow := by
  obtain ⟨_, _, _, _, _, rfl⟩ := h
  rfl

theorem onlyLive_tickWaits (k i : Nat) (s : State) : OnlyLive s (tickWaits k i s) := by
  unfold tickWaits
  split
  · exact .refl s
  split
  · exact (onlyLive_perfAny _ _ _ s).trans (onlyLive_perfAny _ _ _ _)
  split
  · exact onlyLive_perfAny _ _ _ s
  split
  · exact onlyLive_perf _ _ _ _ _ s
  · exact .refl s

theorem onlyLive_fixTick (k i : Nat) (s : State) : OnlyLive s (fixTick k i s) := by
  unfold fixTick
  extract_lets c s1
  have h1 : OnlyLive s s1 := onlyLive_setLiv64 s _ _
  split
  · split
    · exact h1.trans (onlyLive_setLiv s1 _ _)
    · exact h1
  · exact .refl s

theorem onlyTime_drift (s : State) (d : DriftWindow) : OnlyTime s { s with drift := d } := ⟨_, d, _, _, _, rfl⟩

theorem onlyTime_driftBw (k : Nat) (s : State) : OnlyTime s (driftBw k s) := by
  unfold driftBw
  extract_lets d rate
  split
  · exact .refl s
  · exact (onlyLive_setLivN s _ _).time.trans (onlyTime_drift _ _)

theorem onlyTime_advance (s : State) (k : Nat) : OnlyTime s (s.advance k) := by
  unfold State.advance
  split
  · exact .refl s
  extract_lets e ft s1
  have hwaits : OnlyTime s s1 :=
    (forUpto_rel OnlyLive.refl OnlyLive.trans (onlyLive_tickWaits k) 74 s).time.trans (onlyTime_driftBw k _)
  have hclocks : OnlyTime s { s1 with now := s1.now + k, ft := ft, dp := { s1.dp with time := e.2 } } :=
    hwaits.trans ⟨_, _, _, _, _, rfl⟩
  exact hclocks.trans (forUpto_rel OnlyLive.refl OnlyLive.trans (onlyLive_fixTick k) 74 _).time

theorem onlyTime_reachFt (s : State) (g : Nat) : OnlyTime s (s.reachFt g) :=
  forUpto_rel OnlyTime.refl OnlyTime.trans (fun _ s => onlyTime_advance s _) 8 s

/-! ## A CUTAT at its time (R76, R78) -/

/-- Counting, events and log entries leave the Active Set. -/
theorem OnlyLog.active (h : OnlyLog s u) : u.regs.active = s.regs.active := by
  obtain ⟨_, _, _, _, _, _, rfl⟩ := h
  rfl

/-- The state with no CUTAT pending. -/
def State.noCutAt (s : State) : State := { s with dir := { s.dir with cutAt := none } }

@[simp] theorem State.noCutAt_regs (s : State) : s.noCutAt.regs = s.regs := rfl
@[simp] theorem State.noCutAt_dir (s : State) : s.noCutAt.dir = { s.dir with cutAt := none } := rfl

/-- The later check of a CUTAT set by `origin` fails (R75, R564). -/
abbrev FailsCheck (s : State) (origin : Nat) : Prop :=
  s.regs.badS ≠ [] ∨ cutRefused s origin s.regs.shadow = true

theorem cutFails_eq (s : State) :
    cutFails s = (s.log { origin := 63, kind := 6, failed := true, new := s.liv64 Reg.GLB_CUTTIME_LO }).raise 482 := rfl

theorem onlyLog_cutFails (s : State) : OnlyLog s (cutFails s) :=
  (onlyLog_log s _).trans (onlyEvents_raise _ _ _ _ _).log

theorem fireCut_of_failsCheck {c : CutAt} (h : FailsCheck s.noCutAt c.origin) : fireCut c s = cutFails s.noCutAt :=
  if_pos (by simpa [FailsCheck, State.noCutAt] using h)

/-- A CUTAT that is due, with no long operation in progress, makes its swap or fails. -/
theorem dueCut_of_due {c : CutAt} (hcut : s.dir.cutAt = some c) (hdue : c.due = true) (hlong : s.dir.longop = none) :
    dueCut s = fireCut c s := by
  simp only [dueCut, hcut, hlong, hdue, if_true]

theorem exec_cutatFire (s : State) : exec .cutatFire s = execCutatFire s := rfl

/-- The state in which CUTAT_FIRE brings the pending CUTAT `c` to its end: its time has come, and it is due. -/
def cutComes (c : CutAt) (s r : State) : State := { r with dir := { s.dir with cutAt := some { c with due := true } } }

theorem execCutatFire_of_pending {c : CutAt} (hcut : s.dir.cutAt = some c) :
    execCutatFire s = .next (dueCut (cutComes c s (s.reachFt (cutTime s)))) := by
  simp only [execCutatFire, hcut, cutComes]

theorem noCutAt_cutComes {c : CutAt} (h : u.dir = s.dir) : (cutComes c s u).noCutAt = u.noCutAt := by
  simp [State.noCutAt, cutComes, h]

theorem dueCut_cutComes_of_failsCheck {c : CutAt} (hdir : u.dir = s.dir) (hlong : s.dir.longop = none)
    (h : FailsCheck u.noCutAt c.origin) : dueCut (cutComes c s u) = cutFails u.noCutAt := by
  have hno : (cutComes c s u).noCutAt = u.noCutAt := noCutAt_cutComes hdir
  rw [dueCut_of_due (s := cutComes c s u) rfl rfl hlong, fireCut_of_failsCheck (hno ▸ h), hno]

/-- A CUTAT that fails leaves both sets as they are, and is no longer pending. -/
theorem cutFails_frame (htime : OnlyTime s u) :
    (cutFails u.noCutAt).regs.active = s.regs.active ∧ (cutFails u.noCutAt).regs.shadow = s.regs.shadow ∧
    (cutFails u.noCutAt).dir = { s.dir with cutAt := none } := by
  have hlog : OnlyLog u.noCutAt (cutFails u.noCutAt) := onlyLog_cutFails _
  refine ⟨hlog.active.trans htime.active, hlog.shadow.trans htime.shadow, ?_⟩
  rw [hlog.dir, State.noCutAt_dir, htime.dir]

/-- Settles O19: a failing check leads to `cutFails` in the state at the CUTAT's time, and neither that nor the passing
of time touches the sets. -/
theorem cutatThatFailsItsCheck : Obligations.CutatThatFailsItsCheck := by
  intro s c hcut hlong
  have htime : OnlyTime s (s.reachFt (cutTime s)) := onlyTime_reachFt s _
  rw [exec_cutatFire, execCutatFire_of_pending hcut]
  -- From here on only the frame of `reachFt` counts: left in the terms, the kernel would evaluate it.
  obtain ⟨r0, hr0⟩ : ∃ r0, s.reachFt (cutTime s) = r0 := ⟨_, rfl⟩
  rw [hr0] at htime ⊢
  intro _ _ hbad
  have hfails : dueCut (cutComes c s r0) = cutFails r0.noCutAt := dueCut_cutComes_of_failsCheck htime.dir hlong hbad
  obtain ⟨hactive, hshadow, hdir⟩ := cutFails_frame htime
  refine ⟨cutFails r0.noCutAt, congrArg _ hfails, cutFails_eq _, hactive, hshadow, ?_, ?_, ?_⟩
  · rw [hdir]
  · rw [hdir]
    exact hlong
  · rw [cutPend_eq, hdir]
    rfl

end Sys2Proof.Machine
end

section
/-! PROOFS. What no command ever breaks: the canonical form of the register tables, the mailboxes and the executing take,
and the queue of the commands that wait. For every operation of the model one rule, named after the operation, says that it
keeps both; a rule about a composed operation chains the rules of its parts. -/

namespace Sys2Proof.Machine

/-- The parts of a state that have a canonical form: the register tables, the mailboxes, the executing take. -/
inductive CanonPart where
  | regs | mbox | take

variable {C : CanonPart → Prop} {P : List Instr} {s u : State}

/-! ## The invariant -/

/-- If `C` names the take, its general registers are in canonical form. -/
def TakeKept (C : CanonPart → Prop) (t : Take) : Prop := C .take → t.canon = true

/-- The queue of the state is `P`, and the parts that `C` names are in canonical form. -/
structure Kept (C : CanonPart → Prop) (P : List Instr) (s : State) : Prop where
  pending : s.pending = P
  regs : C .regs → s.regs.canon = true
  mbox : C .mbox → Tab.wf (fun _ => ({} : Mbox)) s.mbox = true
  take : ∀ t, s.dir.take = some t → TakeKept C t

/-- The answer is a next state, and that state keeps the invariant. -/
def GoesOn (C : CanonPart → Prop) (P : List Instr) (a : Answer) : Prop := ∃ u, a = .next u ∧ Kept C P u

theorem goes_next (hs : Kept C P s) : GoesOn C P (.next s) := ⟨s, rfl, hs⟩

theorem kept_of_canon (h : ∀ p, C p → s.canon = true) (hp : s.pending = P) : Kept C P s := by
  simp only [State.canon, Bool.and_eq_true, Option.all_eq_true] at h
  exact ⟨hp, fun c => (h _ c).1.1, fun c => (h _ c).1.2, fun t ht c => (h _ c).2 t ht⟩

theorem canon_of_kept (hs : Kept C P s) (c : ∀ p, C p) : s.canon = true := by
  simp only [State.canon, Bool.and_eq_true, Option.all_eq_true]
  exact ⟨⟨hs.regs (c _), hs.mbox (c _)⟩, fun t ht => hs.take t ht (c _)⟩

/-- A state of which the register tables alone are in canonical form. -/
theorem kept_of_regs (h : s.regs.canon = true) : Kept (· = .regs) s.pending s :=
  ⟨rfl, fun _ => h, nofun, fun _ _ => nofun⟩

/-- A state of which the mailboxes alone are in canonical form. -/
theorem kept_of_mbox (h : Tab.wf (fun _ => ({} : Mbox)) s.mbox = true) : Kept (· = .mbox) s.pending s :=
  ⟨rfl, nofun, fun _ => h, fun _ _ => nofun⟩

/-! ## Updates of the record of the state -/

/-- An update that leaves the queue, the registers, the mailboxes and the Director. -/
theorem kept_upd {now ft fresh latches partI3c partJtag slate evt cues rst scrub boot sec env parts dp eng pow drift out}
    (hs : Kept C P s) :
    Kept C P ⟨s.pending, now, ft, fresh, s.regs, latches, s.mbox, partI3c, partJtag, s.dir, slate, evt, cues, rst, scrub,
      boot, sec, env, parts, dp, eng, pow, drift, out⟩ :=
  ⟨hs.pending, hs.regs, hs.mbox, hs.take⟩

/-- An update of the Director's record that leaves the executing take. -/
theorem kept_updDir {now ft fresh latches partI3c partJtag last longop cutAt slate evt cues rst scrub boot sec env parts dp eng
    pow drift out} (hs : Kept C P s) :
    Kept C P ⟨s.pending, now, ft, fresh, s.regs, latches, s.mbox, partI3c, partJtag, ⟨last, s.dir.take, longop, cutAt⟩, slate,
      evt, cues, rst, scrub, boot, sec, env, parts, dp, eng, pow, drift, out⟩ :=
  ⟨hs.pending, hs.regs, hs.mbox, hs.take⟩

/-- An update of the register tables that leaves them canonical. -/
theorem kept_updRegs {r : Regs} (hs : Kept C P s) (hr : C .regs → r.canon = true) : Kept C P { s with regs := r } :=
  ⟨hs.pending, hr, hs.mbox, hs.take⟩

/-- An update of the executing take. -/
theorem kept_setTake_some {t : Take} (hs : Kept C P s) (ht : TakeKept C t) : Kept C P (s.setTake (some t)) :=
  ⟨hs.pending, hs.regs, hs.mbox, fun _ e => Option.some.inj e ▸ ht⟩

theorem kept_setTake_none (hs : Kept C P s) : Kept C P (s.setTake none) :=
  ⟨hs.pending, hs.regs, hs.mbox, fun _ e => by cases e⟩

/-! ## Choices, pairs and folds -/

theorem kept_ite {c : Prop} {_ : Decidable c} (hs : Kept C P s) (hu : Kept C P u) : Kept C P (if c then s else u) := by
  split
  · exact hs
  · exact hu

theorem kept_iteFun {c : Prop} {_ : Decidable c} {f g : State → State} (hf : Kept C P (f s)) (hg : Kept C P (g s)) :
    Kept C P ((if c then f else g) s) := by
  split
  · exact hf
  · exact hg

theorem kept_ite_snd {α : Type} {c : Prop} {_ : Decidable c} {x y : α × State} (hx : Kept C P x.2) (hy : Kept C P y.2) :
    Kept C P (if c then x else y).2 := by
  split
  · exact hx
  · exact hy

theorem kept_pair {α : Type} {a : α} (hs : Kept C P s) : Kept C P (a, s).2 := hs

theorem kept_of_eq {α : Type} {x : α × State} {a : α} (hx : Kept C P x.2) (e : x = (a, u)) : Kept C P u := by
  rw [e] at hx
  exact hx

theorem kept_foldl {α : Type} {f : State → α → State} {l : List α} (hs : Kept C P s)
    (hf : ∀ u a, Kept C P u → Kept C P (f u a)) : Kept C P (l.foldl f s) := by
  induction l generalizing s with
  | nil => exact hs
  | cons a l ih => exact ih (hf s a hs)

theorem kept_forUpto {n : Nat} {f : Nat → State → State} (hs : Kept C P s)
    (hf : ∀ i u, Kept C P u → Kept C P (f i u)) : Kept C P (forUpto n f s) := by
  induction n with
  | zero => exact hs
  | succ n ih => exact hf n _ ih

/-! ## Takes -/

/-- A take that differs in neither its registers nor its checkpoint. -/
theorem takeKept_upd {t : Take} {origin serial code pc stack journal startFt startNow free wait mismatches stall}
    (ht : TakeKept C t) :
    TakeKept C ⟨origin, serial, code, pc, t.regs, stack, journal, startFt, startNow, free, wait, t.ckpt, mismatches, stall⟩ :=
  ht

theorem takeKept_setG {t : Take} {i : Nat} {v : DWord} (ht : TakeKept C t) : TakeKept C (t.setG i v) := by
  intro c
  have h := ht c
  unfold Take.setG
  split
  · exact h
  · simp only [Take.canon, Bool.and_eq_true] at h ⊢
    exact ⟨Tab.wf_set (d := fun _ => (0 : DWord)) i v h.1, h.2⟩

theorem takeKept_mark {t : Take} {now : Nat} (ht : TakeKept C t) : TakeKept C (t.mark now) := by
  intro c
  have h := ht c
  simp only [Take.canon, Bool.and_eq_true] at h
  exact Bool.and_eq_true_iff.2 ⟨h.1, h.1⟩

/-- A take that goes back to its checkpoint. -/
theorem takeKept_ckpt {t : Take} {pc stack journal free wait mismatches stall} (ht : TakeKept C t) :
    TakeKept C ⟨t.origin, t.serial, t.code, pc, t.ckpt.regs, stack, journal, t.startFt, t.startNow, free, wait, t.ckpt,
      mismatches, stall⟩ := by
  intro c
  have h := ht c
  simp only [Take.canon, Bool.and_eq_true] at h
  exact Bool.and_eq_true_iff.2 ⟨h.2, h.2⟩

theorem takeKept_of_ready {t : Take} (hs : Kept C P s) (e : ready s = some t) : TakeKept C t :=
  hs.take t (take_of_ready e)

theorem takeKept_of_fetch {t : Take} {w : Nat} (hs : Kept C P s) (e : fetch s = some (t, w)) : TakeKept C t :=
  hs.take t (take_of_fetch e)

/-! ## Access -/

theorem kept_setShd {a : Nat} {v : Word} (hs : Kept C P s) : Kept C P (s.setShd a v) :=
  kept_updRegs hs (fun c => State.canon_setShd a v (hs.regs c))

theorem kept_setLiv {a : Nat} {v : Word} (hs : Kept C P s) : Kept C P (s.setLiv a v) :=
  kept_updRegs hs (fun c => State.canon_setLiv a v (hs.regs c))

theorem kept_setLivF {a : Nat} {f : Fld} {x : Nat} (hs : Kept C P s) :
    Kept C P (State.setLivF s a f x) := by
  unfold State.setLivF
  exact kept_setLiv hs

theorem kept_setLivN {a x : Nat} (hs : Kept C P s) :
    Kept C P (State.setLivN s a x) := by
  unfold State.setLivN
  exact kept_setLiv hs

theorem kept_bump {a k : Nat} (hs : Kept C P s) :
    Kept C P (State.bump s a k) := by
  unfold State.bump
  exact kept_setLivN hs

theorem kept_bumpF {a : Nat} {f : Fld} {k : Nat} (hs : Kept C P s) :
    Kept C P (State.bumpF s a f k) := by
  unfold State.bumpF
  exact kept_setLivF hs

theorem kept_setLiv64 {a x : Nat} (hs : Kept C P s) :
    Kept C P (State.setLiv64 s a x) := by
  unfold State.setLiv64
  exact kept_setLiv (kept_setLiv hs)

theorem kept_bump64 {a k : Nat} (hs : Kept C P s) :
    Kept C P (State.bump64 s a k) := by
  unfold State.bump64
  exact kept_setLiv64 hs

theorem kept_emit {o : Out} (hs : Kept C P s) :
    Kept C P (State.emit s o) := by
  unfold State.emit
  exact kept_upd hs

theorem kept_latch {p : Path} {a : Nat} {w : Word} (hs : Kept C P s) :
    Kept C P (State.latch s p a w) := by
  unfold State.latch
  exact kept_upd hs

theorem kept_unlatch {p : Path} {a : Nat} (hs : Kept C P s) :
    Kept C P (State.unlatch s p a) := by
  unfold State.unlatch
  exact kept_upd hs

theorem kept_setMb {m : Nat} {b : Mbox} (hs : Kept C P s) : Kept C P (s.setMb m b) :=
  ⟨hs.pending, hs.regs, fun c => State.wf_setMb m b (hs.mbox c), hs.take⟩

theorem kept_setLong {l : Option LongOp} (hs : Kept C P s) :
    Kept C P (State.setLong s l) := by
  unfold State.setLong
  exact kept_updDir hs

theorem kept_draw (hs : Kept C P s) :
    Kept C P (State.draw s) := by
  unfold State.draw
  exact kept_upd hs

theorem kept_fit_snd {w x : Nat} (hs : Kept C P s) :
    Kept C P (State.fit s w x).2 := by
  unfold State.fit
  exact kept_ite_snd (kept_pair hs) (kept_pair (kept_draw hs))

/-! ## Intx -/

theorem kept_setCfg {q fn : Nat} {r : CfgReg} {v : Word} {off : Nat} (hs : Kept C P s) :
    Kept C P (State.setCfg s q fn r v off) := by
  unfold State.setCfg
  exact kept_upd hs

theorem kept_resetCfg {q : Nat} (hs : Kept C P s) :
    Kept C P (State.resetCfg s q) := by
  unfold State.resetCfg
  exact kept_upd hs

theorem kept_sendWires {x old new : Nat} (hs : Kept C P s) :
    Kept C P (sendWires x old new s) := by
  unfold sendWires
  exact kept_forUpto hs (fun _ _ h1 => kept_ite h1 (kept_emit h1))

theorem kept_syncIntx {q : Nat} (hs : Kept C P s) :
    Kept C P (syncIntx q s) := by
  unfold syncIntx
  dsimp only
  split
  · exact kept_ite hs (kept_upd (kept_ite (kept_sendWires hs) hs))
  · exact kept_ite (kept_ite (kept_ite (kept_upd (kept_ite (kept_sendWires hs) hs)) hs) (kept_upd (kept_sendWires
      (kept_ite (kept_upd (kept_ite (kept_sendWires hs) hs)) hs)))) (kept_ite (kept_ite (kept_upd (kept_ite
      (kept_sendWires hs) hs)) hs) (kept_upd (kept_ite (kept_upd (kept_ite (kept_sendWires hs) hs)) hs)))

theorem kept_intx (hs : Kept C P s) :
    Kept C P (State.intx s) := by
  unfold State.intx
  exact kept_foldl hs (fun _ _ h1 => kept_syncIntx h1)

/-! ## Perf -/

theorem kept_perfAdd {u c k : Nat} (hs : Kept C P s) :
    Kept C P (perfAdd u c k s) := by
  unfold perfAdd
  exact kept_ite (kept_setLivN (kept_setLiv64 hs)) (kept_setLiv64 hs)

theorem kept_perfAny {u code : Nat} {occs : List (Option Nat × Occ × Nat)} (hs : Kept C P s) :
    Kept C P (perfAny u code occs s) := by
  unfold perfAny
  exact kept_ite hs (kept_foldl hs (fun _ _ h1 => kept_ite h1 (kept_perfAdd h1)))

theorem kept_perf {u code : Nat} {arg : Option Nat} {k : Nat} {o : Occ} (hs : Kept C P s) :
    Kept C P (perf u code arg k o s) := by
  unfold perf
  exact kept_perfAny hs

theorem kept_driftMove {queues : Bool} {k : Nat} (hs : Kept C P s) :
    Kept C P (driftMove queues k s) := by
  unfold driftMove
  exact kept_perf (kept_upd hs)

/-! ## Events -/

theorem kept_ringPut {q type info d2 d3 : Nat} (hs : Kept C P s) :
    Kept C P (ringPut q type info d2 d3 s) := by
  unfold ringPut
  exact kept_setLivN (kept_emit hs)

theorem kept_ringLose {q k : Nat} (hs : Kept C P s) :
    Kept C P (ringLose q k s) := by
  unfold ringLose
  exact kept_upd (kept_setLivN hs)

theorem kept_ringWrite {q type info d2 d3 : Nat} (hs : Kept C P s) :
    Kept C P (ringWrite q type info d2 d3 s) := by
  unfold ringWrite
  exact kept_ite (kept_ringLose hs) (kept_ite (kept_ite (kept_ringLose hs) (kept_ringPut hs)) (kept_ite (kept_ringLose
      hs) (kept_ringPut (kept_upd (kept_ringPut hs)))))

theorem kept_eventEntry_go {q g stn port k : Nat} (hs : Kept C P s) :
    Kept C P (eventEntry.go q g stn port k s) := by
  unfold eventEntry.go
  exact kept_ringWrite (kept_upd hs)

theorem kept_eventEntry {q g stn port : Nat} (hs : Kept C P s) :
    Kept C P (eventEntry q g stn port s) := by
  unfold eventEntry
  dsimp only
  split
  · exact kept_ite (kept_bump hs) (kept_eventEntry_go hs)
  · exact kept_eventEntry_go hs

theorem kept_raise {g : Nat} {q? : Option Nat} {stn port : Nat} (hs : Kept C P s) :
    Kept C P (State.raise s g q? stn port) := by
  unfold State.raise
  dsimp only
  refine kept_intx ?_
  refine kept_ite ?_ ?_
  · refine kept_eventEntry ?_
    split
    · exact kept_setLivN (kept_perf (kept_bump (kept_setLiv hs)))
    · exact kept_eventEntry (kept_setLivN (kept_perf (kept_bump (kept_setLiv hs))))
  · split
    · exact kept_setLivN (kept_perf (kept_bump (kept_setLiv hs)))
    · exact kept_eventEntry (kept_setLivN (kept_perf (kept_bump (kept_setLiv hs))))

theorem kept_raiseLimited {g : Nat} {q? : Option Nat} {k : Nat} (hs : Kept C P s) :
    Kept C P (State.raiseLimited s g q? k) := by
  unfold State.raiseLimited
  exact kept_ite hs (kept_raise (kept_upd hs))

theorem kept_raiseStn {n i p : Nat} (hs : Kept C P s) :
    Kept C P (State.raiseStn s n i p) := by
  unfold State.raiseStn
  exact kept_ite hs (kept_raise hs)

theorem kept_devErr {cause : Fld} (hs : Kept C P s) :
    Kept C P (State.devErr s cause) := by
  unfold State.devErr
  exact kept_raise (kept_setLivF hs)

/-! ## Path Acc -/

theorem kept_onDp {f : DataPath → DataPath} (hs : Kept C P s) :
    Kept C P (State.onDp s f) := by
  unfold State.onDp
  exact kept_upd hs

theorem kept_onFcst {f : Fcst → Fcst} (hs : Kept C P s) :
    Kept C P (State.onFcst s f) := by
  unfold State.onFcst
  exact kept_upd hs

theorem kept_onFab {f : Fabric → Fabric} (hs : Kept C P s) :
    Kept C P (State.onFab s f) := by
  unfold State.onFab
  exact kept_onDp hs

theorem kept_setLane {n l : Nat} {x : Lane} (hs : Kept C P s) :
    Kept C P (State.setLane s n l x) := by
  unfold State.setLane
  exact kept_onDp hs

theorem kept_setSpare {n : Nat} {x : Spare} (hs : Kept C P s) :
    Kept C P (State.setSpare s n x) := by
  unfold State.setSpare
  exact kept_onDp hs

theorem kept_setBring {n f : Nat} {x : Bringup} (hs : Kept C P s) :
    Kept C P (State.setBring s n f x) := by
  unfold State.setBring
  exact kept_onDp hs

theorem kept_setLnk {n f : Nat} {x : Link} (hs : Kept C P s) :
    Kept C P (State.setLnk s n f x) := by
  unfold State.setLnk
  exact kept_onDp hs

theorem kept_onLnk {n f : Nat} {g : Link → Link} (hs : Kept C P s) :
    Kept C P (State.onLnk s n f g) := by
  unfold State.onLnk
  exact kept_setLnk hs

theorem kept_setIng {n : Nat} {x : Ingress} (hs : Kept C P s) :
    Kept C P (State.setIng s n x) := by
  unfold State.setIng
  exact kept_onDp hs

theorem kept_onIng {n : Nat} {g : Ingress → Ingress} (hs : Kept C P s) :
    Kept C P (State.onIng s n g) := by
  unfold State.onIng
  exact kept_setIng hs

theorem kept_setEport {x : Nat} {e : EPort} (hs : Kept C P s) :
    Kept C P (State.setEport s x e) := by
  unfold State.setEport
  exact kept_onDp hs

theorem kept_onEport {x : Nat} {g : EPort → EPort} (hs : Kept C P s) :
    Kept C P (State.onEport s x g) := by
  unfold State.onEport
  exact kept_setEport hs

theorem kept_onPp {x : Nat} {g : PPort → PPort} (hs : Kept C P s) :
    Kept C P (State.onPp s x g) := by
  unfold State.onPp
  exact kept_onDp hs

theorem kept_setUnit {u : Nat} {x : CUnit} (hs : Kept C P s) :
    Kept C P (State.setUnit s u x) := by
  unfold State.setUnit
  exact kept_onDp hs

theorem kept_delUnit {u : Nat} (hs : Kept C P s) :
    Kept C P (State.delUnit s u) := by
  unfold State.delUnit
  exact kept_onDp hs

theorem kept_cfgBit {q fn b : Nat} {r : CfgReg} (hs : Kept C P s) :
    Kept C P (cfgBit q fn b r s) := by
  unfold cfgBit
  exact kept_setCfg hs

theorem kept_errMessage {q fn sev : Nat} {on : Bool} (hs : Kept C P s) :
    Kept C P (errMessage q fn sev on s) := by
  unfold errMessage
  exact kept_ite (kept_emit (kept_cfgBit hs)) (kept_cfgBit hs)

theorem kept_aerEvent {q fn index : Nat} (hs : Kept C P s) :
    Kept C P (aerEvent q fn index s) := by
  unfold aerEvent
  exact kept_raiseStn hs

theorem kept_aerError {q fn b sev : Nat} (hs : Kept C P s) :
    Kept C P (aerError q fn b sev s) := by
  unfold aerError
  exact kept_aerEvent (kept_errMessage (kept_ite (kept_cfgBit (kept_cfgBit hs)) (kept_cfgBit hs)))

theorem kept_aerCorrectable {q fn b : Nat} (hs : Kept C P s) :
    Kept C P (aerCorrectable q fn b s) := by
  unfold aerCorrectable
  exact kept_aerEvent (kept_errMessage (kept_cfgBit hs))

theorem kept_aerPoison {q fn : Nat} (hs : Kept C P s) :
    Kept C P (aerPoison q fn s) := by
  unfold aerPoison
  exact kept_ite (kept_aerError hs) (kept_aerCorrectable (kept_cfgBit hs))

theorem kept_onTime {f : TimeSync → TimeSync} (hs : Kept C P s) :
    Kept C P (State.onTime s f) := by
  unfold State.onTime
  exact kept_onDp hs

theorem kept_sourceSync (hs : Kept C P s) :
    Kept C P (sourceSync s) := by
  unfold sourceSync
  exact kept_ite (kept_setLivF hs) hs

/-! ## Slate Log -/

theorem kept_slateAdvance {k : Nat} (hs : Kept C P s) :
    Kept C P (slateAdvance k s) := by
  unfold slateAdvance
  exact kept_ite (kept_raise (kept_setLivF (kept_setLivN (kept_bump (kept_ite (kept_raise (kept_setLivF (kept_bump
      hs))) (kept_bump hs)))))) (kept_ite (kept_raise (kept_setLivF (kept_bump hs))) (kept_bump hs))

theorem kept_slatePut {e : Entry} (hs : Kept C P s) :
    Kept C P (slatePut e s) := by
  unfold slatePut
  exact kept_slateAdvance (kept_upd (kept_driftMove (kept_perf hs)))

theorem kept_slateReserve (hs : Kept C P s) :
    Kept C P (slateReserve s) := by
  unfold slateReserve
  exact kept_slateAdvance (kept_upd hs)

theorem kept_checkpoint (hs : Kept C P s) :
    Kept C P (checkpoint s) := by
  unfold checkpoint
  exact kept_slateReserve (kept_upd (kept_setLivN (kept_slatePut hs)))

theorem kept_checkpointIfDue (hs : Kept C P s) :
    Kept C P (checkpointIfDue s) := by
  unfold checkpointIfDue
  exact kept_ite (kept_checkpoint hs) hs

theorem kept_log {e : Entry} (hs : Kept C P s) :
    Kept C P (State.log s e) := by
  unfold State.log
  exact kept_checkpointIfDue (kept_upd (kept_slatePut hs))

theorem kept_logDevice {loc old new : Nat} (hs : Kept C P s) :
    Kept C P (State.logDevice s loc old new) := by
  unfold State.logDevice
  exact kept_log hs

/-! ## Route -/

theorem kept_ingUse {n : Nat} {internal : Bool} {k : ℤ} (hs : Kept C P s) :
    Kept C P (ingUse n internal k s) := by
  unfold ingUse
  exact kept_ite (kept_setLivF (kept_setLivF hs)) (kept_setLivF hs)

theorem kept_listUnit {id : Nat} {u : CUnit} (hs : Kept C P s) :
    Kept C P (listUnit id u s) := by
  unfold listUnit
  exact kept_ingUse (kept_onIng hs)

theorem kept_addUnit {u : CUnit} (hs : Kept C P s) :
    Kept C P (addUnit u s) := by
  unfold addUnit
  dsimp only
  refine kept_ite (kept_onIng (kept_onDp hs)) ?_
  refine kept_listUnit ?_
  split
  · exact kept_onDp hs
  · exact kept_perf (kept_perf (kept_onDp hs))
  · exact kept_onDp hs

theorem kept_admitOutside {n : Nat} {l : List Nat} (hs : Kept C P s) : Kept C P (admitOutside n l s) := by
  induction l generalizing s with
  | nil => exact hs
  | cons id l ih =>
    unfold admitOutside
    split
    · exact ih (kept_onIng hs)
    · exact kept_ite (ih (kept_listUnit (kept_onIng hs))) hs

theorem kept_pcieBack {x k hdr data : Nat} (hs : Kept C P s) :
    Kept C P (pcieBack x k hdr data s) := by
  unfold pcieBack
  exact kept_ite hs (kept_ite (kept_onPp hs) (kept_emit (kept_onPp hs)))

theorem kept_pcieSpend {x : Nat} {t : Tlp} (hs : Kept C P s) :
    Kept C P (pcieSpend x t s) := by
  unfold pcieSpend
  exact kept_onPp hs

theorem kept_pcieRelease {x : Nat} (hs : Kept C P s) :
    Kept C P (pcieRelease x s) := by
  unfold pcieRelease
  exact kept_foldl (kept_onPp hs) (fun _ _ h1 => kept_pcieBack h1)

theorem kept_unitBack {x : Nat} {u : CUnit} (hs : Kept C P s) :
    Kept C P (unitBack x u s) := by
  unfold unitBack
  dsimp only
  split
  · exact kept_pcieBack hs
  · split
    · exact kept_pcieBack hs
    · exact hs
  · exact hs

theorem kept_holdCfg {w : CfgWrite} (hs : Kept C P s) :
    Kept C P (holdCfg w s) := by
  unfold holdCfg
  exact kept_upd (kept_pcieSpend (kept_ingUse hs))

theorem kept_freeCfg {w : CfgWrite} (hs : Kept C P s) :
    Kept C P (freeCfg w s) := by
  unfold freeCfg
  exact kept_pcieBack (kept_ingUse hs)

theorem kept_npAdd {via : Nat} {t : Tlp} (hs : Kept C P s) :
    Kept C P (npAdd via t s) := by
  unfold npAdd
  exact kept_ite (kept_onDp hs) hs

theorem kept_npDone {via req tag : Nat} (hs : Kept C P s) :
    Kept C P (npDone via req tag s) := by
  unfold npDone
  exact kept_onDp hs

theorem kept_npCpl {via : Nat} {t : Tlp} (hs : Kept C P s) :
    Kept C P (npCpl via t s) := by
  unfold npCpl
  exact kept_ite (kept_npDone hs) (kept_onDp hs)

theorem kept_giveBack {n : Nat} {o : Origin} (hs : Kept C P s) :
    Kept C P (giveBack n o s) := by
  unfold giveBack
  split
  · exact kept_onLnk hs
  · exact hs

theorem kept_freeUnit {id : Nat} (hs : Kept C P s) :
    Kept C P (freeUnit id s) := by
  unfold freeUnit
  dsimp only
  split
  · exact hs
  · refine kept_ite hs ?_
    refine kept_ite ?_ ?_
    · refine kept_delUnit ?_
      refine kept_ite (kept_ite (kept_admitOutside (kept_ite (kept_onIng hs) (kept_ingUse hs))) (kept_ite (kept_onIng
          hs) (kept_ingUse hs))) ?_
      split
      · exact kept_unitBack (kept_ite (kept_admitOutside (kept_ite (kept_onIng hs) (kept_ingUse hs))) (kept_ite
          (kept_onIng hs) (kept_ingUse hs)))
      · exact kept_giveBack (kept_ite (kept_admitOutside (kept_ite (kept_onIng hs) (kept_ingUse hs))) (kept_ite
          (kept_onIng hs) (kept_ingUse hs)))
    · refine kept_setUnit ?_
      refine kept_ite (kept_ite (kept_admitOutside (kept_ite (kept_onIng hs) (kept_ingUse hs))) (kept_ite (kept_onIng
          hs) (kept_ingUse hs))) ?_
      split
      · exact kept_unitBack (kept_ite (kept_admitOutside (kept_ite (kept_onIng hs) (kept_ingUse hs))) (kept_ite
          (kept_onIng hs) (kept_ingUse hs)))
      · exact kept_giveBack (kept_ite (kept_admitOutside (kept_ite (kept_onIng hs) (kept_ingUse hs))) (kept_ite
          (kept_onIng hs) (kept_ingUse hs)))

theorem kept_doneUnit {id : Nat} (hs : Kept C P s) :
    Kept C P (doneUnit id s) := by
  unfold doneUnit
  split
  · exact hs
  · exact kept_ite (kept_delUnit hs) (kept_setUnit hs)

theorem kept_setWithdrawn {n f : Nat} {v : Bool} (hs : Kept C P s) :
    Kept C P (setWithdrawn n f v s) := by
  unfold setWithdrawn
  exact kept_setLivF hs

theorem kept_wireSink {w : Nat} {level : Bool} {wcnt : Nat} (hs : Kept C P s) :
    Kept C P (wireSink w level wcnt s) := by
  unfold wireSink
  exact kept_ite (kept_ite (kept_onFab hs) hs) hs

theorem kept_pfnHere {q req addr cause : Nat} (hs : Kept C P s) :
    Kept C P (pfnHere q req addr cause s) := by
  unfold pfnHere
  exact kept_ite (kept_bump hs) (kept_intx (kept_ringWrite (kept_aerError (kept_upd (kept_bump (kept_setLivN
      (kept_setLiv (kept_setLiv (kept_bump hs)))))))))

theorem kept_sendShort {src : Nat} {l : List ShortBody} {o : Origin} (hs : Kept C P s) :
    Kept C P (sendShort src l s o) := by
  unfold sendShort
  dsimp only
  split
  · exact hs
  · refine kept_ite ?_ ?_
    · split
      · exact kept_wireSink hs
      · exact kept_pfnHere hs
      · exact kept_bump hs
    · split
      · exact kept_bump (kept_bump hs)
      · exact kept_addUnit hs

theorem kept_sendPfn {src snode part : Nat} {t : Tlp} {cause : Nat} (hs : Kept C P s) :
    Kept C P (sendPfn src snode part t cause s) := by
  unfold sendPfn
  exact kept_ite (kept_pfnHere (kept_bump hs)) (kept_sendShort (kept_onFab (kept_bump hs)))

theorem kept_forward {src : Nat} {o : Origin} {p : Packet} {r : Option Packet} (hs : Kept C P s)
    (e : forward src o p r s = some u) : Kept C P u := by
  unfold forward at e
  obtain ⟨k, -, rfl⟩ := Option.map_eq_some_iff.1 e
  exact kept_addUnit hs

theorem kept_sendLocal {src : Nat} {o : Origin} {q x colour : Nat} {t : Tlp} (hs : Kept C P s) :
    Kept C P (sendLocal src o q x colour t s) := by
  unfold sendLocal
  exact kept_addUnit hs

theorem kept_cplHome {src dport : Nat} {d : Dom} {t : Tlp} {lost : State → State}
    (hlost : ∀ u, Kept C P u → Kept C P (lost u)) (hs : Kept C P s) : Kept C P (cplHome src dport d t lost s) := by
  unfold cplHome
  split
  · exact kept_sendLocal hs
  · split
    · exact kept_sendLocal hs
    · exact kept_sendLocal hs
    · next k _ _ =>
      dsimp only
      cases e : forward src .internal (wrap s (importOf s k).2.1 (importOf s k).2.2.1 (upPort s d.part)
          { domain := (importOf s k).2.2.2, part := d.part } 0 t).1
          (wrap s (importOf s k).2.1 (importOf s k).2.2.1 (upPort s d.part)
          { domain := (importOf s k).2.2.2, part := d.part } 0 t).2 s with
      | none => exact hlost _ (kept_bump hs)
      | some v => exact kept_forward hs e
    · exact kept_sendLocal hs

theorem kept_sendCpl {src dnode dport sport : Nat} {d : Dom} {t : Tlp} (hs : Kept C P s) :
    Kept C P (sendCpl src dnode dport sport d t s) := by
  unfold sendCpl
  dsimp only
  refine kept_ite (kept_cplHome (fun _ h1 => kept_raise (kept_bump h1)) hs) ?_
  split
  · next v e =>
      have hv : Kept C P v := kept_forward hs e
      exact hv
  · exact kept_raise (kept_bump (kept_bump hs))

theorem kept_undeliverable {src : Nat} {p : Packet} {cause status : Nat} (hs : Kept C P s) :
    Kept C P (undeliverable src p cause s status) := by
  unfold undeliverable
  dsimp only
  split
  · exact kept_ite (kept_sendPfn hs) (kept_ite (kept_raise (kept_bump hs)) (kept_sendCpl (kept_ite (kept_npDone hs)
      hs)))
  · exact hs
  · exact hs
  · exact kept_bump hs

theorem kept_sendPkt {src : Nat} {o : Origin} {p : Packet} {rest : Option Packet} (hs : Kept C P s) :
    Kept C P (sendPkt src o p rest s) := by
  unfold sendPkt
  split
  · next v e =>
      have hv : Kept C P v := kept_forward hs e
      exact hv
  · exact kept_undeliverable (kept_bump hs)

theorem kept_fmeArrive {e : Nat} {p : Packet} (hs : Kept C P s) :
    Kept C P (fmeArrive e p s) := by
  unfold fmeArrive
  exact kept_onDp hs

theorem kept_sendFrom {src : Nat} {p : Packet} {rest : Option Packet} (hs : Kept C P s) :
    Kept C P (sendFrom src p rest s) := by
  unfold sendFrom
  refine kept_ite ?_ (kept_sendPkt hs)
  split
  · exact kept_fmeArrive hs
  · exact kept_ingUse (kept_onFab hs)
  · exact kept_undeliverable hs

theorem kept_mgmtGoFor {l : List Packet} (hs : Kept C P s) : Kept C P (mgmtGoFor l s) := by
  induction l generalizing s with
  | nil => exact kept_onFab hs
  | cons p l ih =>
    unfold mgmtGoFor
    exact kept_ite (ih (kept_sendFrom hs)) (kept_onFab hs)

theorem kept_mgmtGo (hs : Kept C P s) :
    Kept C P (mgmtGo s) := by
  unfold mgmtGo
  exact kept_ite hs (kept_mgmtGoFor hs)

theorem kept_sendMgmt {d op : Nat} {fin : Bool} {port : Nat} {assert : Bool} {ws : List DWord} (hs : Kept C P s) :
    Kept C P (sendMgmt d op fin port assert ws s) := by
  unfold sendMgmt
  exact kept_mgmtGo (kept_onFab hs)

/-! ## Buf Ops -/

theorem kept_setEq {x k : Nat} {q : EQueue} (hs : Kept C P s) :
    Kept C P (State.setEq s x k q) := by
  unfold State.setEq
  exact kept_onEport hs

theorem kept_addSegs {n : Nat} {k : ℤ} (hs : Kept C P s) :
    Kept C P (addSegs n k s) := by
  unfold addSegs
  exact kept_setLivF hs

theorem kept_addSpillQ {n : Nat} {k : ℤ} (hs : Kept C P s) :
    Kept C P (addSpillQ n k s) := by
  unfold addSpillQ
  exact kept_setLivF hs

theorem kept_takeBlock {n : Nat} (hs : Kept C P s) :
    Kept C P (takeBlock n s) := by
  unfold takeBlock
  exact kept_ite (kept_raise (kept_onDp (kept_bump (kept_setLivN hs)))) (kept_bump (kept_setLivN hs))

theorem kept_giveBlocks {n k : Nat} (hs : Kept C P s) :
    Kept C P (giveBlocks n k s) := by
  unfold giveBlocks
  exact kept_ite (kept_onDp (kept_setLivN (kept_setLivN hs))) (kept_setLivN (kept_setLivN hs))

theorem kept_takeCell_snd {x k : Nat} {c : CellRef} (hs : Kept C P s) :
    Kept C P (takeCell x k c s).2 := by
  unfold takeCell
  exact kept_ite_snd (kept_ite_snd (kept_pair (kept_setEq (kept_addSegs hs))) (kept_pair hs)) (kept_ite_snd (kept_pair
      (kept_setEq hs)) (kept_ite_snd (kept_pair hs) (kept_ite_snd (kept_ite_snd (kept_pair (kept_foldl hs (fun _ _ h1
      => kept_setLivF h1))) (kept_ite_snd (kept_pair (kept_setEq (kept_addSegs (kept_ite (kept_addSpillQ
      (kept_takeBlock (kept_draw hs))) (kept_takeBlock (kept_draw hs)))))) (kept_pair hs))) (kept_ite_snd (kept_pair
      (kept_setEq (kept_addSegs hs))) (kept_pair hs)))))

theorem kept_dropCell {x k : Nat} (hs : Kept C P s) :
    Kept C P (dropCell x k s) := by
  unfold dropCell
  dsimp only
  split
  · exact kept_setEq (kept_addSegs hs)
  · exact kept_setEq (kept_addSegs hs)
  · exact kept_setEq hs
  · refine kept_ite ?_ hs
    split
    · exact hs
    · exact kept_setEq (kept_addSegs hs)
    · exact kept_setEq hs

theorem kept_removeUnit {x k id : Nat} (hs : Kept C P s) :
    Kept C P (removeUnit x k id s) := by
  unfold removeUnit
  exact kept_setEq (kept_addSegs hs)

theorem kept_emptyQueue {x k : Nat} (hs : Kept C P s) :
    Kept C P (emptyQueue x k s) := by
  unfold emptyQueue
  exact kept_setEq (kept_ite (kept_giveBlocks (kept_addSegs hs)) (kept_addSpillQ (kept_giveBlocks (kept_addSegs hs))))

theorem kept_clearQueues {x : Nat} {lose : CUnit → State → State} (hlose : ∀ x0 u1, Kept C P u1 → Kept C P (lose x0
    u1)) (hs : Kept C P s) :
    Kept C P (clearQueues x lose s) := by
  unfold clearQueues
  dsimp only
  refine kept_onEport ?_
  refine kept_foldl hs ?_
  intro _ _ h1
  refine kept_foldl (kept_emptyQueue h1) ?_
  intro _ _ h2
  split
  · exact h2
  · exact kept_ite (kept_doneUnit (hlose _ _ h2)) (kept_setUnit (hlose _ _ h2))

/-! ## Owners -/

theorem kept_onEng {f : Engines → Engines} (hs : Kept C P s) :
    Kept C P (State.onEng s f) := by
  unfold State.onEng
  exact kept_upd hs

theorem kept_onFme {e : Nat} {f : Engine → Engine} (hs : Kept C P s) :
    Kept C P (State.onFme s e f) := by
  unfold State.onFme
  exact kept_onEng hs

theorem kept_onMsg {e mid : Nat} {f : Msg → Msg} (hs : Kept C P s) :
    Kept C P (State.onMsg s e mid f) := by
  unfold State.onMsg
  exact kept_onFme hs

/-! ## Eligible -/

theorem kept_shpCharge {x c len : Nat} (hs : Kept C P s) :
    Kept C P (shpCharge x c len s) := by
  unfold shpCharge
  split
  · exact hs
  · exact kept_onEport hs

theorem kept_resched {x : Nat} (hs : Kept C P s) :
    Kept C P (resched x s) := by
  unfold resched
  exact kept_onEport hs

theorem kept_tickWaits {k u : Nat} (hs : Kept C P s) :
    Kept C P (tickWaits k u s) := by
  unfold tickWaits
  exact kept_ite hs (kept_ite (kept_perfAny (kept_perfAny hs)) (kept_ite (kept_perfAny hs) (kept_ite (kept_perf hs)
      hs)))

/-! ## Clock -/

theorem kept_fixTick {k u : Nat} (hs : Kept C P s) :
    Kept C P (fixTick k u s) := by
  unfold fixTick
  exact kept_ite (kept_ite (kept_setLiv (kept_setLiv64 hs)) (kept_setLiv64 hs)) hs

theorem kept_driftBw {k : Nat} (hs : Kept C P s) :
    Kept C P (driftBw k s) := by
  unfold driftBw
  exact kept_ite hs (kept_upd (kept_setLivN hs))

theorem kept_advance {k : Nat} (hs : Kept C P s) :
    Kept C P (State.advance s k) := by
  unfold State.advance
  exact kept_ite hs (kept_forUpto (kept_upd (kept_driftBw (kept_forUpto hs (fun _ _ h1 => kept_tickWaits h1)))) (fun _
      _ h1 => kept_fixTick h1))

theorem kept_reach {t : Nat} (hs : Kept C P s) :
    Kept C P (State.reach s t) := by
  unfold State.reach
  exact kept_advance hs

theorem kept_reachFt {t : Nat} (hs : Kept C P s) :
    Kept C P (State.reachFt s t) := by
  unfold State.reachFt
  exact kept_forUpto hs (fun _ _ h1 => kept_advance h1)

/-! ## Prot -/

theorem kept_protFault {who a : Nat} {write : Bool} {cause path : Nat} (hs : Kept C P s) :
    Kept C P (protFault who a write cause path s) := by
  unfold protFault
  exact kept_raiseLimited (kept_setLivN (kept_setLivN (kept_bump hs)))

/-! ## Mailbox -/

theorem kept_mbDrop {m k : Nat} (hs : Kept C P s) :
    Kept C P (mbDrop m k s) := by
  unfold mbDrop
  exact kept_perf (kept_bump hs)

theorem kept_dropOpen {m : Nat} {last : Bool} (hs : Kept C P s) :
    Kept C P (dropOpen m last s) := by
  unfold dropOpen
  exact kept_setMb (kept_mbDrop hs)

theorem kept_dropFlag {m : Nat} {f : Fld} {c : Bool} (hs : Kept C P s) :
    Kept C P (dropFlag m f c s) := by
  unfold dropFlag
  exact kept_ite (kept_setLivF hs) hs

theorem kept_wordIn {m : Nat} {d : DWord} {last : Bool} (hs : Kept C P s) :
    Kept C P (wordIn m d last s) := by
  unfold wordIn
  exact kept_ite (kept_ite (kept_dropOpen (kept_dropFlag (kept_dropFlag (kept_dropFlag hs)))) (kept_setMb (kept_mbDrop
      (kept_dropFlag (kept_dropFlag (kept_dropFlag hs)))))) (kept_setMb hs)

theorem goes_execInWord {p : Fin 48} {m : Fin 64} {full : Bool} {d : DWord} (hs : Kept C P s) :
    GoesOn C P (execInWord p m full d s) := by
  unfold execInWord
  exact goes_next (kept_ite (kept_wordIn hs) hs)

theorem goes_execInLast {p : Fin 48} {m : Fin 64} {full : Bool} {d : DWord} (hs : Kept C P s) :
    GoesOn C P (execInLast p m full d s) := by
  unfold execInLast
  exact goes_next (kept_ite (kept_wordIn hs) hs)

theorem kept_setPartial {p : BytePath} {x : Option Partial} (hs : Kept C P s) :
    Kept C P (State.setPartial s p x) := by
  unfold State.setPartial
  split <;> exact kept_upd hs

theorem kept_dropPartial {x : Partial} (hs : Kept C P s) :
    Kept C P (dropPartial x s) := by
  unfold dropPartial
  exact kept_dropOpen (kept_setLivF hs)

theorem kept_byteJoin {path : BytePath} {x : Partial} {b : Byte} (hs : Kept C P s) :
    Kept C P (byteJoin path x b s) := by
  unfold byteJoin
  exact kept_ite (kept_wordIn (kept_setPartial hs)) (kept_setPartial hs)

theorem goes_execMailboxByte {path : BytePath} {m : Fin 64} {last : Bool} {b : Byte} (hs : Kept C P s) :
    GoesOn C P (execMailboxByte path m last b s) := by
  unfold execMailboxByte
  refine goes_next ?_
  refine kept_ite ?_ hs
  split
  · exact kept_byteJoin hs
  · exact kept_ite (kept_byteJoin hs) (kept_byteJoin (kept_dropPartial hs))

theorem kept_stateAnswer {path : Path} {a data : Nat} (hs : Kept C P s) :
    Kept C P (State.answer s path a data) := by
  unfold State.answer
  exact kept_emit hs

theorem goes_execOutWord {path : Path} {m : Fin 64} {full : Bool} (hs : Kept C P s) :
    GoesOn C P (execOutWord path m full s) := by
  unfold execOutWord
  dsimp only
  refine goes_next ?_
  refine kept_ite hs ?_
  refine kept_ite (kept_stateAnswer hs) ?_
  split
  · exact kept_stateAnswer (kept_protFault hs)
  · refine kept_ite ?_ (kept_stateAnswer hs)
    split
    · exact kept_stateAnswer hs
    · exact kept_intx (kept_stateAnswer (kept_setMb hs))

/-! ## Claims -/

theorem kept_claimReport (hs : Kept C P s) :
    Kept C P (claimReport s) := by
  unfold claimReport
  exact kept_setLivN hs

theorem kept_budgetRefusal {r : Refused} {origin : Nat} (hs : Kept C P s) :
    Kept C P (budgetRefusal r origin s) := by
  unfold budgetRefusal
  exact kept_setLivN (kept_bump hs)

/-! ## Cue -/

theorem kept_cueAccept {l : Nat} (hs : Kept C P s) :
    Kept C P (cueAccept l s) := by
  unfold cueAccept
  exact kept_ite (kept_upd hs) (kept_raiseLimited (kept_setLivN (kept_bump hs)))

theorem kept_cuePulse {q? : Option Nat} {l : Nat} (hs : Kept C P s) :
    Kept C P (cuePulse q? l s) := by
  unfold cuePulse
  exact kept_ite (kept_cueAccept hs) (kept_bump hs)

/-! ## Errors -/

theorem kept_errLog {loc kind store : Nat} (hs : Kept C P s) :
    Kept C P (errLog loc kind store s) := by
  unfold errLog
  exact kept_setLivN (kept_setLivN hs)

theorem kept_sramUe {store n loc : Nat} (hs : Kept C P s) :
    Kept C P (sramUe store n loc s) := by
  unfold sramUe
  exact kept_devErr (kept_errLog (kept_bump hs))

theorem kept_driftUe {store loc : Nat} (hs : Kept C P s) :
    Kept C P (driftUe store loc s) := by
  unfold driftUe
  exact kept_devErr (kept_errLog (kept_bump hs))

/-! ## Take -/

theorem kept_pushOut {m : Nat} {l : List DWord} (hs : Kept C P s) :
    Kept C P (pushOut m l s) := by
  unfold pushOut
  exact kept_setMb hs

theorem kept_bootAnswer {code : Nat} (hs : Kept C P s) :
    Kept C P (bootAnswer code s) := by
  unfold bootAnswer
  dsimp only
  split
  · exact kept_upd (kept_setMb hs)
  · exact kept_ite (kept_upd (kept_setMb (kept_setMb hs))) (kept_upd (kept_setMb hs))

theorem kept_answerTake {m serial : Nat} {st : Status} {pc : Nat} {results : List DWord} (hs : Kept C P s) :
    Kept C P (answerTake m serial st pc results s) := by
  unfold answerTake
  exact kept_ite (kept_bootAnswer (kept_intx (kept_perf (kept_bump (kept_pushOut (kept_setMb hs)))))) (kept_intx
      (kept_perf (kept_bump (kept_pushOut (kept_setMb hs)))))

theorem kept_endWith {st : Status} {results : List DWord} (hs : Kept C P s) :
    Kept C P (endWith st results s) := by
  unfold endWith
  split
  · exact hs
  · exact kept_answerTake (kept_setTake_none hs)

theorem kept_endTake {st : Status} (hs : Kept C P s) :
    Kept C P (endTake st s) := by
  unfold endTake
  exact kept_endWith hs

theorem kept_stallTake (hs : Kept C P s) : Kept C P (stallTake s) := by
  unfold stallTake
  split
  · next t ht _ => exact kept_ite (kept_setTake_some hs (takeKept_upd (hs.take t ht))) hs
  · exact hs

theorem kept_endStall (hs : Kept C P s) : Kept C P (endStall s) := by
  unfold endStall
  split
  · next t ht =>
    split
    · exact kept_setTake_some hs (takeKept_upd (hs.take t ht))
    · exact hs
  · exact hs

theorem kept_waited {t : Take} {go : State → State} (hu : Kept C P u)
    (hgo : ∀ v, Kept C P v → Kept C P (go v)) (hs : Kept C P s) : Kept C P (waited t u go s) := by
  unfold waited
  exact kept_ite (kept_stallTake (hgo u hu)) (kept_endTake (kept_reach hs))

theorem goes_insn {op rsv : Nat} {sem : Take → Nat → State → State} {sel : Nat → Bool} (hs : Kept C P s)
    (hsem : ∀ t w, TakeKept C t → Kept C P (sem t w s)) : GoesOn C P (insn op rsv sem s sel) := by
  refine goes_next ?_
  split
  · exact hs
  · next t w e => exact kept_ite (kept_ite (kept_endTake hs) (hsem t w (takeKept_of_fetch hs e))) hs

theorem kept_countInstr {t : Take} (hs : Kept C P s) :
    Kept C P (countInstr t s) := by
  unfold countInstr
  exact kept_perf hs

theorem kept_goTo {t : Take} {pc : Int} (ht : TakeKept C t) (hs : Kept C P s) : Kept C P (goTo t pc s) := by
  unfold goTo
  exact kept_ite (kept_countInstr (kept_setTake_some hs (takeKept_upd ht))) (kept_endTake (kept_setTake_some hs ht))

theorem kept_retire {t : Take} (ht : TakeKept C t) (hs : Kept C P s) : Kept C P (retire t s) := by
  unfold retire
  exact kept_ite (kept_countInstr (kept_setTake_some hs (takeKept_upd ht)))
    (kept_endTake (kept_countInstr (kept_setTake_some hs ht)))

theorem kept_retireG {t : Take} {d : Nat} {v : DWord} (ht : TakeKept C t) (hs : Kept C P s) :
    Kept C P (retireG t d v s) := by
  unfold retireG
  exact kept_retire (takeKept_setG ht) hs

theorem kept_retireMark {t : Take} (ht : TakeKept C t) (hs : Kept C P s) : Kept C P (retireMark t s) := by
  have hr : Kept C P (retire t s) := kept_retire ht hs
  unfold retireMark
  dsimp only
  split
  · exact hr
  · next t' e => exact kept_setTake_some hr (takeKept_mark (hr.take t' e))

theorem kept_startLong {k : LongKind} {byTake : Bool} (hs : Kept C P s) :
    Kept C P (startLong k byTake s) := by
  unfold startLong
  exact kept_setLong (kept_endStall hs)

theorem kept_endLong (hs : Kept C P s) : Kept C P (endLong s) := by
  unfold endLong
  split
  · exact hs
  · have hl := kept_setLong (l := none) hs
    dsimp only
    split
    · next t e =>
      exact kept_ite (kept_retireMark (takeKept_upd (hl.take t e)) hl)
        (kept_setTake_some hl (takeKept_upd (hl.take t e)))
    · exact hl

theorem kept_cleanShadow {j : List (Nat × Word)} (hs : Kept C P s) : Kept C P (cleanShadow j s) := by
  have hr {l : List Nat} : Kept C P { s with regs := { s.regs with badS := l } } := kept_updRegs hs hs.regs
  unfold cleanShadow
  exact kept_ite hs (kept_ite (kept_setLivF hr) hr)

theorem kept_commit {t : Take} (hs : Kept C P s) :
    Kept C P (commit t s) := by
  unfold commit
  exact kept_claimReport (kept_cleanShadow (kept_foldl hs (fun _ _ h1 => kept_log (kept_setShd h1))))

theorem kept_submitting {t : Take} {go : State → State} (hgo : ∀ u, Kept C P u → Kept C P (go u)) (hs : Kept C P s) :
    Kept C P (submitting t go s) := by
  unfold submitting
  split
  · exact kept_endTake (kept_budgetRefusal hs)
  · exact hgo _ hs

theorem kept_beginTake {m : Nat} (hs : Kept C P s) : Kept C P (beginTake m s) := by
  have ht : Kept C P (turnsTo m s) := kept_updDir hs
  have hnew (t : Take) (hr : t.regs = []) (hc : t.ckpt.regs = []) : TakeKept C t := fun _ => by
    simp [Take.canon, hr, hc, Tab.wf, Tab.rises]
  rw [beginTake_eq]
  exact kept_ite (kept_answerTake ht)
    (kept_ite (kept_answerTake ht) (kept_setTake_some (kept_setLivN ht) (hnew _ rfl rfl)))

theorem kept_spillUe {m : Nat} (hs : Kept C P s) :
    Kept C P (spillUe m s) := by
  unfold spillUe
  exact kept_ite (kept_driftUe (kept_setMb hs)) hs

theorem goes_execTakeSelect {ue : Bool} (hs : Kept C P s) :
    GoesOn C P (execTakeSelect ue s) := by
  unfold execTakeSelect
  dsimp only
  refine goes_next ?_
  refine kept_ite ?_ hs
  split
  · exact hs
  · exact kept_beginTake (kept_ite (kept_spillUe hs) hs)

theorem goes_execTakeLimitExpire (hs : Kept C P s) :
    GoesOn C P (execTakeLimitExpire s) := by
  unfold execTakeLimitExpire
  refine goes_next ?_
  split
  · exact kept_ite (kept_endTake (kept_reach hs)) hs
  · exact hs

theorem goes_execLockstepMismatch (hs : Kept C P s) : GoesOn C P (execLockstepMismatch s) := by
  refine goes_next ?_
  split
  · next t e _ =>
    exact kept_ite (kept_raise (kept_bump (kept_setTake_some hs (takeKept_ckpt (hs.take t e)))))
      (kept_endTake (kept_raise (kept_setLivF hs)))
  · exact hs

/-! ## Live -/

/-- The effect of a live write under the rule keeps the invariant. -/
def LiveRule.Keeps (r : LiveRule) : Prop :=
  ∀ {C : CanonPart → Prop} {P : List Instr} {s u : State} {t : Take} {a : Nat} {v : Word}, Kept C P u → Kept C P ((r.eff s t a
      v).act u)

/-- Only its effect decides whether a rule keeps the invariant. -/
theorem keeps_of_eff {r r' : LiveRule} (hr : r.Keeps) (e : r'.eff = r.eff := by rfl) : r'.Keeps := by
  intro C P s u t a v hu
  rw [e]
  exact hr hu

theorem kept_plainEffect {t : Take} {a : Nat} {v : Word} (hu : Kept C P u) : Kept C P ((plainEffect s t a v).act u) :=
    by
  unfold plainEffect
  split
  · exact hu
  · exact kept_intx (kept_setLiv hu)

theorem kept_finish {fin : Finish} {t : Take} {act : State → State} (ht : TakeKept C t)
    (hact : ∀ u, Kept C P u → Kept C P (act u)) (hs : Kept C P s) : Kept C P (finish fin t act s) := by
  unfold finish
  split
  · split
    · next t' e => exact kept_retireMark ((hact s hs).take t' e) (hact s hs)
    · exact hact s hs
  · exact kept_endTake (hact s hs)
  · exact hact _ (kept_startLong (kept_setTake_some hs (takeKept_mark ht)))
  · exact hact _ (kept_countInstr hs)

theorem kept_liveWrite {r : LiveRule} {t : Take} {w : Nat} (hr : r.Keeps) (ht : TakeKept C t) (hs : Kept C P s) :
    Kept C P (liveWrite r t w s) := by
  unfold liveWrite
  dsimp only
  split
  · exact kept_endTake hs
  split
  · exact kept_endTake (kept_protFault hs)
  split
  · exact kept_endTake (kept_protFault hs)
  split
  · exact kept_endTake (kept_budgetRefusal hs)
  · exact kept_finish ht (fun _ hu => hr hu) (kept_log hs)

theorem goes_liveStep {r : LiveRule} (hr : r.Keeps) (hs : Kept C P s) : GoesOn C P (liveStep r s) :=
  goes_insn hs (fun _ _ ht => kept_liveWrite hr ht hs)

theorem kept_storeCmd {a : Nat} {v : Word} {zeros : List Fld} (hs : Kept C P s) :
    Kept C P (storeCmd a v zeros s) := by
  unfold storeCmd
  split
  · exact hs
  · exact kept_setLiv hs

/-! ## Security -/

theorem kept_protCtl {v : Word} (hs : Kept C P s) :
    Kept C P (protCtl v s) := by
  unfold protCtl
  exact kept_ite (kept_setLivF hs) (kept_ite (kept_setLivN hs) (kept_setLivF (kept_setLivF hs)))

theorem keeps_protCtlRule {q : Word → Bool} : (protCtlRule q).Keeps := by
  intro C P s u t a v hu
  exact kept_protCtl hu

theorem goes_execProtDisable (hs : Kept C P s) :
    GoesOn C P (execProtDisable s) := by
  unfold execProtDisable
  exact goes_liveStep (keeps_protCtlRule) hs

theorem goes_execProtEnable (hs : Kept C P s) :
    GoesOn C P (execProtEnable s) := by
  unfold execProtEnable
  exact goes_liveStep (keeps_protCtlRule) hs

theorem goes_execProtLock (hs : Kept C P s) :
    GoesOn C P (execProtLock s) := by
  unfold execProtLock
  exact goes_liveStep (keeps_protCtlRule) hs

theorem keeps_protSlotRule : protSlotRule.Keeps := by
  intro C P s u t a v hu
  exact kept_plainEffect (s := s) (t := t) hu

theorem kept_onSec {f : Security → Security} (hs : Kept C P s) :
    Kept C P (State.onSec s f) := by
  unfold State.onSec
  exact kept_upd hs

theorem kept_otpReport (hs : Kept C P s) :
    Kept C P (otpReport s) := by
  unfold otpReport
  exact kept_setLivN (kept_setLivN hs)

theorem kept_otpCommand {v : Word} (hs : Kept C P s) :
    Kept C P (otpCommand v s) := by
  unfold otpCommand
  dsimp only
  refine kept_ite (kept_storeCmd (kept_setLiv hs)) ?_
  refine kept_ite (kept_setLivF (kept_storeCmd (kept_setLiv hs))) ?_
  refine kept_ite (kept_setLivF (kept_storeCmd (kept_setLiv hs))) ?_
  split
  · exact kept_setLivF (kept_storeCmd (kept_setLiv hs))
  · exact kept_setLivF (kept_onSec (kept_storeCmd (kept_setLiv hs)))

theorem keeps_otpRule {op : Nat} : (otpRule op).Keeps := by
  intro C P s u t a v hu
  exact kept_otpCommand hu

theorem goes_execOtpProgkey (hs : Kept C P s) :
    GoesOn C P (execOtpProgkey s) := by
  unfold execOtpProgkey
  exact goes_liveStep (keeps_otpRule) hs

theorem goes_execOtpRevoke (hs : Kept C P s) :
    GoesOn C P (execOtpRevoke s) := by
  unfold execOtpRevoke
  exact goes_liveStep (keeps_otpRule) hs

theorem goes_execOtpSetmin (hs : Kept C P s) :
    GoesOn C P (execOtpSetmin s) := by
  unfold execOtpSetmin
  exact goes_liveStep (keeps_otpRule) hs

theorem kept_otpPart {c : OtpCmd} (hs : Kept C P s) :
    Kept C P (otpPart c s) := by
  unfold otpPart
  exact kept_onSec (kept_draw hs)

theorem goes_execOtpCommandDone {ok : Bool} (hs : Kept C P s) :
    GoesOn C P (execOtpCommandDone ok s) := by
  unfold execOtpCommandDone
  dsimp only
  refine goes_next ?_
  split
  · exact hs
  · exact kept_raise (kept_logDevice (kept_setLivF (kept_setLivF (kept_setLivF (kept_otpReport (kept_onSec (kept_ite
      (kept_onSec hs) (kept_otpPart hs))))))))

theorem kept_otpCut (hs : Kept C P s) :
    Kept C P (otpCut s) := by
  unfold otpCut
  split
  · exact hs
  · exact kept_otpPart (kept_onSec hs)

theorem goes_execMctpMessage {p : Fin 48} {ty : Fin 128} (hs : Kept C P s) :
    GoesOn C P (execMctpMessage p ty s) := by
  unfold execMctpMessage
  exact goes_next (kept_ite (kept_ite (kept_emit hs) (kept_ite hs (kept_bump hs))) hs)

theorem kept_spdmSend {p : Nat} {r : SpdmReply} (hs : Kept C P s) :
    Kept C P (spdmSend p r s) := by
  unfold spdmSend
  dsimp only
  refine kept_emit ?_
  split
  · exact kept_bump hs
  · exact hs

theorem kept_spdm {p : Fin 48} {f : State → State} (hf : ∀ u, Kept C P u → Kept C P (f u)) (hs : Kept C P s) :
    GoesOn C P (spdm p f s) := by
  unfold spdm
  exact goes_next (kept_ite (hf _ (kept_bump hs)) hs)

theorem goes_execGetVersion {p : Fin 48} (hs : Kept C P s) :
    GoesOn C P (execGetVersion p s) := by
  unfold execGetVersion
  exact kept_spdm (fun _ h1 => kept_spdmSend h1) hs

theorem goes_execGetCapabilities {p : Fin 48} (hs : Kept C P s) :
    GoesOn C P (execGetCapabilities p s) := by
  unfold execGetCapabilities
  exact kept_spdm (fun _ h1 => kept_spdmSend h1) hs

theorem goes_execNegotiateAlgorithms {p : Fin 48} {mldsa sha3 : Bool} (hs : Kept C P s) :
    GoesOn C P (execNegotiateAlgorithms p mldsa sha3 s) := by
  unfold execNegotiateAlgorithms
  exact kept_spdm (fun _ h1 => kept_spdmSend h1) hs

theorem goes_execGetDigests {p : Fin 48} (hs : Kept C P s) :
    GoesOn C P (execGetDigests p s) := by
  unfold execGetDigests
  exact kept_spdm (fun _ h1 => kept_spdmSend h1) hs

theorem goes_execGetCertificate {p : Fin 48} {slot : Fin 16} {off len : Nat} (hs : Kept C P s) :
    GoesOn C P (execGetCertificate p slot off len s) := by
  unfold execGetCertificate
  exact kept_spdm (fun _ h1 => kept_ite (kept_spdmSend h1) (kept_spdmSend h1)) hs

theorem kept_spdmAnswer {p : Nat} {r : SpdmReq} (hs : Kept C P s) :
    Kept C P (spdmAnswer p r s) := by
  unfold spdmAnswer
  dsimp only
  split
  · exact kept_spdmSend (kept_bump hs)
  · exact kept_ite (kept_spdmSend (kept_bump hs)) (kept_spdmSend hs)

theorem kept_spdmMeasure {p : Nat} {r : SpdmReq} (hs : Kept C P s) :
    Kept C P (spdmMeasure p r s) := by
  unfold spdmMeasure
  exact kept_ite (kept_spdmSend hs) (kept_ite (kept_onSec hs) (kept_spdmAnswer hs))

theorem goes_execChallenge {p : Fin 48} {slot : Fin 16} {sum : Fin 256} {nonce : BitVec 256} (hs : Kept C P s) :
    GoesOn C P (execChallenge p slot sum nonce s) := by
  unfold execChallenge
  exact kept_spdm (fun _ h1 => kept_spdmMeasure h1) hs

theorem goes_execGetMeasurements {p : Fin 48} {index : Fin 256} {sign : Bool} {slot : Fin 16} {nonce : BitVec 256} (hs
    : Kept C P s) :
    GoesOn C P (execGetMeasurements p index sign slot nonce s) := by
  unfold execGetMeasurements
  exact kept_spdm (fun _ h1 => kept_spdmMeasure h1) hs

theorem goes_execSpdmUnsupported {p : Fin 48} (hs : Kept C P s) :
    GoesOn C P (execSpdmUnsupported p s) := by
  unfold execSpdmUnsupported
  exact kept_spdm (fun _ h1 => kept_spdmSend h1) hs

theorem goes_execAsDigestDone (hs : Kept C P s) :
    GoesOn C P (execAsDigestDone s) := by
  unfold execAsDigestDone
  exact goes_next (kept_ite (kept_foldl (kept_onSec (kept_setLivN (kept_forUpto hs (fun _ _ h1 => kept_setLivN h1))))
      (fun _ _ h1 => kept_spdmAnswer h1)) hs)

/-! ## Slate Cmds -/

theorem goes_execCheckpointIdleTimer (hs : Kept C P s) :
    GoesOn C P (execCheckpointIdleTimer s) := by
  unfold execCheckpointIdleTimer
  refine goes_next ?_
  split
  · exact hs
  · exact kept_checkpoint (kept_reach hs)

theorem kept_fillSignature {num : Nat} (hs : Kept C P s) :
    Kept C P (fillSignature num s) := by
  unfold fillSignature
  exact kept_upd hs

theorem goes_execCheckpointSignDone (hs : Kept C P s) :
    GoesOn C P (execCheckpointSignDone s) := by
  unfold execCheckpointSignDone
  dsimp only
  refine goes_next ?_
  split
  · exact hs
  · exact kept_bump (kept_upd (kept_fillSignature hs))

/-- The effect keeps the invariant in `u`. -/
def EffectKept (C : CanonPart → Prop) (P : List Instr) (u : State) (e : Effect) : Prop := Kept C P (e.act u)
theorem effectKept_ite {c : Prop} {_ : Decidable c} {e f : Effect} (he : EffectKept C P s e) (hf : EffectKept C P s f) :
    EffectKept C P s (if c then e else f) := by
  split
  · exact he
  · exact hf
theorem slateRdRule_eff : slateRdRule.eff = fun s _ a v =>
    if rdTakes s v.toNat then { act := fun s => if rdTakes s v.toNat then s.setLiv a v else s }
    else { new := some (s.liv a), act := fun s => s.setLivF Reg.GLB_SLATE_STAT Fld.GLB_SLATE_STAT_RDREJ 1 } := rfl
theorem keeps_slateRdRule : slateRdRule.Keeps := by
  intro C P s u t a v hu
  have h : EffectKept C P u (slateRdRule.eff s t a v) := by
    rw [slateRdRule_eff]
    exact effectKept_ite (kept_ite (kept_setLiv hu) hu) (kept_setLivF hu)
  exact h

theorem goes_execSlateRdWrite (hs : Kept C P s) :
    GoesOn C P (execSlateRdWrite s) := by
  unfold execSlateRdWrite
  exact goes_liveStep keeps_slateRdRule hs

/-! ## Host Io -/

theorem kept_onIo {f : HostIo → HostIo} (hs : Kept C P s) :
    Kept C P (State.onIo s f) := by
  unfold State.onIo
  exact kept_onEng hs

theorem kept_ended {w : Work} {r : HostRes} (hs : Kept C P s) :
    Kept C P (ended w r s) := by
  unfold ended
  exact kept_onIo hs

theorem kept_onSl {t : Nat} {f : Slice → Slice} (hs : Kept C P s) :
    Kept C P (State.onSl s t f) := by
  unfold State.onSl
  exact kept_onEng hs

theorem kept_hostReq {src part : Nat} {slice : Option Nat} {kind : TlpKind} {aop : Nat} {ep : Bool} {w : Work} {ps :
    List (Nat × Nat × List Byte)} (hs : Kept C P s) :
    Kept C P (hostReq src part slice kind aop ep w ps s) := by
  unfold hostReq
  dsimp only
  refine kept_ite (kept_ended hs) ?_
  split
  · exact kept_ended hs
  · exact kept_ite (kept_ended hs) (kept_foldl (kept_onIo hs) (fun _ _ h1 => kept_addUnit h1))

theorem kept_hostWrite {src part : Nat} {slice : Option Nat} {ep : Bool} {w : Work} {a : Nat} {data : List Byte} (hs :
    Kept C P s) :
    Kept C P (hostWrite src part slice ep w a data s) := by
  unfold hostWrite
  exact kept_hostReq hs

theorem kept_hostRead {src part : Nat} {slice : Option Nat} {w : Work} {a len : Nat} (hs : Kept C P s) :
    Kept C P (hostRead src part slice w a len s) := by
  unfold hostRead
  exact kept_hostReq hs

theorem kept_ownerWrite {src : Nat} {o : Owner} {ep : Bool} {w : Work} {a : Nat} {data : List Byte} (hs : Kept C P s) :
    Kept C P (ownerWrite src o ep w a data s) := by
  unfold ownerWrite
  split
  · exact kept_ended hs
  · exact kept_hostWrite hs

theorem kept_ownerRead {src : Nat} {o : Owner} {w : Work} {a len : Nat} (hs : Kept C P s) :
    Kept C P (ownerRead src o w a len s) := by
  unfold ownerRead
  split
  · exact kept_ended hs
  · exact kept_hostRead hs

theorem kept_ownerAtomic {src : Nat} {o : Owner} {aop : Nat} {w : Work} {a : Nat} {data : List Byte} (hs : Kept C P s) :
    Kept C P (ownerAtomic src o aop w a data s) := by
  unfold ownerAtomic
  split
  · exact kept_ended hs
  · exact kept_hostReq hs

theorem kept_writeBack {l : LogLine} {fl : Bool} (hs : Kept C P s) :
    Kept C P (writeBack l fl s) := by
  unfold writeBack
  exact kept_hostRead (kept_onEng hs)

theorem kept_makeRoom {t : Nat} (hs : Kept C P s) :
    Kept C P (makeRoom t s) := by
  unfold makeRoom
  dsimp only
  refine kept_ite ?_ ?_
  · split
    · exact kept_writeBack hs
    · exact hs
  · refine kept_ite ?_ hs
    split
    · exact kept_writeBack hs
    · exact hs

theorem kept_gather {t sel line b : Nat} (hs : Kept C P s) :
    Kept C P (gather t sel line b s) := by
  unfold gather
  dsimp only
  split
  · exact kept_onEng hs
  · exact kept_onEng (kept_makeRoom hs)

theorem kept_logPage {t a : Nat} (hs : Kept C P s) :
    Kept C P (logPage t a s) := by
  unfold logPage
  exact kept_ite (kept_ite (kept_gather hs) (kept_raiseLimited (kept_bump (kept_onSl hs)))) hs

theorem kept_putSub {k : Nat} {j : Job} {u : Sub} (hs : Kept C P s) :
    Kept C P (putSub k j u s) := by
  unfold putSub
  exact kept_ite (kept_ended (kept_onIo hs)) (kept_onIo hs)

theorem kept_subLeft {k : Nat} (hs : Kept C P s) :
    Kept C P (subLeft k s) := by
  unfold subLeft
  dsimp only
  split
  · exact hs
  · refine kept_ite ?_ (kept_putSub hs)
    refine kept_putSub ?_
    split
    · exact kept_logPage hs
    · exact hs

theorem kept_subEnd {k : Nat} {r : HostRes} (hs : Kept C P s) :
    Kept C P (subEnd k r s) := by
  unfold subEnd
  split
  · exact hs
  · exact kept_ite (kept_putSub (kept_npDone hs)) hs

theorem kept_jobLost {u : CUnit} (hs : Kept C P s) :
    Kept C P (jobLost u s) := by
  unfold jobLost
  split
  · exact kept_subEnd hs
  · exact hs

/-! ## Keys -/

theorem kept_onKeys {f : Keys → Keys} (hs : Kept C P s) :
    Kept C P (State.onKeys s f) := by
  unfold State.onKeys
  exact kept_onEng hs

theorem kept_setKeyWord {i w : Nat} {v : DWord} (hs : Kept C P s) :
    Kept C P (setKeyWord i w v s) := by
  unfold setKeyWord
  exact kept_onKeys hs

theorem kept_countRegion {o : Owner} {d : ℤ} (hs : Kept C P s) :
    Kept C P (countRegion o d s) := by
  unfold countRegion
  dsimp only
  refine kept_ite ?_ ?_
  · refine kept_onKeys ?_
    split
    · exact kept_ite (kept_setLivN hs) hs
    · exact hs
  · split
    · exact kept_ite (kept_setLivN hs) hs
    · exact hs

theorem kept_countFree {d : ℤ} (hs : Kept C P s) :
    Kept C P (countFree d s) := by
  unfold countFree
  exact kept_setLivN hs

theorem kept_noteFreed {i : Nat} (hs : Kept C P s) :
    Kept C P (noteFreed i s) := by
  unfold noteFreed
  exact kept_onKeys hs

theorem kept_recount {i old new : Nat} (hs : Kept C P s) :
    Kept C P (recount i old new s) := by
  unfold recount
  exact kept_ite (kept_noteFreed (kept_countFree (kept_ite (kept_countRegion (kept_ite (kept_countRegion hs) hs))
      (kept_ite (kept_countRegion hs) hs)))) (kept_ite (kept_onKeys (kept_countFree (kept_ite (kept_countRegion
      (kept_ite (kept_countRegion hs) hs)) (kept_ite (kept_countRegion hs) hs)))) (kept_ite (kept_countRegion
      (kept_ite (kept_countRegion hs) hs)) (kept_ite (kept_countRegion hs) hs)))

theorem kept_setWays {i : Nat} {l : List Nat} (hs : Kept C P s) :
    Kept C P (setWays i l s) := by
  unfold setWays
  exact kept_onKeys hs

theorem kept_touchWay {i : Nat} (hs : Kept C P s) :
    Kept C P (touchWay i s) := by
  unfold touchWay
  exact kept_setWays hs

theorem kept_takeWay {i : Nat} (hs : Kept C P s) (e : takeWay i s = some u) : Kept C P u := by
  unfold takeWay at e
  dsimp only at e
  split at e
  · exact Option.some.inj e ▸ kept_touchWay hs
  split at e
  · exact Option.some.inj e ▸ kept_setWays hs
  · obtain ⟨j, -, rfl⟩ := Option.map_eq_some_iff.1 e
    exact kept_setWays hs

theorem kept_writeWay {i : Nat} (hs : Kept C P s) : Kept C P (writeWay i s) := by
  have hd := kept_driftMove (queues := false) (k := 32) hs
  unfold writeWay
  dsimp only
  cases e : takeWay i (driftMove false 32 s) with
  | none => exact hd
  | some v => exact kept_takeWay hd e

theorem kept_lookup_snd {i : Nat} {j : KeyJob} (hs : Kept C P s) :
    Kept C P (lookup i j s).2 := by
  unfold lookup
  exact kept_ite_snd (kept_pair (kept_touchWay (kept_perf (kept_bump hs)))) (kept_pair (kept_onKeys (kept_perf
      (kept_bump (kept_ite hs (kept_driftMove hs))))))

theorem kept_keyErr {e i code : Nat} {remote : Bool} {who : Nat} (hs : Kept C P s) :
    Kept C P (keyErr e i code remote who s) := by
  unfold keyErr
  exact kept_raiseLimited (kept_setLivN (kept_setLivN (kept_bump hs)))

theorem kept_admitKey {i : Nat} (hs : Kept C P s) :
    Kept C P (admitKey i s) := by
  unfold admitKey
  exact kept_onKeys hs

theorem kept_logTable {origin serial pc t i w : Nat} {old new : DWord} (hs : Kept C P s) :
    Kept C P (logTable origin serial pc t i w old new s) := by
  unfold logTable
  exact kept_log hs

/-- `register` for any outcome of its tests. -/
def registerAs (code : Nat) (free : Option Nat) (origin serial pc : Nat) (s : State) : State :=
  match (if code = 0 then free else none) with
  | none => (s.setLivN Reg.GLB_RGN_RES 0).setLivN Reg.GLB_RGN_STAT code
  | some i =>
    let ws := regWords s i
    let old := (keyWord s i 2).toNat
    let s := ws.zipIdx.foldl (fun s e =>
      logTable origin serial pc 0 i e.2 (keyWord s i e.2) e.1 (setKeyWord i e.2 e.1 s)) s
    let s := writeWay i (recount i old (keyWord s i 2).toNat s)
    (s.setLivN Reg.GLB_RGN_RES (i + keyGen s i * 2 ^ 20)).setLivN Reg.GLB_RGN_STAT 0

theorem register_eq {origin serial pc : Nat} :
    register origin serial pc s = registerAs (regTest s origin) (freeEntry s) origin serial pc s := rfl

theorem kept_registerAs {code : Nat} {free : Option Nat} {origin serial pc : Nat} (hs : Kept C P s) :
    Kept C P (registerAs code free origin serial pc s) := by
  unfold registerAs
  split
  · exact kept_setLivN (kept_setLivN hs)
  · exact kept_setLivN (kept_setLivN (kept_writeWay (kept_recount (kept_foldl hs fun _ _ h1 =>
      kept_logTable (kept_setKeyWord h1)))))
theorem kept_register {origin serial pc : Nat} (hs : Kept C P s) : Kept C P (register origin serial pc s) := by
  rw [register_eq]
  exact kept_registerAs hs

theorem kept_setGenState {i gen st : Nat} (hs : Kept C P s) :
    Kept C P (setGenState i gen st s) := by
  unfold setGenState
  exact kept_writeWay (kept_recount (kept_setKeyWord hs))

theorem kept_revStart {origin serial pc v : Nat} (hs : Kept C P s) :
    Kept C P (revStart origin serial pc v s) := by
  unfold revStart
  exact kept_onKeys (kept_setGenState hs)

theorem kept_showLate (hs : Kept C P s) :
    Kept C P (showLate s) := by
  unfold showLate
  exact kept_setLivF hs

theorem kept_revReport {r : Rev} {old : DWord} (hs : Kept C P s) :
    Kept C P (revReport r old s) := by
  unfold revReport
  exact kept_ite (kept_showLate (kept_ite (kept_cuePulse (kept_raise (kept_ite (kept_logDevice (kept_setLivN
      (kept_onKeys hs))) (kept_logTable (kept_setLivN (kept_onKeys hs)))))) (kept_raise (kept_ite (kept_logDevice
      (kept_setLivN (kept_onKeys hs))) (kept_logTable (kept_setLivN (kept_onKeys hs))))))) (kept_endLong (kept_ite
      (kept_cuePulse (kept_raise (kept_ite (kept_logDevice (kept_setLivN (kept_onKeys hs))) (kept_logTable
      (kept_setLivN (kept_onKeys hs)))))) (kept_raise (kept_ite (kept_logDevice (kept_setLivN (kept_onKeys hs)))
      (kept_logTable (kept_setLivN (kept_onKeys hs)))))))

theorem kept_revFinish {i op : Nat} (hs : Kept C P s) :
    Kept C P (revFinish i op s) := by
  unfold revFinish
  dsimp only
  split
  · exact kept_revReport (kept_setGenState hs)
  · exact kept_setGenState hs

theorem kept_releaseKey {i : Nat} (hs : Kept C P s) :
    Kept C P (releaseKey i s) := by
  unfold releaseKey
  exact kept_ite (kept_revFinish (kept_onKeys hs)) (kept_onKeys hs)

theorem kept_purgeKeys {l : List Nat} (hs : Kept C P s) :
    Kept C P (purgeKeys l s) := by
  unfold purgeKeys
  exact kept_foldl hs (fun _ _ h1 => kept_ite (kept_revFinish (kept_ite (kept_setGenState h1) h1)) (kept_ite
      (kept_setGenState h1) h1))

theorem kept_purgePart {q : Nat} (hs : Kept C P s) :
    Kept C P (purgePart q s) := by
  unfold purgePart
  exact kept_purgeKeys (kept_setLivF hs)

theorem kept_keyTblw {i w : Nat} {v : DWord} (hs : Kept C P s) :
    Kept C P (keyTblw i w v s) := by
  unfold keyTblw
  exact kept_ite hs (kept_ite (kept_writeWay (kept_setKeyWord hs)) (kept_ite (kept_writeWay (kept_ite (kept_noteFreed
      (kept_countFree (kept_onKeys (kept_setKeyWord hs)))) (kept_countRegion (kept_onKeys (kept_setKeyWord hs)))))
      (kept_writeWay (kept_recount (kept_setKeyWord hs)))))

theorem kept_keyBadNow {i : Nat} (hs : Kept C P s) :
    Kept C P (keyBadNow i s) := by
  unfold keyBadNow
  exact kept_ite hs (kept_driftUe (kept_onKeys (kept_ite (kept_countFree hs) hs)))

/-! ## Queue Ops -/

theorem kept_setQ {i : Nat} {q : Queue} (hs : Kept C P s) :
    Kept C P (State.setQ s i q) := by
  unfold State.setQ
  exact kept_onEng hs

theorem kept_onQ {i : Nat} {f : Queue → Queue} (hs : Kept C P s) :
    Kept C P (State.onQ s i f) := by
  unfold State.onQ
  exact kept_setQ hs

theorem kept_addLiv {a : Nat} {d : ℤ} (hs : Kept C P s) :
    Kept C P (addLiv a d s) := by
  unfold addLiv
  exact kept_setLivN hs

theorem kept_setSt {i : Nat} {st : QState} (hs : Kept C P s) :
    Kept C P (setSt i st s) := by
  unfold setSt
  exact kept_onQ (kept_ite (kept_ite hs (kept_addLiv hs)) (kept_addLiv (kept_ite hs (kept_addLiv hs))))

theorem kept_queueEntry {i ty info d2 : Nat} (hs : Kept C P s) :
    Kept C P (queueEntry i ty info d2 s) := by
  unfold queueEntry
  split
  · exact kept_ite (kept_intx (kept_ringWrite hs)) hs
  · exact hs

theorem kept_setStatus {i n code : Nat} (hs : Kept C P s) :
    Kept C P (setStatus i n code s) := by
  unfold setStatus
  exact kept_onQ hs

theorem kept_endWaits {sel : State → Nat → Desc → Bool} {code : Nat} (hs : Kept C P s) :
    Kept C P (endWaits sel code s) := by
  unfold endWaits
  exact kept_foldl hs (fun _ _ h1 => kept_foldl h1 (fun _ _ h2 => kept_ite (kept_setStatus h2) h2))

theorem kept_wakeOn {i : Nat} (hs : Kept C P s) :
    Kept C P (wakeOn i s) := by
  unfold wakeOn
  exact kept_foldl (kept_endWaits hs) (fun _ _ h1 => kept_ite (kept_setStatus h1) h1)

theorem kept_chainErr {i : Nat} (hs : Kept C P s) :
    Kept C P (chainErr i s) := by
  unfold chainErr
  exact kept_endWaits hs

theorem kept_waitCue {l : Nat} (hs : Kept C P s) :
    Kept C P (waitCue l s) := by
  unfold waitCue
  exact kept_endWaits hs

theorem kept_dropRing {i : Nat} (hs : Kept C P s) :
    Kept C P (dropRing i s) := by
  unfold dropRing
  exact kept_onQ hs

theorem kept_abandon {i : Nat} (hs : Kept C P s) :
    Kept C P (abandon i s) := by
  unfold abandon
  dsimp only
  split
  · exact hs
  · exact kept_dropRing (kept_onQ (kept_addLiv hs))

theorem kept_pumpRing {i : Nat} (hs : Kept C P s) :
    Kept C P (pumpRing i s) := by
  unfold pumpRing
  exact kept_ite (kept_ownerRead (kept_onQ hs)) hs

theorem kept_ringRead {i id k : Nat} {r : HostRes} (hs : Kept C P s) :
    Kept C P (ringRead i id k r s) := by
  unfold ringRead
  exact kept_ite (kept_onQ hs) hs

theorem kept_settleOut {i : Nat} (hs : Kept C P s) :
    Kept C P (settleOut i s) := by
  unfold settleOut
  dsimp only
  refine kept_ite hs ?_
  split
  · exact kept_ite (kept_onQ (kept_setSt hs)) (kept_queueEntry (kept_setSt hs))
  · exact kept_ite (kept_queueEntry (kept_setSt hs)) (kept_raise (kept_queueEntry (kept_setSt hs)))
  · exact hs

theorem kept_stopQueue {i : Nat} {toFree : Bool} (hs : Kept C P s) :
    Kept C P (stopQueue i toFree s) := by
  unfold stopQueue
  exact kept_settleOut (kept_onQ (kept_setSt (kept_abandon (kept_dropRing hs))))

theorem kept_resetQueue {i : Nat} (hs : Kept C P s) :
    Kept C P (resetQueue i s) := by
  unfold resetQueue
  exact kept_ite hs (kept_stopQueue hs)

theorem kept_queueBad {i : Nat} (hs : Kept C P s) :
    Kept C P (queueBad i s) := by
  unfold queueBad
  dsimp only
  split
  · exact kept_stopQueue (kept_driftUe (kept_onQ hs))
  · exact kept_queueEntry (kept_setSt (kept_driftUe (kept_onQ hs)))
  · exact kept_driftUe (kept_onQ hs)

theorem kept_countOk {i fuel : Nat} (hs : Kept C P s) : Kept C P (countOk i fuel s) := by
  induction fuel generalizing s with
  | zero => exact hs
  | succ fuel ih =>
    unfold countOk
    dsimp only
    split
    · exact hs
    · refine ih (kept_wakeOn ?_)
      split
      · exact kept_ite (kept_cuePulse (kept_onQ hs)) (kept_onQ hs)
      · exact kept_onQ hs

theorem kept_concluded {i n : Nat} (hs : Kept C P s) :
    Kept C P (concluded i n s) := by
  unfold concluded
  dsimp only
  split
  · exact hs
  · exact kept_settleOut (kept_ite (kept_countOk (kept_onQ (kept_onQ (kept_addLiv hs)))) (kept_onQ (kept_addLiv hs)))

theorem kept_endDesc {i n : Nat} (hs : Kept C P s) :
    Kept C P (endDesc i n s) := by
  unfold endDesc
  dsimp only
  split
  · exact hs
  · split
    · exact hs
    · refine kept_ite ?_ ?_
      · refine kept_ownerWrite ?_
        refine kept_ite ?_ ?_
        · refine kept_onQ ?_
          split
          · exact kept_releaseKey (kept_perf (kept_bump hs))
          · exact kept_perf (kept_bump hs)
        · refine kept_ite ?_ ?_
          · refine kept_chainErr ?_
            refine kept_onQ ?_
            refine kept_setSt ?_
            refine kept_abandon ?_
            refine kept_dropRing ?_
            refine kept_onQ ?_
            refine kept_bump ?_
            refine kept_onQ ?_
            split
            · exact kept_releaseKey (kept_perf (kept_bump hs))
            · exact kept_perf (kept_bump hs)
          · refine kept_onQ ?_
            refine kept_bump ?_
            refine kept_onQ ?_
            split
            · exact kept_releaseKey (kept_perf (kept_bump hs))
            · exact kept_perf (kept_bump hs)
      · refine kept_concluded ?_
        refine kept_ite ?_ ?_
        · refine kept_onQ ?_
          split
          · exact kept_releaseKey (kept_perf (kept_bump hs))
          · exact kept_perf (kept_bump hs)
        · refine kept_ite ?_ ?_
          · refine kept_chainErr ?_
            refine kept_onQ ?_
            refine kept_setSt ?_
            refine kept_abandon ?_
            refine kept_dropRing ?_
            refine kept_onQ ?_
            refine kept_bump ?_
            refine kept_onQ ?_
            split
            · exact kept_releaseKey (kept_perf (kept_bump hs))
            · exact kept_perf (kept_bump hs)
          · refine kept_onQ ?_
            refine kept_bump ?_
            refine kept_onQ ?_
            split
            · exact kept_releaseKey (kept_perf (kept_bump hs))
            · exact kept_perf (kept_bump hs)

/-! ## Initiator -/

theorem kept_onChan {c : Nat} {f : Chan → Chan} (hs : Kept C P s) :
    Kept C P (State.onChan s c f) := by
  unfold State.onChan
  exact kept_onEng hs

theorem kept_fmeSend {e : Nat} {h : FmeHdr} {data : List Byte} {dnode vc colour path : Nat} {ep : Bool} (hs : Kept C P
    s) :
    Kept C P (fmeSend e h data dnode vc colour path ep s) := by
  unfold fmeSend
  exact kept_ite (kept_fmeArrive hs) (kept_ite (kept_sendPkt hs) (kept_sendPkt hs))

theorem kept_pumpMsg {e mid : Nat} (hs : Kept C P s) :
    Kept C P (pumpMsg e mid s) := by
  unfold pumpMsg
  dsimp only
  split
  · exact hs
  · split
    · exact hs
    · exact kept_ite (kept_ite (kept_onMsg hs) (kept_hostRead (kept_onMsg hs))) hs

theorem kept_onDest {e node : Nat} {f : Dest → Dest} (hs : Kept C P s) :
    Kept C P (State.onDest s e node f) := by
  unfold State.onDest
  split
  · exact hs
  · exact kept_onFme hs

theorem kept_noteIdle {e node : Nat} (hs : Kept C P s) :
    Kept C P (noteIdle e node s) := by
  unfold noteIdle
  exact kept_ite (kept_onDest hs) hs

theorem kept_closeMsg {e : Nat} {m : Msg} (hs : Kept C P s) :
    Kept C P (closeMsg e m s) := by
  unfold closeMsg
  dsimp only
  split
  · exact kept_setStatus (kept_noteIdle (kept_ite (kept_bump (kept_onFme hs)) (kept_onFme hs)))
  · exact kept_ite (kept_onChan (kept_noteIdle (kept_ite (kept_bump (kept_onFme hs)) (kept_onFme hs)))) (kept_noteIdle
      (kept_ite (kept_bump (kept_onFme hs)) (kept_onFme hs)))

theorem kept_checkMsg {e mid : Nat} (hs : Kept C P s) :
    Kept C P (checkMsg e mid s) := by
  unfold checkMsg
  split
  · exact kept_ite (kept_closeMsg hs) hs
  · exact hs

theorem kept_sourceRead {e mid : Nat} {r : HostRes} (hs : Kept C P s) :
    Kept C P (sourceRead e mid r s) := by
  unfold sourceRead
  dsimp only
  split
  · exact hs
  · split
    · exact kept_onMsg hs
    · exact kept_ite (kept_onMsg hs) (kept_checkMsg (kept_pumpMsg (kept_onMsg hs)))

theorem kept_sinkDone {e mid : Nat} {r : HostRes} (hs : Kept C P s) :
    Kept C P (sinkDone e mid r s) := by
  unfold sinkDone
  exact kept_checkMsg (kept_onMsg hs)

theorem kept_sendTrack {e : Nat} {m : Msg} {t : Track} (hs : Kept C P s) :
    Kept C P (sendTrack e m t s) := by
  unfold sendTrack
  exact kept_fmeSend hs

theorem kept_putTrack {e mid : Nat} {t : Track} (hs : Kept C P s) :
    Kept C P (putTrack e mid t s) := by
  unfold putTrack
  exact kept_onMsg hs

theorem kept_sendCopy {e : Nat} {m : Msg} {t : Track} (hs : Kept C P s) :
    Kept C P (sendCopy e m t s) := by
  unfold sendCopy
  dsimp only
  refine kept_ite (kept_putTrack hs) ?_
  split
  · exact hs
  · exact kept_sendTrack (kept_putTrack (kept_perf (kept_bump (kept_onDest hs))))

theorem kept_sendNew {e : Nat} {m : Msg} (hs : Kept C P s) :
    Kept C P (sendNew e m s) := by
  unfold sendNew
  dsimp only
  split
  · split
    · exact hs
    · exact kept_addLiv (kept_onFme hs)
  · refine kept_pumpMsg ?_
    refine kept_sendTrack ?_
    refine kept_onMsg ?_
    split
    · refine kept_ite ?_ ?_
      · refine kept_onChan ?_
        refine kept_perf ?_
        refine kept_bump ?_
        refine kept_onDest ?_
        split
        · exact hs
        · exact kept_addLiv (kept_onFme hs)
      · refine kept_perf ?_
        refine kept_bump ?_
        refine kept_onDest ?_
        split
        · exact hs
        · exact kept_addLiv (kept_onFme hs)
    · refine kept_perf ?_
      refine kept_bump ?_
      refine kept_onDest ?_
      split
      · exact hs
      · exact kept_addLiv (kept_onFme hs)

theorem kept_sendNext {e : Nat} (hs : Kept C P s) :
    Kept C P (sendNext e s) := by
  unfold sendNext
  dsimp only
  split
  · exact hs
  · split
    · exact kept_sendCopy (kept_onFme hs)
    · exact kept_sendNew (kept_onFme hs)

theorem kept_takeSample {e : Nat} {m : Msg} {t : Track} {tse : Nat} (hs : Kept C P s) :
    Kept C P (takeSample e m t tse s) := by
  unfold takeSample
  exact kept_ite (kept_onDest hs) hs

theorem kept_answered {e : Nat} {m : Msg} {t : Track} {code : Nat} (hs : Kept C P s) :
    Kept C P (answered e m t code s) := by
  unfold answered
  exact kept_checkMsg (kept_noteIdle (kept_onMsg hs))

theorem kept_deliver {e : Nat} {m : Msg} {t : Track} {data : List Byte} {ep : Bool} (hs : Kept C P s) :
    Kept C P (deliver e m t data ep s) := by
  unfold deliver
  dsimp only
  split
  · exact kept_ite (kept_ite (kept_onMsg hs) hs) (kept_hostWrite (kept_onMsg (kept_ite (kept_onMsg hs) hs)))
  · exact kept_ite (kept_onChan (kept_ite (kept_onMsg hs) hs)) (kept_ite (kept_onMsg hs) hs)

theorem kept_ackIn {e : Nat} {h : FmeHdr} (hs : Kept C P s) :
    Kept C P (ackIn e h s) := by
  unfold ackIn
  dsimp only
  split
  · exact hs
  · exact kept_ite (kept_answered hs) (kept_ite (kept_putTrack (kept_takeSample hs)) (kept_answered (kept_takeSample
      hs)))

theorem kept_nakIn {e : Nat} {h : FmeHdr} (hs : Kept C P s) :
    Kept C P (nakIn e h s) := by
  unfold nakIn
  dsimp only
  split
  · exact hs
  · exact kept_ite (kept_putTrack (kept_onDest (kept_perf (kept_bump hs)))) (kept_answered hs)

theorem kept_respIn {e : Nat} {p : Packet} {h : FmeHdr} {data : List Byte} (hs : Kept C P s) :
    Kept C P (respIn e p h data s) := by
  unfold respIn
  dsimp only
  split
  · exact hs
  · exact kept_answered (kept_deliver (kept_takeSample hs))

theorem kept_startMsg {i k : Nat} {d : Desc} (hs : Kept C P s) :
    Kept C P (startMsg i k d s) := by
  unfold startMsg
  exact kept_pumpMsg (kept_onFme hs)

theorem kept_localCheck {i n : Nat} (hs : Kept C P s) :
    Kept C P (localCheck i n s) := by
  unfold localCheck
  dsimp only
  split
  · exact hs
  · exact kept_ite (kept_setStatus (kept_keyErr hs)) (kept_ite (kept_startMsg (kept_onQ (kept_admitKey hs)))
      (kept_setStatus (kept_onQ (kept_admitKey hs))))

theorem kept_startWait {i : Nat} {d : Desc} (hs : Kept C P s) :
    Kept C P (startWait i d s) := by
  unfold startWait
  refine kept_ite hs ?_
  split
  · exact kept_setStatus hs
  · exact kept_ite (kept_setStatus hs) (kept_ite (kept_setStatus hs) hs)

theorem kept_startDesc {i : Nat} (hs : Kept C P s) :
    Kept C P (startDesc i s) := by
  unfold startDesc
  dsimp only
  refine kept_ite (kept_setStatus (kept_pumpRing (kept_onQ (kept_addLiv (kept_perf (kept_onFme hs)))))) ?_
  refine kept_ite (kept_setStatus (kept_pumpRing (kept_onQ (kept_addLiv (kept_perf (kept_onFme hs)))))) ?_
  refine kept_ite (kept_setStatus (kept_pumpRing (kept_onQ (kept_addLiv (kept_perf (kept_onFme hs)))))) ?_
  refine kept_ite (kept_ite (kept_setStatus (kept_pumpRing (kept_onQ (kept_addLiv (kept_perf (kept_onFme hs))))))
      (kept_pumpRing (kept_onQ (kept_addLiv (kept_perf (kept_onFme hs)))))) ?_
  refine kept_ite (kept_startWait (kept_pumpRing (kept_onQ (kept_addLiv (kept_perf (kept_onFme hs)))))) ?_
  split
  · next v e =>
      have hv : Kept C P v := kept_of_eq (kept_lookup_snd (kept_pumpRing (kept_onQ (kept_addLiv (kept_perf (kept_onFme
          hs)))))) e
      exact kept_localCheck hv
  · next v e =>
      have hv : Kept C P v := kept_of_eq (kept_lookup_snd (kept_pumpRing (kept_onQ (kept_addLiv (kept_perf (kept_onFme
          hs)))))) e
      exact hv

/-! ## Dma Ops -/

theorem kept_setChStat {c : Nat} {f : Fld} {v : Nat} (hs : Kept C P s) :
    Kept C P (setChStat c f v s) := by
  unfold setChStat
  exact kept_setLivF hs

theorem kept_cmdRej {c : Nat} (hs : Kept C P s) :
    Kept C P (cmdRej c s) := by
  unfold cmdRej
  exact kept_setChStat hs

theorem kept_pumpFetch {c : Nat} (hs : Kept C P s) :
    Kept C P (pumpFetch c s) := by
  unfold pumpFetch
  exact kept_ite (kept_ownerRead (kept_onChan hs)) hs

theorem kept_pumpRead {c : Nat} (hs : Kept C P s) :
    Kept C P (pumpRead c s) := by
  unfold pumpRead
  dsimp only
  split
  · exact hs
  · refine kept_ite ?_ hs
    split
    · exact kept_ended (kept_onChan hs)
    · exact kept_hostReq (kept_onChan hs)

theorem kept_shutMsg {c : Nat} (hs : Kept C P s) :
    Kept C P (shutMsg c s) := by
  unfold shutMsg
  split
  · exact kept_checkMsg (kept_onMsg hs)
  · exact hs

theorem kept_chFail {c code : Nat} (hs : Kept C P s) :
    Kept C P (chFail c code s) := by
  unfold chFail
  exact kept_ite (kept_shutMsg (kept_onChan (kept_onChan hs))) (kept_onChan hs)

theorem kept_startRemote {c : Nat} {ws : List DWord} (hs : Kept C P s) :
    Kept C P (startRemote c ws s) := by
  unfold startRemote
  exact kept_ite (kept_chFail hs) (kept_onChan (kept_onFme hs))

theorem kept_handSeg {c : Nat} (hs : Kept C P s) :
    Kept C P (handSeg c s) := by
  unfold handSeg
  dsimp only
  split
  · exact hs
  · split
    · exact hs
    · exact kept_ite (kept_onChan (kept_onMsg hs)) hs

theorem kept_startCh {c : Nat} (hs : Kept C P s) :
    Kept C P (startCh c s) := by
  unfold startCh
  dsimp only
  split
  · exact hs
  · exact kept_ite (kept_chFail (kept_onChan hs)) (kept_ite (kept_chFail (kept_onChan hs)) (kept_ite (kept_pumpRead
      (kept_startRemote (kept_onChan hs))) (kept_pumpRead (kept_onChan hs))))

theorem kept_nextCh {c : Nat} (hs : Kept C P s) :
    Kept C P (nextCh c s) := by
  unfold nextCh
  exact kept_ite hs (kept_ite (kept_startCh (kept_onChan hs)) (kept_ite (kept_setChStat hs) (kept_startCh
      (kept_setChStat hs))))

theorem kept_goPulse {c : Nat} (hs : Kept C P s) :
    Kept C P (goPulse c s) := by
  unfold goPulse
  exact kept_ite (kept_nextCh (kept_setChStat (kept_onChan hs))) (kept_ite (kept_setChStat hs) (kept_setChStat hs))

theorem kept_moveBeat {c : Nat} (hs : Kept C P s) :
    Kept C P (moveBeat c s) := by
  unfold moveBeat
  dsimp only
  split
  · exact hs
  · refine kept_pumpRead ?_
    refine kept_ite (kept_handSeg (kept_onChan (kept_onChan (kept_onEng (kept_perf (kept_perf (kept_ite (kept_perf hs)
        hs))))))) ?_
    split
    · exact kept_ended (kept_onChan (kept_onChan (kept_onEng (kept_perf (kept_perf (kept_ite (kept_perf hs) hs))))))
    · exact kept_hostReq (kept_onChan (kept_onChan (kept_onEng (kept_perf (kept_perf (kept_ite (kept_perf hs) hs))))))

theorem kept_lullDone {c : Nat} (hs : Kept C P s) :
    Kept C P (lullDone c s) := by
  unfold lullDone
  exact kept_ite (kept_onSl (kept_setChStat (kept_onChan hs))) hs

theorem kept_chFetched {c gen : Nat} {r : HostRes} (hs : Kept C P s) :
    Kept C P (chFetched c gen r s) := by
  unfold chFetched
  exact kept_ite (kept_lullDone (kept_onChan hs)) hs

theorem kept_chReadDone {c gen : Nat} {r : HostRes} (hs : Kept C P s) :
    Kept C P (chReadDone c gen r s) := by
  unfold chReadDone
  dsimp only
  refine kept_ite ?_ hs
  refine kept_lullDone ?_
  refine kept_pumpRead ?_
  split
  · exact kept_chFail (kept_onChan hs)
  · exact kept_ite (kept_onChan hs) (kept_onChan (kept_ite (kept_chFail (kept_onChan hs)) (kept_onChan hs)))

theorem kept_chWriteDone {c gen : Nat} {r : HostRes} (hs : Kept C P s) :
    Kept C P (chWriteDone c gen r s) := by
  unfold chWriteDone
  dsimp only
  refine kept_ite ?_ hs
  refine kept_lullDone ?_
  split
  · exact kept_chFail (kept_onChan hs)
  · exact kept_onChan hs

theorem kept_chEnd {c : Nat} (hs : Kept C P s) :
    Kept C P (chEnd c s) := by
  unfold chEnd
  dsimp only
  refine kept_ite ?_ ?_
  · refine kept_setChStat ?_
    split
    · exact kept_ite (kept_cuePulse (kept_perf (kept_bumpF (kept_setChStat (kept_onEng (kept_onChan hs))))))
        (kept_perf (kept_bumpF (kept_setChStat (kept_onEng (kept_onChan hs)))))
    · exact kept_raiseLimited (kept_perf (kept_setChStat (kept_bumpF (kept_ownerWrite (kept_setChStat (kept_onEng
        (kept_onChan hs)))))))
  · refine kept_pumpFetch ?_
    split
    · exact kept_ite (kept_cuePulse (kept_perf (kept_bumpF (kept_setChStat (kept_onEng (kept_onChan hs))))))
        (kept_perf (kept_bumpF (kept_setChStat (kept_onEng (kept_onChan hs)))))
    · exact kept_raiseLimited (kept_perf (kept_setChStat (kept_bumpF (kept_ownerWrite (kept_setChStat (kept_onEng
        (kept_onChan hs)))))))

theorem kept_resetChan {c : Nat} (hs : Kept C P s) :
    Kept C P (resetChan c s) := by
  unfold resetChan
  exact kept_setChStat (kept_onChan (kept_shutMsg hs))

theorem kept_pauseChan {c : Nat} (hs : Kept C P s) :
    Kept C P (pauseChan c s) := by
  unfold pauseChan
  exact kept_ite (kept_setChStat (kept_onChan hs)) (kept_cmdRej hs)

/-! ## Meter -/

theorem kept_policeTlp_snd {q : Nat} {t : Tlp} (hs : Kept C P s) :
    Kept C P (policeTlp q t s).2 := by
  unfold policeTlp
  dsimp only
  refine kept_ite_snd (kept_pair hs) ?_
  refine kept_pair ?_
  split
  · exact kept_bump (kept_onDp hs)
  · exact kept_bump (kept_onDp hs)
  · exact kept_onDp hs

theorem kept_policeFme_snd {k len colour : Nat} (hs : Kept C P s) :
    Kept C P (policeFme k len colour s).2 := by
  unfold policeFme
  dsimp only
  refine kept_ite_snd (kept_pair hs) ?_
  refine kept_pair ?_
  split <;> exact kept_bump (kept_onDp hs)

/-! ## Target -/

theorem kept_answer {e : Nat} {p : Packet} {h : FmeHdr} {pt arg : Nat} {data : List Byte} {ep : Bool} (hs : Kept C P
    s) :
    Kept C P (answer e p h pt arg data ep s) := by
  unfold answer
  exact kept_fmeSend hs

theorem kept_sendAck {e : Nat} {p : Packet} {h : FmeHdr} {pend : Bool} {res : Option Nat} (hs : Kept C P s) :
    Kept C P (sendAck e p h pend res s) := by
  unfold sendAck
  exact kept_answer hs

theorem kept_sendNak {e : Nat} {p : Packet} {h : FmeHdr} {code : Nat} (hs : Kept C P s) :
    Kept C P (sendNak e p h code s) := by
  unfold sendNak
  exact kept_answer hs

theorem kept_setReasm {n : Nat} {l : List Reasm} (hs : Kept C P s) :
    Kept C P (setReasm n l s) := by
  unfold setReasm
  exact kept_setLivN (kept_onEng hs)

theorem kept_onReasm {n snode sfme mid : Nat} {f : Reasm → Reasm} (hs : Kept C P s) :
    Kept C P (onReasm n snode sfme mid f s) := by
  unfold onReasm
  exact kept_setReasm hs

theorem kept_messageEnd {e n : Nat} {r : Reasm} {code : Nat} (hs : Kept C P s) :
    Kept C P (messageEnd e n r code s) := by
  unfold messageEnd
  dsimp only
  split
  · exact kept_sendAck (kept_onReasm hs)
  · exact kept_onReasm hs

theorem kept_notify {e n : Nat} {r : Reasm} (hs : Kept C P s) :
    Kept C P (notify e n r s) := by
  unfold notify
  dsimp only
  split
  · exact kept_messageEnd hs
  · exact kept_ite (kept_messageEnd hs) (kept_ite (kept_onReasm hs) (kept_ownerWrite (kept_onReasm hs)))

theorem kept_retryNotify {i : Nat} (hs : Kept C P s) :
    Kept C P (retryNotify i s) := by
  unfold retryNotify
  dsimp only
  split
  · exact hs
  · exact kept_notify hs

theorem kept_noteDone {e n snode sfme mid : Nat} {res : HostRes} (hs : Kept C P s) :
    Kept C P (noteDone e n snode sfme mid res s) := by
  unfold noteDone
  dsimp only
  split
  · exact hs
  · refine kept_retryNotify ?_
    split
    · exact kept_messageEnd hs
    · refine kept_messageEnd ?_
      refine kept_wakeOn ?_
      split
      · exact kept_cuePulse (kept_onQ (kept_bump hs))
      · exact kept_onQ (kept_bump hs)

theorem kept_maybeNotify {e n snode sfme mid : Nat} (hs : Kept C P s) :
    Kept C P (maybeNotify e n snode sfme mid s) := by
  unfold maybeNotify
  dsimp only
  split
  · exact hs
  · exact kept_ite (kept_notify (kept_onReasm hs)) hs

theorem kept_checkReq_snd {e : Nat} {p : Packet} {h : FmeHdr} (hs : Kept C P s) :
    Kept C P (checkReq e p h s).2 := by
  unfold checkReq
  exact kept_pair (kept_ite (kept_admitKey hs) (kept_keyErr hs))

theorem kept_writeReq {e : Nat} {p : Packet} {h : FmeHdr} (hs : Kept C P s) :
    Kept C P (writeReq e p h s) := by
  unfold writeReq
  exact kept_ownerWrite hs

theorem kept_plainWreq {e : Nat} {p : Packet} {h : FmeHdr} (hs : Kept C P s) :
    Kept C P (plainWreq e p h s) := by
  unfold plainWreq
  split
  · next v e =>
      have hv : Kept C P v := kept_of_eq (kept_checkReq_snd hs) e
      exact kept_writeReq hv
  · next v _ e =>
      have hv : Kept C P v := kept_of_eq (kept_checkReq_snd hs) e
      exact kept_sendNak hv

theorem kept_openWreq {e : Nat} {p : Packet} {h : FmeHdr} (hs : Kept C P s) :
    Kept C P (openWreq e p h s) := by
  unfold openWreq
  dsimp only
  split
  · next v e =>
      have hv : Kept C P v := kept_of_eq (kept_checkReq_snd hs) e
      exact kept_writeReq (kept_onReasm hv)
  · next v _ e =>
      have hv : Kept C P v := kept_of_eq (kept_checkReq_snd hs) e
      exact kept_sendNak (kept_onReasm hv)

theorem kept_immWreq {e : Nat} {p : Packet} {h : FmeHdr} (hs : Kept C P s) :
    Kept C P (immWreq e p h s) := by
  unfold immWreq
  dsimp only
  split
  · exact kept_ite (kept_sendNak (kept_bump hs)) (kept_openWreq (kept_setReasm hs))
  · split
    · exact kept_ite (kept_ite (kept_bump (kept_onReasm hs)) (kept_ite (kept_sendAck (kept_bump (kept_onReasm hs)))
        (kept_sendAck (kept_bump (kept_onReasm hs))))) (kept_openWreq (kept_onReasm hs))
    · exact kept_onReasm hs
    · exact kept_ite (kept_sendAck (kept_ite (kept_bump (kept_onReasm hs)) (kept_onReasm hs))) (kept_ite (kept_sendAck
        (kept_ite (kept_bump (kept_onReasm hs)) (kept_onReasm hs))) (kept_sendNak (kept_ite (kept_bump (kept_onReasm
        hs)) (kept_onReasm hs))))

theorem kept_wreqDone {e k : Nat} {p : Packet} {res : HostRes} (hs : Kept C P s) :
    Kept C P (wreqDone e k p res s) := by
  unfold wreqDone
  dsimp only
  refine kept_ite ?_ ?_
  · split
    · exact kept_sendNak (kept_releaseKey (kept_ite (kept_perf hs) hs))
    · exact kept_sendAck (kept_releaseKey (kept_ite (kept_perf hs) hs))
  · split
    · exact kept_onReasm (kept_releaseKey (kept_ite (kept_perf hs) hs))
    · exact kept_maybeNotify (kept_ite (kept_onReasm (kept_releaseKey (kept_ite (kept_perf hs) hs))) (kept_ite
        (kept_sendNak (kept_onReasm (kept_releaseKey (kept_ite (kept_perf hs) hs)))) (kept_ite (kept_sendAck
        (kept_onReasm (kept_releaseKey (kept_ite (kept_perf hs) hs)))) (kept_sendAck (kept_onReasm (kept_releaseKey
        (kept_ite (kept_perf hs) hs)))))))

theorem kept_rreqIn {e : Nat} {p : Packet} {h : FmeHdr} (hs : Kept C P s) :
    Kept C P (rreqIn e p h s) := by
  unfold rreqIn
  dsimp only
  split
  · next v e =>
      have hv : Kept C P v := kept_of_eq (kept_checkReq_snd hs) e
      exact kept_ownerRead hv
  · next v _ e =>
      have hv : Kept C P v := kept_of_eq (kept_checkReq_snd hs) e
      exact kept_sendNak hv

theorem kept_rreqDone {e k : Nat} {p : Packet} {res : HostRes} (hs : Kept C P s) :
    Kept C P (rreqDone e k p res s) := by
  unfold rreqDone
  dsimp only
  split
  · exact kept_answer (kept_releaseKey hs)
  · exact kept_sendNak (kept_releaseKey hs)

theorem kept_sendAresp {e : Nat} {p : Packet} {old : Nat} {ep : Bool} (hs : Kept C P s) :
    Kept C P (sendAresp e p old ep s) := by
  unfold sendAresp
  exact kept_answer hs

theorem kept_areqIn {e : Nat} {p : Packet} {h : FmeHdr} (hs : Kept C P s) :
    Kept C P (areqIn e p h s) := by
  unfold areqIn
  dsimp only
  split
  · split
    · exact kept_sendAresp (kept_onReasm (kept_bump hs))
    · exact kept_sendNak (kept_onReasm (kept_bump hs))
    · exact kept_onReasm (kept_bump hs)
  · refine kept_ite (kept_sendNak (kept_bump hs)) ?_
    split
    · next v1 e1 =>
        have hv1 : Kept C P v1 := kept_of_eq (kept_checkReq_snd hs) e1
        exact kept_ownerAtomic (kept_setReasm hv1)
    · next v1 _ e1 =>
        have hv1 : Kept C P v1 := kept_of_eq (kept_checkReq_snd hs) e1
        exact kept_sendNak hv1

theorem kept_areqDone {e k : Nat} {p : Packet} {res : HostRes} (hs : Kept C P s) :
    Kept C P (areqDone e k p res s) := by
  unfold areqDone
  dsimp only
  split
  · exact kept_sendAresp (kept_onReasm (kept_releaseKey hs))
  · exact kept_sendNak (kept_onReasm (kept_releaseKey hs))

theorem kept_serveReq {e : Nat} {p : Packet} (hs : Kept C P s) : Kept C P (serveReq e p s) := by
  unfold serveReq
  extract_lets h k o sliced
  split
  · exact kept_sendNak hs
  split
  next c v heq =>
    have hv : Kept C P v := by
      refine kept_of_eq ?_ heq
      split
      · exact kept_policeFme_snd hs
      · exact hs
    exact kept_ite (kept_sendNak hv)
      (kept_ite (kept_rreqIn hv) (kept_ite (kept_areqIn hv) (kept_ite (kept_immWreq hv) (kept_plainWreq hv))))

theorem kept_reqIn {e : Nat} {p : Packet} (hs : Kept C P s) :
    Kept C P (reqIn e p s) := by
  unfold reqIn
  dsimp only
  refine kept_ite (kept_sendNak hs) ?_
  split
  · next v e =>
      have hv : Kept C P v := kept_of_eq (kept_lookup_snd hs) e
      exact kept_serveReq hv
  · next v e =>
      have hv : Kept C P v := kept_of_eq (kept_lookup_snd hs) e
      exact hv

theorem kept_takeFme {e pt : Nat} {p : Packet} (hs : Kept C P s) (h : takeFme e pt s = some (p, u)) : Kept C P u := by
  unfold takeFme at h
  obtain ⟨r, -, hr⟩ := Option.map_eq_some_iff.1 h
  exact (Prod.mk.inj hr).2 ▸ kept_onDp hs

/-! ## Slice Ops -/

theorem kept_lineDone {t : Nat} {fl bad : Bool} (hs : Kept C P s) :
    Kept C P (lineDone t fl bad s) := by
  unfold lineDone
  exact kept_onSl hs

theorem kept_logRead {t sel line bits : Nat} {fl : Bool} {r : HostRes} (hs : Kept C P s) :
    Kept C P (logRead t sel line bits fl r s) := by
  unfold logRead
  dsimp only
  split
  · exact kept_hostWrite hs
  · exact kept_lineDone hs

theorem kept_flushLines {t : Nat} (hs : Kept C P s) :
    Kept C P (flushLines t s) := by
  unfold flushLines
  exact kept_foldl (kept_onSl hs) (fun _ _ h1 => kept_writeBack h1)

theorem kept_dropLines {t : Nat} (hs : Kept C P s) :
    Kept C P (dropLines t s) := by
  unfold dropLines
  exact kept_onEng hs

theorem kept_effect {w : Work} {r : HostRes} (hs : Kept C P s) :
    Kept C P (effect w r s) := by
  unfold effect
  split
  · exact kept_ringRead hs
  · exact kept_sourceRead hs
  · exact kept_sinkDone hs
  · exact kept_concluded hs
  · exact kept_wreqDone hs
  · exact kept_rreqDone hs
  · exact kept_areqDone hs
  · exact kept_noteDone hs
  · exact kept_chFetched hs
  · exact kept_chReadDone hs
  · exact kept_chWriteDone hs
  · exact hs
  · exact kept_logRead hs
  · exact kept_lineDone hs

theorem kept_settleFor {fuel : Nat} (hs : Kept C P s) : Kept C P (settleFor fuel s) := by
  induction fuel generalizing s with
  | zero => exact hs
  | succ fuel ih =>
    unfold settleFor
    split
    · exact hs
    · exact ih (kept_effect (kept_onIo hs))

theorem kept_beginLull {t : Nat} (hs : Kept C P s) :
    Kept C P (beginLull t s) := by
  unfold beginLull
  exact kept_foldl (kept_foldl (kept_onSl hs) (fun _ _ h1 => kept_abandon h1)) (fun _ _ h1 => kept_ite (kept_lullDone
      (kept_shutMsg (kept_onChan h1))) h1)

theorem kept_enterLull {t : Nat} (hs : Kept C P s) :
    Kept C P (enterLull t s) := by
  unfold enterLull
  dsimp only
  refine kept_ite ?_ ?_
  · refine kept_endLong ?_
    refine kept_ite (kept_onSl hs) ?_
    refine kept_ite ?_ ?_
    · refine kept_logDevice ?_
      split
      · exact kept_cuePulse (kept_raise (kept_onSl hs))
      · exact kept_raise (kept_onSl hs)
    · split
      · exact kept_cuePulse (kept_raise (kept_onSl hs))
      · exact kept_raise (kept_onSl hs)
  · refine kept_ite (kept_onSl hs) ?_
    refine kept_ite ?_ ?_
    · refine kept_logDevice ?_
      split
      · exact kept_cuePulse (kept_raise (kept_onSl hs))
      · exact kept_raise (kept_onSl hs)
    · split
      · exact kept_cuePulse (kept_raise (kept_onSl hs))
      · exact kept_raise (kept_onSl hs)

theorem kept_tryLull {t : Nat} (hs : Kept C P s) :
    Kept C P (tryLull t s) := by
  unfold tryLull
  exact kept_ite (kept_ite (kept_enterLull (kept_ite hs (kept_flushLines (kept_onSl hs)))) (kept_ite hs
      (kept_flushLines (kept_onSl hs)))) hs

theorem kept_resetSlice {t : Nat} (hs : Kept C P s) :
    Kept C P (resetSlice t s) := by
  unfold resetSlice
  exact kept_tryLull (kept_onSl (kept_dropLines hs))

/-! ## Cfg Space -/

theorem kept_bridgeSet {x : Nat} {r : CfgReg} {m : Nat} (hs : Kept C P s) :
    Kept C P (bridgeSet x r m s) := by
  unfold bridgeSet
  exact kept_setCfg hs

/-! ## Link Ops -/

theorem kept_setLaneState {n l st : Nat} (hs : Kept C P s) :
    Kept C P (setLaneState n l st s) := by
  unfold setLaneState
  exact kept_setLane (kept_setLivF hs)

theorem kept_putRec {n l ctle temp droop : Nat} {r : LaneRec} (hs : Kept C P s) :
    Kept C P (putRec n l ctle temp droop r s) := by
  unfold putRec
  exact kept_setLivN (kept_onDp hs)

theorem kept_spareTrain {n st : Nat} (hs : Kept C P s) :
    Kept C P (spareTrain n st s) := by
  unfold spareTrain
  exact kept_setSpare (kept_setLivF (kept_setLivF (kept_setLaneState (kept_ite (kept_logDevice hs) hs))))

theorem kept_syncFl {n f : Nat} (hs : Kept C P s) :
    Kept C P (syncFl n f s) := by
  unfold syncFl
  exact kept_setLivN (kept_setLivN hs)

theorem kept_syncClear (hs : Kept C P s) :
    Kept C P (syncClear s) := by
  unfold syncClear
  exact kept_ite (kept_ite (kept_raiseStn (kept_onDp (kept_setLivF hs))) (kept_onDp (kept_setLivF hs))) hs

theorem kept_setFl {n f st : Nat} (hs : Kept C P s) :
    Kept C P (setFl n f st s) := by
  unfold setFl
  exact kept_ite (kept_syncClear (kept_onLnk (kept_setLivF hs))) (kept_onLnk (kept_setLivF hs))

theorem kept_initLink {n f : Nat} (hs : Kept C P s) :
    Kept C P (initLink n f s) := by
  unfold initLink
  exact kept_syncFl (kept_setLnk (kept_bump hs))

theorem kept_resendFrom {n f a : Nat} (hs : Kept C P s) :
    Kept C P (resendFrom n f a s) := by
  unfold resendFrom
  exact kept_foldl (kept_setLnk hs) (fun _ _ h1 => kept_perf (kept_emit h1))

theorem kept_resendAll {n f : Nat} (hs : Kept C P s) :
    Kept C P (resendAll n f s) := by
  unfold resendAll
  split
  · exact hs
  · exact kept_resendFrom hs

theorem kept_ctrlSend {n f : Nat} {b : ShortBody} (hs : Kept C P s) :
    Kept C P (ctrlSend n f b s) := by
  unfold ctrlSend
  exact kept_onLnk hs

theorem kept_sendWidth {n f : Nat} (hs : Kept C P s) :
    Kept C P (sendWidth n f s) := by
  unfold sendWidth
  exact kept_ctrlSend (kept_setLivF (kept_ite (kept_initLink hs) hs))

theorem kept_linkUp {n f : Nat} (hs : Kept C P s) :
    Kept C P (linkUp n f s) := by
  unfold linkUp
  exact kept_ite (kept_endLong (kept_resendAll (kept_ite (kept_logDevice (kept_raiseStn (kept_setLivF (kept_onLnk
      (kept_setFl hs))))) (kept_setLivF (kept_onLnk (kept_setFl hs)))))) (kept_resendAll (kept_ite (kept_logDevice
      (kept_raiseStn (kept_setLivF (kept_onLnk (kept_setFl hs))))) (kept_setLivF (kept_onLnk (kept_setFl hs)))))

theorem kept_sendReq {n f op tw sel : Nat} (hs : Kept C P s) :
    Kept C P (sendReq n f op tw sel s) := by
  unfold sendReq
  exact kept_onLnk (kept_setFl (kept_ctrlSend hs))

theorem kept_enterPause {n f op tw sel : Nat} (hs : Kept C P s) :
    Kept C P (enterPause n f op tw sel s) := by
  unfold enterPause
  exact kept_foldl (kept_foldl (kept_ite (kept_spareTrain (kept_onLnk (kept_setLivF (kept_setFl (kept_bump hs)))))
      (kept_onLnk (kept_setLivF (kept_setFl (kept_bump hs))))) (fun _ _ h1 => kept_setLaneState h1)) (fun _ _ h1 =>
      kept_setLaneState h1)

theorem kept_reoffer {n f : Nat} {l : List ShortBody} (hs : Kept C P s) : Kept C P (reoffer n f l s) := by
  fun_induction reoffer n f l s with
  | case6 => exact hs
  | case5 _ _ _ _ _ _ _ ih => exact ih hs
  | _ => rename_i ih; exact ih (kept_sendShort hs)

theorem kept_loseUnit {n : Nat} {u : CUnit} (hs : Kept C P s) :
    Kept C P (loseUnit n u s) := by
  unfold loseUnit
  split
  · exact kept_undeliverable hs
  · exact kept_reoffer hs
  · exact hs

theorem kept_losePort {n f : Nat} (hs : Kept C P s) :
    Kept C P (losePort n f s) := by
  unfold losePort
  exact kept_clearQueues (fun _ _ h1 => kept_loseUnit h1) hs

theorem kept_emptyLink {n f : Nat} {lost : Bool} (hs : Kept C P s) :
    Kept C P (emptyLink n f lost s) := by
  unfold emptyLink
  exact kept_ite (kept_reoffer (kept_foldl (kept_onLnk (kept_initLink hs)) (fun _ _ h1 => kept_ite h1
      (kept_undeliverable h1)))) (kept_onLnk (kept_initLink hs))

theorem kept_startLanes {n f : Nat} (hs : Kept C P s) :
    Kept C P (startLanes n f s) := by
  unfold startLanes
  exact kept_onLnk (kept_setLivF (kept_setLivF (kept_ite (kept_spareTrain (kept_foldl hs (fun _ _ h1 =>
      kept_setLaneState h1))) (kept_foldl hs (fun _ _ h1 => kept_setLaneState h1)))))

theorem kept_toTrain {n f : Nat} (hs : Kept C P s) :
    Kept C P (toTrain n f s) := by
  unfold toTrain
  exact kept_ite (kept_endLong (kept_startLanes (kept_losePort (kept_emptyLink (kept_setFl (kept_logDevice (kept_raise
      (kept_onFab (kept_setWithdrawn (kept_bump (kept_ite (kept_raiseStn hs) hs))))))))))) (kept_startLanes
      (kept_losePort (kept_emptyLink (kept_setFl (kept_logDevice (kept_raise (kept_onFab (kept_setWithdrawn (kept_bump
      (kept_ite (kept_raiseStn hs) hs))))))))))

theorem kept_toDown {n f : Nat} (hs : Kept C P s) :
    Kept C P (toDown n f s) := by
  unfold toDown
  exact kept_ite (kept_endLong (kept_setLivF (kept_emptyLink (kept_setFl hs)))) (kept_setLivF (kept_emptyLink
      (kept_setFl hs)))

theorem kept_fabEnable {n f : Nat} (hs : Kept C P s) :
    Kept C P (fabEnable n f s) := by
  unfold fabEnable
  exact kept_startLanes (kept_setFl hs)

theorem kept_ackTo {n f a : Nat} (hs : Kept C P s) :
    Kept C P (ackTo n f a s) := by
  unfold ackTo
  exact kept_ite (kept_raiseStn hs) (kept_ite hs (kept_syncFl (kept_setLnk hs)))

theorem kept_applyWidth {n f node stn port nes : Nat} {ini : Bool} (hs : Kept C P s) :
    Kept C P (applyWidth n f node stn port nes ini s) := by
  unfold applyWidth
  exact kept_ite (kept_ite (kept_linkUp (kept_setLivF (kept_ite (kept_raiseStn (kept_onLnk (kept_ite hs (kept_initLink
      hs)))) (kept_ackTo hs)))) (kept_raiseStn (kept_setLivF (kept_ite (kept_raiseStn (kept_onLnk (kept_ite hs
      (kept_initLink hs)))) (kept_ackTo hs))))) (kept_ite (kept_raiseStn (kept_onLnk (kept_ite hs (kept_initLink
      hs)))) (kept_ackTo hs))

theorem kept_lanesActive {n f : Nat} (hs : Kept C P s) :
    Kept C P (lanesActive n f s) := by
  unfold lanesActive
  dsimp only
  split
  · split
    · exact kept_applyWidth (kept_onLnk (kept_setFl (kept_sendWidth (kept_onLnk hs))))
    · exact kept_setFl (kept_sendWidth (kept_onLnk hs))
  · exact kept_linkUp (kept_sendWidth (kept_onLnk hs))
  · exact kept_onLnk hs

theorem kept_laneLost {n f : Nat} (hs : Kept C P s) :
    Kept C P (laneLost n f s) := by
  unfold laneLost
  split
  · split
    · exact kept_sendReq hs
    · exact kept_toTrain hs
  · exact kept_toTrain hs
  · exact hs

/-! ## Tlp Ops -/

theorem kept_sendImport {src : Nat} {o : Origin} {q k colour : Nat} {lock : Bool} {t : Tlp} (hs : Kept C P s) :
    Kept C P (sendImport src o q k colour lock t s) := by
  unfold sendImport
  exact kept_sendPkt hs

theorem kept_sendExport {src : Nat} {o : Origin} {x : Nat} {t : Tlp} (hs : Kept C P s) :
    Kept C P (sendExport src o x t s) := by
  unfold sendExport
  exact kept_sendPkt hs

theorem kept_reply {src q : Nat} {e : Entrance} {t : Tlp} (hs : Kept C P s) :
    Kept C P (reply src q e t s) := by
  unfold reply
  split
  · exact kept_sendLocal hs
  · exact kept_sendImport hs

theorem kept_refuse {src q : Nat} {e : Entrance} {status cause : Nat} {t : Tlp} (hs : Kept C P s) :
    Kept C P (refuse src q e status cause t s) := by
  unfold refuse
  refine kept_ite (kept_reply hs) ?_
  split
  · exact kept_ite (kept_sendPfn hs) hs
  · exact hs

theorem kept_isoReject {src q : Nat} {e : Entrance} {t : Tlp} (hs : Kept C P s) :
    Kept C P (isoReject src q e t s) := by
  unfold isoReject
  exact kept_raise (kept_bump (kept_aerError (kept_refuse hs)))

theorem kept_setLock {x : Nat} {l : Lock} (hs : Kept C P s) :
    Kept C P (setLock x l s) := by
  unfold setLock
  exact kept_setLivF (kept_onEport hs)

theorem kept_lockFor {o : Origin} {x : Nat} {t : Tlp} (hs : Kept C P s) :
    Kept C P (lockFor o x t s) := by
  unfold lockFor
  split
  · exact kept_ite (kept_setLock hs) hs
  · exact hs

theorem kept_lockReq {l : LockSeq} {op : Nat} (hs : Kept C P s) :
    Kept C P (lockReq l op s) := by
  unfold lockReq
  exact kept_sendShort hs

theorem kept_lockSend {x : Nat} {l : LockSeq} {t : Tlp} (hs : Kept C P s) :
    Kept C P (lockSend x l t s) := by
  unfold lockSend
  exact kept_sendPkt hs

theorem kept_waitUnit {id : Nat} {w : UWait} (hs : Kept C P s) :
    Kept C P (waitUnit id w s) := by
  unfold waitUnit
  split
  · exact hs
  · exact kept_setUnit hs

theorem kept_lockAsk {src : Nat} {o : Origin} {q k colour : Nat} {t : Tlp} (hs : Kept C P s) :
    Kept C P (lockAsk src o q k colour t s) := by
  unfold lockAsk
  dsimp only
  split
  · exact kept_undeliverable (kept_bump hs)
  · next v e =>
      have hv : Kept C P v := kept_forward hs e
      split
      · exact kept_ite hv (kept_waitUnit hv)
      · exact kept_lockReq (kept_onFab (kept_waitUnit hv))

theorem kept_withdraw {id : Nat} (hs : Kept C P s) :
    Kept C P (withdraw id s) := by
  unfold withdraw
  dsimp only
  split
  · exact hs
  · exact kept_doneUnit (kept_freeUnit (kept_onIng hs))

theorem kept_toPort {src : Nat} {o : Origin} {q x colour : Nat} {no : Nat → Nat → State → State} {t : Tlp} (hno : ∀ x0
    x1 u2, Kept C P u2 → Kept C P (no x0 x1 u2)) (hs : Kept C P s) :
    Kept C P (toPort src o q x colour no t s) := by
  unfold toPort
  split
  · exact hno _ _ _ hs
  · exact kept_sendLocal (kept_lockFor hs)

theorem kept_tagGive {x : Nat} (hs : Kept C P s) :
    Kept C P (tagGive x s) := by
  unfold tagGive
  dsimp only
  refine kept_foldl hs ?_
  intro _ _ h1
  split
  · exact kept_setUnit (kept_onEport h1)
  · exact h1

theorem kept_cfgAnswer {src q : Nat} {e : Entrance} {v : Word × Word} {t : Tlp} (hs : Kept C P s) :
    Kept C P (cfgAnswer src q e v t s) := by
  unfold cfgAnswer
  exact kept_reply (kept_draw hs)

theorem kept_toShared {src : Nat} {o : Origin} {q : Nat} {e : Entrance} {x colour : Nat} {no : Nat → Nat → State →
    State} {t : Tlp} (hno : ∀ x0 x1 u2, Kept C P u2 → Kept C P (no x0 x1 u2)) (hs : Kept C P s) :
    Kept C P (toShared src o q e x colour no t s) := by
  unfold toShared
  dsimp only
  split
  · exact hno _ _ _ hs
  · refine kept_ite (kept_ite (kept_cfgAnswer hs) hs) ?_
    split
    · exact hno _ _ _ hs
    · exact kept_ite (kept_tagGive (kept_waitUnit (kept_sendLocal (kept_lockFor hs)))) (kept_sendLocal (kept_lockFor
        hs))

theorem kept_toBridge {src : Nat} {o : Origin} {q : Nat} {e : Entrance} {i : Nat} {b : Bridge} {colour : Nat} {t :
    Tlp} (hs : Kept C P s) :
    Kept C P (toBridge src o q e i b colour t s) := by
  unfold toBridge
  dsimp only
  refine kept_ite (kept_isoReject hs) ?_
  split
  · exact kept_ite (kept_isoReject hs) (kept_toPort (fun _ _ _ h1 => kept_refuse h1) hs)
  · exact kept_ite (kept_lockAsk hs) (kept_sendImport hs)
  · exact kept_toShared (fun _ _ _ h1 => kept_refuse h1) hs

theorem kept_deviceWire {q i : Nat} {pin : Fin 4} {on : Bool} (hs : Kept C P s) :
    Kept C P (deviceWire q i pin on s) := by
  unfold deviceWire
  exact kept_intx (kept_upd hs)

theorem kept_markEntry {f : Nat × Nat} {id : Nat} (hs : Kept C P s) :
    Kept C P (markEntry f id s) := by
  unfold markEntry
  exact kept_onDp hs

theorem kept_inPartition_unclaimed {src q : Nat} {e : Entrance} {t : Tlp} (hs : Kept C P s) :
    Kept C P (inPartition.unclaimed src q e t s) := by
  unfold inPartition.unclaimed
  exact kept_refuse (kept_ite hs (kept_aerError hs))

theorem kept_inPartition {src : Nat} {o : Origin} {q : Nat} {e : Entrance} {colour : Nat} {t : Tlp} (hs : Kept C P s) :
    Kept C P (inPartition src o q e colour t s) := by
  unfold inPartition
  refine kept_markEntry ?_
  split
  · split
    · exact kept_sendLocal hs
    · exact hs
  · exact kept_toBridge hs
  · refine kept_ite ?_ hs
    split
    · exact kept_inPartition_unclaimed hs
    · exact kept_ite (kept_cfgAnswer hs) hs
  · exact kept_inPartition_unclaimed hs
  · refine kept_foldl hs ?_
    intro _ _ h1
    split
    · exact kept_toPort (fun _ _ _ h2 => h2) h1
    · exact kept_sendImport h1
    · exact h1
  · exact kept_deviceWire hs
  · exact kept_refuse (kept_aerError hs)

/-! ## Spc Ops -/

theorem kept_onSpc {n : Nat} {f : Spc → Spc} (hs : Kept C P s) :
    Kept C P (State.onSpc s n f) := by
  unfold State.onSpc
  exact kept_upd hs

theorem kept_setSpc {n : Nat} {f : Fld} {v : Nat} (hs : Kept C P s) :
    Kept C P (setSpc n f v s) := by
  unfold setSpc
  exact kept_setLivF hs

theorem kept_toState {n st : Nat} (hs : Kept C P s) :
    Kept C P (toState n st s) := by
  unfold toState
  exact kept_setSpc hs

theorem kept_slotStatus {n set : Nat} (hs : Kept C P s) :
    Kept C P (slotStatus n set s) := by
  unfold slotStatus
  exact kept_foldl hs (fun _ _ h1 => kept_setCfg h1)

theorem kept_hotplug {n : Nat} (hs : Kept C P s) :
    Kept C P (hotplug n s) := by
  unfold hotplug
  exact kept_ite (kept_raiseStn hs) hs

theorem kept_spcEvent {n g : Nat} {fault : Bool} (hs : Kept C P s) :
    Kept C P (spcEvent n g fault s) := by
  unfold spcEvent
  exact kept_ite (kept_hotplug (kept_slotStatus (kept_raise hs))) (kept_raise hs)

theorem kept_spcCue {n b : Nat} (hs : Kept C P s) :
    Kept C P (spcCue n b s) := by
  unfold spcCue
  exact kept_ite (kept_cuePulse hs) hs

theorem kept_onWin {n k : Nat} {f : Window → Window} (hs : Kept C P s) :
    Kept C P (onWin n k f s) := by
  unfold onWin
  exact kept_onSpc hs

theorem kept_openWin {n k : Nat} (hs : Kept C P s) :
    Kept C P (openWin n k s) := by
  unfold openWin
  exact kept_onWin (kept_setLivN (kept_setLivN (kept_setLivN (kept_setLivN hs))))

theorem kept_winDur {n k : Nat} (hs : Kept C P s) :
    Kept C P (winDur n k s) := by
  unfold winDur
  exact kept_ite (kept_setLivF (kept_fit_snd hs)) hs

theorem kept_closeWin {n k : Nat} (hs : Kept C P s) :
    Kept C P (closeWin n k s) := by
  unfold closeWin
  exact kept_onWin (kept_winDur hs)

theorem kept_closeRuns {n : Nat} (hs : Kept C P s) :
    Kept C P (closeRuns n s) := by
  unfold closeRuns
  exact kept_closeWin (kept_closeWin hs)

theorem kept_winStep {n v i uw : Nat} {pg : Bool} {k : Nat} (hs : Kept C P s) :
    Kept C P (winStep n v i uw pg k s) := by
  unfold winStep
  exact kept_ite (kept_setLivN (kept_fit_snd (kept_onWin (kept_setLivN (kept_winDur (kept_setLivF (kept_fit_snd
      (kept_setLivN hs)))))))) hs

theorem kept_gatesOff {n : Nat} (hs : Kept C P s) :
    Kept C P (gatesOff n s) := by
  unfold gatesOff
  exact kept_onSpc hs

theorem kept_perstFall {n : Nat} (hs : Kept C P s) :
    Kept C P (perstFall n s) := by
  unfold perstFall
  exact kept_onSpc hs

theorem kept_perstRise {n : Nat} (hs : Kept C P s) :
    Kept C P (perstRise n s) := by
  unfold perstRise
  exact kept_onSpc hs

theorem kept_pgDown {n : Nat} (hs : Kept C P s) :
    Kept C P (pgDown n s) := by
  unfold pgDown
  exact kept_setSpc (kept_onSpc (kept_perstFall hs))

theorem kept_driveGate {n x : Nat} (hs : Kept C P s) :
    Kept C P (driveGate n x s) := by
  unfold driveGate
  exact kept_setSpc (kept_onSpc hs)

theorem kept_startRamp {n x : Nat} (hs : Kept C P s) :
    Kept C P (startRamp n x s) := by
  unfold startRamp
  exact kept_toState (kept_onSpc (kept_driveGate hs))

theorem kept_faultRecord {n cause point : Nat} (hs : Kept C P s) :
    Kept C P (faultRecord n cause point s) := by
  unfold faultRecord
  exact kept_setLiv64 (kept_setLivN (kept_setLivN (kept_fit_snd hs)))

theorem kept_flagStn {a n : Nat} (hs : Kept C P s) :
    Kept C P (flagStn a n s) := by
  unfold flagStn
  exact kept_setLiv hs

theorem kept_spcLog {n g : Nat} (hs : Kept C P s) :
    Kept C P (spcLog n g s) := by
  unfold spcLog
  exact kept_logDevice hs

theorem kept_enterOff {n : Nat} (hs : Kept C P s) :
    Kept C P (enterOff n s) := by
  unfold enterOff
  exact kept_spcCue (kept_closeWin (kept_onSpc (kept_setSpc (kept_toState hs))))

theorem kept_enterLockout {n : Nat} (hs : Kept C P s) :
    Kept C P (enterLockout n s) := by
  unfold enterLockout
  exact kept_spcCue (kept_spcLog (kept_spcEvent (kept_setSpc (kept_toState hs))))

theorem kept_trip {n cause point : Nat} (hs : Kept C P s) :
    Kept C P (trip n cause point s) := by
  unfold trip
  exact kept_ite (kept_toState (kept_onSpc (kept_spcCue (kept_spcLog (kept_spcEvent (kept_flagStn (kept_closeRuns
      (kept_setSpc (kept_bump (kept_pgDown (kept_gatesOff (kept_faultRecord hs)))))))))))) (kept_enterLockout
      (kept_spcCue (kept_spcLog (kept_spcEvent (kept_flagStn (kept_closeRuns (kept_setSpc (kept_bump (kept_pgDown
      (kept_gatesOff (kept_faultRecord hs)))))))))))

theorem kept_enterFeedLoss {n : Nat} (hs : Kept C P s) :
    Kept C P (enterFeedLoss n s) := by
  unfold enterFeedLoss
  exact kept_spcLog (kept_spcEvent (kept_flagStn (kept_openWin (kept_toState (kept_pgDown (kept_gatesOff
      (kept_faultRecord hs)))))))

theorem kept_enterSwitch {n x : Nat} (hs : Kept C P s) :
    Kept C P (enterSwitch n x s) := by
  unfold enterSwitch
  exact kept_openWin (kept_toState (kept_onSpc hs))

theorem kept_rampAgain {n : Nat} (hs : Kept C P s) :
    Kept C P (rampAgain n s) := by
  unfold rampAgain
  split
  · exact kept_startRamp hs
  · exact kept_enterFeedLoss hs

theorem kept_retryNow {n : Nat} (hs : Kept C P s) :
    Kept C P (retryNow n s) := by
  unfold retryNow
  exact kept_rampAgain (kept_openWin (kept_onSpc (kept_setSpc hs)))

theorem kept_gateFull {n : Nat} (hs : Kept C P s) :
    Kept C P (gateFull n s) := by
  unfold gateFull
  exact kept_ite (kept_spcCue (kept_logDevice (kept_spcEvent (kept_flagStn (kept_toState (kept_onSpc hs))))))
      (kept_toState (kept_onSpc hs))

theorem kept_pgUp {n : Nat} (hs : Kept C P s) :
    Kept C P (pgUp n s) := by
  unfold pgUp
  exact kept_spcCue (kept_setSpc (kept_onSpc hs))

theorem kept_presence {n : Nat} {here : Bool} (hs : Kept C P s) :
    Kept C P (presence n here s) := by
  unfold presence
  exact kept_ite (kept_enterOff (kept_spcLog (kept_spcEvent (kept_flagStn (kept_closeRuns (kept_setSpc (kept_pgDown
      (kept_gatesOff (kept_faultRecord (kept_ite (kept_hotplug (kept_slotStatus (kept_setSpc (kept_onSpc hs))))
      (kept_foldl (kept_hotplug (kept_slotStatus (kept_setSpc (kept_onSpc hs)))) (fun _ _ h1 => kept_cfgBit
      h1)))))))))))) (kept_ite (kept_hotplug (kept_slotStatus (kept_setSpc (kept_onSpc hs)))) (kept_foldl
      (kept_hotplug (kept_slotStatus (kept_setSpc (kept_onSpc hs)))) (fun _ _ h1 => kept_cfgBit h1)))

theorem kept_onFeed {n k : Nat} {f : Feed → Feed} (hs : Kept C P s) :
    Kept C P (onFeed n k f s) := by
  unfold onFeed
  exact kept_onSpc hs

theorem kept_setValid {n k : Nat} {v : Bool} (hs : Kept C P s) :
    Kept C P (setValid n k v s) := by
  unfold setValid
  exact kept_onFeed (kept_setSpc hs)

theorem kept_feedLost {n k : Nat} (hs : Kept C P s) :
    Kept C P (feedLost n k s) := by
  unfold feedLost
  dsimp only
  split
  · exact kept_ite (kept_enterFeedLoss hs) hs
  · exact kept_ite (kept_enterSwitch hs) hs

theorem kept_feedFound {n : Nat} (hs : Kept C P s) :
    Kept C P (feedFound n s) := by
  unfold feedFound
  dsimp only
  split
  · exact hs
  · exact kept_ite (kept_startRamp hs) (kept_ite (kept_startRamp (kept_openWin hs)) hs)

theorem kept_disableEnd {n : Nat} (hs : Kept C P s) :
    Kept C P (disableEnd n s) := by
  unfold disableEnd
  exact kept_enterOff (kept_closeRuns (kept_pgDown (kept_gatesOff hs)))

theorem kept_takeSpcSample {n : Nat} {m : SpcSample} (hs : Kept C P s) :
    Kept C P (takeSpcSample n m s) := by
  unfold takeSpcSample
  exact kept_onSpc hs

theorem kept_presenceStep {n : Nat} {m : SpcSample} (hs : Kept C P s) :
    Kept C P (presenceStep n m s) := by
  unfold presenceStep
  exact kept_ite hs (kept_ite (kept_onSpc hs) (kept_ite (kept_presence (kept_onSpc hs)) (kept_onSpc hs)))

theorem kept_feedStep_snd {n k c : Nat} (hs : Kept C P s) :
    Kept C P (feedStep n k c s).2 := by
  unfold feedStep
  exact kept_ite_snd (kept_pair (kept_ite (kept_setValid (kept_onFeed (kept_ite (kept_setValid hs) hs))) (kept_onFeed
      (kept_ite (kept_setValid hs) hs)))) (kept_pair (kept_onFeed (kept_ite (kept_setValid hs) hs)))

theorem kept_curveStep {n : Nat} (hs : Kept C P s) :
    Kept C P (curveStep n s) := by
  unfold curveStep
  exact kept_foldl hs (fun _ _ h1 => kept_ite (kept_onSpc h1) h1)

theorem kept_protectStep {n : Nat} (hs : Kept C P s) :
    Kept C P (protectStep n s) := by
  unfold protectStep
  dsimp only
  refine kept_ite hs ?_
  refine kept_ite (kept_trip (kept_onSpc (kept_curveStep hs))) ?_
  split
  · exact kept_trip (kept_onSpc (kept_curveStep hs))
  · exact kept_ite (kept_trip (kept_onSpc (kept_curveStep hs))) (kept_ite (kept_trip (kept_onSpc (kept_curveStep hs)))
      (kept_onSpc (kept_curveStep hs)))

theorem kept_switchStep {n : Nat} {m : SpcSample} (hs : Kept C P s) :
    Kept C P (switchStep n m s) := by
  unfold switchStep
  dsimp only
  split
  · exact kept_ite (kept_onSpc hs) hs
  · exact kept_ite (kept_driveGate (kept_onSpc hs)) hs
  · exact kept_ite (kept_gateFull hs) hs
  · exact hs

theorem kept_gateStep {n : Nat} {m : SpcSample} (hs : Kept C P s) :
    Kept C P (gateStep n m s) := by
  unfold gateStep
  split
  · exact kept_feedFound hs
  · exact kept_feedFound hs
  · exact kept_ite (kept_gateFull hs) hs
  · split
    · exact kept_ite (kept_enterSwitch hs) hs
    · exact hs
  · exact kept_switchStep hs
  · split
    · exact kept_ite (kept_retryNow hs) hs
    · exact hs
  · exact hs

theorem kept_disableStep {n : Nat} (hs : Kept C P s) :
    Kept C P (disableStep n s) := by
  unfold disableStep
  split
  · exact kept_ite (kept_disableEnd hs) hs
  · exact hs

theorem kept_pgStep {n : Nat} (hs : Kept C P s) :
    Kept C P (pgStep n s) := by
  unfold pgStep
  exact kept_ite (kept_ite (kept_pgDown (kept_onSpc hs)) (kept_ite (kept_setSpc (kept_ite (kept_closeRuns (kept_ite
      (kept_perstRise (kept_onSpc hs)) (kept_onSpc hs))) (kept_ite (kept_perstRise (kept_onSpc hs)) (kept_onSpc hs))))
      (kept_ite (kept_closeRuns (kept_ite (kept_perstRise (kept_onSpc hs)) (kept_onSpc hs))) (kept_ite (kept_perstRise
      (kept_onSpc hs)) (kept_onSpc hs))))) (kept_ite (kept_pgUp (kept_onSpc (kept_onSpc hs))) (kept_onSpc (kept_onSpc
      hs)))

theorem kept_meterUpdate {n : Nat} (hs : Kept C P s) :
    Kept C P (meterUpdate n s) := by
  unfold meterUpdate
  exact kept_ite hs (kept_setLivN (kept_setLivN (kept_setLivN (kept_setLivN (kept_fit_snd (kept_onSpc hs))))))

theorem kept_meterStep {n : Nat} {m : SpcSample} (hs : Kept C P s) :
    Kept C P (meterStep n m s) := by
  unfold meterStep
  exact kept_forUpto (kept_onSpc (kept_bump64 (kept_meterUpdate hs))) (fun _ _ h1 => kept_winStep h1)

theorem kept_spcStep {n : Nat} {m : SpcSample} (hs : Kept C P s) :
    Kept C P (spcStep n m s) := by
  unfold spcStep
  exact kept_meterStep (kept_pgStep (kept_disableStep (kept_gateStep (kept_ite (kept_feedLost (kept_ite (kept_feedLost
      (kept_protectStep (kept_feedStep_snd (kept_feedStep_snd (kept_presenceStep (kept_takeSpcSample hs))))))
      (kept_protectStep (kept_feedStep_snd (kept_feedStep_snd (kept_presenceStep (kept_takeSpcSample hs)))))))
      (kept_ite (kept_feedLost (kept_protectStep (kept_feedStep_snd (kept_feedStep_snd (kept_presenceStep
      (kept_takeSpcSample hs)))))) (kept_protectStep (kept_feedStep_snd (kept_feedStep_snd (kept_presenceStep
      (kept_takeSpcSample hs))))))))))

/-! ## Reset Ops -/

theorem kept_coldState {cause : Nat} {rst : Resets} (hs : Kept C P s) (hc : cause = 0 ∨ cause = 1 := by decide) :
    Kept C P (coldState cause rst s) := by
  have hp : (otpCut s).pending = P := (kept_otpCut hs).pending
  have hr : ({ live := [(Reg.GLB_RSTCAUSE, BitVec.ofNat 32 (2 ^ cause))] } : Regs).canon = true := by
    rcases hc with rfl | rfl <;> decide
  exact ⟨hp, fun _ => hr, fun _ => rfl, fun _ e => by cases e⟩

theorem kept_coldStart {x : Straps} (hs : Kept C P s) :
    Kept C P (coldStart x s) := by
  unfold coldStart
  exact kept_ite hs (kept_upd (kept_onFcst (kept_setLivN hs)))

theorem kept_warmState (hs : Kept C P s) : Kept C P (warmState s) := by
  refine kept_otpReport ⟨hs.pending, fun c => ?_, fun _ => rfl, fun _ e => by cases e⟩
  have h := hs.regs c
  simp only [Regs.canon, Bool.and_eq_true] at h ⊢
  exact ⟨⟨Tab.wf_keep _ h.1.1, Tab.wf_keep _ h.1.2⟩, Tab.wf_keep _ h.2⟩

theorem kept_endLinks (hs : Kept C P s) :
    Kept C P (endLinks s) := by
  unfold endLinks
  exact kept_onDp (kept_foldl hs (fun _ _ h1 => kept_foldl (kept_foldl (kept_foldl h1 (fun _ _ h2 => kept_setLivF h2))
      (fun _ _ h2 => kept_setLivF h2)) (fun _ _ h2 => kept_setLiv h2)))

theorem kept_perstLow (hs : Kept C P s) :
    Kept C P (perstLow s) := by
  unfold perstLow
  exact kept_foldl hs (fun _ _ h1 => kept_perstFall h1)

theorem kept_dropTake (hs : Kept C P s) : Kept C P (dropTake s) :=
  kept_setLong (kept_setTake_none hs)

theorem kept_cancelCut (hs : Kept C P s) :
    Kept C P (cancelCut s) := by
  unfold cancelCut
  dsimp only
  split
  · exact hs
  · exact kept_log (kept_updDir hs)

theorem kept_coverAll (hs : Kept C P s) :
    Kept C P (coverAll s) := by
  unfold coverAll
  exact kept_ite (kept_checkpoint hs) hs

theorem kept_warmBegin (hs : Kept C P s) :
    Kept C P (warmBegin s) := by
  unfold warmBegin
  exact kept_coverAll (kept_cancelCut (kept_upd (kept_dropTake (kept_perstLow (kept_endLinks hs)))))

theorem kept_warmBoot (hs : Kept C P s) :
    Kept C P (warmBoot s) := by
  unfold warmBoot
  exact kept_upd (kept_onFcst (kept_setLivF hs))

theorem kept_bootCode {code : Nat} (hs : Kept C P s) :
    Kept C P (bootCode code s) := by
  unfold bootCode
  exact kept_setLivF hs

theorem kept_bootFail {code : Nat} (hs : Kept C P s) :
    Kept C P (bootFail code s) := by
  unfold bootFail
  exact kept_upd (kept_foldl (kept_setLiv (kept_setLivF (kept_warmState (kept_coverAll (kept_cancelCut (kept_dropTake
      (kept_bootCode hs))))))) (fun _ _ h1 => kept_ite h1 (kept_disableEnd h1)))

theorem kept_bootRetry {code : Nat} (hs : Kept C P s) :
    Kept C P (bootRetry code s) := by
  unfold bootRetry
  exact kept_ite (kept_bootFail hs) (kept_warmBegin (kept_upd (kept_bootCode hs)))

/-! ## Boot -/

theorem kept_readReel {img : Option (List Byte)} (hs : Kept C P s) :
    Kept C P (readReel img s) := by
  unfold readReel
  dsimp only
  split
  · exact kept_emit hs
  · exact kept_ite (kept_emit (kept_emit (kept_emit hs))) (kept_emit (kept_emit hs))

theorem kept_reelReport {r : Reel} (hs : Kept C P s) :
    Kept C P (reelReport r s) := by
  unfold reelReport
  exact kept_forUpto (kept_setLivN (kept_setLivN hs)) (fun _ _ h1 => kept_setLivN h1)

theorem kept_refJoin (hs : Kept C P s) :
    Kept C P (refJoin s) := by
  unfold refJoin
  exact kept_ite hs (kept_ite hs (kept_ite (kept_logDevice (kept_setLivF hs)) (kept_devErr (kept_setLivF hs))))

theorem kept_refsFitted {e : EnvDecl} (hs : Kept C P s) :
    Kept C P (refsFitted e s) := by
  unfold refsFitted
  exact kept_ite (kept_refJoin (kept_ite hs (kept_setLivF (kept_setLivF hs)))) (kept_setLivF (kept_setLivF
      (kept_setLivF (kept_refJoin (kept_ite hs (kept_setLivF (kept_setLivF hs)))))))

theorem kept_toStep {k : Nat} (hs : Kept C P s) :
    Kept C P (toStep k s) := by
  unfold toStep
  exact kept_upd hs

theorem kept_step1 (hs : Kept C P s) :
    Kept C P (step1 s) := by
  unfold step1
  exact kept_toStep hs

theorem kept_step2 (hs : Kept C P s) :
    Kept C P (step2 s) := by
  unfold step2
  exact kept_upd (kept_otpReport hs)

theorem kept_step4 {ok : Bool} {left used : Nat} (hs : Kept C P s) :
    Kept C P (step4 ok left used s) := by
  unfold step4
  exact kept_ite (kept_toStep (kept_setLivF (kept_setLivN hs))) (kept_bootFail (kept_setLivF (kept_setLivN hs)))

theorem kept_step5 {img : Option (List Byte)} (hs : Kept C P s) :
    Kept C P (step5 img s) := by
  unfold step5
  dsimp only
  split
  · exact kept_reelReport (kept_toStep (kept_upd (kept_readReel hs)))
  · exact kept_bootRetry (kept_readReel hs)

theorem kept_step6 (hs : Kept C P s) :
    Kept C P (step6 s) := by
  unfold step6
  exact kept_toStep (kept_log hs)

theorem kept_step7 (hs : Kept C P s) :
    Kept C P (step7 s) := by
  unfold step7
  dsimp only
  split
  · exact kept_bootRetry hs
  · split
    · exact kept_bootRetry hs
    · exact kept_upd (kept_setMb (kept_refsFitted (kept_upd hs)))

theorem kept_step8 (hs : Kept C P s) :
    Kept C P (step8 s) := by
  unfold step8
  split
  · exact hs
  · exact kept_ite (kept_bootRetry (kept_setLivF hs)) (kept_ite (kept_bootRetry hs) (kept_toStep (kept_setLivF hs)))

theorem goes_execBootStepDone {ok : Bool} {left used : Fin 65536} {img : Option (List Byte)} (hs : Kept C P s) :
    GoesOn C P (execBootStepDone ok left used img s) := by
  unfold execBootStepDone
  refine goes_next ?_
  split
  · exact kept_step1 hs
  · exact kept_step2 hs
  · exact kept_ite (kept_toStep hs) (kept_bootFail hs)
  · exact kept_step4 hs
  · exact kept_step5 hs
  · exact kept_step6 hs
  · exact kept_step7 hs
  · exact kept_step8 hs
  · exact hs

/-! ## Port Ops -/

theorem kept_tagFree {x g : Nat} (hs : Kept C P s) :
    Kept C P (tagFree x g s) := by
  unfold tagFree
  exact kept_onEport hs

theorem kept_sharedCpl {x g : Nat} {t : Tlp} (hs : Kept C P s) :
    Kept C P (sharedCpl x g t s) := by
  unfold sharedCpl
  dsimp only
  split
  · exact hs
  · exact kept_tagGive (kept_inPartition (kept_tagFree hs))

theorem kept_sharedIn {x : Nat} {t : Tlp} (hs : Kept C P s) :
    Kept C P (sharedIn x t s) := by
  unfold sharedIn
  dsimp only
  split
  · exact kept_ite (kept_sharedCpl hs) (kept_inPartition hs)
  · exact kept_inPartition hs

theorem kept_unlockIn {x : Nat} {t : Tlp} (hs : Kept C P s) :
    Kept C P (unlockIn x t s) := by
  unfold unlockIn
  exact kept_foldl (kept_foldl hs (fun _ _ h1 => kept_ite (kept_sendLocal (kept_setLock h1)) h1)) (fun _ _ h1 =>
      kept_ite (kept_lockSend h1) h1)

theorem kept_admitTlp {x colour : Nat} {t : Tlp} (hs : Kept C P s) :
    Kept C P (admitTlp x colour t s) := by
  unfold admitTlp
  exact kept_ite (kept_refuse hs) (kept_ite (kept_unlockIn hs) (kept_ite (kept_markEntry (kept_sendExport hs))
      (kept_ite (kept_sharedIn hs) (kept_inPartition hs))))

theorem kept_setFlow {x : Nat} {l : List Tlp} (hs : Kept C P s) :
    Kept C P (setFlow x l s) := by
  unfold setFlow
  exact kept_ingUse (kept_onIng hs)

theorem kept_markCopies {l : List Nat} (hs : Kept C P s) :
    Kept C P (markCopies l s) := by
  unfold markCopies
  exact kept_onDp hs

theorem kept_admitted {x : Nat} {t : Tlp} {go : State → State} (hgo : ∀ u, Kept C P u → Kept C P (go u)) (hs : Kept C
    P s) :
    Kept C P (admitted x t go s) := by
  unfold admitted
  dsimp only
  split
  · exact kept_pcieBack (hgo _ hs)
  · exact hgo _ hs
  · exact kept_markCopies (hgo _ hs)

theorem kept_heldMark {x : Nat} {b : Bool} (hs : Kept C P s) :
    Kept C P (heldMark x b s) := by
  unfold heldMark
  exact kept_onIng hs

theorem kept_letIn_snd {x : Nat} {t : Tlp} (hs : Kept C P s) :
    Kept C P (letIn x t s).2 := by
  unfold letIn
  dsimp only
  refine kept_ite_snd (kept_pair hs) ?_
  split
  · exact kept_pair (kept_admitted (fun _ h1 => kept_admitTlp h1) hs)
  · exact kept_ite_snd (kept_pair (kept_ite (kept_policeTlp_snd hs) (kept_heldMark (kept_perf (kept_bump
      (kept_policeTlp_snd hs)))))) (kept_pair (kept_admitted (fun _ h1 => kept_admitTlp h1) (kept_heldMark
      (kept_policeTlp_snd hs))))

theorem kept_runFlow {x : Nat} {l : List Tlp} (hs : Kept C P s) : Kept C P (runFlow x l s) := by
  induction l generalizing s with
  | nil => exact kept_setFlow hs
  | cons t l ih =>
    have hl := kept_letIn_snd (x := x) (t := t) hs
    unfold runFlow
    split
    · next e => exact ih (kept_of_eq hl e)
    · next e => exact kept_setFlow (kept_of_eq hl e)

theorem kept_releaseFlows (hs : Kept C P s) :
    Kept C P (releaseFlows s) := by
  unfold releaseFlows
  exact kept_foldl hs (fun _ _ h1 => kept_ite h1 (kept_runFlow h1))

theorem kept_tlpIn {x : Nat} {t : Tlp} (hs : Kept C P s) :
    Kept C P (tlpIn x t s) := by
  unfold tlpIn
  dsimp only
  refine kept_ite ?_ (kept_setFlow (kept_ite (kept_npCpl (kept_pcieSpend (kept_ite (kept_aerPoison (kept_raiseStn
      (kept_bump hs))) hs))) (kept_pcieSpend (kept_ite (kept_aerPoison (kept_raiseStn (kept_bump hs))) hs))))
  split
  · next v e =>
      have hv : Kept C P v := kept_of_eq (kept_letIn_snd (kept_ite (kept_npCpl (kept_pcieSpend (kept_ite
          (kept_aerPoison (kept_raiseStn (kept_bump hs))) hs))) (kept_pcieSpend (kept_ite (kept_aerPoison
          (kept_raiseStn (kept_bump hs))) hs)))) e
      exact hv
  · next v e =>
      have hv : Kept C P v := kept_of_eq (kept_letIn_snd (kept_ite (kept_npCpl (kept_pcieSpend (kept_ite
          (kept_aerPoison (kept_raiseStn (kept_bump hs))) hs))) (kept_pcieSpend (kept_ite (kept_aerPoison
          (kept_raiseStn (kept_bump hs))) hs)))) e
      exact kept_setFlow hv

theorem kept_loseTlp {x : Nat} {u : CUnit} (hs : Kept C P s) :
    Kept C P (loseTlp x u s) := by
  unfold loseTlp
  dsimp only
  refine kept_ite (kept_jobLost hs) ?_
  split
  · refine kept_ite hs ?_
    refine kept_ite ?_ (kept_ite (kept_sharedCpl hs) (kept_ite (kept_sendExport hs) (kept_inPartition hs)))
    refine kept_ite (kept_sendPfn hs) ?_
    split
    · split
      · exact kept_sendPfn hs
      · exact hs
    · exact hs
  · exact hs

theorem kept_loseAny {x : Nat} {u : CUnit} (hs : Kept C P s) :
    Kept C P (loseAny x u s) := by
  unfold loseAny
  split
  · exact kept_loseTlp hs
  · exact kept_loseUnit hs

theorem kept_wiresDown {x : Nat} (hs : Kept C P s) :
    Kept C P (wiresDown x s) := by
  unfold wiresDown
  exact kept_upd hs

theorem kept_pcieDown {x st : Nat} (hs : Kept C P s) :
    Kept C P (pcieDown x st s) := by
  unfold pcieDown
  exact kept_intx (kept_wiresDown (kept_ite (kept_endLong (kept_foldl (kept_clearQueues (fun _ _ h1 => kept_loseTlp
      h1) (kept_ite (kept_raiseStn (kept_onDp (kept_onPp (kept_setLivN hs)))) (kept_onDp (kept_onPp (kept_setLivN
      hs))))) (fun _ _ h1 => kept_sharedCpl h1))) (kept_foldl (kept_clearQueues (fun _ _ h1 => kept_loseTlp h1)
      (kept_ite (kept_raiseStn (kept_onDp (kept_onPp (kept_setLivN hs)))) (kept_onDp (kept_onPp (kept_setLivN hs)))))
      (fun _ _ h1 => kept_sharedCpl h1))))

theorem kept_onLock {ltag : Nat} {g : LockSeq → LockSeq} (hs : Kept C P s) :
    Kept C P (onLock ltag g s) := by
  unfold onLock
  exact kept_onFab hs

theorem kept_endLock {ltag : Nat} (hs : Kept C P s) :
    Kept C P (endLock ltag s) := by
  unfold endLock
  exact kept_onFab hs

theorem kept_abandonLocks {q : Nat} (hs : Kept C P s) :
    Kept C P (abandonLocks q s) := by
  unfold abandonLocks
  exact kept_foldl hs (fun _ _ h1 => kept_ite (kept_lockReq (kept_endLock (kept_foldl h1 (fun _ _ h2 => kept_withdraw
      h2)))) h1)

theorem kept_flrVf {b : Binding} (hs : Kept C P s) :
    Kept C P (flrVf b s) := by
  unfold flrVf
  exact kept_ite hs (kept_sendLocal (kept_draw hs))

theorem kept_resetLocks {q x : Nat} (hs : Kept C P s) :
    Kept C P (resetLocks q x s) := by
  unfold resetLocks
  exact kept_foldl (kept_abandonLocks hs) (fun _ _ h1 => kept_ite (kept_setLock h1) h1)

theorem kept_markLocked {lock : Bool} {id : Nat} (hs : Kept C P s) :
    Kept C P (markLocked lock id s) := by
  unfold markLocked
  exact kept_ite (kept_onDp hs) hs

theorem kept_terminateTlp {n : Nat} {o : Origin} {p : Packet} {d : Dom} {t : Tlp} (hs : Kept C P s) :
    Kept C P (terminateTlp n o p d t s) := by
  unfold terminateTlp
  dsimp only
  refine kept_markLocked ?_
  refine kept_ite (kept_ite (kept_ite (kept_toPort (fun _ _ _ h1 => kept_undeliverable h1) (kept_ite (kept_npCpl hs)
      hs)) (kept_undeliverable (kept_ite (kept_npCpl hs) hs))) (kept_undeliverable (kept_raise (kept_bump (kept_ite
      (kept_npCpl hs) hs))))) ?_
  split
  · exact kept_ite (kept_inPartition (kept_ite (kept_npCpl hs) hs)) (kept_undeliverable (kept_ite (kept_npCpl hs) hs))
  · exact kept_undeliverable (kept_raise (kept_bump (kept_ite (kept_npCpl hs) hs)))

theorem kept_terminate {n : Nat} {o : Origin} {p : Packet} (hs : Kept C P s) :
    Kept C P (terminate n o p s) := by
  unfold terminate
  split
  · exact kept_terminateTlp hs
  · exact kept_bump hs
  · exact kept_ite (kept_bump hs) (kept_fmeArrive hs)
  · exact kept_ite (kept_ingUse (kept_onFab hs)) (kept_bump hs)

theorem kept_classify {n f : Nat} {p : Packet} {rest : Option Packet} (hs : Kept C P s) :
    Kept C P (classify n f p rest s) := by
  unfold classify
  dsimp only
  refine kept_ite ?_ ?_
  · split
    · exact kept_ite (kept_terminate hs) (kept_giveBack (kept_terminate hs))
    · exact kept_terminate hs
    · exact kept_markCopies (kept_terminate hs)
  · split
    · next v e =>
        have hv : Kept C P v := kept_forward hs e
        exact hv
    · exact kept_giveBack (kept_undeliverable (kept_bump hs))

theorem kept_acceptPkt {n f : Nat} {p : Packet} {rest : Option Packet} (hs : Kept C P s) :
    Kept C P (acceptPkt n f p rest s) := by
  unfold acceptPkt
  exact kept_ite (kept_ingUse (kept_onLnk hs)) (kept_classify hs)

theorem kept_releaseHeld {n f : Nat} (hs : Kept C P s) :
    Kept C P (releaseHeld n f s) := by
  unfold releaseHeld
  exact kept_foldl (kept_onLnk hs) (fun _ _ h1 => kept_classify (kept_ingUse h1))

/-! ## Fcst Ops -/

theorem kept_countCell {u : Option CUnit} (hs : Kept C P s) :
    Kept C P (countCell u s) := by
  unfold countCell
  dsimp only
  split
  · exact hs
  · exact kept_onFcst hs

theorem kept_windowFigures (hs : Kept C P s) :
    Kept C P (windowFigures s) := by
  unfold windowFigures
  exact kept_forUpto (kept_setLivN (kept_fit_snd hs)) (fun _ _ h1 => kept_setLivN h1)

theorem kept_windowChecks {charges : Tab Nat} (hs : Kept C P s) :
    Kept C P (windowChecks charges s) := by
  unfold windowChecks
  exact kept_foldl (kept_foldl (kept_ite (kept_raise (kept_setLivF hs)) hs) (fun _ _ h1 => kept_ite (kept_raise
      (kept_setLivF h1)) h1)) (fun _ _ h1 => kept_ite (kept_raise (kept_setLivF (kept_bump h1))) h1)

theorem kept_endWindow (hs : Kept C P s) :
    Kept C P (endWindow s) := by
  unfold endWindow
  exact kept_onFcst (kept_windowChecks (kept_windowFigures hs))

theorem kept_slowCheck (hs : Kept C P s) :
    Kept C P (slowCheck s) := by
  unfold slowCheck
  exact kept_ite (kept_raise (kept_setLivF hs)) hs

theorem kept_coreLimit (hs : Kept C P s) :
    Kept C P (coreLimit s) := by
  unfold coreLimit
  exact kept_slowCheck (kept_setLivF (kept_setLivN hs))

/-! ## Cut Ops -/

theorem kept_modeStop (hs : Kept C P s) :
    Kept C P (modeStop s) := by
  unfold modeStop
  exact kept_foldl (kept_foldl hs (fun _ _ h1 => kept_stopQueue h1)) (fun _ _ h1 => kept_ite (kept_pauseChan h1) h1)

theorem kept_fabOff {n f : Nat} (hs : Kept C P s) :
    Kept C P (fabOff n f s) := by
  unfold fabOff
  exact kept_setBring (kept_ite (kept_spareTrain (kept_foldl (kept_toDown hs) (fun _ _ h1 => kept_setLaneState h1)))
      (kept_foldl (kept_toDown hs) (fun _ _ h1 => kept_setLaneState h1)))

theorem kept_pcieOff {x : Nat} (hs : Kept C P s) :
    Kept C P (pcieOff x s) := by
  unfold pcieOff
  exact kept_setLivN (kept_foldl (kept_setLock (kept_pcieDown (kept_ite (kept_resetLocks hs) hs))) (fun _ _ h1 =>
      kept_setLivF h1))

theorem kept_portsOff {u : View} (hs : Kept C P s) :
    Kept C P (portsOff u s) := by
  unfold portsOff
  exact kept_foldl hs (fun _ _ h1 => kept_ite (kept_fabOff h1) (kept_ite (kept_pcieOff h1) h1))

theorem kept_levelsNow (hs : Kept C P s) :
    Kept C P (levelsNow s) := by
  unfold levelsNow
  dsimp only
  refine kept_onDp ?_
  refine kept_foldl hs ?_
  intro _ _ h1
  split
  · exact h1
  · exact kept_onEport h1

theorem kept_unhold (hs : Kept C P s) :
    Kept C P (unhold s) := by
  unfold unhold
  exact kept_foldl (kept_foldl (kept_foldl (kept_releaseFlows hs) (fun _ _ h1 => kept_foldl h1 (fun _ _ h2 => kept_ite
      h2 (kept_releaseHeld h2)))) (fun _ _ h1 => kept_pcieRelease h1)) (fun _ _ h1 => kept_pumpRing h1)

theorem kept_exchange {wrote : List Nat} (hs : Kept C P s) : Kept C P (exchange wrote s) := by
  have hr {l : List Nat} :
      Kept C P { s with regs := { s.regs with active := s.regs.shadow, shadow := s.regs.active, badA := l } } := by
    refine kept_updRegs hs fun c => ?_
    have h := hs.regs c
    simp only [Regs.canon, Bool.and_eq_true] at h ⊢
    exact ⟨⟨h.1.2, h.1.1⟩, h.2⟩
  unfold exchange
  exact kept_ite (kept_setLivF hr) hr

theorem kept_levelsClip {old : View} (hs : Kept C P s) :
    Kept C P (levelsClip old s) := by
  unfold levelsClip
  exact kept_onDp hs

theorem kept_portsStart {old : View} (hs : Kept C P s) :
    Kept C P (portsStart old s) := by
  unfold portsStart
  exact kept_foldl hs (fun _ _ h1 => kept_ite (kept_fabEnable h1) (kept_ite (kept_foldl h1 (fun _ _ h2 => kept_setLivF
      h2)) h1))

theorem kept_dropHeld {q : Nat} (hs : Kept C P s) :
    Kept C P (dropHeld q s) := by
  unfold dropHeld
  exact kept_ite (kept_endStall (kept_upd (kept_foldl hs (fun _ _ h1 => kept_freeCfg h1)))) (kept_upd (kept_foldl hs
      (fun _ _ h1 => kept_freeCfg h1)))

theorem kept_partsCut {old : View} (hs : Kept C P s) :
    Kept C P (partsCut old s) := by
  unfold partsCut
  exact kept_foldl (kept_upd hs) (fun _ _ h1 => kept_ite h1 (kept_upd (kept_dropHeld (kept_resetCfg h1))))

theorem kept_bindingsCut {old : Tab Word} (hs : Kept C P s) :
    Kept C P (bindingsCut old s) := by
  unfold bindingsCut
  exact kept_foldl hs (fun _ _ h1 => kept_flrVf (kept_upd h1))

theorem kept_slicesCut {old : Tab Word} (hs : Kept C P s) :
    Kept C P (slicesCut old s) := by
  unfold slicesCut
  exact kept_foldl hs (fun _ _ h1 => kept_ite (kept_onSl (kept_ite (kept_onSl h1) h1)) (kept_ite (kept_onSl h1) h1))

theorem kept_pinsCut {old : View} (hs : Kept C P s) :
    Kept C P (pinsCut old s) := by
  unfold pinsCut
  exact kept_foldl hs (fun _ _ h1 => kept_ite (kept_ite (kept_onSpc h1) h1) (kept_ite h1 (kept_ite (kept_perstFall h1)
      (kept_onSpc h1))))

theorem kept_wholeCut (hs : Kept C P s) :
    Kept C P (wholeCut s) := by
  unfold wholeCut
  exact kept_setLivN (kept_sourceSync (kept_ite (kept_setLivF (kept_claimReport (kept_coreLimit hs)))
      (kept_claimReport (kept_coreLimit hs))))

theorem kept_swap {wrote : List Nat} (hs : Kept C P s) :
    Kept C P (swap wrote s) := by
  unfold swap
  exact kept_settleFor (kept_intx (kept_ite (kept_unhold (kept_ite (kept_wholeCut (kept_slicesCut (kept_bindingsCut
      (kept_partsCut (kept_portsStart (kept_pinsCut (kept_levelsClip (kept_bump (kept_exchange (kept_levelsNow
      (kept_portsOff (kept_ite (kept_modeStop hs) hs)))))))))))) (kept_onDp (kept_wholeCut (kept_slicesCut
      (kept_bindingsCut (kept_partsCut (kept_portsStart (kept_pinsCut (kept_levelsClip (kept_bump (kept_exchange
      (kept_levelsNow (kept_portsOff (kept_ite (kept_modeStop hs) hs))))))))))))))) (kept_ite (kept_wholeCut
      (kept_slicesCut (kept_bindingsCut (kept_partsCut (kept_portsStart (kept_pinsCut (kept_levelsClip (kept_bump
      (kept_exchange (kept_levelsNow (kept_portsOff (kept_ite (kept_modeStop hs) hs)))))))))))) (kept_onDp
      (kept_wholeCut (kept_slicesCut (kept_bindingsCut (kept_partsCut (kept_portsStart (kept_pinsCut (kept_levelsClip
      (kept_bump (kept_exchange (kept_levelsNow (kept_portsOff (kept_ite (kept_modeStop hs) hs))))))))))))))))

theorem kept_logCut {origin serial pc : Nat} {at_ : Bool} (hs : Kept C P s) :
    Kept C P (logCut origin serial pc at_ s) := by
  unfold logCut
  exact kept_log hs

theorem kept_cutFails (hs : Kept C P s) :
    Kept C P (cutFails s) := by
  unfold cutFails
  exact kept_raise (kept_log hs)

theorem kept_fireCut {c : CutAt} (hs : Kept C P s) :
    Kept C P (fireCut c s) := by
  unfold fireCut
  exact kept_ite (kept_cutFails (kept_updDir hs)) (kept_startLong (kept_swap (kept_ite (kept_logCut (kept_updDir hs))
      (kept_raise (kept_logCut (kept_updDir hs))))))

theorem kept_dueCut (hs : Kept C P s) :
    Kept C P (dueCut s) := by
  unfold dueCut
  split
  · exact kept_ite (kept_fireCut hs) hs
  · exact hs

theorem kept_settle (hs : Kept C P s) :
    Kept C P (settle s) := by
  unfold settle
  exact kept_stallTake (kept_dueCut (kept_settleFor (kept_mgmtGo hs)))

/-! ## Fabric Link -/

theorem kept_nakDue {n f : Nat} (hs : Kept C P s) :
    Kept C P (nakDue n f s) := by
  unfold nakDue
  exact kept_ite hs (kept_setLnk hs)

theorem kept_nesUp {n f : Nat} (hs : Kept C P s) :
    Kept C P (nesUp n f s) := by
  unfold nesUp
  exact kept_syncFl (kept_onLnk hs)

theorem kept_dropFirst {n f : Nat} (hs : Kept C P s) :
    Kept C P (dropFirst n f s) := by
  unfold dropFirst
  dsimp only
  split
  · exact hs
  · split <;> exact kept_bump (kept_giveBack (kept_onLnk hs))

theorem kept_goodPkt_alone {n f : Nat} {p : Packet} (hs : Kept C P s) :
    Kept C P (goodPkt.alone n f p s) := by
  unfold goodPkt.alone
  exact kept_ite (kept_onLnk hs) (kept_acceptPkt hs)

theorem kept_goodPkt {n f : Nat} {p : Packet} (hs : Kept C P s) :
    Kept C P (goodPkt n f p s) := by
  unfold goodPkt
  split
  · exact kept_ite (kept_acceptPkt (kept_onLnk hs)) (kept_goodPkt_alone (kept_dropFirst hs))
  · exact kept_goodPkt_alone hs

theorem kept_stompCopy {n f : Nat} {p : Packet} (hs : Kept C P s) :
    Kept C P (stompCopy n f p s) := by
  unfold stompCopy
  dsimp only
  refine kept_ite hs ?_
  split
  · next v e =>
      have hv : Kept C P v := kept_forward hs e
      exact kept_onDp hv
  · exact hs

theorem goes_execFabricPacketReceive {n : Fin 24} {f : Fin 2} {rx : Reception} {pkt : Packet} (hs : Kept C P s) :
    GoesOn C P (execFabricPacketReceive n f rx pkt s) := by
  unfold execFabricPacketReceive
  dsimp only
  refine goes_next ?_
  refine kept_ite hs ?_
  split
  · exact kept_ite (kept_bump hs) (kept_nakDue (kept_bump hs))
  · exact kept_ite hs (kept_nakDue (kept_onLnk (kept_bump hs)))
  · refine kept_ite hs ?_
    refine kept_ite ?_ (kept_ite (kept_bump (kept_ite (kept_ackTo hs) hs)) (kept_nakDue (kept_bump (kept_ite
        (kept_ackTo hs) hs))))
    refine kept_ite (kept_ite (kept_giveBack (kept_dropFirst (kept_nesUp (kept_bump (kept_ite (kept_ackTo hs) hs)))))
        (kept_dropFirst (kept_nesUp (kept_bump (kept_ite (kept_ackTo hs) hs))))) ?_
    refine kept_ite (kept_raiseStn (kept_ite (kept_giveBack (kept_dropFirst (kept_nesUp (kept_bump (kept_ite
        (kept_ackTo hs) hs))))) (kept_dropFirst (kept_nesUp (kept_bump (kept_ite (kept_ackTo hs) hs)))))) ?_
    split
    · exact kept_ite (kept_stompCopy (kept_nakDue (kept_bump (kept_ite (kept_ackTo hs) hs)))) (kept_nakDue (kept_bump
        (kept_ite (kept_ackTo hs) hs)))
    · exact kept_goodPkt (kept_nesUp (kept_ite (kept_ackTo hs) hs))

theorem kept_countReplay {n f : Nat} (hs : Kept C P s) :
    Kept C P (countReplay n f s) := by
  unfold countReplay
  exact kept_ite (kept_ite (kept_sendReq (kept_raiseStn (kept_setLnk (kept_bump hs)))) (kept_raiseStn (kept_setLnk
      (kept_bump hs)))) (kept_setLnk (kept_bump hs))

theorem kept_backTo {n f b : Nat} (hs : Kept C P s) :
    Kept C P (backTo n f b s) := by
  unfold backTo
  exact kept_ite hs (kept_setLnk hs)

theorem kept_takeBound {n f : Nat} {h : ShortHdr} (hs : Kept C P s) :
    Kept C P (takeBound n f h s) := by
  unfold takeBound
  exact kept_ite (kept_onLnk hs) hs

theorem kept_shortIn {n f : Nat} {h : ShortHdr} {seqd ini : Bool} {k : State → State} (hk : ∀ u, Kept C P u → Kept C P
    (k u)) (hs : Kept C P s) :
    Kept C P (shortIn n f h seqd ini k s) := by
  unfold shortIn
  exact kept_ite (kept_ite (hk _ (kept_backTo (kept_takeBound hs))) (kept_ite (hk _ (kept_backTo (kept_takeBound hs)))
      (kept_ite (hk _ (kept_onLnk (kept_backTo (kept_takeBound hs)))) (kept_backTo (kept_takeBound hs))))) hs

theorem goes_execAckReceive {n : Fin 24} {f : Fin 2} {h : ShortHdr} {nes : Nat} (hs : Kept C P s) :
    GoesOn C P (execAckReceive n f h nes s) := by
  unfold execAckReceive
  exact goes_next (kept_shortIn (fun _ h1 => kept_ackTo h1) hs)

theorem kept_linkLost {n f loc : Nat} (hs : Kept C P s) :
    Kept C P (linkLost n f loc s) := by
  unfold linkLost
  exact kept_fabEnable (kept_toDown (kept_toTrain (kept_sramUe hs)))

theorem kept_replayFrom {n f a : Nat} {err : CellErr} (hs : Kept C P s) :
    Kept C P (replayFrom n f a err s) := by
  unfold replayFrom
  dsimp only
  split
  · exact kept_linkLost hs
  · exact kept_countReplay (kept_resendFrom (kept_onLnk (kept_sramUe hs)))
  · exact kept_countReplay (kept_resendFrom (kept_bump hs))
  · exact kept_countReplay (kept_resendFrom hs)

theorem goes_execNakReceive {n : Fin 24} {f : Fin 2} {h : ShortHdr} {nes : Nat} {err : CellErr} (hs : Kept C P s) :
    GoesOn C P (execNakReceive n f h nes err s) := by
  unfold execNakReceive
  exact goes_next (kept_settle (kept_shortIn (fun _ h1 => kept_ite (kept_replayFrom (kept_ackTo h1)) (kept_ackTo h1))
      hs))

theorem goes_execReplayTimerExpire {n : Fin 24} {f : Fin 2} {err : CellErr} (hs : Kept C P s) :
    GoesOn C P (execReplayTimerExpire n f err s) := by
  unfold execReplayTimerExpire
  dsimp only
  refine goes_next ?_
  refine kept_settle ?_
  refine kept_ite ?_ hs
  split
  · exact kept_onLnk (kept_reach hs)
  · exact kept_replayFrom (kept_onLnk (kept_reach hs))

theorem goes_execCreditReceive {n : Fin 24} {f : Fin 2} {h : ShortHdr} {half : Fin 2} {c0 c1 c2 c3 : Nat} (hs : Kept C
    P s) :
    GoesOn C P (execCreditReceive n f h half c0 c1 c2 c3 s) := by
  unfold execCreditReceive
  exact goes_next (kept_shortIn (fun _ h1 => kept_ite (kept_raiseStn h1) (kept_resched (kept_setLnk h1))) hs)

theorem kept_ackRequest {n f op tw sel : Nat} (hs : Kept C P s) :
    Kept C P (ackRequest n f op tw sel s) := by
  unfold ackRequest
  exact kept_ite hs (kept_onLnk (kept_ctrlSend hs))

theorem goes_execRetrainReqReceive {n : Fin 24} {f : Fin 2} {h : ShortHdr} {op : Fin 2} {tw : Fin 8} {sel : Fin 2}
    {node : Nat} (hs : Kept C P s) :
    GoesOn C P (execRetrainReqReceive n f h op tw sel node s) := by
  unfold execRetrainReqReceive
  refine goes_next ?_
  refine kept_shortIn ?_ hs
  intro _ h1
  split
  · exact kept_ackRequest h1
  · exact kept_ite (kept_ackRequest (kept_setLivF h1)) h1
  · exact h1

theorem goes_execRetrainAckReceive {n : Fin 24} {f : Fin 2} {h : ShortHdr} {op : Fin 2} {tw : Fin 8} {sel : Fin 2}
    {node : Nat} (hs : Kept C P s) :
    GoesOn C P (execRetrainAckReceive n f h op tw sel node s) := by
  unfold execRetrainAckReceive
  exact goes_next (kept_shortIn (fun _ h1 => kept_ite (kept_enterPause h1) h1) hs)

theorem goes_execWidthReceive {n : Fin 24} {f : Fin 2} {h : ShortHdr} {node stn port w nes : Nat} {ini : Bool} (hs :
    Kept C P s) :
    GoesOn C P (execWidthReceive n f h node stn port w nes ini s) := by
  unfold execWidthReceive
  exact goes_next (kept_settle (kept_shortIn (fun _ h1 => kept_ite (kept_onLnk (kept_setLivF (kept_setLivF
      (kept_setLivF h1)))) (kept_applyWidth (kept_setLivF (kept_setLivF (kept_setLivF h1))))) hs))

theorem goes_execRetrainReqTimeout {n : Fin 24} {f : Fin 2} (hs : Kept C P s) :
    GoesOn C P (execRetrainReqTimeout n f s) := by
  unfold execRetrainReqTimeout
  exact goes_next (kept_settle (kept_ite (kept_toTrain (kept_reach hs)) hs))

theorem goes_execPauseTimeout {n : Fin 24} {f : Fin 2} (hs : Kept C P s) :
    GoesOn C P (execPauseTimeout n f s) := by
  unfold execPauseTimeout
  exact goes_next (kept_settle (kept_ite (kept_toTrain (kept_reach hs)) hs))

theorem goes_execReservedSubtype {n : Fin 24} {f : Fin 2} {h : ShortHdr} {sub : Fin 16} (hs : Kept C P s) :
    GoesOn C P (execReservedSubtype n f h sub s) := by
  unfold execReservedSubtype
  exact goes_next (kept_ite (kept_raiseStn (kept_bump (kept_takeBound hs))) hs)

theorem kept_rotation_ackItem_snd {n f : Nat} (hs : Kept C P s) :
    Kept C P (rotation.ackItem n f s).2 := by
  unfold rotation.ackItem
  exact kept_pair (kept_ite (kept_bump (kept_setLnk hs)) hs)

theorem kept_rotation_snd {n f : Nat} (hs : Kept C P s) :
    Kept C P (rotation n f s).2 := by
  unfold rotation
  exact kept_ite_snd (kept_rotation_ackItem_snd (kept_setLnk hs)) (kept_pair (kept_ite (kept_setLnk hs) (kept_onLnk
      (kept_setLnk hs))))

theorem kept_sendSeq_snd {n f : Nat} {b : ShortBody} (hs : Kept C P s) :
    Kept C P (sendSeq n f b s).2 := by
  unfold sendSeq
  exact kept_pair (kept_setLnk hs)

theorem kept_nextRouted {n f : Nat} {b : ShortBody} (hs : Kept C P s) (e : nextRouted n f s = some (b, u)) :
    Kept C P u := by
  unfold nextRouted at e
  dsimp only at e
  split at e
  · cases e
    exact kept_setLnk hs
  split at e
  · cases e
  split at e
  · split at e
    · cases e
      exact kept_onLnk (kept_doneUnit (kept_dropCell hs))
    · cases e
  · cases e

theorem kept_slot1_snd {n f : Nat} {credit0 : Bool} (hs : Kept C P s) : Kept C P (slot1 n f credit0 s).2 := by
  unfold slot1
  dsimp only
  split
  · exact kept_rotation_ackItem_snd hs
  split
  · exact kept_setLnk hs
  split
  · exact kept_sendSeq_snd (kept_setLnk hs)
  split
  · next heq =>
    split at heq
    · exact kept_sendSeq_snd (kept_nextRouted hs heq)
    · cases heq
  split
  · exact kept_setLnk hs
  · exact kept_ite_snd (kept_pair (kept_setLnk hs)) (kept_pair (kept_rotation_snd hs))

theorem kept_toReserved {n f : Nat} (hs : Kept C P s) :
    Kept C P (toReserved n f s) := by
  unfold toReserved
  exact kept_onLnk hs

theorem goes_execReservedPositionSend {n : Fin 24} {f : Fin 2} (hs : Kept C P s) :
    GoesOn C P (execReservedPositionSend n f s) := by
  unfold execReservedPositionSend
  dsimp only
  refine goes_next ?_
  refine kept_ite ?_ hs
  split
  · exact kept_enterPause (kept_emit (kept_slot1_snd (kept_rotation_snd (kept_toReserved hs))))
  · exact kept_emit (kept_slot1_snd (kept_rotation_snd (kept_toReserved hs)))

theorem goes_execBypassReplayExpire {n : Fin 24} {f : Fin 2} {err : CellErr} (hs : Kept C P s) :
    GoesOn C P (execBypassReplayExpire n f s err) := by
  unfold execBypassReplayExpire
  dsimp only
  refine goes_next ?_
  refine kept_settle ?_
  split
  · exact hs
  · split
    · exact kept_onLnk (kept_bump (kept_reach hs))
    · exact kept_onLnk (kept_bump (kept_bump (kept_reach hs)))
    · exact kept_linkLost (kept_reach hs)
    · exact kept_linkLost (kept_reach hs)

/-! ## Fabric Time -/

theorem kept_loadFt {t : Nat} (hs : Kept C P s) :
    Kept C P (loadFt t s) := by
  unfold loadFt
  exact kept_sourceSync (kept_setLivF (kept_onTime (kept_upd (kept_endWindow hs))))

theorem keeps_ftSetRule : ftSetRule.Keeps := by
  intro C P s u t a v hu
  exact kept_ite (kept_setLiv hu) (kept_ite (kept_onTime (kept_setLiv hu)) (kept_loadFt (kept_setLiv hu)))

theorem goes_execFtSetWrite (hs : Kept C P s) :
    GoesOn C P (execFtSetWrite s) := by
  unfold execFtSetWrite
  exact goes_liveStep keeps_ftSetRule hs

theorem kept_slewBy {phase : ℤ} (hs : Kept C P s) :
    Kept C P (slewBy phase s) := by
  unfold slewBy
  exact kept_onTime (kept_draw hs)

theorem goes_execPpsInEdge (hs : Kept C P s) :
    GoesOn C P (execPpsInEdge s) := by
  unfold execPpsInEdge
  dsimp only
  refine goes_next ?_
  refine kept_ite ?_ (kept_sourceSync (kept_onTime (kept_setLivF hs)))
  split
  · exact kept_loadFt (kept_onTime (kept_setLivF hs))
  · exact kept_sourceSync (kept_ite (kept_slewBy (kept_onTime (kept_setLivF hs))) (kept_onTime (kept_setLivF hs)))

theorem goes_execPpsokExpire (hs : Kept C P s) :
    GoesOn C P (execPpsokExpire s) := by
  unfold execPpsokExpire
  refine goes_next ?_
  split
  · exact hs
  · exact kept_ite (kept_sourceSync (kept_setLivF (kept_reach hs))) hs

theorem goes_execPpsOutSecond (hs : Kept C P s) :
    GoesOn C P (execPpsOutSecond s) := by
  unfold execPpsOutSecond
  exact goes_next (kept_emit (kept_reachFt hs))

theorem goes_execTimeSyncPeriod (hs : Kept C P s) :
    GoesOn C P (execTimeSyncPeriod s) := by
  unfold execTimeSyncPeriod
  exact goes_next (kept_ite hs (kept_ite (kept_onLnk (kept_ite (kept_ite (kept_syncClear (kept_onTime (kept_onTime
      (kept_reach hs)))) (kept_onTime (kept_onTime (kept_reach hs)))) (kept_onTime (kept_reach hs)))) (kept_ite
      (kept_ite (kept_syncClear (kept_onTime (kept_onTime (kept_reach hs)))) (kept_onTime (kept_onTime (kept_reach
      hs)))) (kept_onTime (kept_reach hs)))))

theorem goes_execTimeSyncRequestReceive {n : Fin 24} {f : Fin 2} {h : ShortHdr} {tag : Bool} {_time : Nat} (hs : Kept
    C P s) :
    GoesOn C P (execTimeSyncRequestReceive n f h tag _time s) := by
  unfold execTimeSyncRequestReceive
  exact goes_next (kept_shortIn (fun _ h1 => kept_ite (kept_onLnk h1) h1) hs)

theorem kept_tsMeasure {offset delay : ℤ} {psync : Bool} (hs : Kept C P s) :
    Kept C P (tsMeasure offset delay psync s) := by
  unfold tsMeasure
  exact kept_ite (kept_syncClear (kept_onTime (kept_setLivF (kept_ite (kept_slewBy (kept_setLivN (kept_setLivN hs)))
      (kept_setLivF (kept_onTime (kept_upd (kept_endWindow (kept_setLivN (kept_setLivN hs)))))))))) (kept_ite
      (kept_setLivF (kept_onTime (kept_setLivF (kept_ite (kept_slewBy (kept_setLivN (kept_setLivN hs))) (kept_setLivF
      (kept_onTime (kept_upd (kept_endWindow (kept_setLivN (kept_setLivN hs)))))))))) (kept_onTime (kept_setLivF
      (kept_ite (kept_slewBy (kept_setLivN (kept_setLivN hs))) (kept_setLivF (kept_onTime (kept_upd (kept_endWindow
      (kept_setLivN (kept_setLivN hs))))))))))

theorem goes_execTimeSyncResponseReceive {n : Fin 24} {f : Fin 2} {h : ShortHdr} {tag psync : Bool} {time turn : Nat}
    (hs : Kept C P s) :
    GoesOn C P (execTimeSyncResponseReceive n f h tag psync time turn s) := by
  unfold execTimeSyncResponseReceive
  dsimp only
  refine goes_next ?_
  refine kept_shortIn ?_ hs
  intro _ h1
  split
  · exact h1
  · exact kept_ite (kept_tsMeasure (kept_setLnk h1)) h1

/-! ## Tunnel -/

theorem kept_breakSeg {n f : Nat} (hs : Kept C P s) :
    Kept C P (breakSeg n f s) := by
  unfold breakSeg
  split
  · exact kept_bump (kept_onLnk hs)
  · exact hs

theorem kept_routedIn {n f : Nat} {h : ShortHdr} {d : Nat} {seg1 : Bool} {k : State → State} (hk : ∀ u, Kept C P u →
    Kept C P (k u)) (hs : Kept C P s) :
    Kept C P (routedIn n f h d seg1 k s) := by
  unfold routedIn
  exact kept_ite (kept_shortIn (fun _ h1 => hk _ (kept_ite h1 (kept_breakSeg h1))) hs) (kept_ite (kept_backTo
      (kept_takeBound hs)) hs)

theorem goes_execWireReceive {n : Fin 24} {f : Fin 2} {h : ShortHdr} {dnode wire : Nat} {level : Bool} {wcnt : Nat}
    (hs : Kept C P s) :
    GoesOn C P (execWireReceive n f h dnode wire level wcnt s) := by
  unfold execWireReceive
  exact goes_next (kept_routedIn (fun _ h1 => kept_sendShort h1) hs)

theorem kept_sendWire {w : Nat} (hs : Kept C P s) :
    Kept C P (sendWire w s) := by
  unfold sendWire
  exact kept_sendShort hs

theorem kept_setWire {w : Nat} {x : Wire} (hs : Kept C P s) :
    Kept C P (setWire w x s) := by
  unfold setWire
  exact kept_onFab hs

theorem goes_execWireSample {w : Fin 256} {pin : Bool} (hs : Kept C P s) :
    GoesOn C P (execWireSample w pin s) := by
  unfold execWireSample
  exact goes_next (kept_ite hs (kept_ite (kept_sendWire (kept_setWire hs)) (kept_setWire hs)))

theorem goes_execWireRefresh {w : Fin 256} (hs : Kept C P s) :
    GoesOn C P (execWireRefresh w s) := by
  unfold execWireRefresh
  exact goes_next (kept_ite (kept_sendWire (kept_setWire (kept_reach hs))) hs)

theorem kept_lockAnswer {src x node port ltag res : Nat} (hs : Kept C P s) :
    Kept C P (lockAnswer src x node port ltag res s) := by
  unfold lockAnswer
  exact kept_sendShort (kept_onFab hs)

theorem kept_lockReqHere {src x snode sport part ltag op : Nat} (hs : Kept C P s) :
    Kept C P (lockReqHere src x snode sport part ltag op s) := by
  unfold lockReqHere
  dsimp only
  refine kept_ite ?_ ?_
  · split
    · exact kept_ite (kept_setLock hs) hs
    · exact hs
  · split
    · exact kept_lockAnswer hs
    · exact kept_ite (kept_lockAnswer (kept_setLock hs)) (kept_lockAnswer hs)

theorem goes_execLockReqReceive {n : Fin 24} {f : Fin 2} {h : ShortHdr} {dnode dport snode sport part ltag op : Nat}
    (hs : Kept C P s) :
    GoesOn C P (execLockReqReceive n f h dnode dport snode sport part ltag op s) := by
  unfold execLockReqReceive
  exact goes_next (kept_routedIn (fun _ h1 => kept_ite (kept_lockReqHere h1) (kept_sendShort h1)) hs)

theorem kept_lockGntHere {ltag res : Nat} (hs : Kept C P s) :
    Kept C P (lockGntHere ltag res s) := by
  unfold lockGntHere
  dsimp only
  split
  · exact hs
  · split
    · exact kept_ite (kept_foldl (kept_onLock hs) (fun _ _ h1 => kept_waitUnit h1)) hs
    · refine kept_ite ?_ hs
      refine kept_ite ?_ (kept_onLock hs)
      refine kept_raise ?_
      refine kept_foldl (kept_bump (kept_endLock hs)) ?_
      intro _ _ h1
      split
      · split
        · exact kept_sendLocal (kept_withdraw h1)
        · exact h1
      · exact h1
    · exact kept_endLock hs
    · exact hs

theorem goes_execLockGntReceive {n : Fin 24} {f : Fin 2} {h : ShortHdr} {dnode dport snode sport ltag res : Nat} (hs :
    Kept C P s) :
    GoesOn C P (execLockGntReceive n f h dnode dport snode sport ltag res s) := by
  unfold execLockGntReceive
  exact goes_next (kept_routedIn (fun _ h1 => kept_ite (kept_lockGntHere h1) (kept_sendShort h1)) hs)

theorem goes_execLockBackoffExpire (hs : Kept C P s) :
    GoesOn C P (execLockBackoffExpire s) := by
  unfold execLockBackoffExpire
  dsimp only
  refine goes_next ?_
  split
  · exact hs
  · exact kept_lockReq (kept_onLock (kept_onFab (kept_reach hs)))

theorem goes_execLockHoldExpire {x : Fin 96} (hs : Kept C P s) :
    GoesOn C P (execLockHoldExpire x s) := by
  unfold execLockHoldExpire
  dsimp only
  refine goes_next ?_
  split
  · exact kept_raise (kept_lockAnswer (kept_sendLocal (kept_setLock (kept_reach hs))))
  · exact hs

theorem goes_execPfnReceive {n : Fin 24} {f : Fin 2} {h : ShortHdr} {seg : ShortBody} (hs : Kept C P s) :
    GoesOn C P (execPfnReceive n f h seg s) := by
  unfold execPfnReceive
  dsimp only
  refine goes_next ?_
  split
  · exact kept_routedIn (fun _ h1 => kept_onLnk h1) hs
  · refine kept_routedIn ?_ hs
    intro _ h1
    split
    · exact kept_ite (kept_sendShort (kept_onLnk h1)) (kept_bump (kept_breakSeg h1))
    · exact kept_bump h1
  · exact hs

theorem kept_mgmtServe {op : Nat} {k : Nat → Bool → Nat → Bool → List DWord → State → State} (hk : ∀ x0 x1 x2 x3 x4
    u5, Kept C P u5 → Kept C P (k x0 x1 x2 x3 x4 u5)) (hs : Kept C P s) :
    Kept C P (mgmtServe op k s) := by
  unfold mgmtServe
  dsimp only
  split
  · exact hs
  · split
    · exact hk _ _ _ _ _ _ (kept_giveBack (kept_ingUse (kept_onFab hs)))
    · exact hs

theorem kept_wordsIn {m : Nat} {fin : Bool} {l : List DWord} (hs : Kept C P s) : Kept C P (wordsIn m fin l s) := by
  fun_induction wordsIn m fin l s with
  | case1 => exact hs
  | case2 => exact kept_wordIn hs
  | case3 _ _ _ _ ih => exact ih (kept_wordIn hs)

theorem goes_execMgmtInReceive (hs : Kept C P s) :
    GoesOn C P (execMgmtInReceive s) := by
  unfold execMgmtInReceive
  refine goes_next ?_
  refine kept_mgmtServe ?_ hs
  intro _ _ _ _ _ _ h1
  split
  · exact kept_ite (kept_wordsIn h1) h1
  · exact kept_bump h1

theorem goes_execMgmtOutReceive (hs : Kept C P s) :
    GoesOn C P (execMgmtOutReceive s) := by
  unfold execMgmtOutReceive
  exact goes_next (kept_ite (kept_mgmtServe (fun _ _ _ _ _ _ h1 => kept_onFab h1) hs) hs)

theorem kept_portReset {x : Nat} {assert : Bool} (hs : Kept C P s) :
    Kept C P (portReset x assert s) := by
  unfold portReset
  exact kept_ite (kept_pcieDown (kept_perstFall (kept_upd hs))) (kept_upd hs)

theorem goes_execMgmtPresetReceive (hs : Kept C P s) :
    GoesOn C P (execMgmtPresetReceive s) := by
  unfold execMgmtPresetReceive
  exact goes_next (kept_settle (kept_mgmtServe (fun _ _ _ _ _ _ h1 => kept_ite (kept_portReset h1) (kept_bump h1)) hs))

theorem goes_execMgmtOutSend {i : Fin 4} (hs : Kept C P s) :
    GoesOn C P (execMgmtOutSend i s) := by
  unfold execMgmtOutSend
  exact goes_next (kept_ite (kept_sendMgmt (kept_setMb hs)) hs)

theorem keeps_mtxHiRule : mtxHiRule.Keeps := by
  intro C P s u t a v hu
  exact kept_ite (kept_onFab (kept_setLiv hu)) (kept_setLivF (kept_setLiv hu))

theorem kept_mtxSend {d : Nat} {fin : Bool} (hs : Kept C P s) :
    Kept C P (mtxSend d fin s) := by
  unfold mtxSend
  exact kept_sendMgmt (kept_onFab hs)

theorem keeps_mtxCtlRule : mtxCtlRule.Keeps := by
  intro C P s u t a v hu
  exact kept_ite (kept_mtxSend (kept_setLivF (kept_plainEffect (s := s) (t := t) hu))) (kept_setLivF (kept_plainEffect
      (s := s) (t := t) hu))

theorem goes_execMtxHiWrite (hs : Kept C P s) :
    GoesOn C P (execMtxHiWrite s) := by
  unfold execMtxHiWrite
  exact goes_liveStep keeps_mtxHiRule hs

theorem goes_execMtxSend (hs : Kept C P s) : GoesOn C P (execMtxSend s) :=
  goes_liveStep (keeps_of_eff keeps_mtxCtlRule) hs

theorem kept_rejoin {n f : Nat} (hs : Kept C P s) :
    Kept C P (rejoin n f s) := by
  unfold rejoin
  exact kept_ite (kept_onFab (kept_setWithdrawn hs)) (kept_setLivF hs)

theorem keeps_rejoinRule : rejoinRule.Keeps := by
  intro C P s u t a v hu
  exact kept_ite (kept_rejoin (kept_setLivF (kept_plainEffect (s := s) (t := t) hu))) (kept_setLivF (kept_plainEffect
      (s := s) (t := t) hu))

theorem goes_execRtRejoin (hs : Kept C P s) : GoesOn C P (execRtRejoin s) :=
  goes_liveStep (keeps_of_eff keeps_rejoinRule) hs

theorem goes_execMoveholdExpire {n : Fin 24} {f : Fin 2} (hs : Kept C P s) :
    GoesOn C P (execMoveholdExpire n f s) := by
  unfold execMoveholdExpire
  refine goes_next ?_
  split
  · exact kept_reach hs
  · exact hs

/-! ## Ports -/

theorem kept_setP {x : Nat} {f : Fld} {v : Nat} (hs : Kept C P s) :
    Kept C P (setP x f v s) := by
  unfold setP
  exact kept_setLivF hs

theorem kept_dllChanged {x : Nat} (hs : Kept C P s) :
    Kept C P (dllChanged x s) := by
  unfold dllChanged
  exact kept_ite (kept_bridgeSet hs) hs

theorem kept_dpcTrigger {x reason : Nat} (hs : Kept C P s) :
    Kept C P (dpcTrigger x reason s) := by
  unfold dpcTrigger
  exact kept_ite hs (kept_raiseStn (kept_dllChanged (kept_pcieDown (kept_bridgeSet (kept_setP hs)))))

theorem kept_resetBridges {q : Nat} (hs : Kept C P s) :
    Kept C P (resetBridges q s) := by
  unfold resetBridges
  dsimp only
  refine kept_foldl ?_ (fun _ _ h1 => kept_flrVf h1)
  refine kept_foldl (kept_foldl hs (fun _ _ h1 => kept_ite (kept_perstFall h1) h1)) ?_
  intro _ _ h1
  split
  · exact kept_dllChanged (kept_pcieDown h1)
  · exact kept_sendMgmt h1
  · exact h1

theorem kept_resetEngines {q : Nat} (hs : Kept C P s) :
    Kept C P (resetEngines q s) := by
  unfold resetEngines
  exact kept_purgePart (kept_foldl (kept_foldl (kept_foldl hs (fun _ _ h1 => kept_resetQueue h1)) (fun _ _ h1 =>
      kept_resetChan h1)) (fun _ _ h1 => kept_resetSlice h1))

theorem kept_partReset {q x : Nat} {hot : Bool} (hs : Kept C P s) :
    Kept C P (partReset q x hot s) := by
  unfold partReset
  exact kept_resetEngines (kept_resetBridges (kept_resetCfg (kept_pcieDown (kept_upd (kept_dropHeld (kept_resetLocks
      hs))))))

theorem kept_surpriseDown {x : Nat} (hs : Kept C P s) :
    Kept C P (surpriseDown x s) := by
  unfold surpriseDown
  exact kept_ite (kept_partReset hs) (kept_dpcTrigger (kept_aerError hs))

theorem kept_sendSlotLimit {x : Nat} (hs : Kept C P s) :
    Kept C P (sendSlotLimit x s) := by
  unfold sendSlotLimit
  exact kept_ite (kept_emit hs) hs

theorem kept_showWidth {x : Nat} {use : List Nat} {rev : Bool} (hs : Kept C P s) :
    Kept C P (showWidth x use rev s) := by
  unfold showWidth
  exact kept_onPp (kept_setP (kept_setP (kept_setP hs)))

theorem kept_laneTrained {rate : Nat} {e : Nat × Nat} {j : Option Nat} (hs : Kept C P s) :
    Kept C P (laneTrained rate e j s) := by
  unfold laneTrained
  dsimp only
  split
  · exact kept_setLivN hs
  · exact kept_draw (kept_ite (kept_putRec (kept_setLivN hs)) (kept_setLivN hs))

theorem kept_lanesTrained {x rate : Nat} {use : List Nat} (hs : Kept C P s) :
    Kept C P (lanesTrained x rate use s) := by
  unfold lanesTrained
  exact kept_foldl hs (fun _ _ h1 => kept_laneTrained h1)

theorem goes_execPcieLinkUp {n : Fin 24} {p : Fin 4} {rate : Fin 7} {width : Fin 5} {rev peer : Bool} (hs : Kept C P
    s) :
    GoesOn C P (execPcieLinkUp n p rate width rev peer s) := by
  unfold execPcieLinkUp
  exact goes_next (kept_settle (kept_ite (kept_intx (kept_sendSlotLimit (kept_dllChanged (kept_onPp (kept_onEport
      (kept_emit (kept_showWidth (kept_setP (kept_setP (kept_setP (kept_setP (kept_setLivN (kept_lanesTrained
      hs))))))))))))) hs))

theorem goes_execPcieLinkDown {n : Fin 24} {p : Fin 4} {surprise : Bool} (hs : Kept C P s) :
    GoesOn C P (execPcieLinkDown n p surprise s) := by
  unfold execPcieLinkDown
  exact goes_next (kept_settle (kept_ite (kept_ite (kept_surpriseDown hs) (kept_dllChanged (kept_pcieDown hs))) hs))

theorem goes_execPcieLaneFailure {n : Fin 24} {p : Fin 4} {l : Fin 16} (hs : Kept C P s) :
    GoesOn C P (execPcieLaneFailure n p l s) := by
  unfold execPcieLaneFailure
  dsimp only
  refine goes_next ?_
  refine kept_settle ?_
  refine kept_ite ?_ hs
  split
  · exact kept_surpriseDown (kept_raiseStn (kept_bump hs))
  · exact kept_setP (kept_onPp (kept_raiseStn (kept_bump hs)))

theorem goes_execPcieRecoveryReturn {n : Fin 24} {p : Fin 4} {replay : Bool} (hs : Kept C P s) :
    GoesOn C P (execPcieRecoveryReturn n p replay s) := by
  unfold execPcieRecoveryReturn
  dsimp only
  refine goes_next ?_
  refine kept_settle ?_
  refine kept_ite ?_ hs
  split
  · exact hs
  · exact kept_logDevice (kept_raiseStn (kept_iteFun (kept_bridgeSet (kept_bump (kept_ite (kept_bump (kept_setP
      (kept_setP (kept_setP (kept_showWidth (kept_onPp hs)))))) (kept_setP (kept_setP (kept_setP (kept_showWidth
      (kept_onPp hs)))))))) (kept_bump (kept_ite (kept_bump (kept_setP (kept_setP (kept_setP (kept_showWidth
      (kept_onPp hs)))))) (kept_setP (kept_setP (kept_setP (kept_showWidth (kept_onPp hs)))))))))

theorem goes_execPcieRecoveryLimit {n : Fin 24} {p : Fin 4} (hs : Kept C P s) :
    GoesOn C P (execPcieRecoveryLimit n p s) := by
  unfold execPcieRecoveryLimit
  dsimp only
  refine goes_next ?_
  split
  · exact kept_ite (kept_settle (kept_surpriseDown (kept_reach hs))) hs
  · exact hs

theorem kept_linkCmdWord {a : Nat} {v : Word} (hs : Kept C P s) :
    Kept C P (linkCmdWord a v s) := by
  unfold linkCmdWord
  exact kept_storeCmd hs

theorem kept_linkCommand {n op p tw : Nat} (hs : Kept C P s) :
    Kept C P (linkCommand n op p tw s) := by
  unfold linkCommand
  exact kept_ite (kept_sendReq (kept_setLivF hs)) (kept_setP (kept_onPp hs))

theorem keeps_linkRule {op : Nat} : (linkRule op).Keeps := by
  intro C P s u t a v hu
  dsimp only [linkRule]
  split
  · exact kept_linkCmdWord hu
  · exact kept_linkCommand (kept_linkCmdWord hu)

theorem goes_execLinkCmdRetrain (hs : Kept C P s) :
    GoesOn C P (execLinkCmdRetrain s) := by
  unfold execLinkCmdRetrain
  exact goes_liveStep (keeps_linkRule) hs

theorem goes_execLinkCmdWidth (hs : Kept C P s) :
    GoesOn C P (execLinkCmdWidth s) := by
  unfold execLinkCmdWidth
  exact goes_liveStep (keeps_linkRule) hs

theorem goes_execLinkCmdEnd {n : Fin 24} {p : Fin 4} {pass : Fin 65536} (hs : Kept C P s) :
    GoesOn C P (execLinkCmdEnd n p pass s) := by
  unfold execLinkCmdEnd
  dsimp only
  refine goes_next ?_
  refine kept_settle ?_
  split
  · exact hs
  · split
    · exact kept_surpriseDown hs
    · exact kept_ite (kept_endLong (kept_ite (kept_bridgeSet (kept_setP (kept_setP (kept_showWidth (kept_onPp hs)))))
        (kept_setP (kept_setP (kept_showWidth (kept_onPp hs)))))) (kept_ite (kept_bridgeSet (kept_setP (kept_setP
        (kept_showWidth (kept_onPp hs))))) (kept_setP (kept_setP (kept_showWidth (kept_onPp hs)))))

theorem kept_enterL1 {x : Nat} {clk : Bool} (hs : Kept C P s) :
    Kept C P (enterL1 x clk s) := by
  unfold enterL1
  exact kept_setP (kept_setP hs)

theorem goes_execL1IdleExpire {n : Fin 24} {p : Fin 4} {clk : Bool} (hs : Kept C P s) :
    GoesOn C P (execL1IdleExpire n p clk s) := by
  unfold execL1IdleExpire
  exact goes_next (kept_ite (kept_enterL1 hs) hs)

theorem goes_execL1RequestReceive {n : Fin 24} {p : Fin 4} {clk : Bool} (hs : Kept C P s) :
    GoesOn C P (execL1RequestReceive n p clk s) := by
  unfold execL1RequestReceive
  exact goes_next (kept_ite (kept_enterL1 hs) hs)

theorem goes_execL0pIdleExpire {n : Fin 24} {p : Fin 4} (hs : Kept C P s) :
    GoesOn C P (execL0pIdleExpire n p s) := by
  unfold execL0pIdleExpire
  exact goes_next (kept_ite (kept_setP (kept_onPp hs)) hs)

theorem goes_execL0pReturn {n : Fin 24} {p : Fin 4} (hs : Kept C P s) :
    GoesOn C P (execL0pReturn n p s) := by
  unfold execL0pReturn
  exact goes_next (kept_ite (kept_setP (kept_onPp hs)) hs)

theorem goes_execAttnButton {n : Fin 24} (hs : Kept C P s) :
    GoesOn C P (execAttnButton n s) := by
  unfold execAttnButton
  exact goes_next (kept_ite hs (kept_hotplug (kept_slotStatus hs)))

theorem goes_execDpcTrigger {n : Fin 24} {p : Fin 4} {fatal : Bool} (hs : Kept C P s) :
    GoesOn C P (execDpcTrigger n p fatal s) := by
  unfold execDpcTrigger
  exact goes_next (kept_ite (kept_settle (kept_dpcTrigger hs)) hs)

theorem goes_execPartitionReset {q : Fin 48} {cause : ResetBy} (hs : Kept C P s) :
    GoesOn C P (execPartitionReset q cause s) := by
  unfold execPartitionReset
  refine goes_next ?_
  refine kept_settle ?_
  split
  · exact hs
  · exact kept_ite hs (kept_partReset hs)

theorem goes_execPartitionResetRelease {q : Fin 48} (hs : Kept C P s) :
    GoesOn C P (execPartitionResetRelease q s) := by
  unfold execPartitionResetRelease
  extract_lets
  refine goes_next ?_
  split
  · exact hs
  · refine kept_ite ?_ hs
    refine kept_settle ?_
    refine kept_foldl (kept_upd (kept_reach hs)) ?_
    intro _ _ h1
    split
    · exact kept_sendMgmt h1
    · exact h1

/-! ## Spc -/

theorem kept_spcEnable {n load : Nat} (hs : Kept C P s) :
    Kept C P (spcEnable n load s) := by
  unfold spcEnable
  exact kept_openWin (kept_toState (kept_setSpc (kept_setSpc hs)))

theorem kept_spcDisable {n : Nat} (hs : Kept C P s) :
    Kept C P (spcDisable n s) := by
  unfold spcDisable
  exact kept_ite (kept_closeRuns (kept_onSpc (kept_perstFall hs))) (kept_disableEnd hs)

theorem kept_spcDo {n op load feed : Nat} (hs : Kept C P s) :
    Kept C P (spcDo n op load feed s) := by
  unfold spcDo
  split
  · exact kept_spcEnable hs
  · exact kept_spcDisable hs
  · exact kept_openWin hs
  · exact kept_closeWin hs
  · exact kept_ite hs (kept_enterSwitch hs)

theorem keeps_spcRule {ops : List Nat} : (spcRule ops).Keeps := by
  intro C P s u t a v hu
  exact kept_ite (kept_setLiv hu) (kept_ite (kept_spcDo (kept_setSpc (kept_setLiv hu))) (kept_setSpc (kept_setLiv hu)))

theorem goes_execSpcEnable (hs : Kept C P s) :
    GoesOn C P (execSpcEnable s) := by
  unfold execSpcEnable
  exact goes_liveStep (keeps_spcRule) hs

theorem goes_execSpcDisable (hs : Kept C P s) :
    GoesOn C P (execSpcDisable s) := by
  unfold execSpcDisable
  exact goes_liveStep (keeps_spcRule) hs

theorem goes_execSpcTestopen (hs : Kept C P s) :
    GoesOn C P (execSpcTestopen s) := by
  unfold execSpcTestopen
  exact goes_liveStep (keeps_spcRule) hs

theorem goes_execSpcTestclose (hs : Kept C P s) :
    GoesOn C P (execSpcTestclose s) := by
  unfold execSpcTestclose
  exact goes_liveStep (keeps_spcRule) hs

theorem goes_execSpcFeedsel (hs : Kept C P s) :
    GoesOn C P (execSpcFeedsel s) := by
  unfold execSpcFeedsel
  exact goes_liveStep (keeps_spcRule) hs

theorem goes_execSpcEvaluationStep {n : Fin 24} {m : SpcSample} (hs : Kept C P s) :
    GoesOn C P (execSpcEvaluationStep n m s) := by
  unfold execSpcEvaluationStep
  exact goes_next (kept_spcStep (kept_reach hs))

theorem goes_execSpcPresenceChange {n : Fin 24} {here : Bool} (hs : Kept C P s) :
    GoesOn C P (execSpcPresenceChange n here s) := by
  unfold execSpcPresenceChange
  exact goes_next (kept_ite (kept_presence hs) hs)

theorem goes_execSpcFeedValid {n : Fin 24} {k : Fin 2} (hs : Kept C P s) :
    GoesOn C P (execSpcFeedValid n k s) := by
  unfold execSpcFeedValid
  exact goes_next (kept_ite hs (kept_feedFound (kept_setValid hs)))

theorem goes_execSpcFeedInvalid {n : Fin 24} {k : Fin 2} (hs : Kept C P s) :
    GoesOn C P (execSpcFeedInvalid n k s) := by
  unfold execSpcFeedInvalid
  exact goes_next (kept_ite (kept_feedLost (kept_setValid hs)) hs)

theorem goes_execSpcFastTrip {n : Fin 24} {m : SpcSample} (hs : Kept C P s) :
    GoesOn C P (execSpcFastTrip n m s) := by
  unfold execSpcFastTrip
  exact goes_next (kept_ite (kept_spcStep (kept_onSpc (kept_reach hs))) hs)

theorem goes_execSpcCurveTrip {n : Fin 24} {k : Fin 8} {m : SpcSample} (hs : Kept C P s) :
    GoesOn C P (execSpcCurveTrip n k m s) := by
  unfold execSpcCurveTrip
  exact goes_next (kept_ite (kept_trip (kept_takeSpcSample hs)) hs)

theorem goes_execSpcReverseTrip {n : Fin 24} {m : SpcSample} (hs : Kept C P s) :
    GoesOn C P (execSpcReverseTrip n m s) := by
  unfold execSpcReverseTrip
  exact goes_next (kept_ite (kept_trip (kept_takeSpcSample hs)) hs)

theorem goes_execSpcRampTimeout {n : Fin 24} (hs : Kept C P s) :
    GoesOn C P (execSpcRampTimeout n s) := by
  unfold execSpcRampTimeout
  refine goes_next ?_
  split
  · exact kept_ite (kept_trip (kept_reach hs)) hs
  · exact hs

theorem goes_execSpcGateFullyOn {n : Fin 24} (hs : Kept C P s) :
    GoesOn C P (execSpcGateFullyOn n s) := by
  unfold execSpcGateFullyOn
  exact goes_next (kept_ite (kept_gateFull hs) hs)

theorem goes_execSpcPgAssert {n : Fin 24} (hs : Kept C P s) :
    GoesOn C P (execSpcPgAssert n s) := by
  unfold execSpcPgAssert
  exact goes_next (kept_ite (kept_pgUp (kept_onSpc (kept_reach hs))) hs)

theorem goes_execSpcPerstRelease {n : Fin 24} (hs : Kept C P s) :
    GoesOn C P (execSpcPerstRelease n s) := by
  unfold execSpcPerstRelease
  exact goes_next (kept_ite (kept_perstRise (kept_reach hs)) hs)

theorem goes_execSpcDisableWaitEnd {n : Fin 24} (hs : Kept C P s) :
    GoesOn C P (execSpcDisableWaitEnd n s) := by
  unfold execSpcDisableWaitEnd
  refine goes_next ?_
  split
  · exact kept_disableEnd (kept_reach hs)
  · exact hs

theorem goes_execSpcOffConfirm {n : Fin 24} (hs : Kept C P s) :
    GoesOn C P (execSpcOffConfirm n s) := by
  unfold execSpcOffConfirm
  refine goes_next ?_
  split
  · exact kept_onSpc hs
  · exact hs

theorem goes_execSpcDeadTimeEnd {n : Fin 24} (hs : Kept C P s) :
    GoesOn C P (execSpcDeadTimeEnd n s) := by
  unfold execSpcDeadTimeEnd
  refine goes_next ?_
  split
  · exact kept_driveGate (kept_onSpc (kept_reach hs))
  · exact hs

theorem goes_execSpcVoutLow {n : Fin 24} (hs : Kept C P s) :
    GoesOn C P (execSpcVoutLow n s) := by
  unfold execSpcVoutLow
  exact goes_next (kept_ite (kept_pgDown hs) hs)

theorem goes_execSpcRetryWaitEnd {n : Fin 24} (hs : Kept C P s) :
    GoesOn C P (execSpcRetryWaitEnd n s) := by
  unfold execSpcRetryWaitEnd
  refine goes_next ?_
  split
  · exact kept_ite (kept_retryNow (kept_reach hs)) hs
  · exact hs

theorem goes_execSpcAutoret {n : Fin 24} (hs : Kept C P s) :
    GoesOn C P (execSpcAutoret n s) := by
  unfold execSpcAutoret
  refine goes_next ?_
  split
  · exact kept_enterSwitch (kept_reach hs)
  · exact hs

theorem goes_execSpcRetriesReset {n : Fin 24} (hs : Kept C P s) :
    GoesOn C P (execSpcRetriesReset n s) := by
  unfold execSpcRetriesReset
  exact goes_next (kept_ite (kept_setSpc (kept_reach hs)) hs)

theorem goes_execSpcCapWindowClose {n : Fin 24} (hs : Kept C P s) :
    GoesOn C P (execSpcCapWindowClose n s) := by
  unfold execSpcCapWindowClose
  exact goes_next (kept_ite (kept_closeRuns (kept_reach hs)) hs)

theorem goes_execSpcMeterUpdate {n : Fin 24} (hs : Kept C P s) :
    GoesOn C P (execSpcMeterUpdate n s) := by
  unfold execSpcMeterUpdate
  exact goes_next (kept_meterUpdate hs)

/-! ## Config Writes -/

theorem kept_powerControl {q fn n : Nat} {off : Bool} (hs : Kept C P s) :
    Kept C P (powerControl q fn n off s) := by
  unfold powerControl
  dsimp only
  refine kept_cfgBit ?_
  refine kept_ite ?_ ?_
  · refine kept_hotplug ?_
    refine kept_slotStatus ?_
    split
    · exact kept_budgetRefusal hs
    · exact kept_ite (kept_spcDo (kept_setSpc hs)) (kept_setSpc hs)
  · split
    · exact kept_budgetRefusal hs
    · exact kept_ite (kept_spcDo (kept_setSpc hs)) (kept_setSpc hs)

theorem kept_busReset {b : Bridge} {on : Bool} (hs : Kept C P s) :
    Kept C P (busReset b on s) := by
  unfold busReset
  split
  · exact kept_ite (kept_dllChanged (kept_pcieDown hs)) (kept_setP hs)
  · exact hs

theorem kept_secondaryReset {q fn : Nat} {old new : Word} (hs : Kept C P s) :
    Kept C P (secondaryReset q fn old new s) := by
  unfold secondaryReset
  dsimp only
  refine kept_ite hs ?_
  refine kept_ite (kept_foldl hs (fun _ _ h1 => kept_busReset h1)) ?_
  split
  · exact kept_busReset hs
  · exact hs

theorem kept_linkControl {x : Nat} {old new : Word} {retrain : Bool} (hs : Kept C P s) :
    Kept C P (linkControl x old new retrain s) := by
  unfold linkControl
  exact kept_ite (kept_setP (kept_onPp (kept_ite hs (kept_ite (kept_dllChanged (kept_pcieDown hs)) (kept_setP hs)))))
      (kept_ite hs (kept_ite (kept_dllChanged (kept_pcieDown hs)) (kept_setP hs)))

theorem kept_dpcRelease_bridgeClear {x : Nat} (hs : Kept C P s) :
    Kept C P (dpcRelease.bridgeClear x s) := by
  unfold dpcRelease.bridgeClear
  exact kept_setCfg hs

theorem kept_dpcRelease {x : Nat} (hs : Kept C P s) :
    Kept C P (dpcRelease x s) := by
  unfold dpcRelease
  exact kept_setP (kept_dpcRelease_bridgeClear (kept_setP hs))

theorem kept_cfgEffect {q fn be : Nat} {r : CfgReg} {old new v : Word} (hs : Kept C P s) :
    Kept C P (cfgEffect q fn be r old new v s) := by
  unfold cfgEffect
  split
  · exact kept_secondaryReset hs
  · exact kept_ite (kept_powerControl hs) hs
  · exact kept_linkControl hs
  · exact kept_ite (kept_dpcTrigger hs) hs
  · exact kept_ite (kept_dpcRelease hs) hs
  · exact hs

theorem kept_cfgWrite {w : CfgWrite} (hs : Kept C P s) :
    Kept C P (cfgWrite w s) := by
  unfold cfgWrite
  dsimp only
  split
  · exact kept_upd hs
  · exact kept_cfgEffect (kept_setCfg hs)

theorem kept_cfgComplete {w : CfgWrite} (hs : Kept C P s) :
    Kept C P (cfgComplete w s) := by
  unfold cfgComplete
  split
  · exact hs
  · exact kept_sendLocal hs

theorem goes_execConfigWriteArrival {q : Fin 48} {fn : Fin 34} {r : CfgReg} {off : Fin 1024} {be : Fin 16} {data :
    Word} {req tag : Nat} (hs : Kept C P s) :
    GoesOn C P (execConfigWriteArrival q fn r off be data req tag s) := by
  unfold execConfigWriteArrival
  exact goes_next (kept_ite (kept_stallTake (kept_holdCfg hs)) hs)

theorem goes_execConfigWriteServe (hs : Kept C P s) :
    GoesOn C P (execConfigWriteServe s) := by
  unfold execConfigWriteServe
  dsimp only
  refine goes_next ?_
  split
  · exact kept_ite (kept_settle (kept_intx (kept_cfgComplete (kept_perf (kept_bump (kept_cfgWrite (kept_draw (kept_log
      (kept_ite (kept_endStall (kept_freeCfg (kept_upd hs))) (kept_freeCfg (kept_upd hs))))))))))) hs
  · exact hs

/-! ## Counters -/

theorem kept_pcSnap {u : Nat} (hs : Kept C P s) :
    Kept C P (pcSnap u s) := by
  unfold pcSnap
  exact kept_setLivF (kept_forUpto (kept_setLiv64 hs) (fun _ _ h1 => kept_setLiv64 h1))

theorem kept_pcClear {u : Nat} (hs : Kept C P s) :
    Kept C P (pcClear u s) := by
  unfold pcClear
  exact kept_setLivF (kept_forUpto (kept_setLiv64 hs) (fun _ _ h1 => kept_setLiv64 h1))

theorem kept_pcRun {u run : Nat} (hs : Kept C P s) :
    Kept C P (pcRun u run s) := by
  unfold pcRun
  exact kept_setLivN hs

theorem kept_pcAct {u : Nat} {snap clr : Bool} (hs : Kept C P s) :
    Kept C P (pcAct u snap clr s) := by
  unfold pcAct
  exact kept_ite (kept_pcClear (kept_ite (kept_pcSnap hs) hs)) (kept_ite (kept_pcSnap hs) hs)

theorem keeps_pcCtlRule {q : Word → Bool} : (pcCtlRule q).Keeps := by
  intro C P s u t a v hu
  exact kept_pcAct (kept_pcRun hu)

theorem keeps_pcAllRule {q : Word → Bool} : (pcAllRule q).Keeps := by
  intro C P s u t a v hu
  exact kept_forUpto hu (fun _ _ h1 => kept_pcAct (kept_ite (kept_pcRun h1) (kept_ite (kept_pcRun h1) h1)))

theorem goes_execPcCtlWrite (hs : Kept C P s) :
    GoesOn C P (execPcCtlWrite s) := by
  unfold execPcCtlWrite
  exact goes_liveStep (keeps_pcCtlRule) hs

theorem goes_execPcSnap (hs : Kept C P s) :
    GoesOn C P (execPcSnap s) := by
  unfold execPcSnap
  exact goes_liveStep (keeps_pcCtlRule) hs

theorem goes_execPcClear (hs : Kept C P s) :
    GoesOn C P (execPcClear s) := by
  unfold execPcClear
  exact goes_liveStep (keeps_pcCtlRule) hs

theorem goes_execPcAllStart (hs : Kept C P s) :
    GoesOn C P (execPcAllStart s) := by
  unfold execPcAllStart
  exact goes_liveStep (keeps_pcAllRule) hs

theorem goes_execPcAllStop (hs : Kept C P s) :
    GoesOn C P (execPcAllStop s) := by
  unfold execPcAllStop
  exact goes_liveStep (keeps_pcAllRule) hs

theorem goes_execPcAllSnap (hs : Kept C P s) :
    GoesOn C P (execPcAllSnap s) := by
  unfold execPcAllSnap
  exact goes_liveStep (keeps_pcAllRule) hs

theorem goes_execPcAllClear (hs : Kept C P s) :
    GoesOn C P (execPcAllClear s) := by
  unfold execPcAllClear
  exact goes_liveStep (keeps_pcAllRule) hs

/-! ## Egress -/

theorem kept_sendOnLink {n f : Nat} {stomped : Bool} {p : Packet} (hs : Kept C P s) :
    Kept C P (sendOnLink n f stomped p s) := by
  unfold sendOnLink
  exact kept_syncFl (kept_setLnk (kept_emit hs))

theorem kept_stampTrack {p : Packet} {ts : Nat} (hs : Kept C P s) :
    Kept C P (stampTrack p ts s) := by
  unfold stampTrack
  split
  · exact kept_ite (kept_onMsg hs) hs
  · exact hs

theorem kept_sendPackets {x here : Nat} {u : CUnit} (hs : Kept C P s) :
    Kept C P (sendPackets x here u s) := by
  unfold sendPackets
  dsimp only
  split
  · split
    · refine kept_sendOnLink ?_
      refine kept_sendOnLink ?_
      split
      · exact kept_ite (kept_npAdd (kept_ite (kept_stampTrack hs) hs)) (kept_ite (kept_stampTrack hs) hs)
      · exact kept_ite (kept_stampTrack hs) hs
    · refine kept_sendOnLink ?_
      split
      · exact kept_ite (kept_npAdd (kept_ite (kept_stampTrack hs) hs)) (kept_ite (kept_stampTrack hs) hs)
      · exact kept_ite (kept_stampTrack hs) hs
  · exact hs

theorem kept_sendTlp {x : Nat} {u : CUnit} {t : Tlp} (hs : Kept C P s) :
    Kept C P (sendTlp x u t s) := by
  unfold sendTlp
  dsimp only
  split
  · exact kept_lockAnswer (kept_setLock (kept_npAdd (kept_onEport (kept_emit hs))))
  · exact kept_npAdd (kept_onEport (kept_emit hs))

theorem kept_sendUnit {x k id : Nat} {u : CUnit} (hs : Kept C P s) :
    Kept C P (sendUnit x k id u s) := by
  unfold sendUnit
  dsimp only
  refine kept_doneUnit ?_
  refine kept_removeUnit ?_
  split
  · refine kept_subLeft ?_
    split
    · exact kept_sendTlp (kept_perf (kept_perf hs))
    · exact kept_sendPackets (kept_perf (kept_perf hs))
  · split
    · exact kept_sendTlp (kept_perf (kept_perf hs))
    · exact kept_sendPackets (kept_perf (kept_perf hs))

theorem kept_killUnit {id : Nat} (hs : Kept C P s) :
    Kept C P (killUnit id s) := by
  unfold killUnit
  dsimp only
  split
  · exact hs
  · refine kept_ite ?_ ?_
    · refine kept_doneUnit ?_
      refine kept_onEport ?_
      refine kept_removeUnit ?_
      split
      · exact kept_ite (kept_onEport (kept_sendPackets (kept_jobLost hs))) (kept_jobLost hs)
      · exact kept_ite (kept_onEport (kept_jobLost hs)) (kept_jobLost hs)
      · exact kept_jobLost hs
    · refine kept_setUnit ?_
      refine kept_onEport ?_
      refine kept_removeUnit ?_
      split
      · exact kept_ite (kept_onEport (kept_sendPackets (kept_jobLost hs))) (kept_jobLost hs)
      · exact kept_ite (kept_onEport (kept_jobLost hs)) (kept_jobLost hs)
      · exact kept_jobLost hs

theorem kept_cellCheck {id idx : Nat} {err : CellErr} {corrected : State → State} {note : Nat → State → State}
    (hcorrected : ∀ u, Kept C P u → Kept C P (corrected u)) (hnote : ∀ x0 u1, Kept C P u1 → Kept C P (note x0 u1)) (hs
    : Kept C P s) :
    Kept C P (cellCheck id idx err corrected note s) := by
  unfold cellCheck
  dsimp only
  split
  · exact hcorrected _ hs
  · refine kept_setUnit ?_
    split
    · exact kept_aerError (hnote _ _ hs)
    · exact hnote _ _ hs
  · refine kept_killUnit ?_
    split
    · exact kept_aerError (hnote _ _ hs)
    · exact hnote _ _ hs
  · exact hs

theorem kept_sramCheck {n id idx : Nat} {err : CellErr} (hs : Kept C P s) :
    Kept C P (sramCheck n id idx err s) := by
  unfold sramCheck
  exact kept_cellCheck (fun _ h1 => kept_bump h1) (fun _ _ h1 => kept_sramUe h1) hs

theorem kept_serve {x k : Nat} {d : Sched} (hs : Kept C P s) :
    Kept C P (serve x k d s) := by
  unfold serve
  dsimp only
  split
  · exact hs
  · split
    · exact hs
    · refine kept_ite (kept_doneUnit (kept_removeUnit (kept_bump hs))) ?_
      split
      · exact kept_ite (kept_onEport (kept_bump (kept_shpCharge (kept_ite (kept_shpCharge (kept_onEport hs))
          (kept_onEport hs))))) (kept_sendUnit (kept_shpCharge (kept_ite (kept_shpCharge (kept_onEport hs))
          (kept_onEport hs))))
      · exact kept_ite (kept_sendUnit (kept_shpCharge (kept_ite (kept_shpCharge (kept_onEport hs)) (kept_onEport
          hs)))) (kept_onEport (kept_shpCharge (kept_ite (kept_shpCharge (kept_onEport hs)) (kept_onEport hs))))

theorem kept_sendAside {x : Nat} (hs : Kept C P s) (e : sendAside x s = some u) : Kept C P u := by
  unfold sendAside at e
  split at e
  · cases e
  split at e
  · cases e
    exact kept_onEport hs
  split at e
  · split at e
    · cases e
      exact kept_sendUnit (kept_onEport hs)
    · cases e
  · cases e

theorem kept_drainAside {x fuel : Nat} (hs : Kept C P s) : Kept C P (drainAside x fuel s) := by
  induction fuel generalizing s with
  | zero => exact hs
  | succ fuel ih =>
    unfold drainAside
    split
    · next e => exact ih (kept_sendAside hs e)
    · exact hs

theorem kept_finishBegun {x id : Nat} (hs : Kept C P s) :
    Kept C P (finishBegun x id s) := by
  unfold finishBegun
  split
  · exact kept_ite (kept_sendUnit (kept_onEport hs)) hs
  · exact hs

theorem kept_enqueue_snd {x : Nat} {c : CellRef} (hs : Kept C P s) :
    Kept C P (enqueue x c s).2 := by
  unfold enqueue
  dsimp only
  split
  · exact kept_pair hs
  · refine kept_ite_snd ?_ ?_
    · refine kept_pair ?_
      refine kept_ite (kept_doneUnit hs) ?_
      split
      · exact kept_setUnit hs
      · exact hs
    · refine kept_ite_snd ?_ ?_
      · refine kept_pair ?_
        refine kept_ite (kept_doneUnit (kept_loseAny hs)) ?_
        split
        · exact kept_setUnit (kept_loseAny hs)
        · exact kept_loseAny hs
      · split
        · next v1 e1 =>
            have hv1 : Kept C P v1 := kept_of_eq (kept_takeCell_snd hs) e1
            exact kept_pair (kept_ite (kept_finishBegun (kept_resched (kept_ite (kept_setUnit hv1) hv1)))
                (kept_resched (kept_ite (kept_setUnit hv1) hv1)))
        · next v1 e1 =>
            have hv1 : Kept C P v1 := kept_of_eq (kept_takeCell_snd hs) e1
            refine kept_ite_snd ?_ (kept_pair hv1)
            refine kept_pair ?_
            refine kept_ite (kept_doneUnit (kept_bump hv1)) ?_
            split
            · exact kept_setUnit (kept_bump hv1)
            · exact kept_bump hv1

theorem kept_release {n x fuel : Nat} (hs : Kept C P s) : Kept C P (release n x fuel s) := by
  induction fuel generalizing s with
  | zero => exact hs
  | succ fuel ih =>
    unfold release
    dsimp only
    split
    · exact hs
    split
    · next e =>
      exact ih (kept_onIng (kept_onEport (kept_of_eq (kept_enqueue_snd hs) e)))
    · next e =>
      have hv := kept_of_eq (kept_enqueue_snd hs) e
      exact kept_ite hv (kept_onEport (kept_perf (kept_bump hv)))

theorem kept_wake {n : Nat} (hs : Kept C P s) :
    Kept C P (wake n s) := by
  unfold wake
  exact kept_foldl hs (fun _ _ h1 => kept_resched (kept_foldl h1 (fun _ _ h2 => kept_release h2)))

theorem kept_leaveL1 {x : Nat} (hs : Kept C P s) :
    Kept C P (leaveL1 x s) := by
  unfold leaveL1
  exact kept_ite (kept_setLivF (kept_setLivF hs)) hs

theorem goes_execEgressSelect {n : Fin 24} {p : Fin 4} {err : CellErr} (hs : Kept C P s) :
    GoesOn C P (execEgressSelect n p err s) := by
  unfold execEgressSelect
  dsimp only
  refine goes_next ?_
  refine kept_settle ?_
  refine kept_ite hs ?_
  split
  · next v e =>
      have hv : Kept C P v := kept_sendAside hs e
      exact kept_wake hv
  · split
    · exact kept_onEport hs
    · exact kept_wake (kept_ite (kept_serve (kept_leaveL1 (kept_sramCheck hs))) (kept_sramCheck hs))

theorem goes_execEgressUnderrun {n : Fin 24} {f : Fin 2} (hs : Kept C P s) :
    GoesOn C P (execEgressUnderrun n f s) := by
  unfold execEgressUnderrun
  dsimp only
  refine goes_next ?_
  refine kept_settle ?_
  split
  · split
    · exact kept_ite (kept_onEport (kept_bump (kept_sendPackets hs))) hs
    · exact hs
  · exact hs

theorem goes_execStompResend {n : Fin 24} {f : Fin 2} (hs : Kept C P s) :
    GoesOn C P (execStompResend n f s) := by
  unfold execStompResend
  dsimp only
  refine goes_next ?_
  refine kept_settle ?_
  split
  · split
    · exact kept_ite (kept_wake (kept_sendUnit (kept_onEport hs))) hs
    · exact hs
  · exact hs

theorem goes_execPcieFcUpdate {n : Fin 24} {p : Fin 4} {ty : FcType} {hdr data : Nat} (hs : Kept C P s) :
    GoesOn C P (execPcieFcUpdate n p ty hdr data s) := by
  unfold execPcieFcUpdate
  exact goes_next (kept_settle (kept_ite (kept_wake (kept_drainAside (kept_onEport hs))) hs))

theorem goes_execSpillWriteDone {n : Fin 24} {p : Fin 4} {g : Fin 49} {q : Fin 8} (hs : Kept C P s) :
    GoesOn C P (execSpillWriteDone n p g q s) := by
  unfold execSpillWriteDone
  exact goes_next (kept_settle (kept_ite (kept_wake (kept_addSegs (kept_bump (kept_perf (kept_driftMove (kept_setEq
      (kept_onDp hs))))))) hs))

theorem goes_execRefillStart {n : Fin 24} {p : Fin 4} {g : Fin 49} {q : Fin 8} (hs : Kept C P s) :
    GoesOn C P (execRefillStart n p g q s) := by
  unfold execRefillStart
  exact goes_next (kept_settle (kept_ite (kept_addSegs (kept_setEq (kept_onDp hs))) hs))

theorem kept_loseMiddle {n x k : Nat} (hs : Kept C P s) :
    Kept C P (loseMiddle n x k s) := by
  unfold loseMiddle
  exact kept_raise (kept_ite (kept_addSegs (kept_giveBlocks (kept_bump (kept_setEq (kept_foldl hs (fun _ _ h1 =>
      kept_killUnit h1)))))) (kept_addSpillQ (kept_addSegs (kept_giveBlocks (kept_bump (kept_setEq (kept_foldl hs (fun
      _ _ h1 => kept_killUnit h1))))))))

theorem goes_execRefillDone {n : Fin 24} {p : Fin 4} {g : Fin 49} {q : Fin 8} {errs : List CellErr} {next : Bool} (hs
    : Kept C P s) :
    GoesOn C P (execRefillDone n p g q errs next s) := by
  unfold execRefillDone
  dsimp only
  refine goes_next ?_
  refine kept_settle ?_
  split
  · exact hs
  · refine kept_ite hs ?_
    refine kept_wake ?_
    split
    · exact kept_finishBegun (kept_ite (kept_addSegs (kept_setEq (kept_foldl (kept_giveBlocks (kept_bump (kept_perf
        (kept_driftMove (kept_ite (kept_addSpillQ (kept_setEq hs)) (kept_setEq hs)))))) (fun _ _ h1 => kept_cellCheck
        (fun _ h2 => kept_bump h2) (fun _ _ h2 => kept_driftUe h2) h1)))) (kept_loseMiddle (kept_driftUe (kept_addSegs
        (kept_setEq (kept_foldl (kept_giveBlocks (kept_bump (kept_perf (kept_driftMove (kept_ite (kept_addSpillQ
        (kept_setEq hs)) (kept_setEq hs)))))) (fun _ _ h1 => kept_cellCheck (fun _ h2 => kept_bump h2) (fun _ _ h2 =>
        kept_driftUe h2) h1)))))))
    · exact kept_ite (kept_addSegs (kept_setEq (kept_foldl (kept_giveBlocks (kept_bump (kept_perf (kept_driftMove
        (kept_ite (kept_addSpillQ (kept_setEq hs)) (kept_setEq hs)))))) (fun _ _ h1 => kept_cellCheck (fun _ h2 =>
        kept_bump h2) (fun _ _ h2 => kept_driftUe h2) h1)))) (kept_loseMiddle (kept_driftUe (kept_addSegs (kept_setEq
        (kept_foldl (kept_giveBlocks (kept_bump (kept_perf (kept_driftMove (kept_ite (kept_addSpillQ (kept_setEq hs))
        (kept_setEq hs)))))) (fun _ _ h1 => kept_cellCheck (fun _ h2 => kept_bump h2) (fun _ _ h2 => kept_driftUe h2)
        h1))))))

/-! ## Crossbar -/

theorem kept_setPlane {k : Nat} {b : Bool} (hs : Kept C P s) :
    Kept C P (setPlane k b s) := by
  unfold setPlane
  exact kept_setLivF hs

theorem kept_offer {n k id idx : Nat} {u : CUnit} (hs : Kept C P s) :
    Kept C P (offer n k id idx u s) := by
  unfold offer
  exact kept_onIng (kept_perf (kept_bump hs))

theorem goes_execCellOffer {n : Fin 24} {k : Fin 2} {err : CellErr} (hs : Kept C P s) :
    GoesOn C P (execCellOffer n k err s) := by
  unfold execCellOffer
  dsimp only
  refine goes_next ?_
  refine kept_settle ?_
  refine kept_ite ?_ hs
  split
  · exact hs
  · split
    · refine kept_offer ?_
      refine kept_sramCheck ?_
      split
      · exact kept_onIng hs
      · exact hs
    · refine kept_sramCheck ?_
      split
      · exact kept_onIng hs
      · exact hs

theorem kept_markCaptured {n x csn k : Nat} (hs : Kept C P s) :
    Kept C P (markCaptured n x csn k s) := by
  unfold markCaptured
  exact kept_onIng hs

theorem goes_execCellCapture {n : Fin 24} {x : Fin 96} {k : Fin 2} {ecc : Fin 10} (hs : Kept C P s) :
    GoesOn C P (execCellCapture n x k ecc s) := by
  unfold execCellCapture
  dsimp only
  refine goes_next ?_
  refine kept_settle ?_
  refine kept_ite hs ?_
  split
  · exact hs
  · exact kept_ite hs (kept_ite (kept_bump (kept_countCell (kept_markCaptured (kept_bump (kept_onDp hs))))) (kept_wake
      (kept_release (kept_onEport (kept_countCell (kept_markCaptured (kept_bump (kept_onDp hs))))))))

theorem goes_execCellAckReceive {n : Fin 24} {x : Fin 96} {k : Fin 2} (hs : Kept C P s) :
    GoesOn C P (execCellAckReceive n x k s) := by
  unfold execCellAckReceive
  dsimp only
  refine goes_next ?_
  refine kept_settle ?_
  split
  · exact hs
  · exact kept_ite (kept_onIng hs) (kept_freeUnit (kept_onIng hs))

theorem goes_execSlotCreditReturn {n e : Fin 24} (hs : Kept C P s) :
    GoesOn C P (execSlotCreditReturn n e s) := by
  unfold execSlotCreditReturn
  exact goes_next (kept_settle (kept_ite hs (kept_setIng hs)))

theorem kept_resendCells {q : Nat → Bool} {k : Nat} (hs : Kept C P s) :
    Kept C P (resendCells q k s) := by
  unfold resendCells
  exact kept_foldl hs (fun _ _ h1 => kept_ite h1 (kept_onIng (kept_bump (kept_bump h1))))

theorem kept_planeFault {n k cause : Nat} (hs : Kept C P s) :
    Kept C P (planeFault n k cause s) := by
  unfold planeFault
  exact kept_ite (kept_resendCells (kept_logDevice (kept_raise (kept_ite (kept_onDp (kept_setLivF (kept_setLivF
      (kept_setPlane hs)))) (kept_setLivF (kept_setLivF (kept_setPlane hs))))))) (kept_raise (kept_setLivF
      (kept_logDevice (kept_raise (kept_ite (kept_onDp (kept_setLivF (kept_setLivF (kept_setPlane hs)))) (kept_setLivF
      (kept_setLivF (kept_setPlane hs))))))))

theorem goes_execPlaneAckTimeout {n : Fin 24} (hs : Kept C P s) :
    GoesOn C P (execPlaneAckTimeout n s) := by
  unfold execPlaneAckTimeout
  refine goes_next ?_
  refine kept_settle ?_
  split
  · exact hs
  · exact kept_planeFault (kept_reach hs)

theorem goes_execPlaneErrorReport {n : Fin 24} {k : Fin 2} (hs : Kept C P s) :
    GoesOn C P (execPlaneErrorReport n k s) := by
  unfold execPlaneErrorReport
  exact goes_next (kept_settle (kept_ite (kept_planeFault hs) hs))

theorem kept_coreCommand {op k : Nat} (hs : Kept C P s) :
    Kept C P (coreCommand op k s) := by
  unfold coreCommand
  exact kept_ite hs (kept_ite (kept_setLivF hs) (kept_ite (kept_ite (kept_onDp hs) hs) (kept_onDp (kept_setLivF hs))))

theorem keeps_coreRule {ops : List Nat} : (coreRule ops).Keeps := by
  intro C P s u t a v hu
  exact kept_coreCommand (kept_storeCmd hu)

theorem goes_execCoreCmdTest (hs : Kept C P s) :
    GoesOn C P (execCoreCmdTest s) := by
  unfold execCoreCmdTest
  exact goes_liveStep (keeps_coreRule) hs

theorem goes_execCoreCmdRestore (hs : Kept C P s) :
    GoesOn C P (execCoreCmdRestore s) := by
  unfold execCoreCmdRestore
  exact goes_liveStep (keeps_coreRule) hs

theorem goes_execCoreCmdRemove (hs : Kept C P s) :
    GoesOn C P (execCoreCmdRemove s) := by
  unfold execCoreCmdRemove
  exact goes_liveStep (keeps_coreRule) hs

theorem goes_execPlaneTestDone {pass : Bool} (hs : Kept C P s) :
    GoesOn C P (execPlaneTestDone pass s) := by
  unfold execPlaneTestDone
  dsimp only
  refine goes_next ?_
  refine kept_settle ?_
  split
  · exact kept_ite (kept_setLivF (kept_setLivF (kept_onDp hs))) (kept_ite (kept_ite (kept_resendCells (kept_logDevice
      (kept_raise (kept_setLivF (kept_setPlane (kept_setLivF (kept_onDp hs))))))) (kept_logDevice (kept_raise
      (kept_setLivF (kept_setPlane (kept_setLivF (kept_onDp hs))))))) (kept_setLivF (kept_onDp hs)))
  · exact hs

theorem goes_execPlaneRemoveDone (hs : Kept C P s) :
    GoesOn C P (execPlaneRemoveDone s) := by
  unfold execPlaneRemoveDone
  dsimp only
  refine goes_next ?_
  refine kept_settle ?_
  split
  · exact kept_ite hs (kept_ite (kept_logDevice (kept_setPlane (kept_onDp hs))) (kept_setLivF (kept_logDevice
      (kept_setPlane (kept_onDp hs)))))
  · exact hs

theorem goes_execCoreSpeedSample {ths : Fin 1024} (hs : Kept C P s) :
    GoesOn C P (execCoreSpeedSample ths s) := by
  unfold execCoreSpeedSample
  exact goes_next (kept_settle (kept_slowCheck (kept_setLivF hs)))

/-! ## Tylyn -/

theorem kept_alu {op : Nat} {f : DWord → DWord → DWord} (hs : Kept C P s) :
    GoesOn C P (alu op f s) := by
  unfold alu
  exact goes_insn hs (fun _ _ ht => kept_retireG ht hs)

theorem kept_aluI {op rsv : Nat} {f : DWord → Nat → DWord} (hs : Kept C P s) :
    GoesOn C P (aluI op rsv f s) := by
  unfold aluI
  exact goes_insn hs (fun _ _ ht => kept_retireG ht hs)

theorem goes_execNop (hs : Kept C P s) :
    GoesOn C P (execNop s) := by
  unfold execNop
  exact goes_insn hs (fun _ _ ht => kept_retire ht hs)

theorem goes_execAdd (hs : Kept C P s) :
    GoesOn C P (execAdd s) := by
  unfold execAdd
  exact kept_alu hs

theorem goes_execSub (hs : Kept C P s) :
    GoesOn C P (execSub s) := by
  unfold execSub
  exact kept_alu hs

theorem goes_execAnd (hs : Kept C P s) :
    GoesOn C P (execAnd s) := by
  unfold execAnd
  exact kept_alu hs

theorem goes_execOr (hs : Kept C P s) :
    GoesOn C P (execOr s) := by
  unfold execOr
  exact kept_alu hs

theorem goes_execXor (hs : Kept C P s) :
    GoesOn C P (execXor s) := by
  unfold execXor
  exact kept_alu hs

theorem goes_execShl (hs : Kept C P s) :
    GoesOn C P (execShl s) := by
  unfold execShl
  exact kept_alu hs

theorem goes_execShr (hs : Kept C P s) :
    GoesOn C P (execShr s) := by
  unfold execShr
  exact kept_alu hs

theorem goes_execSar (hs : Kept C P s) :
    GoesOn C P (execSar s) := by
  unfold execSar
  exact kept_alu hs

theorem goes_execMul (hs : Kept C P s) :
    GoesOn C P (execMul s) := by
  unfold execMul
  exact kept_alu hs

theorem goes_execAddi (hs : Kept C P s) :
    GoesOn C P (execAddi s) := by
  unfold execAddi
  exact kept_aluI hs

theorem goes_execAndi (hs : Kept C P s) :
    GoesOn C P (execAndi s) := by
  unfold execAndi
  exact kept_aluI hs

theorem goes_execOri (hs : Kept C P s) :
    GoesOn C P (execOri s) := by
  unfold execOri
  exact kept_aluI hs

theorem goes_execXori (hs : Kept C P s) :
    GoesOn C P (execXori s) := by
  unfold execXori
  exact kept_aluI hs

theorem goes_execShli (hs : Kept C P s) :
    GoesOn C P (execShli s) := by
  unfold execShli
  exact kept_aluI hs

theorem goes_execShri (hs : Kept C P s) :
    GoesOn C P (execShri s) := by
  unfold execShri
  exact kept_aluI hs

theorem goes_execLdiLo (hs : Kept C P s) :
    GoesOn C P (execLdiLo s) := by
  unfold execLdiLo
  exact goes_insn hs (fun _ _ ht => kept_retireG ht hs)

theorem goes_execLdiHi (hs : Kept C P s) :
    GoesOn C P (execLdiHi s) := by
  unfold execLdiHi
  exact goes_insn hs (fun _ _ ht => kept_retireG ht hs)

theorem goes_execBr (hs : Kept C P s) :
    GoesOn C P (execBr s) := by
  unfold execBr
  exact goes_insn hs (fun _ _ ht => kept_goTo ht hs)

theorem goes_execBrc (hs : Kept C P s) :
    GoesOn C P (execBrc s) := by
  unfold execBrc
  exact goes_insn hs (fun _ _ ht => kept_ite (kept_goTo ht hs) (kept_retire ht hs))

theorem goes_execCall (hs : Kept C P s) :
    GoesOn C P (execCall s) := by
  unfold execCall
  exact goes_insn hs (fun _ _ ht => kept_ite (kept_endTake hs) (kept_ite (kept_goTo (takeKept_upd ht) hs)
      (kept_endTake hs)))

theorem goes_execRet (hs : Kept C P s) :
    GoesOn C P (execRet s) := by
  unfold execRet
  refine goes_insn hs ?_
  intro t w ht
  split
  · exact kept_endTake hs
  · exact kept_ite (kept_goTo (takeKept_upd ht) hs) (kept_endTake hs)

theorem goes_execUndefinedOpcode (hs : Kept C P s) :
    GoesOn C P (execUndefinedOpcode s) := by
  unfold execUndefinedOpcode
  refine goes_next ?_
  split
  · exact hs
  · exact kept_ite hs (kept_endTake hs)

theorem goes_execHalt (hs : Kept C P s) :
    GoesOn C P (execHalt s) := by
  unfold execHalt
  exact goes_insn hs (fun _ _ _ => kept_submitting (fun _ h1 => kept_endWith (kept_countInstr (kept_commit h1))) hs)

theorem goes_execAbort (hs : Kept C P s) :
    GoesOn C P (execAbort s) := by
  unfold execAbort
  exact goes_insn hs (fun _ _ _ => kept_endTake (kept_countInstr hs))

theorem goes_execAbortCancel (hs : Kept C P s) :
    GoesOn C P (execAbortCancel s) := by
  unfold execAbortCancel
  dsimp only
  refine goes_insn hs ?_
  intro t w ht
  split
  · exact kept_retire ht hs
  · exact kept_ite (kept_retireMark ht (kept_log (kept_updDir hs))) (kept_endTake hs)

theorem goes_execNote (hs : Kept C P s) :
    GoesOn C P (execNote s) := by
  unfold execNote
  exact goes_insn hs (fun _ _ ht => kept_retireMark ht (kept_log hs))

theorem goes_execNow (hs : Kept C P s) :
    GoesOn C P (execNow s) := by
  unfold execNow
  exact goes_insn hs (fun _ _ ht => kept_retireG ht hs)

theorem goes_execWaitt (hs : Kept C P s) :
    GoesOn C P (execWaitt s) := by
  unfold execWaitt
  exact goes_insn hs (fun _ _ ht => kept_ite (kept_retire ht hs) (kept_ite (kept_endTake hs) (kept_setTake_some hs
      (takeKept_upd ht))))

theorem goes_execWaittElapse (hs : Kept C P s) :
    GoesOn C P (execWaittElapse s) := by
  unfold execWaittElapse
  refine goes_next ?_
  split
  · next t e _ =>
      split
      · exact kept_waited (kept_reachFt hs) (fun _ h1 => kept_retire (takeKept_upd (hs.take t e)) h1) hs
      · exact hs
  · exact hs

theorem goes_execWaitcue (hs : Kept C P s) :
    GoesOn C P (execWaitcue s) := by
  unfold execWaitcue
  exact goes_insn hs (fun _ _ ht => kept_ite (kept_endTake hs) (kept_ite (kept_setTake_some hs (takeKept_upd ht))
      (kept_endTake hs)))

theorem kept_wakeCue {t : Take} {gd v : Nat} (ht : TakeKept C t) (hu : Kept C P u) (hs : Kept C P s) :
    Kept C P (wakeCue t gd v u s) := by
  unfold wakeCue
  exact kept_waited hu (fun _ h => kept_retireG (takeKept_upd ht) h) hs

theorem goes_execWaitcueTimeout (hs : Kept C P s) :
    GoesOn C P (execWaitcueTimeout s) := by
  unfold execWaitcueTimeout
  refine goes_next ?_
  split
  · next t e _ =>
      split
      · exact kept_wakeCue (hs.take t e) (kept_reach hs) hs
      · exact hs
  · exact hs

theorem goes_execFirecue (hs : Kept C P s) :
    GoesOn C P (execFirecue s) := by
  unfold execFirecue
  exact goes_insn hs (fun _ _ ht => kept_ite (kept_retireMark ht (kept_cueAccept hs)) (kept_endTake hs))

/-! ## Cut -/

theorem kept_cutTests {t : Take} {go : State → State} (hgo : ∀ u, Kept C P u → Kept C P (go u)) (hs : Kept C P s) :
    Kept C P (cutTests t go s) := by
  unfold cutTests
  exact kept_ite (kept_endTake hs) (kept_ite (kept_endTake hs) (kept_submitting hgo hs))

theorem goes_execCut (hs : Kept C P s) :
    GoesOn C P (execCut s) := by
  unfold execCut
  exact goes_insn hs (fun _ _ ht => kept_cutTests (fun _ h1 => kept_startLong (kept_swap (kept_setTake_some
      (kept_logCut (kept_commit h1)) (takeKept_mark (takeKept_upd ht))))) hs)

theorem goes_execCutat (hs : Kept C P s) :
    GoesOn C P (execCutat s) := by
  unfold execCutat
  exact goes_insn hs (fun _ _ ht => kept_ite (kept_endTake hs) (kept_ite (kept_endTake hs) (kept_ite (kept_endTake hs)
      (kept_cutTests (fun _ h1 => kept_retireMark (takeKept_upd ht) (kept_log (kept_updDir (kept_setLiv64 (kept_commit
      h1))))) hs))))

theorem kept_cutComes {c : CutAt} (hs : Kept C P s) (hu : Kept C P u) : Kept C P (cutComes c s u) :=
  ⟨hu.pending, hu.regs, hu.mbox, hs.take⟩

theorem goes_execCutatFire (hs : Kept C P s) : GoesOn C P (execCutatFire s) := by
  cases e : s.dir.cutAt with
  | none => 
    have e' : execCutatFire s = .next s := by unfold execCutatFire; rw [e]
    exact ⟨s, e', hs⟩
  | some c => exact ⟨_, execCutatFire_of_pending e, kept_dueCut (kept_cutComes hs (kept_reachFt hs))⟩

theorem goes_execCutCopyDone (hs : Kept C P s) : GoesOn C P (execCutCopyDone s) := by
  have hr : Kept C P { s with regs := { s.regs with shadow := s.regs.active, badS := [] } } := by
    refine kept_updRegs hs fun c => ?_
    have h := hs.regs c
    simp only [Regs.canon, Bool.and_eq_true] at h ⊢
    exact ⟨⟨h.1.1, h.1.1⟩, h.2⟩
  refine goes_next ?_
  split
  · exact kept_ite (kept_settle (kept_endLong (kept_claimReport (kept_setLivF hr)))) hs
  · exact hs

theorem kept_overrun {k : LongKind} (hs : Kept C P s) :
    Kept C P (overrun k s) := by
  unfold overrun
  dsimp only
  split
  · exact kept_showLate (kept_setLivF (kept_onKeys hs))
  · exact kept_onSl hs
  · exact hs

theorem goes_execLongopOverrun (hs : Kept C P s) :
    GoesOn C P (execLongopOverrun s) := by
  unfold execLongopOverrun
  dsimp only
  refine goes_next ?_
  split
  · exact hs
  · refine kept_ite hs ?_
    refine kept_stallTake ?_
    refine kept_dueCut ?_
    split
    · exact kept_overrun (kept_setLong (kept_reach hs))
    · next t1 e1 =>
        exact kept_ite (kept_endTake (kept_overrun (kept_setLong (kept_reach hs)))) (kept_setTake_some (kept_overrun
            (kept_setLong (kept_reach hs))) (takeKept_upd ((kept_overrun (kept_setLong (kept_reach hs))).take t1 e1)))

/-! ## Dma -/

theorem keeps_chPiRule : chPiRule.Keeps := by
  intro C P s u t a v hu
  exact kept_iteFun (kept_settle (kept_pumpFetch (kept_setLivN hu))) (kept_cmdRej hu)

theorem goes_execChPiWrite (hs : Kept C P s) :
    GoesOn C P (execChPiWrite s) := by
  unfold execChPiWrite
  exact goes_liveStep keeps_chPiRule hs

theorem keeps_chRingRule : chRingRule.Keeps := by
  intro C P s u t a v hu
  dsimp only [chRingRule]
  split
  · exact kept_plainEffect (s := s) (t := t) hu
  · exact kept_cmdRej hu

theorem kept_startChan {c : Nat} {clr : Bool} (hs : Kept C P s) :
    Kept C P (startChan c clr s) := by
  unfold startChan
  dsimp only
  refine kept_ite (kept_cmdRej hs) ?_
  split
  · exact kept_pumpFetch (kept_setChStat (kept_ite (kept_setChStat hs) hs))
  · exact kept_ite (kept_setChStat (kept_onChan hs)) (kept_pumpRead (kept_pumpFetch (kept_setChStat hs)))
  · exact kept_cmdRej hs

theorem kept_abortChan {c : Nat} (hs : Kept C P s) :
    Kept C P (abortChan c s) := by
  unfold abortChan
  exact kept_ite (kept_cmdRej hs) (kept_ite (kept_shutMsg (kept_onChan hs)) (kept_setChStat (kept_onChan hs)))

theorem keeps_chCmdRule {ops : List Nat} : (chCmdRule ops).Keeps := by
  intro C P s u t a v hu
  exact kept_iteFun hu (kept_iteFun (kept_cmdRej hu) (kept_iteFun (kept_settle (kept_startChan hu)) (kept_iteFun
      (kept_pauseChan hu) (kept_settle (kept_abortChan hu)))))

theorem goes_execChStart (hs : Kept C P s) :
    GoesOn C P (execChStart s) := by
  unfold execChStart
  exact goes_liveStep (keeps_chCmdRule) hs

theorem goes_execChPause (hs : Kept C P s) :
    GoesOn C P (execChPause s) := by
  unfold execChPause
  exact goes_liveStep (keeps_chCmdRule) hs

theorem goes_execChAbort (hs : Kept C P s) :
    GoesOn C P (execChAbort s) := by
  unfold execChAbort
  exact goes_liveStep (keeps_chCmdRule) hs

theorem goes_execDmaDescStart {c : Fin 64} (hs : Kept C P s) :
    GoesOn C P (execDmaDescStart c s) := by
  unfold execDmaDescStart
  exact goes_next (kept_settle (kept_nextCh hs))

theorem goes_execDmaBeat (hs : Kept C P s) :
    GoesOn C P (execDmaBeat s) := by
  unfold execDmaBeat
  refine goes_next ?_
  refine kept_settle ?_
  split
  · exact kept_moveBeat hs
  · exact hs

theorem goes_execDmaDescEnd {c : Fin 64} (hs : Kept C P s) :
    GoesOn C P (execDmaDescEnd c s) := by
  unfold execDmaDescEnd
  exact goes_next (kept_settle (kept_ite (kept_chEnd hs) hs))

theorem kept_cueGo {l : Nat} (hs : Kept C P s) :
    Kept C P (cueGo l s) := by
  unfold cueGo
  exact kept_foldl hs (fun _ _ h1 => kept_ite (kept_goPulse h1) h1)

theorem kept_cueRestart {l : Nat} (hs : Kept C P s) :
    Kept C P (cueRestart l s) := by
  unfold cueRestart
  exact kept_onEng hs

theorem kept_cueTake {l : Nat} (hs : Kept C P s) :
    Kept C P (cueTake l s) := by
  unfold cueTake
  split
  · next t e =>
      split
      · exact kept_ite (kept_wakeCue (hs.take t e) hs hs) hs
      · exact hs
  · exact hs

theorem kept_cueForward {l : Nat} (hs : Kept C P s) :
    Kept C P (cueForward l s) := by
  unfold cueForward
  exact kept_ite (kept_cueAccept hs) hs

theorem goes_execCuePulseDeliver {l : Fin 256} (hs : Kept C P s) :
    GoesOn C P (execCuePulseDeliver l s) := by
  unfold execCuePulseDeliver
  exact goes_next (kept_settle (kept_ite hs (kept_cueForward (kept_cueRestart (kept_cueGo (kept_waitCue (kept_cueTake
      (kept_perf (kept_bump (kept_upd hs))))))))))

theorem kept_armTimer {i : Nat} {v : Word} (hs : Kept C P s) :
    Kept C P (armTimer i v s) := by
  unfold armTimer
  exact kept_ite (kept_onEng hs) (kept_onEng hs)

theorem keeps_tmrRule : tmrRule.Keeps := by
  intro C P s u t a v hu
  dsimp only [tmrRule]
  split
  · exact kept_armTimer (kept_plainEffect (s := s) (t := t) hu)
  · exact kept_plainEffect (s := s) (t := t) hu

theorem goes_execCueTimerArm (hs : Kept C P s) : GoesOn C P (execCueTimerArm s) :=
  goes_liveStep (keeps_of_eff keeps_tmrRule) hs

theorem goes_execCueTimerFire {t : Fin 16} (hs : Kept C P s) :
    GoesOn C P (execCueTimerFire t s) := by
  unfold execCueTimerFire
  dsimp only
  refine goes_next ?_
  split
  · split
    · exact kept_cuePulse (kept_onEng (kept_ite (kept_reachFt hs) (kept_reach hs)))
    · exact hs
  · exact hs

/-! ## Lanes -/

theorem kept_setSpareState {n st k : Nat} (hs : Kept C P s) :
    Kept C P (setSpareState n st k s) := by
  unfold setSpareState
  exact kept_setLivF (kept_setLivF hs)

theorem kept_request {n k : Nat} {counts : Bool} (hs : Kept C P s) :
    Kept C P (request n k counts s) := by
  unfold request
  exact kept_setSpare hs

theorem kept_usePreset {n l p : Nat} (hs : Kept C P s) :
    Kept C P (usePreset n l p s) := by
  unfold usePreset
  exact kept_setLane hs

theorem kept_loadRec {n l : Nat} (hs : Kept C P s) :
    Kept C P (loadRec n l s) := by
  unfold loadRec
  dsimp only
  split
  · exact kept_setLane hs
  · exact hs

theorem kept_beginEq {n l : Nat} (hs : Kept C P s) :
    Kept C P (beginEq n l s) := by
  unfold beginEq
  dsimp only
  refine kept_setLaneState ?_
  split
  · exact kept_setLane hs
  · exact kept_usePreset hs

theorem kept_writeRec {n l ctle temp droop : Nat} {taps : List ℤ} (hs : Kept C P s) :
    Kept C P (writeRec n l ctle temp droop taps s) := by
  unfold writeRec
  exact kept_putRec (kept_setLane hs)

theorem kept_clearDue {n l : Nat} (hs : Kept C P s) :
    Kept C P (clearDue n l s) := by
  unfold clearDue
  exact kept_onFcst (kept_setLivF hs)

theorem kept_setDue {n l cause : Nat} (hs : Kept C P s) :
    Kept C P (setDue n l cause s) := by
  unfold setDue
  exact kept_ite (kept_setLiv hs) (kept_raiseStn (kept_onFcst (kept_setLiv hs)))

theorem kept_txreq {n l code : Nat} (hs : Kept C P s) :
    Kept C P (txreq n l code s) := by
  unfold txreq
  dsimp only
  split
  · exact kept_setLane hs
  · exact kept_setLane hs
  · exact kept_setLane hs
  · exact kept_setLane hs
  · exact kept_setLane hs
  · exact kept_setLane hs
  · exact kept_usePreset hs
  · exact hs

theorem goes_execLaneEnergyDetect {n : Fin 24} {l : Fin 9} (hs : Kept C P s) :
    GoesOn C P (execLaneEnergyDetect n l s) := by
  unfold execLaneEnergyDetect
  exact goes_next (kept_ite (kept_setLaneState hs) hs)

theorem goes_execLaneCdrLock {n : Fin 24} {l : Fin 9} (hs : Kept C P s) :
    GoesOn C P (execLaneCdrLock n l s) := by
  unfold execLaneCdrLock
  exact goes_next (kept_ite (kept_setLaneState hs) hs)

theorem kept_spareUp {n : Nat} (hs : Kept C P s) :
    Kept C P (spareUp n s) := by
  unfold spareUp
  exact kept_ite hs (kept_ite (kept_ite (kept_setLaneState hs) (kept_setSpareState (kept_setLaneState hs)))
      (kept_setSpareState hs))

theorem kept_readyCheck {n f : Nat} (hs : Kept C P s) :
    Kept C P (readyCheck n f s) := by
  unfold readyCheck
  exact kept_ite (kept_lanesActive (kept_setBring (kept_ite (kept_spareUp (kept_foldl hs (fun _ _ h1 => kept_ite
      (kept_setLaneState h1) h1))) (kept_foldl hs (fun _ _ h1 => kept_ite (kept_setLaneState h1) h1))))) hs

theorem kept_spareTakes {n l : Nat} (hs : Kept C P s) :
    Kept C P (spareTakes n l s) := by
  unfold spareTakes
  exact kept_setSpareState (kept_request (kept_setLaneState (kept_setLivF hs)))

theorem kept_twiceFailed {n f l : Nat} (hs : Kept C P s) :
    Kept C P (twiceFailed n f l s) := by
  unfold twiceFailed
  dsimp only
  refine kept_ite (kept_ite (kept_spareTakes hs) hs) ?_
  split
  · exact kept_onLnk (kept_setLivF (kept_setLane hs))
  · exact kept_setLane hs

theorem kept_spareReady {n : Nat} (hs : Kept C P s) :
    Kept C P (spareReady n s) := by
  unfold spareReady
  refine kept_ite ?_ hs
  split
  · exact kept_spareTakes hs
  · exact hs

theorem kept_returnLane {n k index : Nat} (hs : Kept C P s) :
    Kept C P (returnLane n k index s) := by
  unfold returnLane
  dsimp only
  split
  · exact kept_ite (kept_logDevice (kept_loadRec (kept_setLaneState hs))) (kept_loadRec (kept_setLaneState hs))
  · exact hs

theorem kept_portLaneFails {n f l : Nat} (hs : Kept C P s) :
    Kept C P (portLaneFails n f l s) := by
  unfold portLaneFails
  dsimp only
  refine kept_ite (kept_laneLost (kept_setLane (kept_setLaneState hs))) ?_
  split
  · exact kept_setSpareState (kept_request (kept_ite (kept_loadRec (kept_setLane (kept_setLaneState hs)))
      (kept_setLane (kept_setLaneState hs))))
  · exact kept_setSpareState (kept_request (kept_returnLane (kept_setLane (kept_setLaneState hs))))
  · exact kept_laneLost (kept_raiseStn (kept_setLane (kept_setLaneState hs)))
  · refine kept_laneLost ?_
    refine kept_raiseStn ?_
    refine kept_setSpareState ?_
    split
    · exact kept_setLaneState (kept_setLane (kept_setLaneState hs))
    · exact kept_setLane (kept_setLaneState hs)
  · exact kept_laneLost (kept_setLane (kept_setLaneState hs))

theorem kept_spareFails {n : Nat} (hs : Kept C P s) :
    Kept C P (spareFails n s) := by
  unfold spareFails
  dsimp only
  split
  · exact kept_raiseStn (kept_setSpareState (kept_setSpare (kept_setLaneState hs)))
  · exact kept_raiseStn (kept_setSpareState (kept_setSpare (kept_returnLane (kept_setLaneState hs))))
  · exact kept_laneLost (kept_raiseStn (kept_raiseStn (kept_setSpareState (kept_setSpare (kept_setLaneState hs)))))
  · exact kept_laneLost (kept_raiseStn (kept_raiseStn (kept_setSpareState (kept_setSpare (kept_setLaneState hs)))))
  · exact kept_setLaneState hs

theorem kept_laneFails {n l : Nat} (hs : Kept C P s) :
    Kept C P (laneFails n l s) := by
  unfold laneFails
  exact kept_ite (kept_ite (kept_spareFails (kept_raiseStn (kept_bump hs))) (kept_portLaneFails (kept_raiseStn
      (kept_bump hs)))) hs

theorem kept_lanesFail {n : Nat} {ls : List Nat} (hs : Kept C P s) :
    Kept C P (lanesFail n ls s) := by
  unfold lanesFail
  exact kept_foldl hs (fun _ _ h1 => kept_laneFails h1)

theorem kept_alignComma {n f l : Nat} {inv : Bool} {w : Nat} (hs : Kept C P s) :
    Kept C P (alignComma n f l inv w s) := by
  unfold alignComma
  exact kept_ite (kept_ite (kept_setLane (kept_setLivF (kept_setLivF hs))) (kept_ite (kept_setLaneState (kept_setLivF
      (kept_setLivF hs))) (kept_ite (kept_spareReady (kept_beginEq (kept_setLivF (kept_setLivF hs)))) (kept_beginEq
      (kept_setLivF (kept_setLivF hs)))))) (kept_ite (kept_raiseStn (kept_setSpareState (kept_setLaneState
      (kept_setLivF (kept_setLivF hs))))) (kept_raiseStn (kept_setLane (kept_setLivF (kept_setLivF hs)))))

theorem kept_eqComma {n l w : Nat} (hs : Kept C P s) :
    Kept C P (eqComma n l w s) := by
  unfold eqComma
  exact kept_setLivF (kept_setLivF hs)

theorem kept_carryComma {n w : Nat} (hs : Kept C P s) :
    Kept C P (carryComma n w s) := by
  unfold carryComma
  exact kept_ite hs (kept_ite (kept_ite (kept_logDevice (kept_raiseStn (kept_bump (kept_setSpare hs)))) (kept_setSpare
      hs)) (kept_ite (kept_setSpare hs) hs))

theorem kept_commaIn {n f l : Nat} {inv : Bool} {w : Nat} (hs : Kept C P s) :
    Kept C P (commaIn n f l inv w s) := by
  unfold commaIn
  dsimp only
  refine kept_readyCheck ?_
  refine kept_ite ?_ ?_
  · refine kept_carryComma ?_
    refine kept_ite ?_ (kept_ite (kept_txreq (kept_ite (kept_setLane (kept_ite (kept_alignComma (kept_setLane hs))
        (kept_ite (kept_eqComma (kept_setLane hs)) (kept_setLane hs)))) (kept_ite (kept_alignComma (kept_setLane hs))
        (kept_ite (kept_eqComma (kept_setLane hs)) (kept_setLane hs))))) (kept_ite (kept_setLane (kept_ite
        (kept_alignComma (kept_setLane hs)) (kept_ite (kept_eqComma (kept_setLane hs)) (kept_setLane hs)))) (kept_ite
        (kept_alignComma (kept_setLane hs)) (kept_ite (kept_eqComma (kept_setLane hs)) (kept_setLane hs)))))
    split
    · exact kept_setLivF (kept_ite (kept_txreq (kept_ite (kept_setLane (kept_ite (kept_alignComma (kept_setLane hs))
        (kept_ite (kept_eqComma (kept_setLane hs)) (kept_setLane hs)))) (kept_ite (kept_alignComma (kept_setLane hs))
        (kept_ite (kept_eqComma (kept_setLane hs)) (kept_setLane hs))))) (kept_ite (kept_setLane (kept_ite
        (kept_alignComma (kept_setLane hs)) (kept_ite (kept_eqComma (kept_setLane hs)) (kept_setLane hs)))) (kept_ite
        (kept_alignComma (kept_setLane hs)) (kept_ite (kept_eqComma (kept_setLane hs)) (kept_setLane hs)))))
    · exact kept_ite (kept_txreq (kept_ite (kept_setLane (kept_ite (kept_alignComma (kept_setLane hs)) (kept_ite
        (kept_eqComma (kept_setLane hs)) (kept_setLane hs)))) (kept_ite (kept_alignComma (kept_setLane hs)) (kept_ite
        (kept_eqComma (kept_setLane hs)) (kept_setLane hs))))) (kept_ite (kept_setLane (kept_ite (kept_alignComma
        (kept_setLane hs)) (kept_ite (kept_eqComma (kept_setLane hs)) (kept_setLane hs)))) (kept_ite (kept_alignComma
        (kept_setLane hs)) (kept_ite (kept_eqComma (kept_setLane hs)) (kept_setLane hs))))
  · refine kept_ite ?_ (kept_ite (kept_txreq (kept_ite (kept_setLane (kept_ite (kept_alignComma (kept_setLane hs))
      (kept_ite (kept_eqComma (kept_setLane hs)) (kept_setLane hs)))) (kept_ite (kept_alignComma (kept_setLane hs))
      (kept_ite (kept_eqComma (kept_setLane hs)) (kept_setLane hs))))) (kept_ite (kept_setLane (kept_ite
      (kept_alignComma (kept_setLane hs)) (kept_ite (kept_eqComma (kept_setLane hs)) (kept_setLane hs)))) (kept_ite
      (kept_alignComma (kept_setLane hs)) (kept_ite (kept_eqComma (kept_setLane hs)) (kept_setLane hs)))))
    split
    · exact kept_setLivF (kept_ite (kept_txreq (kept_ite (kept_setLane (kept_ite (kept_alignComma (kept_setLane hs))
        (kept_ite (kept_eqComma (kept_setLane hs)) (kept_setLane hs)))) (kept_ite (kept_alignComma (kept_setLane hs))
        (kept_ite (kept_eqComma (kept_setLane hs)) (kept_setLane hs))))) (kept_ite (kept_setLane (kept_ite
        (kept_alignComma (kept_setLane hs)) (kept_ite (kept_eqComma (kept_setLane hs)) (kept_setLane hs)))) (kept_ite
        (kept_alignComma (kept_setLane hs)) (kept_ite (kept_eqComma (kept_setLane hs)) (kept_setLane hs)))))
    · exact kept_ite (kept_txreq (kept_ite (kept_setLane (kept_ite (kept_alignComma (kept_setLane hs)) (kept_ite
        (kept_eqComma (kept_setLane hs)) (kept_setLane hs)))) (kept_ite (kept_alignComma (kept_setLane hs)) (kept_ite
        (kept_eqComma (kept_setLane hs)) (kept_setLane hs))))) (kept_ite (kept_setLane (kept_ite (kept_alignComma
        (kept_setLane hs)) (kept_ite (kept_eqComma (kept_setLane hs)) (kept_setLane hs)))) (kept_ite (kept_alignComma
        (kept_setLane hs)) (kept_ite (kept_eqComma (kept_setLane hs)) (kept_setLane hs))))

theorem kept_countSer {n l ser : Nat} (hs : Kept C P s) :
    Kept C P (countSer n l ser s) := by
  unfold countSer
  exact kept_setLane hs

theorem goes_execCommaReceive {n : Fin 24} {l : Fin 9} {sync inv : Bool} {id : Word} {fill ser : Nat} (hs : Kept C P
    s) :
    GoesOn C P (execCommaReceive n l sync inv id fill ser s) := by
  unfold execCommaReceive
  exact goes_next (kept_settle (kept_ite (kept_ite (kept_laneFails (kept_ite (kept_commaIn (kept_setLane (kept_ite
      (kept_bumpF (kept_countSer (kept_perf (kept_bump hs)))) (kept_countSer (kept_perf (kept_bump hs))))))
      (kept_setLane (kept_ite (kept_bumpF (kept_countSer (kept_perf (kept_bump hs)))) (kept_countSer (kept_perf
      (kept_bump hs))))))) (kept_ite (kept_commaIn (kept_setLane (kept_ite (kept_bumpF (kept_countSer (kept_perf
      (kept_bump hs)))) (kept_countSer (kept_perf (kept_bump hs)))))) (kept_setLane (kept_ite (kept_bumpF
      (kept_countSer (kept_perf (kept_bump hs)))) (kept_countSer (kept_perf (kept_bump hs))))))) hs))

theorem goes_execEqConverge {n : Fin 24} {l : Fin 9} {ctle : Fin 16} {temp droop : Byte} {taps : List ℤ} (hs : Kept C
    P s) :
    GoesOn C P (execEqConverge n l ctle temp droop s taps) := by
  unfold execEqConverge
  exact goes_next (kept_ite (kept_setLaneState (kept_writeRec hs)) hs)

theorem goes_execDeskewDone {n : Fin 24} {f : Fin 2} {skews : List Nat} (hs : Kept C P s) :
    GoesOn C P (execDeskewDone n f skews s) := by
  unfold execDeskewDone
  exact goes_next (kept_ite (kept_foldl hs (fun _ _ h1 => kept_setLane (kept_setLaneState (kept_setLivF h1)))) hs)

theorem goes_execLaneTimerExpire {n : Fin 24} {l : Fin 9} (hs : Kept C P s) :
    GoesOn C P (execLaneTimerExpire n l s) := by
  unfold execLaneTimerExpire
  dsimp only
  refine goes_next ?_
  refine kept_settle ?_
  split
  · exact hs
  · exact kept_ite hs (kept_ite (kept_setSpareState (kept_setSpare (kept_setLaneState (kept_reach hs)))) (kept_ite
      (kept_ite (kept_reach hs) (kept_setLaneState (kept_reach hs))) (kept_ite (kept_toTrain (kept_setBring (kept_ite
      (kept_raiseStn (kept_ite (kept_twiceFailed (kept_setLane (kept_foldl (kept_reach hs) (fun _ _ h1 => kept_ite
      (kept_setLaneState h1) h1)))) (kept_setLane (kept_foldl (kept_reach hs) (fun _ _ h1 => kept_ite
      (kept_setLaneState h1) h1))))) (kept_ite (kept_twiceFailed (kept_setLane (kept_foldl (kept_reach hs) (fun _ _ h1
      => kept_ite (kept_setLaneState h1) h1)))) (kept_setLane (kept_foldl (kept_reach hs) (fun _ _ h1 => kept_ite
      (kept_setLaneState h1) h1))))))) (kept_setBring (kept_ite (kept_raiseStn (kept_ite (kept_twiceFailed
      (kept_setLane (kept_foldl (kept_reach hs) (fun _ _ h1 => kept_ite (kept_setLaneState h1) h1)))) (kept_setLane
      (kept_foldl (kept_reach hs) (fun _ _ h1 => kept_ite (kept_setLaneState h1) h1))))) (kept_ite (kept_twiceFailed
      (kept_setLane (kept_foldl (kept_reach hs) (fun _ _ h1 => kept_ite (kept_setLaneState h1) h1)))) (kept_setLane
      (kept_foldl (kept_reach hs) (fun _ _ h1 => kept_ite (kept_setLaneState h1) h1)))))))))

theorem goes_execTrainRetryTimer {n : Fin 24} {f : Fin 2} (hs : Kept C P s) :
    GoesOn C P (execTrainRetryTimer n f s) := by
  unfold execTrainRetryTimer
  exact goes_next (kept_ite (kept_setBring (kept_reach hs)) hs)

theorem goes_execFailedLaneRetry {n : Fin 24} {l : Fin 8} (hs : Kept C P s) :
    GoesOn C P (execFailedLaneRetry n l s) := by
  unfold execFailedLaneRetry
  exact goes_next (kept_ite (kept_setLaneState (kept_reach hs)) hs)

theorem goes_execFillerReceive {n : Fin 24} {f : Fin 2} {fill : Nat} (hs : Kept C P s) :
    GoesOn C P (execFillerReceive n f fill s) := by
  unfold execFillerReceive
  exact goes_next (kept_ite (kept_bumpF hs) hs)

theorem goes_execElasticOverrun {n : Fin 24} {f : Fin 2} (hs : Kept C P s) :
    GoesOn C P (execElasticOverrun n f s) := by
  unfold execElasticOverrun
  exact goes_next (kept_ite (kept_raiseStn hs) hs)

theorem goes_execLaneFailure {n : Fin 24} {ls : List (Fin 9)} (hs : Kept C P s) :
    GoesOn C P (execLaneFailure n ls s) := by
  unfold execLaneFailure
  exact goes_next (kept_settle (kept_lanesFail hs))

theorem kept_adaptTaps_snd {n l : Nat} {taps : List ℤ} (hs : Kept C P s) :
    Kept C P (adaptTaps n l taps s).2 := by
  unfold adaptTaps
  dsimp only
  split
  · exact kept_ite_snd (kept_pair (kept_setLane hs)) (kept_pair hs)
  · exact kept_pair hs

theorem goes_execReadaptDue {n : Fin 24} {l : Fin 9} {temp droop : Byte} {taps : List ℤ} (hs : Kept C P s) :
    GoesOn C P (execReadaptDue n l temp droop taps s) := by
  unfold execReadaptDue
  exact goes_next (kept_ite (kept_setDue (kept_setLiv (kept_adaptTaps_snd hs))) (kept_setLiv (kept_adaptTaps_snd hs)))

theorem kept_startReadapt {n l : Nat} (hs : Kept C P s) :
    Kept C P (startReadapt n l s) := by
  unfold startReadapt
  exact kept_ite (kept_setLane (kept_setSpare hs)) (kept_setSpareState (kept_request (kept_setLaneState hs)))

theorem kept_adapted {n l ctle temp droop : Nat} {taps : List ℤ} (hs : Kept C P s) :
    Kept C P (adapted n l ctle temp droop taps s) := by
  unfold adapted
  exact kept_logDevice (kept_raiseStn (kept_clearDue (kept_writeRec hs)))

theorem goes_execReadaptComplete {n : Fin 24} {pass : Bool} {ctle : Fin 16} {temp droop : Byte} {taps : List ℤ} (hs :
    Kept C P s) :
    GoesOn C P (execReadaptComplete n pass ctle temp droop s taps) := by
  unfold execReadaptComplete
  dsimp only
  refine goes_next ?_
  refine kept_ite (kept_ite (kept_ite (kept_adapted (kept_setSpare hs)) hs) (kept_raiseStn (kept_raiseStn
      (kept_setSpareState (kept_setLaneState (kept_setSpare hs)))))) ?_
  refine kept_ite ?_ hs
  split
  · exact hs
  · exact kept_ite (kept_ite (kept_adapted (kept_setSpareState (kept_setSpare (kept_setLaneState hs)))) hs)
      (kept_logDevice (kept_raiseStn (kept_bump (kept_setSpareState (kept_setSpare (kept_raiseStn (kept_setLaneState
      hs)))))))

theorem goes_execRestoreComplete {n : Fin 24} {pass : Bool} {ctle : Fin 16} {temp droop : Byte} {taps : List ℤ} (hs :
    Kept C P s) :
    GoesOn C P (execRestoreComplete n pass ctle temp droop s taps) := by
  unfold execRestoreComplete
  dsimp only
  refine goes_next ?_
  refine kept_ite ?_ hs
  split
  · exact hs
  · exact kept_ite (kept_ite (kept_adapted (kept_setLane (kept_setSpareState (kept_setSpare (kept_setLaneState hs)))))
      hs) (kept_raiseStn (kept_setSpareState (kept_setLaneState hs)))

theorem kept_spareReadapt {n k : Nat} (hs : Kept C P s) :
    Kept C P (spareReadapt n k s) := by
  unfold spareReadapt
  dsimp only
  split
  · exact kept_setDue hs
  · exact kept_setLivF hs

theorem kept_spareRelease {n k : Nat} (hs : Kept C P s) :
    Kept C P (spareRelease n k s) := by
  unfold spareRelease
  refine kept_ite (kept_setLivF hs) ?_
  refine kept_ite ?_ hs
  split
  · exact kept_setSpareState (kept_setLaneState hs)
  · exact hs

theorem kept_spareCmdWord {a : Nat} {v : Word} (hs : Kept C P s) :
    Kept C P (spareCmdWord a v s) := by
  unfold spareCmdWord
  exact kept_storeCmd hs

theorem keeps_spareReadaptRule : spareReadaptRule.Keeps := by
  intro C P s u t a v hu
  exact kept_spareReadapt (kept_spareCmdWord hu)

theorem keeps_spareReleaseRule : spareReleaseRule.Keeps := by
  intro C P s u t a v hu
  exact kept_spareRelease (kept_spareCmdWord hu)

theorem keeps_spareIdleRule : spareIdleRule.Keeps := by
  intro C P s u t a v hu
  exact kept_spareCmdWord hu

theorem goes_execSpareCmdReadapt (hs : Kept C P s) :
    GoesOn C P (execSpareCmdReadapt s) := by
  unfold execSpareCmdReadapt
  exact goes_liveStep keeps_spareReadaptRule hs

theorem goes_execSpareCmdRelease (hs : Kept C P s) :
    GoesOn C P (execSpareCmdRelease s) := by
  unfold execSpareCmdRelease
  exact goes_liveStep keeps_spareReleaseRule hs

theorem keeps_marginGoRule : marginGoRule.Keeps := by
  intro C P s u t a v hu
  exact kept_ite (kept_onDp (kept_setLivF (kept_storeCmd hu))) (kept_setLivF (kept_storeCmd hu))

theorem goes_execMarginGo (hs : Kept C P s) :
    GoesOn C P (execMarginGo s) := by
  unfold execMarginGo
  exact goes_liveStep keeps_marginGoRule hs

theorem goes_execMarginDone {n : Fin 24} {errors : Nat} (hs : Kept C P s) :
    GoesOn C P (execMarginDone n errors s) := by
  unfold execMarginDone
  dsimp only
  refine goes_next ?_
  split
  · exact hs
  · exact kept_setLivF (kept_setLivF (kept_setLivN (kept_onDp (kept_reach hs))))

theorem goes_execLaneMarginingCommand {n : Fin 24} {l : Fin 8} {cmd : MarginCmd} {errors samples : Nat} (hs : Kept C P
    s) :
    GoesOn C P (execLaneMarginingCommand n l cmd errors samples s) := by
  unfold execLaneMarginingCommand
  refine goes_next ?_
  refine kept_ite ?_ hs
  split
  · exact kept_ite (kept_emit hs) hs
  · exact kept_emit hs

/-! ## Forecaster -/

theorem kept_railAccrue {r e : Nat} (hs : Kept C P s) :
    Kept C P (railAccrue r e s) := by
  unfold railAccrue
  exact kept_onFcst (kept_bump64 hs)

theorem goes_execFcstRailSample {p0 p1 p2 p3 p4 p5 : Fin 4194304} (hs : Kept C P s) :
    GoesOn C P (execFcstRailSample p0 p1 p2 p3 p4 p5 s) := by
  unfold execFcstRailSample
  exact goes_next (kept_foldl (kept_onFcst (kept_reach hs)) (fun _ _ h1 => kept_railAccrue h1))

theorem goes_execFcstWindowEnd (hs : Kept C P s) :
    GoesOn C P (execFcstWindowEnd s) := by
  unfold execFcstWindowEnd
  exact goes_next (kept_endWindow (kept_ite (kept_reachFt hs) (kept_reach hs)))

theorem kept_sweep (hs : Kept C P s) :
    Kept C P (sweep s) := by
  unfold sweep
  dsimp only
  split
  · exact hs
  · exact kept_foldl (kept_onFcst hs) (fun _ _ h1 => kept_setLivN (kept_fit_snd h1))

theorem goes_execFcstSweep (hs : Kept C P s) :
    GoesOn C P (execFcstSweep s) := by
  unfold execFcstSweep
  refine goes_next ?_
  split
  · exact hs
  · exact kept_ite hs (kept_sweep hs)

theorem kept_releaseDue (hs : Kept C P s) :
    Kept C P (releaseDue s) := by
  unfold releaseDue
  exact kept_foldl hs (fun _ _ h1 => kept_ite (kept_startReadapt h1) h1)

theorem kept_onAvs {f : Avs → Avs} (hs : Kept C P s) :
    Kept C P (State.onAvs s f) := by
  unfold State.onAvs
  exact kept_upd hs

theorem kept_avsWrite {v : Nat} (hs : Kept C P s) :
    Kept C P (avsWrite v s) := by
  unfold avsWrite
  dsimp only
  refine kept_emit ?_
  refine kept_setLivN ?_
  refine kept_onAvs ?_
  split
  · exact hs
  · exact kept_reach hs

theorem kept_avsNext (hs : Kept C P s) :
    Kept C P (avsNext s) := by
  unfold avsNext
  dsimp only
  refine kept_ite hs ?_
  split
  · exact kept_avsWrite hs
  · split
    · exact kept_avsWrite (kept_onAvs hs)
    · exact hs

theorem goes_execFcstVcoreStep (hs : Kept C P s) :
    GoesOn C P (execFcstVcoreStep s) := by
  unfold execFcstVcoreStep
  exact goes_next (kept_avsNext hs)

theorem goes_execAvsVoltageWrite (hs : Kept C P s) :
    GoesOn C P (execAvsVoltageWrite s) := by
  unfold execAvsVoltageWrite
  exact goes_next (kept_avsNext hs)

theorem goes_execAvsReadback {ok : Bool} {mv : Fin 4096} (hs : Kept C P s) :
    GoesOn C P (execAvsReadback ok mv s) := by
  unfold execAvsReadback
  exact goes_next (kept_ite hs (kept_ite (kept_onAvs (kept_ite (kept_onAvs hs) hs)) (kept_ite (kept_onAvs (kept_ite
      (kept_onAvs hs) hs)) (kept_raise (kept_onAvs (kept_ite (kept_onAvs hs) hs))))))

theorem kept_thermCheck {hot : Nat} (hs : Kept C P s) :
    Kept C P (thermCheck hot s) := by
  unfold thermCheck
  exact kept_ite (kept_onFcst (kept_onFcst hs)) (kept_ite (kept_raise (kept_onFcst (kept_onFcst hs))) (kept_onFcst hs))

theorem kept_planBits {press : Bool} (hs : Kept C P s) :
    Kept C P (planBits press s) := by
  unfold planBits
  exact kept_setLivF (kept_setLivF hs)

/-- `execFcstEvaluate` for any rule of the next level. -/
def fcstEvaluateBy (next : State → Nat × Option Nat) (hot : Fin 512) (s : State) : Answer :=
  let s := thermCheck hot.val (s.reach (s.pow.fcst.evalAt + 100000))
  let c := pressCauses s
  let (l, calm) := next s
  let s := s.setLivF Reg.FCST_STAT Fld.FCST_STAT_PRESS (b2n (c != 0))
  let s := (s.setLivF Reg.FCST_STAT Fld.FCST_STAT_CAUSE c).setLivF Reg.FCST_STAT Fld.FCST_STAT_LEVEL l
  let s := s.onFcst (fun f => { f with evalAt := s.now, calm := calm, seg := 0, segN := 0 })
  .next (releaseDue (planBits (c != 0) s))

theorem execFcstEvaluate_eq {hot : Fin 512} : execFcstEvaluate hot s = fcstEvaluateBy nextLevel hot s := rfl

theorem goes_fcstEvaluateBy {next : State → Nat × Option Nat} {hot : Fin 512} (hs : Kept C P s) : GoesOn C P
    (fcstEvaluateBy next hot s) := 
  goes_next (kept_releaseDue (kept_planBits (kept_onFcst (kept_setLivF (kept_setLivF (kept_setLivF (kept_thermCheck
      (kept_reach hs))))))))

theorem goes_execFcstEvaluate {hot : Fin 512} (hs : Kept C P s) : GoesOn C P (execFcstEvaluate hot s) := by
  rw [execFcstEvaluate_eq]
  exact goes_fcstEvaluateBy hs

/-! ## Queues -/

theorem kept_serveKeyJob {j : KeyJob} (hs : Kept C P s) :
    Kept C P (serveKeyJob j s) := by
  unfold serveKeyJob
  split
  · exact kept_serveReq hs
  · exact kept_localCheck hs

theorem goes_execKeyCacheFill {idx : Fin 1048576} {bad : Bool} (hs : Kept C P s) :
    GoesOn C P (execKeyCacheFill idx bad s) := by
  unfold execKeyCacheFill
  dsimp only
  refine goes_next ?_
  refine kept_settle ?_
  refine kept_ite hs ?_
  split
  · exact kept_ite (kept_keyBadNow hs) hs
  · next v e =>
      have hv : Kept C P v := kept_takeWay (kept_ite (kept_keyBadNow hs) hs) e
      exact kept_foldl (kept_onKeys hv) (fun _ _ h1 => kept_serveKeyJob h1)

theorem kept_dbRefuse {code : Nat} (hs : Kept C P s) :
    Kept C P (dbRefuse code s) := by
  unfold dbRefuse
  exact kept_setLivF (kept_bump hs)

theorem keeps_qdbRule : qdbRule.Keeps := by
  intro C P s u t a v hu
  exact kept_ite (kept_settle (kept_pumpRing (kept_onQ (kept_setLiv hu)))) (kept_dbRefuse (kept_setLiv hu))

theorem goes_execQdbWrite (hs : Kept C P s) :
    GoesOn C P (execQdbWrite s) := by
  unfold execQdbWrite
  exact goes_liveStep keeps_qdbRule hs

theorem keeps_qndbRule : qndbRule.Keeps := by
  intro C P s u t a v hu
  exact kept_ite (kept_settle (kept_retryNotify (kept_onQ (kept_setLiv hu)))) (kept_dbRefuse (kept_setLiv hu))

theorem goes_execQndbWrite (hs : Kept C P s) :
    GoesOn C P (execQndbWrite s) := by
  unfold execQndbWrite
  exact goes_liveStep keeps_qndbRule hs

theorem kept_startQueue {i : Nat} (hs : Kept C P s) :
    Kept C P (startQueue i s) := by
  unfold startQueue
  dsimp only
  refine kept_pumpRing ?_
  refine kept_wakeOn ?_
  refine kept_setSt ?_
  split
  · exact kept_onQ hs
  · exact kept_onQ hs
  · exact hs

theorem keeps_qcmdRule {ops : List Nat} : (qcmdRule ops).Keeps := by
  intro C P s u t a v hu
  exact kept_ite (kept_setLivF (kept_storeCmd hu)) (kept_settle (kept_ite (kept_startQueue (kept_setLivF
      (kept_storeCmd hu))) (kept_ite (kept_stopQueue (kept_setLivF (kept_storeCmd hu))) (kept_setSt (kept_setLivF
      (kept_storeCmd hu))))))

theorem goes_execQcmdStart (hs : Kept C P s) :
    GoesOn C P (execQcmdStart s) := by
  unfold execQcmdStart
  exact goes_liveStep (keeps_qcmdRule) hs

theorem goes_execQcmdStop (hs : Kept C P s) :
    GoesOn C P (execQcmdStop s) := by
  unfold execQcmdStop
  exact goes_liveStep (keeps_qcmdRule) hs

theorem goes_execQcmdFree (hs : Kept C P s) :
    GoesOn C P (execQcmdFree s) := by
  unfold execQcmdFree
  exact goes_liveStep (keeps_qcmdRule) hs

theorem goes_execDescStart {e : Fin 48} (hs : Kept C P s) :
    GoesOn C P (execDescStart e s) := by
  unfold execDescStart
  refine goes_next ?_
  refine kept_settle ?_
  refine kept_ite ?_ hs
  split
  · exact kept_startDesc hs
  · exact hs

theorem goes_execDescEnd {q : Fin 65536} {n : Word} (hs : Kept C P s) :
    GoesOn C P (execDescEnd q n s) := by
  unfold execDescEnd
  exact goes_next (kept_settle (kept_endDesc hs))

theorem goes_execWaitTimeout {q : Fin 65536} {n : Word} (hs : Kept C P s) :
    GoesOn C P (execWaitTimeout q n s) := by
  unfold execWaitTimeout
  refine goes_next ?_
  refine kept_settle ?_
  split
  · exact kept_setStatus (kept_reach hs)
  · exact hs

theorem goes_execNotifyFullTimeout {n : Fin 24} {snode sfme mid : Nat} (hs : Kept C P s) :
    GoesOn C P (execNotifyFullTimeout n snode sfme mid s) := by
  unfold execNotifyFullTimeout
  dsimp only
  refine goes_next ?_
  refine kept_settle ?_
  split
  · split
    · exact kept_ite (kept_messageEnd (kept_bump (kept_reach hs))) hs
    · exact hs
  · exact hs

theorem keeps_evrRule : evrRule.Keeps := by
  intro C P s u t a v hu
  dsimp only [evrRule]
  split
  · exact kept_ite (kept_intx (kept_setLivF hu)) hu
  · exact kept_plainEffect (s := s) (t := t) hu

theorem goes_execEvrCiWrite (hs : Kept C P s) : GoesOn C P (execEvrCiWrite s) :=
  goes_liveStep (keeps_of_eff keeps_evrRule) hs

theorem goes_execHostCompletion {id : Nat} {ok ep : Bool} {data : List Byte} (hs : Kept C P s) :
    GoesOn C P (execHostCompletion id ok ep data s) := by
  unfold execHostCompletion
  refine goes_next ?_
  refine kept_settle ?_
  split
  · exact kept_ite (kept_subEnd hs) hs
  · exact hs

theorem goes_execHostCompletionTimeout {id : Nat} (hs : Kept C P s) :
    GoesOn C P (execHostCompletionTimeout id s) := by
  unfold execHostCompletionTimeout
  refine goes_next ?_
  refine kept_settle ?_
  split
  · split
    · exact kept_ite (kept_subEnd (kept_reach hs)) hs
    · exact hs
  · exact hs

/-! ## Regions -/

theorem keeps_regionRule : regionRule.Keeps := by
  intro C P s u t a v hu
  exact kept_register hu

theorem goes_execRegionRegister (hs : Kept C P s) :
    GoesOn C P (execRegionRegister s) := by
  unfold execRegionRegister
  exact goes_liveStep keeps_regionRule hs

theorem keeps_keyrevRule : keyrevRule.Keeps := by
  intro C P s u t a v hu
  dsimp only [keyrevRule]
  split
  · exact kept_storeCmd hu
  · exact kept_revStart (kept_storeCmd hu)

theorem keeps_keyrevOp {op : Nat} : (keyrevOp op).Keeps := keeps_of_eff keeps_keyrevRule

theorem goes_execKeyrevFree (hs : Kept C P s) :
    GoesOn C P (execKeyrevFree s) := by
  unfold execKeyrevFree
  exact goes_liveStep (keeps_keyrevOp) hs

theorem goes_execKeyrevRekey (hs : Kept C P s) :
    GoesOn C P (execKeyrevRekey s) := by
  unfold execKeyrevRekey
  exact goes_liveStep (keeps_keyrevOp) hs

theorem goes_execKeyrevComplete {i : Fin 1048576} (hs : Kept C P s) :
    GoesOn C P (execKeyrevComplete i s) := by
  unfold execKeyrevComplete
  refine goes_next ?_
  refine kept_settle ?_
  split
  · exact kept_ite (kept_revFinish hs) hs
  · exact hs

theorem goes_execPurgeComplete {p : Fin 48} (hs : Kept C P s) :
    GoesOn C P (execPurgeComplete p s) := by
  unfold execPurgeComplete
  exact goes_next (kept_ite (kept_logDevice (kept_raise (kept_setLivF hs))) hs)

/-! ## Reset -/

theorem goes_execColdRstAssert (hs : Kept C P s) :
    GoesOn C P (execColdRstAssert s) := by
  unfold execColdRstAssert
  exact goes_next (kept_ite hs (kept_ite (kept_upd hs) (kept_coldState hs)))

theorem goes_execColdRstRelease {x : Straps} (hs : Kept C P s) :
    GoesOn C P (execColdRstRelease x s) := by
  unfold execColdRstRelease
  exact goes_next (kept_ite (kept_coldStart (kept_upd hs)) hs)

theorem goes_execRailOutOfRange {off : Bool} (hs : Kept C P s) :
    GoesOn C P (execRailOutOfRange off s) := by
  unfold execRailOutOfRange
  exact goes_next (kept_ite (kept_upd (kept_setLiv hs)) (kept_coldState hs))

theorem goes_execRailRecoveryElapse {x : Straps} (hs : Kept C P s) :
    GoesOn C P (execRailRecoveryElapse x s) := by
  unfold execRailRecoveryElapse
  exact goes_next (kept_ite (kept_coldStart (kept_upd hs)) hs)

theorem goes_execWarmRstAssert (hs : Kept C P s) :
    GoesOn C P (execWarmRstAssert s) := by
  unfold execWarmRstAssert
  exact goes_next (kept_ite hs (kept_ite (kept_warmBegin (kept_setLivF (kept_upd hs))) (kept_setLivF (kept_upd hs))))

theorem goes_execWarmResetState (hs : Kept C P s) :
    GoesOn C P (execWarmResetState s) := by
  unfold execWarmResetState
  dsimp only
  refine goes_next ?_
  refine kept_ite ?_ hs
  refine kept_ite ?_ ?_
  · refine kept_upd ?_
    split
    · exact kept_warmState hs
    · exact kept_setLiv (kept_warmState hs)
  · refine kept_warmBoot ?_
    split
    · exact kept_warmState hs
    · exact kept_setLiv (kept_warmState hs)

theorem goes_execWarmRstRelease (hs : Kept C P s) :
    GoesOn C P (execWarmRstRelease s) := by
  unfold execWarmRstRelease
  exact goes_next (kept_ite (kept_warmBoot (kept_upd hs)) (kept_upd hs))

theorem kept_rstcmdWord {v : Word} (hs : Kept C P s) :
    Kept C P (rstcmdWord v s) := by
  unfold rstcmdWord
  exact kept_storeCmd hs

theorem keeps_rstWarmRule : rstWarmRule.Keeps := by
  intro C P s u t a v hu
  exact kept_warmBegin (kept_setLivF (kept_setLivF (kept_rstcmdWord hu)))

theorem keeps_rstStnRule : rstStnRule.Keeps := by
  intro C P s u t a v hu
  exact kept_ite (kept_upd (kept_perstFall (kept_setLivF (kept_rstcmdWord hu)))) (kept_setLivF (kept_rstcmdWord hu))

theorem goes_execRstcmdWarm (hs : Kept C P s) :
    GoesOn C P (execRstcmdWarm s) := by
  unfold execRstcmdWarm
  exact goes_liveStep keeps_rstWarmRule hs

theorem goes_execRstcmdStation (hs : Kept C P s) :
    GoesOn C P (execRstcmdStation s) := by
  unfold execRstcmdStation
  exact goes_liveStep keeps_rstStnRule hs

theorem kept_stnReset {n : Nat} (hs : Kept C P s) : Kept C P (stnReset n s) := by
  have hr (q : Nat → Bool) : Kept C P { s with regs := { s.regs with live := Tab.keep q s.regs.live } } := by
    refine kept_updRegs hs fun c => ?_
    have h := hs.regs c
    simp only [Regs.canon, Bool.and_eq_true] at h ⊢
    exact ⟨h.1, Tab.wf_keep _ h.2⟩
  unfold stnReset
  exact kept_onFcst (kept_onDp (hr _))

theorem goes_execStationResetDone (hs : Kept C P s) :
    GoesOn C P (execStationResetDone s) := by
  unfold execStationResetDone
  dsimp only
  refine goes_next ?_
  split
  · exact hs
  · exact kept_ite (kept_upd (kept_setLivF (kept_stnReset hs))) hs

theorem goes_execThermtrip (hs : Kept C P s) :
    GoesOn C P (execThermtrip s) := by
  unfold execThermtrip
  exact goes_next (kept_ite hs (kept_foldl (kept_upd hs) (fun _ _ h1 => kept_ite (kept_trip h1) h1)))

theorem goes_execI3cBroadcastCcc {setdasa : Option (Fin 128 × Fin 128)} (hs : Kept C P s) :
    GoesOn C P (execI3cBroadcastCcc s setdasa) := by
  unfold execI3cBroadcastCcc
  exact goes_next (kept_ite hs (kept_upd hs))

theorem keeps_drainRule : drainRule.Keeps := by
  intro C P s u t a v hu
  exact kept_ite (kept_ite (kept_plainEffect (s := s) (t := t) hu) (kept_upd (kept_plainEffect (s := s) (t := t) hu)))
      (kept_settle (kept_unhold (kept_upd (kept_plainEffect (s := s) (t := t) hu))))

theorem goes_execDrainHoldWrite (hs : Kept C P s) :
    GoesOn C P (execDrainHoldWrite s) := by
  unfold execDrainHoldWrite
  exact goes_liveStep keeps_drainRule hs

theorem goes_execDrainLate (hs : Kept C P s) :
    GoesOn C P (execDrainLate s) := by
  unfold execDrainLate
  dsimp only
  refine goes_next ?_
  split
  · exact hs
  · exact kept_ite hs (kept_ite (kept_reach hs) (kept_raise (kept_upd (kept_reach hs))))

/-! ## Slices -/

theorem kept_resumeSlice {t : Nat} (hs : Kept C P s) :
    Kept C P (resumeSlice t s) := by
  unfold resumeSlice
  exact kept_foldl (kept_foldl (kept_onSl hs) (fun _ _ h1 => kept_ite (kept_pumpFetch (kept_setChStat (kept_onChan
      h1))) h1)) (fun _ _ h1 => kept_pumpRing h1)

theorem kept_clearSlice {t : Nat} (hs : Kept C P s) :
    Kept C P (clearSlice t s) := by
  unfold clearSlice
  exact kept_onSl (kept_onDp (kept_dropLines (kept_purgeKeys (kept_foldl (kept_foldl hs (fun _ _ h1 => kept_resetQueue
      h1)) (fun _ _ h1 => kept_setChStat (kept_setChStat (kept_onChan h1)))))))

theorem kept_flushSlice {t : Nat} {cue : Option Nat} (hs : Kept C P s) :
    Kept C P (flushSlice t cue s) := by
  unfold flushSlice
  exact kept_onSl (kept_flushLines (kept_onSl hs))

theorem keeps_sliceRule {ops : List Nat} : (sliceRule ops).Keeps := by
  intro C P s u t a v hu
  dsimp only [sliceRule]
  split
  · exact kept_storeCmd hu
  · split
    · exact kept_setLivN (kept_storeCmd hu)
    · split
      · exact kept_settle (kept_beginLull (kept_onSl (kept_setLivN (kept_storeCmd hu))))
      · split
        · exact kept_settle (kept_resumeSlice (kept_setLivN (kept_storeCmd hu)))
        · split
          · exact kept_settle (kept_clearSlice (kept_setLivN (kept_storeCmd hu)))
          · exact kept_settle (kept_flushSlice (kept_setLivN (kept_storeCmd hu)))

theorem goes_execSliceLull (hs : Kept C P s) :
    GoesOn C P (execSliceLull s) := by
  unfold execSliceLull
  exact goes_liveStep (keeps_sliceRule) hs

theorem goes_execSliceResume (hs : Kept C P s) :
    GoesOn C P (execSliceResume s) := by
  unfold execSliceResume
  exact goes_liveStep (keeps_sliceRule) hs

theorem goes_execSliceReset (hs : Kept C P s) :
    GoesOn C P (execSliceReset s) := by
  unfold execSliceReset
  exact goes_liveStep (keeps_sliceRule) hs

theorem goes_execSliceFlush (hs : Kept C P s) :
    GoesOn C P (execSliceFlush s) := by
  unfold execSliceFlush
  exact goes_liveStep (keeps_sliceRule) hs

theorem goes_execSliceLullReached {t : Fin 4096} (hs : Kept C P s) :
    GoesOn C P (execSliceLullReached t s) := by
  unfold execSliceLullReached
  exact goes_next (kept_settle (kept_tryLull hs))

theorem goes_execSliceResetDone {t : Fin 4096} (hs : Kept C P s) :
    GoesOn C P (execSliceResetDone t s) := by
  unfold execSliceResetDone
  exact goes_next (kept_ite (kept_logDevice (kept_raise (kept_onSl hs))) hs)

theorem goes_execSliceFlushDone {t : Fin 4096} (hs : Kept C P s) :
    GoesOn C P (execSliceFlushDone t s) := by
  unfold execSliceFlushDone
  dsimp only
  refine goes_next ?_
  refine kept_ite ?_ hs
  split
  · exact kept_cuePulse (kept_onSl hs)
  · exact kept_onSl hs

/-! ## Upkeep -/

theorem kept_configUe {shadow : Bool} {a : Nat} (hs : Kept C P s) : Kept C P (configUe shadow a s) := by
  have hr {r : Regs} (h : r = { s.regs with badS := s.regs.badS ++ [a] } ∨ r = { s.regs with badA := s.regs.badA ++
      [a] }) :
      Kept C P { s with regs := r } := kept_updRegs hs fun c => by
    rcases h with rfl | rfl <;> exact hs.regs c
  unfold configUe
  refine kept_ite hs (kept_devErr (kept_errLog (kept_bump (hr ?_))))
  cases shadow
  · exact .inr rfl
  · exact .inl rfl

theorem goes_execConfigScrub {finds : List (Bool × Nat × Bool)} (hs : Kept C P s) :
    GoesOn C P (execConfigScrub finds s) := by
  unfold execConfigScrub
  exact goes_next (kept_foldl (kept_upd (kept_reach hs)) (fun _ _ h1 => kept_ite (kept_configUe h1) (kept_bump h1)))

theorem goes_execKeyCacheScrub {fixed : Nat} {bad : List Nat} (hs : Kept C P s) :
    GoesOn C P (execKeyCacheScrub fixed bad s) := by
  unfold execKeyCacheScrub
  exact goes_next (kept_foldl (kept_bump (kept_upd (kept_reach hs))) (fun _ _ h1 => kept_errLog (kept_bump h1)))

theorem kept_slateBad {slot : Nat} (hs : Kept C P s) :
    Kept C P (slateBad slot s) := by
  unfold slateBad
  dsimp only
  split
  · exact kept_upd hs
  · exact kept_upd hs
  · exact hs

theorem kept_driftBad {u : DriftUe} (hs : Kept C P s) :
    Kept C P (driftBad u s) := by
  unfold driftBad
  dsimp only
  split
  · exact kept_driftUe hs
  · exact kept_ite hs (kept_driftUe (kept_onKeys hs))
  · exact kept_queueBad hs
  · exact kept_driftUe (kept_slateBad hs)
  · exact kept_ite (kept_driftUe (kept_setMb hs)) hs

theorem kept_scrubUnit (hs : Kept C P s) :
    Kept C P (scrubUnit s) := by
  unfold scrubUnit
  exact kept_ite (kept_setLivN (kept_driftMove hs)) (kept_bump (kept_setLivN (kept_upd (kept_driftMove hs))))

theorem goes_execDriftScrub {fixed : Bool} {ue : Option DriftUe} (hs : Kept C P s) :
    GoesOn C P (execDriftScrub fixed ue s) := by
  unfold execDriftScrub
  dsimp only
  refine goes_next ?_
  refine kept_ite hs ?_
  split
  · exact kept_ite (kept_bump (kept_scrubUnit (kept_reach hs))) (kept_scrubUnit (kept_reach hs))
  · exact kept_driftBad (kept_ite (kept_bump (kept_scrubUnit (kept_reach hs))) (kept_scrubUnit (kept_reach hs)))

theorem goes_execDriftRowSpare (hs : Kept C P s) :
    GoesOn C P (execDriftRowSpare s) := by
  unfold execDriftRowSpare
  exact goes_next (kept_ite hs (kept_devErr (kept_setLivF (kept_setLivN hs))))

theorem goes_execDeferLimitExpire {i : DeferItem} (hs : Kept C P s) :
    GoesOn C P (execDeferLimitExpire i s) := by
  unfold execDeferLimitExpire
  refine goes_next ?_
  split
  · split
    · exact kept_releaseDue (kept_reach hs)
    · exact hs
  · exact kept_reach hs
  · split
    · exact kept_sweep (kept_reach hs)
    · exact hs

theorem kept_refMove {r : Nat} {device : Bool} (hs : Kept C P s) :
    Kept C P (refMove r device s) := by
  unfold refMove
  exact kept_ite (kept_logDevice (kept_setLivF hs)) (kept_setLivF hs)

theorem goes_execRefclkLoss {r : Fin 3} (hs : Kept C P s) :
    GoesOn C P (execRefclkLoss r s) := by
  unfold execRefclkLoss
  exact goes_next (kept_ite (kept_ite (kept_devErr (kept_setLivF (kept_setLivF hs))) (kept_ite (kept_devErr
      (kept_setLivF hs)) (kept_ite (kept_ite (kept_logDevice (kept_devErr (kept_ite (kept_setLivF (kept_setLivF hs))
      (kept_setLivF hs)))) (kept_devErr (kept_ite (kept_setLivF (kept_setLivF hs)) (kept_setLivF hs)))) (kept_devErr
      (kept_setLivF (kept_setLivF hs)))))) hs)

theorem goes_execRefclkRevalid {r : Fin 3} (hs : Kept C P s) :
    GoesOn C P (execRefclkRevalid r s) := by
  unfold execRefclkRevalid
  exact goes_next (kept_ite (kept_ite (kept_setLivF (kept_setLivF (kept_advance hs))) (kept_ite (kept_refMove
      (kept_setLivF (kept_advance hs))) (kept_setLivF (kept_advance hs)))) hs)

theorem keeps_clkCmdRule : clkCmdRule.Keeps := by
  intro C P s u t a v hu
  exact kept_ite (kept_refMove (kept_ite (kept_setLivF (kept_setLivF hu)) (kept_setLivF hu))) (kept_setLivF (kept_ite
      (kept_setLivF (kept_setLivF hu)) (kept_setLivF hu)))

theorem goes_execClkSelect (hs : Kept C P s) :
    GoesOn C P (execClkSelect s) := by
  unfold execClkSelect
  exact goes_liveStep keeps_clkCmdRule hs

/-! ## Live All -/

theorem keeps_pendRule : pendRule.Keeps := by
  intro C P s u t a v hu
  exact kept_plainEffect (s := s) (t := t) hu

theorem keeps_errStatRule : errStatRule.Keeps := by
  intro C P s u t a v hu
  exact kept_plainEffect (s := s) (t := t) hu

theorem keeps_rstIdleRule : rstIdleRule.Keeps := by
  intro C P s u t a v hu
  exact kept_rstcmdWord hu

theorem keeps_linkIdleRule : linkIdleRule.Keeps := by
  intro C P s u t a v hu
  exact kept_linkCmdWord hu

theorem keeps_plainRule : plainRule.Keeps := by
  intro C P s u t a v hu
  exact kept_plainEffect (s := s) (t := t) hu

theorem keeps_pathRules : ∀ r ∈ pathRules, r.Keeps := by
  simp only [pathRules, List.forall_mem_cons, List.not_mem_nil, false_implies, implies_true, and_true]
  exact ⟨keeps_spareReadaptRule, keeps_spareReleaseRule, keeps_spareIdleRule, keeps_marginGoRule, keeps_linkRule,
    keeps_linkRule, keeps_linkIdleRule, keeps_ftSetRule, keeps_mtxHiRule, keeps_mtxCtlRule, keeps_rejoinRule,
    keeps_coreRule⟩

theorem keeps_engineRules : ∀ r ∈ engineRules, r.Keeps := by
  simp only [engineRules, List.forall_mem_cons, List.not_mem_nil, false_implies, implies_true, and_true]
  exact ⟨keeps_regionRule, keeps_keyrevRule, keeps_qdbRule, keeps_qndbRule, keeps_qcmdRule, keeps_evrRule,
    keeps_chPiRule, keeps_chRingRule, keeps_chCmdRule, keeps_tmrRule, keeps_sliceRule⟩

theorem keeps_serviceRules : ∀ r ∈ serviceRules, r.Keeps := by
  simp only [serviceRules, List.forall_mem_cons, List.not_mem_nil, false_implies, implies_true, and_true]
  exact ⟨keeps_spcRule, keeps_pcCtlRule, keeps_pcAllRule, keeps_clkCmdRule, keeps_protCtlRule, keeps_protSlotRule,
    keeps_otpRule, keeps_otpRule, keeps_otpRule, keeps_otpRule, keeps_slateRdRule, keeps_pendRule, keeps_errStatRule,
    keeps_drainRule, keeps_rstWarmRule, keeps_rstStnRule, keeps_rstIdleRule⟩

theorem keeps_ruleOf (a : Nat) (v : Word) : (ruleOf a v).Keeps := by
  unfold ruleOf
  cases h : (pathRules ++ engineRules ++ serviceRules).find? (fun r => r.sel a v) with
  | none => exact keeps_plainRule
  | some r =>
    rcases List.mem_append.1 (List.mem_of_find?_eq_some h) with hr | hr
    · rcases List.mem_append.1 hr with hr | hr
      · exact keeps_pathRules r hr
      · exact keeps_engineRules r hr
    · exact keeps_serviceRules r hr

theorem goes_execWrlive (hs : Kept C P s) : GoesOn C P (execWrlive s) :=
  goes_insn hs (fun _ _ ht => kept_liveWrite (keeps_ruleOf _ _) ht hs)

/-! ## Reg Access -/

theorem kept_readTakes {a : Nat} (hs : Kept C P s) :
    Kept C P (readTakes a s) := by
  unfold readTakes
  exact kept_ite (kept_onFab hs) hs

theorem kept_readOne_snd {path : Path} {a : Nat} (hs : Kept C P s) :
    Kept C P (readOne path a s).2 := by
  unfold readOne
  dsimp only
  split
  · exact kept_pair (kept_readTakes (kept_latch hs))
  · split
    · exact kept_pair (kept_unlatch hs)
    · exact kept_pair hs

theorem kept_readBoth_snd {path : Path} {a : Nat} (hs : Kept C P s) :
    Kept C P (readBoth path a s).2 := by
  unfold readBoth
  dsimp only
  split
  · exact kept_pair (kept_readTakes (kept_unlatch hs))
  · exact kept_pair (kept_readOne_snd (kept_readOne_snd hs))

theorem kept_readRefused {path : Path} {a : Nat} (hs : Kept C P s) :
    Kept C P (readRefused path a s) := by
  unfold readRefused
  dsimp only
  split
  · exact kept_aerError (kept_emit hs)
  · exact kept_emit hs

theorem kept_checkedRead {path : Path} {a : Nat} {ok : Bool} {go : State → State} (hgo : ∀ u, Kept C P u → Kept C P
    (go u)) (hs : Kept C P s) :
    Kept C P (checkedRead path a ok go s) := by
  unfold checkedRead
  refine kept_ite hs ?_
  refine kept_ite (kept_stateAnswer hs) ?_
  refine kept_ite (kept_readRefused hs) ?_
  split
  · exact kept_stateAnswer (kept_protFault hs)
  · exact hgo _ hs

theorem kept_directRead {path : Path} {a : Nat} {full : Bool} (hs : Kept C P s) :
    Kept C P (directRead path a full s) := by
  unfold directRead
  exact kept_checkedRead (fun _ h1 => kept_ite (kept_stateAnswer h1) (kept_ite (kept_stateAnswer (kept_readBoth_snd
      h1)) (kept_stateAnswer (kept_readOne_snd h1)))) hs

theorem goes_execFtNowLoRead {path : Path} {full : Bool} (hs : Kept C P s) :
    GoesOn C P (execFtNowLoRead path full s) := by
  unfold execFtNowLoRead
  exact goes_next (kept_directRead hs)

theorem goes_execMrxLoRead {path : Path} {full : Bool} (hs : Kept C P s) :
    GoesOn C P (execMrxLoRead path full s) := by
  unfold execMrxLoRead
  exact goes_next (kept_directRead hs)

theorem goes_execSpcELoRead {path : Path} {n : Fin 24} {full : Bool} (hs : Kept C P s) :
    GoesOn C P (execSpcELoRead path n full s) := by
  unfold execSpcELoRead
  exact goes_next (kept_directRead hs)

theorem goes_execFcstRailLoRead {path : Path} {r : Fin 6} {full : Bool} (hs : Kept C P s) :
    GoesOn C P (execFcstRailLoRead path r full s) := by
  unfold execFcstRailLoRead
  exact goes_next (kept_directRead hs)

theorem goes_execPcFixLoRead {path : Path} {u : Fin 74} {full : Bool} (hs : Kept C P s) :
    GoesOn C P (execPcFixLoRead path u full s) := by
  unfold execPcFixLoRead
  exact goes_next (kept_directRead hs)

theorem goes_execPcValLoRead {path : Path} {u : Fin 74} {c : Fin 8} {full : Bool} (hs : Kept C P s) :
    GoesOn C P (execPcValLoRead path u c full s) := by
  unfold execPcValLoRead
  exact goes_next (kept_directRead hs)

theorem goes_execHighWordRead {path : Path} {a : Fin 13631488} {full : Bool} (hs : Kept C P s) :
    GoesOn C P (execHighWordRead path a full s) := by
  unfold execHighWordRead
  exact goes_next (kept_ite hs (kept_directRead hs))

theorem kept_apertureRead {path : Path} {a o : Nat} {full : Bool} (hs : Kept C P s) :
    Kept C P (apertureRead path a o full s) := by
  unfold apertureRead
  dsimp only
  refine kept_ite (kept_stateAnswer (kept_unlatch (kept_driftMove (kept_bump hs)))) ?_
  refine kept_ite (kept_stateAnswer (kept_latch (kept_driftMove (kept_bump hs)))) ?_
  split
  · exact kept_stateAnswer (kept_unlatch (kept_bump hs))
  · exact kept_stateAnswer (kept_driftMove (kept_bump hs))

theorem goes_execApertureRead {path : Path} {a : Fin 3} {o : Fin 1048576} {full : Bool} (hs : Kept C P s) :
    GoesOn C P (execApertureRead path a o full s) := by
  unfold execApertureRead
  exact goes_next (kept_checkedRead (fun _ h1 => kept_apertureRead h1) hs)

theorem kept_takeRead_snd {t : Take} {a : Nat} {sh : Bool} (hs : Kept C P s) :
    Kept C P (takeRead t a sh s).2 := by
  unfold takeRead
  exact kept_ite_snd (kept_pair hs) (kept_readOne_snd hs)

theorem goes_execRdreg (hs : Kept C P s) :
    GoesOn C P (execRdreg s) := by
  unfold execRdreg
  dsimp only
  refine goes_insn hs ?_
  intro t w ht
  refine kept_ite (kept_endTake hs) ?_
  split
  · exact kept_endTake (kept_protFault hs)
  · exact kept_retireG ht (kept_takeRead_snd hs)

theorem goes_execWrreg (hs : Kept C P s) :
    GoesOn C P (execWrreg s) := by
  unfold execWrreg
  dsimp only
  refine goes_insn hs ?_
  intro t w ht
  split
  · exact kept_endTake hs
  · refine kept_ite (kept_endTake hs) ?_
    split
    · exact kept_endTake (kept_protFault hs)
    · exact kept_ite (kept_endTake (kept_protFault hs)) (kept_ite (kept_endTake hs) (kept_retire (takeKept_upd ht) hs))

theorem kept_tabAccess {write : Bool} {t : Take} {w : Nat} {go : Nat → Nat → Nat → State → State} (hgo : ∀ x0 x1 x2
    u3, Kept C P u3 → Kept C P (go x0 x1 x2 u3)) (hs : Kept C P s) :
    Kept C P (tabAccess write t w go s) := by
  unfold tabAccess
  dsimp only
  refine kept_ite (kept_endTake hs) ?_
  split
  · exact kept_endTake (kept_protFault hs)
  · exact kept_ite (kept_endTake (kept_protFault hs)) (kept_ite (kept_endTake hs) (hgo _ _ _ _ hs))

theorem goes_execTblr (hs : Kept C P s) :
    GoesOn C P (execTblr s) := by
  unfold execTblr
  exact goes_insn hs (fun _ _ ht => kept_tabAccess (fun _ _ _ _ h1 => kept_retireG ht (kept_driftMove h1)) hs)

theorem kept_queueTblw {i k : Nat} {v : DWord} (hs : Kept C P s) :
    Kept C P (queueTblw i k v s) := by
  unfold queueTblw
  exact kept_onQ (kept_driftMove hs)

theorem kept_tblwEffect {tb i k : Nat} {v : DWord} (hs : Kept C P s) :
    Kept C P (tblwEffect tb i k v s) := by
  unfold tblwEffect
  exact kept_ite (kept_keyTblw hs) (kept_queueTblw hs)

theorem goes_execTblw (hs : Kept C P s) :
    GoesOn C P (execTblw s) := by
  unfold execTblw
  exact goes_insn hs (fun _ _ ht => kept_tabAccess (fun _ _ _ _ h1 => kept_ite (kept_endTake (kept_protFault h1))
      (kept_retireMark ht (kept_logTable (kept_tblwEffect h1)))) hs)

/-! ## Tlp Rx -/

theorem goes_execTlpReceive {n : Fin 24} {p : Fin 4} {t : Tlp} (hs : Kept C P s) :
    GoesOn C P (execTlpReceive n p t s) := by
  unfold execTlpReceive
  exact goes_next (kept_ite (kept_tlpIn hs) hs)

theorem goes_execHeldTlpRedecide {n : Fin 24} {p : Fin 4} (hs : Kept C P s) :
    GoesOn C P (execHeldTlpRedecide n p s) := by
  unfold execHeldTlpRedecide
  dsimp only
  refine goes_next ?_
  split
  · exact kept_ite (kept_runFlow (kept_ite (kept_advance hs) hs)) hs
  · exact hs

theorem goes_execUnlockMessage {n : Fin 24} {p : Fin 4} (hs : Kept C P s) :
    GoesOn C P (execUnlockMessage n p s) := by
  unfold execUnlockMessage
  exact goes_next (kept_ite (kept_tlpIn hs) hs)

/-! ## Transport -/

theorem kept_handSegs {e : Nat} (hs : Kept C P s) :
    Kept C P (handSegs e s) := by
  unfold handSegs
  exact kept_foldl hs (fun _ _ h1 => kept_ite (kept_handSeg h1) h1)

theorem goes_execFmePacketSend {e : Fin 48} (hs : Kept C P s) :
    GoesOn C P (execFmePacketSend e s) := by
  unfold execFmePacketSend
  exact goes_next (kept_settle (kept_ite (kept_handSegs (kept_sendNext hs)) hs))

theorem kept_receive {e pt : Nat} {f : Packet → State → State} (hf : ∀ x0 u1, Kept C P u1 → Kept C P (f x0 u1)) (hs :
    Kept C P s) :
    GoesOn C P (receive e pt f s) := by
  unfold receive
  refine goes_next ?_
  refine kept_settle ?_
  split
  · next v e =>
      have hv : Kept C P v := kept_takeFme hs e
      exact hf _ _ hv
  · exact hs

theorem goes_execFmeWreqReceive {e : Fin 48} (hs : Kept C P s) :
    GoesOn C P (execFmeWreqReceive e s) := by
  unfold execFmeWreqReceive
  exact kept_receive (fun _ _ h1 => kept_reqIn h1) hs

theorem goes_execFmeRreqReceive {e : Fin 48} (hs : Kept C P s) :
    GoesOn C P (execFmeRreqReceive e s) := by
  unfold execFmeRreqReceive
  exact kept_receive (fun _ _ h1 => kept_reqIn h1) hs

theorem goes_execFmeAreqReceive {e : Fin 48} (hs : Kept C P s) :
    GoesOn C P (execFmeAreqReceive e s) := by
  unfold execFmeAreqReceive
  exact kept_receive (fun _ _ h1 => kept_reqIn h1) hs

theorem goes_execFmeRrespReceive {e : Fin 48} (hs : Kept C P s) :
    GoesOn C P (execFmeRrespReceive e s) := by
  unfold execFmeRrespReceive
  exact kept_receive (fun _ _ h1 => kept_respIn h1) hs

theorem goes_execFmeArespReceive {e : Fin 48} (hs : Kept C P s) :
    GoesOn C P (execFmeArespReceive e s) := by
  unfold execFmeArespReceive
  exact kept_receive (fun _ _ h1 => kept_respIn h1) hs

theorem goes_execFmeAckReceive {e : Fin 48} (hs : Kept C P s) :
    GoesOn C P (execFmeAckReceive e s) := by
  unfold execFmeAckReceive
  exact kept_receive (fun _ _ h1 => kept_ackIn h1) hs

theorem goes_execFmeNakReceive {e : Fin 48} (hs : Kept C P s) :
    GoesOn C P (execFmeNakReceive e s) := by
  unfold execFmeNakReceive
  exact kept_receive (fun _ _ h1 => kept_nakIn h1) hs

theorem goes_execFmeRtoExpire {e : Fin 48} {mid pidx : Nat} (hs : Kept C P s) :
    GoesOn C P (execFmeRtoExpire e mid pidx s) := by
  unfold execFmeRtoExpire
  dsimp only
  refine goes_next ?_
  refine kept_settle ?_
  split
  · exact kept_ite (kept_sendCopy (kept_ite (kept_reach hs) (kept_onDest (kept_bump (kept_reach hs))))) hs
  · exact hs

theorem goes_execFmeMessageTimeout {e : Fin 48} {mid : Nat} (hs : Kept C P s) :
    GoesOn C P (execFmeMessageTimeout e mid s) := by
  unfold execFmeMessageTimeout
  refine goes_next ?_
  refine kept_settle ?_
  split
  · split
    · exact kept_closeMsg (kept_reach hs)
    · exact hs
  · exact hs

theorem goes_execNakwaitExpire {e : Fin 48} {mid pidx : Nat} (hs : Kept C P s) :
    GoesOn C P (execNakwaitExpire e mid pidx s) := by
  unfold execNakwaitExpire
  refine goes_next ?_
  refine kept_settle ?_
  split
  · split
    · exact kept_sendCopy (kept_reach hs)
    · exact hs
  · exact hs

theorem goes_execReasmTimeout {n : Fin 24} {snode sfme mid : Nat} (hs : Kept C P s) :
    GoesOn C P (execReasmTimeout n snode sfme mid s) := by
  unfold execReasmTimeout
  dsimp only
  refine goes_next ?_
  refine kept_settle ?_
  split
  · refine kept_ite ?_ hs
    refine kept_intx ?_
    refine kept_raiseLimited ?_
    split
    · exact kept_ite (kept_ringWrite (kept_onReasm (kept_bump (kept_reach hs)))) (kept_onReasm (kept_bump (kept_reach
        hs)))
    · exact kept_onReasm (kept_bump (kept_reach hs))
  · exact hs

theorem goes_execReasmHeldExpire {n : Fin 24} {snode sfme mid : Nat} (hs : Kept C P s) :
    GoesOn C P (execReasmHeldExpire n snode sfme mid s) := by
  unfold execReasmHeldExpire
  dsimp only
  refine goes_next ?_
  split
  · exact kept_ite (kept_setReasm (kept_reach hs)) hs
  · exact hs

theorem goes_execDestContextRelease {e : Fin 48} {node : Fin 4096} (hs : Kept C P s) :
    GoesOn C P (execDestContextRelease e node s) := by
  unfold execDestContextRelease
  dsimp only
  refine goes_next ?_
  split
  · exact kept_addLiv (kept_onFme (kept_reach hs))
  · exact hs

theorem goes_execCcRoundEnd {e : Fin 48} {node : Fin 4096} (hs : Kept C P s) :
    GoesOn C P (execCcRoundEnd e node s) := by
  unfold execCcRoundEnd
  dsimp only
  refine goes_next ?_
  split
  · split
    · exact kept_onDest (kept_reach hs)
    · exact hs
  · exact hs

theorem goes_execPacingWaitEnd {e : Fin 48} {node : Fin 4096} (hs : Kept C P s) :
    GoesOn C P (execPacingWaitEnd e node s) := by
  unfold execPacingWaitEnd
  refine goes_next ?_
  split
  · exact kept_onDest (kept_reach hs)
  · exact hs

/-! ## Dispatch -/

theorem goes_exec {i : Instr} (hs : Kept C P s) :
    GoesOn C P (exec i s) := by
  unfold exec
  split
  · exact goes_execInWord hs
  · exact goes_execInLast hs
  · exact goes_execMailboxByte hs
  · exact goes_execOutWord hs
  · exact goes_execTakeSelect hs
  · exact goes_execNop hs
  · exact goes_execAdd hs
  · exact goes_execSub hs
  · exact goes_execAnd hs
  · exact goes_execOr hs
  · exact goes_execXor hs
  · exact goes_execShl hs
  · exact goes_execShr hs
  · exact goes_execSar hs
  · exact goes_execMul hs
  · exact goes_execAddi hs
  · exact goes_execAndi hs
  · exact goes_execOri hs
  · exact goes_execXori hs
  · exact goes_execShli hs
  · exact goes_execShri hs
  · exact goes_execLdiLo hs
  · exact goes_execLdiHi hs
  · exact goes_execRdreg hs
  · exact goes_execWrreg hs
  · exact goes_execWrlive hs
  · exact goes_execTblr hs
  · exact goes_execTblw hs
  · exact goes_execBr hs
  · exact goes_execBrc hs
  · exact goes_execCall hs
  · exact goes_execRet hs
  · exact goes_execHalt hs
  · exact goes_execNow hs
  · exact goes_execWaitt hs
  · exact goes_execWaittElapse hs
  · exact goes_execWaitcue hs
  · exact goes_execWaitcueTimeout hs
  · exact goes_execFirecue hs
  · exact goes_execCut hs
  · exact goes_execCutat hs
  · exact goes_execAbort hs
  · exact goes_execAbortCancel hs
  · exact goes_execNote hs
  · exact goes_execTakeLimitExpire hs
  · exact goes_execLongopOverrun hs
  · exact goes_execLockstepMismatch hs
  · exact goes_execConfigWriteArrival hs
  · exact goes_execConfigWriteServe hs
  · exact goes_execCutatFire hs
  · exact goes_execCutCopyDone hs
  · exact goes_execCheckpointIdleTimer hs
  · exact goes_execCheckpointSignDone hs
  · exact goes_execSlateRdWrite hs
  · exact goes_execRailOutOfRange hs
  · exact goes_execRailRecoveryElapse hs
  · exact goes_execColdRstAssert hs
  · exact goes_execColdRstRelease hs
  · exact goes_execWarmRstAssert hs
  · exact goes_execWarmResetState hs
  · exact goes_execWarmRstRelease hs
  · exact goes_execRstcmdWarm hs
  · exact goes_execRstcmdStation hs
  · exact goes_execStationResetDone hs
  · exact goes_execBootStepDone hs
  · exact goes_execThermtrip hs
  · exact goes_execAvsVoltageWrite hs
  · exact goes_execAvsReadback hs
  · exact goes_execDrainHoldWrite hs
  · exact goes_execDrainLate hs
  · exact goes_execLaneEnergyDetect hs
  · exact goes_execLaneCdrLock hs
  · exact goes_execCommaReceive hs
  · exact goes_execEqConverge hs
  · exact goes_execDeskewDone hs
  · exact goes_execLaneTimerExpire hs
  · exact goes_execTrainRetryTimer hs
  · exact goes_execFillerReceive hs
  · exact goes_execElasticOverrun hs
  · exact goes_execLaneFailure hs
  · exact goes_execReadaptDue hs
  · exact goes_execReadaptComplete hs
  · exact goes_execRestoreComplete hs
  · exact goes_execSpareCmdReadapt hs
  · exact goes_execSpareCmdRelease hs
  · exact goes_execMarginGo hs
  · exact goes_execMarginDone hs
  · exact goes_execLaneMarginingCommand hs
  · exact goes_execPcieLaneFailure hs
  · exact goes_execPcieRecoveryReturn hs
  · exact goes_execPcieRecoveryLimit hs
  · exact goes_execLinkCmdRetrain hs
  · exact goes_execLinkCmdWidth hs
  · exact goes_execLinkCmdEnd hs
  · exact goes_execL1IdleExpire hs
  · exact goes_execL0pIdleExpire hs
  · exact goes_execL0pReturn hs
  · exact goes_execAttnButton hs
  · exact goes_execPartitionReset hs
  · exact goes_execPartitionResetRelease hs
  · exact goes_execDpcTrigger hs
  · exact goes_execTlpReceive hs
  · exact goes_execHeldTlpRedecide hs
  · exact goes_execUnlockMessage hs
  · exact goes_execPcieFcUpdate hs
  · exact goes_execMctpMessage hs
  · exact goes_execFabricPacketReceive hs
  · exact goes_execAckReceive hs
  · exact goes_execNakReceive hs
  · exact goes_execCreditReceive hs
  · exact goes_execRetrainReqReceive hs
  · exact goes_execRetrainAckReceive hs
  · exact goes_execWidthReceive hs
  · exact goes_execTimeSyncRequestReceive hs
  · exact goes_execTimeSyncResponseReceive hs
  · exact goes_execWireReceive hs
  · exact goes_execLockReqReceive hs
  · exact goes_execLockGntReceive hs
  · exact goes_execPfnReceive hs
  · exact goes_execReservedPositionSend hs
  · exact goes_execReplayTimerExpire hs
  · exact goes_execBypassReplayExpire hs
  · exact goes_execRetrainReqTimeout hs
  · exact goes_execPauseTimeout hs
  · exact goes_execTimeSyncPeriod hs
  · exact goes_execFtSetWrite hs
  · exact goes_execPpsInEdge hs
  · exact goes_execPpsOutSecond hs
  · exact goes_execFtNowLoRead hs
  · exact goes_execHighWordRead hs
  · exact goes_execCellOffer hs
  · exact goes_execCellCapture hs
  · exact goes_execCellAckReceive hs
  · exact goes_execSlotCreditReturn hs
  · exact goes_execPlaneAckTimeout hs
  · exact goes_execPlaneErrorReport hs
  · exact goes_execEgressSelect hs
  · exact goes_execEgressUnderrun hs
  · exact goes_execStompResend hs
  · exact goes_execCoreCmdTest hs
  · exact goes_execCoreCmdRestore hs
  · exact goes_execCoreCmdRemove hs
  · exact goes_execPlaneTestDone hs
  · exact goes_execPlaneRemoveDone hs
  · exact goes_execCoreSpeedSample hs
  · exact goes_execSpillWriteDone hs
  · exact goes_execRefillStart hs
  · exact goes_execRefillDone hs
  · exact goes_execMgmtInReceive hs
  · exact goes_execMgmtOutReceive hs
  · exact goes_execMgmtPresetReceive hs
  · exact goes_execMgmtOutSend hs
  · exact goes_execMtxHiWrite hs
  · exact goes_execMtxSend hs
  · exact goes_execMrxLoRead hs
  · exact goes_execLockBackoffExpire hs
  · exact goes_execLockHoldExpire hs
  · exact goes_execWireSample hs
  · exact goes_execWireRefresh hs
  · exact goes_execMoveholdExpire hs
  · exact goes_execRtRejoin hs
  · exact goes_execRegionRegister hs
  · exact goes_execKeyrevFree hs
  · exact goes_execKeyrevRekey hs
  · exact goes_execKeyrevComplete hs
  · exact goes_execPurgeComplete hs
  · exact goes_execKeyCacheFill hs
  · exact goes_execQdbWrite hs
  · exact goes_execQndbWrite hs
  · exact goes_execQcmdStart hs
  · exact goes_execQcmdStop hs
  · exact goes_execQcmdFree hs
  · exact goes_execDescStart hs
  · exact goes_execDescEnd hs
  · exact goes_execWaitTimeout hs
  · exact goes_execNotifyFullTimeout hs
  · exact goes_execEvrCiWrite hs
  · exact goes_execHostCompletion hs
  · exact goes_execHostCompletionTimeout hs
  · exact goes_execFmePacketSend hs
  · exact goes_execFmeWreqReceive hs
  · exact goes_execFmeRreqReceive hs
  · exact goes_execFmeAreqReceive hs
  · exact goes_execFmeRrespReceive hs
  · exact goes_execFmeArespReceive hs
  · exact goes_execFmeAckReceive hs
  · exact goes_execFmeNakReceive hs
  · exact goes_execFmeRtoExpire hs
  · exact goes_execFmeMessageTimeout hs
  · exact goes_execNakwaitExpire hs
  · exact goes_execReasmTimeout hs
  · exact goes_execReasmHeldExpire hs
  · exact goes_execDestContextRelease hs
  · exact goes_execCcRoundEnd hs
  · exact goes_execPacingWaitEnd hs
  · exact goes_execChPiWrite hs
  · exact goes_execChStart hs
  · exact goes_execChPause hs
  · exact goes_execChAbort hs
  · exact goes_execDmaDescStart hs
  · exact goes_execDmaBeat hs
  · exact goes_execDmaDescEnd hs
  · exact goes_execCuePulseDeliver hs
  · exact goes_execCueTimerArm hs
  · exact goes_execCueTimerFire hs
  · exact goes_execSliceLull hs
  · exact goes_execSliceResume hs
  · exact goes_execSliceReset hs
  · exact goes_execSliceFlush hs
  · exact goes_execSliceLullReached hs
  · exact goes_execSliceResetDone hs
  · exact goes_execSliceFlushDone hs
  · exact goes_execSpcEnable hs
  · exact goes_execSpcDisable hs
  · exact goes_execSpcTestopen hs
  · exact goes_execSpcTestclose hs
  · exact goes_execSpcFeedsel hs
  · exact goes_execSpcEvaluationStep hs
  · exact goes_execSpcPresenceChange hs
  · exact goes_execSpcFeedValid hs
  · exact goes_execSpcFeedInvalid hs
  · exact goes_execSpcFastTrip hs
  · exact goes_execSpcCurveTrip hs
  · exact goes_execSpcReverseTrip hs
  · exact goes_execSpcRampTimeout hs
  · exact goes_execSpcGateFullyOn hs
  · exact goes_execSpcPgAssert hs
  · exact goes_execSpcPerstRelease hs
  · exact goes_execSpcDisableWaitEnd hs
  · exact goes_execSpcOffConfirm hs
  · exact goes_execSpcDeadTimeEnd hs
  · exact goes_execSpcVoutLow hs
  · exact goes_execSpcRetryWaitEnd hs
  · exact goes_execSpcAutoret hs
  · exact goes_execSpcRetriesReset hs
  · exact goes_execSpcCapWindowClose hs
  · exact goes_execSpcMeterUpdate hs
  · exact goes_execSpcELoRead hs
  · exact goes_execFcstRailSample hs
  · exact goes_execFcstRailLoRead hs
  · exact goes_execFcstWindowEnd hs
  · exact goes_execFcstSweep hs
  · exact goes_execFcstEvaluate hs
  · exact goes_execFcstVcoreStep hs
  · exact goes_execDeferLimitExpire hs
  · exact goes_execProtDisable hs
  · exact goes_execProtEnable hs
  · exact goes_execProtLock hs
  · exact goes_execOtpProgkey hs
  · exact goes_execOtpRevoke hs
  · exact goes_execOtpSetmin hs
  · exact goes_execOtpCommandDone hs
  · exact goes_execGetVersion hs
  · exact goes_execGetCapabilities hs
  · exact goes_execNegotiateAlgorithms hs
  · exact goes_execGetDigests hs
  · exact goes_execGetCertificate hs
  · exact goes_execChallenge hs
  · exact goes_execGetMeasurements hs
  · exact goes_execSpdmUnsupported hs
  · exact goes_execAsDigestDone hs
  · exact goes_execConfigScrub hs
  · exact goes_execKeyCacheScrub hs
  · exact goes_execDriftScrub hs
  · exact goes_execDriftRowSpare hs
  · exact goes_execRefclkLoss hs
  · exact goes_execRefclkRevalid hs
  · exact goes_execClkSelect hs
  · exact goes_execPcCtlWrite hs
  · exact goes_execPcSnap hs
  · exact goes_execPcClear hs
  · exact goes_execPcAllStart hs
  · exact goes_execPcAllStop hs
  · exact goes_execPcAllSnap hs
  · exact goes_execPcAllClear hs
  · exact goes_execPcFixLoRead hs
  · exact goes_execPcValLoRead hs
  · exact goes_execApertureRead hs
  · exact goes_execUndefinedOpcode hs
  · exact goes_execPcieLinkUp hs
  · exact goes_execPcieLinkDown hs
  · exact goes_execL1RequestReceive hs
  · exact goes_execReservedSubtype hs
  · exact goes_execPpsokExpire hs
  · exact goes_execFailedLaneRetry hs
  · exact goes_execI3cBroadcastCcc hs

/-! ## Every step -/

/-- Settles O59: every operation that a command is made of keeps the canonical form (`goes_exec`), and so does the passing
of time. -/
theorem stepKeepsCanonicalForm : Obligations.StepKeepsCanonicalForm := by
  intro s t hs e
  have hk : ∀ {P}, s.pending = P → Kept (fun _ => True) P s := kept_of_canon fun _ _ => hs
  unfold step at e
  split at e
  · next hp =>
    cases e
    exact canon_of_kept (kept_advance (hk hp)) fun _ => trivial
  · next i rest _ =>
    obtain ⟨u, hu, hku⟩ := goes_exec (i := i) (kept_of_canon (s := { s with pending := rest }) (fun _ _ => hs) rfl : Kept (fun _ => True) rest _)
    cases hu.symm.trans e
    exact canon_of_kept hku fun _ => trivial

/-- Settles O60: no operation that a command is made of touches the queue of the commands that wait (`goes_exec`). -/
theorem stepTakesOneCommand : Obligations.StepTakesOneCommand := by
  intro s
  unfold step
  split
  · next hp =>
    have h : Kept (fun _ => False) [] (s.advance 1) := kept_advance (kept_of_canon (fun _ => False.elim) hp)
    exact ⟨_, rfl, by rw [hp]; exact h.pending⟩
  · next i rest hp =>
    obtain ⟨u, hu, hku⟩ := goes_exec (i := i) (kept_of_canon (C := fun _ => False) (s := { s with pending := rest }) (fun _ => False.elim) rfl)
    exact ⟨u, hu, by rw [hp]; exact hku.pending⟩

end Sys2Proof.Machine
end

section
/-! PROOFS. The wire forms: headers and short packets read back as they were spelt. -/

namespace Sys2Proof.Machine

/-! ## Headers (R224, R225) -/

/-- Every field above hcrc fits its width. -/
theorem fitsHeader_of_wf {p : Packet} (h : p.wf = true) : ∀ e ∈ headerFields p, e.2 < 2 ^ e.1 := by
  have hp := b2n_lt_two p.poison
  have ha := b2n_lt_two p.ackv
  simp only [Packet.wf, Bool.and_eq_true, decide_eq_true_eq] at h
  simp only [headerFields, List.forall_mem_cons]
  refine ⟨?_, ?_, ?_, ?_, ?_, ?_, ?_, ?_, ?_, ?_, ?_, ?_, ?_, ?_, ?_, List.forall_mem_nil _⟩ <;> omega

/-- Fields that fit their widths read back as they are. -/
theorem readFields_of_fits {l : List (Nat × Nat)} (h : ∀ e ∈ l, e.2 < 2 ^ e.1) :
    readFields (l.map (fun e => e.1)) (lsbFields l) = l.map (fun e => e.2) := by
  rw [readFields_lsbFields]
  exact List.map_congr_left fun e he => Nat.mod_eq_of_lt (h e he)

theorem readHeader_packetHeader {p : Packet} (h : p.wf = true) : readHeader (packetHeader p) p.body = some p := by
  have hr : readFields headerWidths (lsbFields (headerFields p)) = (headerFields p).map (fun e => e.2) :=
    readFields_of_fits (fitsHeader_of_wf h)
  have hb (b : Bool) : (b2n b == 1) = b := by cases b <;> rfl
  simp only [readHeader, packetHeader, above_check, check_below, if_true, hr]
  simp only [headerFields, List.map, hb]

theorem readHeader_of_badCheck {h : Nat} {b : PBody} (e : h % 2 ^ 12 ≠ hcrc (h / 2 ^ 12) % 2 ^ 12) :
    readHeader h b = none := by
  simp only [readHeader, if_neg e]

/-- Settles O57: the check value stands below the fields, and each field is read at its width. -/
theorem headersReadBack : Obligations.HeadersReadBack :=
  ⟨fun _ => readHeader_packetHeader, fun _ _ => readHeader_of_badCheck⟩

/-! ## Short packets (R229, R230) -/

theorem bits_div_pow (h k lo n : Nat) : bits (h / 2 ^ k) lo n = bits h (k + lo) n := by
  simp only [bits, Nat.pow_add, Nat.div_div_eq_div_mul]

/-- The fields of a body fill 83 bits. -/
theorem shortFields_lt (b : ShortBody) : lsbFields (shortFields b) < 2 ^ 83 := by
  have h := lsbFields_lt (shortFields b)
  cases b <;> exact h

theorem shortSub_lt (b : ShortBody) : shortSub b < 2 ^ 4 := by cases b <;> simp [shortSub]

theorem bit_lsbFields_flag (v : Nat) (l : List (Nat × Nat)) (h : v < 2) : bit (lsbFields ((1, v) :: l)) 0 = (v == 1) := by
  have e : ∀ x i, bit x i = (bits x i 1 == 1) := fun _ _ => rfl
  rw [e, bits_lsbFields_fits _ _ _ h]

theorem readShortBody_shortFields {b : ShortBody} (h : b.wf = true) :
    readShortBody (shortSub b) (lsbFields (shortFields b)) = some b := by
  cases b with
  | credit half cum =>
    simp only [ShortBody.wf, Bool.and_eq_true, decide_eq_true_eq, List.all_eq_true] at h
    obtain ⟨⟨hh, hl⟩, hc⟩ := h
    obtain ⟨c0, c1, c2, c3, rfl⟩ : ∃ c0 c1 c2 c3, cum = [c0, c1, c2, c3] := by
      match cum, hl with
      | [c0, c1, c2, c3], _ => exact ⟨c0, c1, c2, c3, rfl⟩
    simp only [List.forall_mem_cons] at hc
    simp (disch := omega) [readShortBody, shortSub, shortFields, bits_lsbFields_skip, bits_lsbFields_fits]
  | _ =>
    simp only [ShortBody.wf, Bool.and_eq_true, decide_eq_true_eq] at h
    simp (disch := omega) [readShortBody, shortSub, shortFields, bits_lsbFields_skip, bit_lsbFields_skip, bits_lsbFields_fits,
      bit_lsbFields_first,
      bit_lsbFields_flag]

theorem readShort_shortWord {bound : Nat} {k : Short} (hb : bound < 2 ^ 9) (hq : k.bseq < 2 ^ 8) (ha : k.back < 2 ^ 8)
    (h : k.body.wf = true) : readShort (shortWord bound k) = some (k, bound) := by
  have hf := shortFields_lt k.body
  have hs := shortSub_lt k.body
  have hbody := readShortBody_shortFields h
  simp only [readShort, shortWord, above_check, check_below, if_true]
  simp (disch := omega) [bits_lsbFields_skip, bits_lsbFields_fits, hbody]

theorem readShort_of_badCheck {h : Nat} (e : h % 2 ^ 16 ≠ shortCrc (h / 2 ^ 16) % 2 ^ 16) : readShort h = none := by
  simp only [readShort, if_neg e]

theorem readShortBody_of_reserved {sub x : Nat} (h : sub = 0 ∨ 11 ≤ sub) : readShortBody sub x = none := by
  rcases h with rfl | h
  · rfl
  · obtain ⟨k, rfl⟩ := Nat.exists_eq_add_of_le' h
    rfl

theorem readShort_of_reserved {h : Nat} (e : bits h 124 4 = 0 ∨ 11 ≤ bits h 124 4) : readShort h = none := by
  have hb : ∀ x, readShortBody (bits (h / 2 ^ 16) 108 4) x = none := fun x => by
    rw [bits_div_pow]
    exact readShortBody_of_reserved e
  simp only [readShort, hb, Option.map_none, ite_self]

/-- Settles O58: the body is read by its SUB, and a reserved SUB spells none. -/
theorem shortPacketsReadBack : Obligations.ShortPacketsReadBack :=
  ⟨fun _ _ => readShort_shortWord, fun _ => readShort_of_badCheck, fun _ => readShort_of_reserved⟩

end Sys2Proof.Machine
end

section
/-! PROOFS. Fields of a number, and what the small operations of the Director do: the answer of a take, journals and commits,
entries of the slate log, performance counters. -/

namespace Sys2Proof.Machine

variable {s u : State} {t : Take}

/-! ## Fields of a number -/

/-- A number with a field replaced, written from its parts below, in and above the field. -/
theorem setBits_eq (x lo w v : Nat) :
    setBits x lo w v = x % 2 ^ lo + 2 ^ lo * (v % 2 ^ w + 2 ^ w * (x / 2 ^ lo / 2 ^ w)) := by
  have hx := Nat.mod_add_div x (2 ^ lo)
  have hq := Nat.mod_add_div (x / 2 ^ lo) (2 ^ w)
  have e : x = x % 2 ^ lo + 2 ^ lo * (x / 2 ^ lo % 2 ^ w) + 2 ^ lo * (2 ^ w * (x / 2 ^ lo / 2 ^ w)) := by
    conv_lhs => rw [← hx, ← hq, Nat.mul_add, ← Nat.add_assoc]
  have hsub : x - bits x lo w * 2 ^ lo = x % 2 ^ lo + 2 ^ lo * (2 ^ w * (x / 2 ^ lo / 2 ^ w)) := by
    unfold bits
    rw [Nat.mul_comm (x / 2 ^ lo % 2 ^ w)]
    omega
  rw [setBits, hsub, Nat.mul_add]
  ring

theorem bits_setBits_self (x lo w v : Nat) : bits (setBits x lo w v) lo w = v % 2 ^ w := by
  have h : (x % 2 ^ lo) / 2 ^ lo = 0 := Nat.div_eq_of_lt (Nat.mod_lt _ (Nat.two_pow_pos _))
  rw [setBits_eq, bits, Nat.add_mul_div_left _ _ (Nat.two_pow_pos _), h, Nat.zero_add, Nat.add_mul_mod_self_left, Nat.mod_mod]

/-- A field that lies within 32 bits reads the same in the word of the number. -/
theorem bits_toNat_ofNat {lo w : Nat} (x : Nat) (h : lo + w ≤ 32) : bits (BitVec.ofNat 32 x).toNat lo w = bits x lo w := by
  obtain ⟨k, hk⟩ := Nat.exists_eq_add_of_le h
  rw [BitVec.toNat_ofNat, bits, bits, hk, Nat.add_assoc, Nat.pow_add, Nat.pow_add, Nat.mod_mul_right_div_self,
    Nat.mod_mul_right_mod]

theorem bit_eq_bits (x i : Nat) : bit x i = (bits x i 1 == 1) := rfl

/-! ## The answer of a take (R62) -/

theorem OnlyLive.mbox (h : OnlyLive s u) : u.mbox = s.mbox := by
  obtain ⟨_, rfl⟩ := h
  rfl

theorem OnlyIntx.mbox (h : OnlyIntx s u) : u.mbox = s.mbox := by
  obtain ⟨_, _, rfl⟩ := h
  rfl

theorem asPacket_last (l : List DWord) (w : DWord) :
    (asPacket (w :: l)).map (fun x => x.last) = List.replicate l.length false ++ [true] := by
  apply List.ext_getElem
  · simp [asPacket]
  · intro i hi hj
    simp only [asPacket, List.map_map, List.getElem_map, List.getElem_zipIdx, Function.comp, List.getElem_append,
      List.length_replicate, List.getElem_replicate, List.length_cons, Nat.zero_add]
    split <;> simp <;> simp_all [asPacket] <;> omega

/-- The answer changes its mailbox twice: the words in leave, and the words out join. -/
theorem answerTake_mbox {m : Nat} (hm : m ≠ 51) (serial : Nat) (st : Status) (pc : Nat) (rs : List DWord) (s : State) :
    (answerTake m serial st pc rs s).mbox = (pushOut m (statusWord serial st rs.length pc :: rs)
      (s.setMb m { s.mb m with inq := (firstPacket (s.mb m).inq).2 })).mbox := by
  unfold answerTake
  extract_lets b s1 s2 s3
  rw [if_neg (by simp [hm])]
  exact (onlyIntx_intx _).mbox.trans ((onlyLive_perf _ _ _ _ _ _).mbox.trans (onlyLive_bump _ _ _).mbox)

theorem mb_congr (h : u.mbox = s.mbox) (k : Nat) : u.mb k = s.mb k := by
  simp only [State.mb, h]

theorem answerTake_mb_self {m : Nat} (hm : m ≠ 51) (serial : Nat) (st : Status) (pc : Nat) (rs : List DWord)
    (hwf : Tab.wf (fun _ => ({} : Mbox)) s.mbox = true) :
    (answerTake m serial st pc rs s).mb m =
      { s.mb m with
        inq := (firstPacket (s.mb m).inq).2
        outq := (s.mb m).outq ++ asPacket (statusWord serial st rs.length pc :: rs) } := by
  have hwf' := State.wf_setMb m { s.mb m with inq := (firstPacket (s.mb m).inq).2 } hwf
  rw [mb_congr (answerTake_mbox hm serial st pc rs s), pushOut, State.mb_setMb_self _ _ (Tab.wf_rises hwf'),
    State.mb_setMb_self _ _ (Tab.wf_rises hwf)]

theorem answerTake_mb_ne {m k : Nat} (hm : m ≠ 51) (hk : k ≠ m) (serial : Nat) (st : Status) (pc : Nat) (rs : List DWord)
    (hwf : Tab.wf (fun _ => ({} : Mbox)) s.mbox = true) : (answerTake m serial st pc rs s).mb k = s.mb k := by
  have hwf' := State.wf_setMb m { s.mb m with inq := (firstPacket (s.mb m).inq).2 } hwf
  rw [mb_congr (answerTake_mbox hm serial st pc rs s), pushOut, State.mb_setMb_ne _ hk (Tab.wf_rises hwf'),
    State.mb_setMb_ne _ hk (Tab.wf_rises hwf)]

/-- Settles O7: the mailbox of the take by `answerTake_mb_self`, the other ones by `answerTake_mb_ne`. -/
theorem answerOfATake : Obligations.AnswerOfATake := by
  intro s t st rs u hwf ho hu
  have hend : u = answerTake t.origin t.serial st t.pc rs (s.setTake none) := hu
  obtain ⟨hdir, -⟩ := answerTake_frame t.origin t.serial st t.pc rs (s.setTake none)
  have hself := answerTake_mb_self (s := s.setTake none) ho t.serial st t.pc rs hwf
  rw [← hend] at hdir hself
  refine ⟨by rw [hdir]; rfl, by rw [hself]; rfl, by rw [hself]; rfl, asPacket_last _ _, fun m hm => ?_⟩
  rw [hend, answerTake_mb_ne (s := s.setTake none) ho hm t.serial st t.pc rs hwf]
  rfl

/-! ## Journals and commits (R50, R52) -/

theorem overlay_cons (base : Nat → Word) (e : Nat × Word) (j : List (Nat × Word)) (a : Nat) :
    overlay base (e :: j) a = if a = e.1 then e.2 else overlay base j a := by
  simp only [overlay, List.find?_cons]
  by_cases h : a = e.1
  · simp [h]
  · simp [h, beq_false_of_ne (Ne.symm h)]

/-- A word that the journal does not name shows the base. -/
theorem overlay_of_not_mem {base : Nat → Word} {j : List (Nat × Word)} {a : Nat} (h : a ∉ j.map (fun e => e.1)) :
    overlay base j a = base a := by
  induction j with
  | nil => rfl
  | cons e j ih =>
    simp only [List.map_cons, List.mem_cons, not_or] at h
    rw [overlay_cons, if_neg h.1, ih h.2]

theorem overlay_journalPut (base : Nat → Word) (j : List (Nat × Word)) (a b : Nat) (v : Word) :
    overlay base (journalPut j a v) b = if b = a then v else overlay base j b := by
  induction j with
  | nil => exact overlay_cons _ _ _ _
  | cons e j ih =>
    unfold journalPut
    split
    · next h =>
      rw [overlay_cons, overlay_cons, h]
      split <;> rfl
    · next h =>
      rw [overlay_cons, overlay_cons, ih]
      by_cases hb : b = e.1
      · simp [hb, Ne.symm h]
      · simp [hb]

theorem keys_journalPut (j : List (Nat × Word)) (a : Nat) (v : Word) :
    (journalPut j a v).map (fun e => e.1) =
      if a ∈ j.map (fun e => e.1) then j.map (fun e => e.1) else j.map (fun e => e.1) ++ [a] := by
  induction j with
  | nil => rfl
  | cons e j ih =>
    unfold journalPut
    split
    · next h => simp [h]
    · next h =>
      simp only [List.map_cons, List.mem_cons, h, false_or, ih, List.cons_append]
      split <;> rfl

theorem nodup_journalPut {j : List (Nat × Word)} (h : (j.map (fun e => e.1)).Nodup) (a : Nat) (v : Word) :
    ((journalPut j a v).map (fun e => e.1)).Nodup := by
  rw [keys_journalPut]
  split
  · exact h
  · next ha => exact List.nodup_append.2 ⟨h, List.nodup_singleton a, fun x hx y hy => by
      rw [List.mem_singleton.1 hy]
      exact fun e => ha (e ▸ hx)⟩

theorem OnlyLog.mbox (h : OnlyLog s u) : u.mbox = s.mbox := by
  obtain ⟨_, _, _, _, _, _, rfl⟩ := h
  rfl

/-- One word of a journal is written and logged. -/
def commitWord (t : Take) (s : State) (e : Nat × Word) : State :=
  (s.setShd e.1 e.2).log { origin := t.origin, serial := t.serial, kind := 0, pc := t.pc, loc := e.1,
                           old := (s.shd e.1).toNat, new := e.2.toNat }

theorem commit_eq (t : Take) (s : State) :
    commit t s = claimReport (cleanShadow t.journal (t.journal.foldl (commitWord t) s)) := rfl

theorem commitWord_frame (t : Take) (s : State) (e : Nat × Word) :
    (commitWord t s e).regs.active = s.regs.active ∧ (commitWord t s e).mbox = s.mbox ∧ (commitWord t s e).dir = s.dir := by
  have h : OnlyLog (s.setShd e.1 e.2) (commitWord t s e) := onlyLog_log _ _
  exact ⟨h.active, h.mbox, h.dir⟩

theorem canon_commitWord (t : Take) (e : Nat × Word) (hc : s.regs.canon = true) : (commitWord t s e).regs.canon = true :=
  (kept_log (kept_setShd (kept_of_regs hc))).regs rfl

theorem shd_commitWord (t : Take) (e : Nat × Word) (hc : s.regs.canon = true) (a : Nat) :
    (commitWord t s e).shd a = if a = e.1 then e.2 else s.shd a := by
  have h : OnlyLog (s.setShd e.1 e.2) (commitWord t s e) := onlyLog_log _ _
  have hs : (commitWord t s e).shd a = (s.setShd e.1 e.2).shd a := by simp only [State.shd, h.shadow]
  rw [hs]
  split
  · next e' => rw [e', State.shd_setShd_self _ _ hc]
  · next e' => exact State.shd_setShd_ne _ e' hc

/-- What the words of a journal leave, word by word. -/
theorem foldl_commitWord (t : Take) (j : List (Nat × Word)) (hn : (j.map (fun e => e.1)).Nodup) (hc : s.regs.canon = true) :
    (∀ a, (j.foldl (commitWord t) s).shd a = overlay s.shd j a) ∧
    (j.foldl (commitWord t) s).regs.active = s.regs.active ∧ (j.foldl (commitWord t) s).mbox = s.mbox ∧
    (j.foldl (commitWord t) s).dir = s.dir := by
  induction j generalizing s with
  | nil => exact ⟨fun _ => rfl, rfl, rfl, rfl⟩
  | cons e j ih =>
    obtain ⟨he, hj⟩ := List.nodup_cons.1 hn
    obtain ⟨hact, hmb, hdir⟩ := commitWord_frame t s e
    obtain ⟨ishd, iact, imb, idir⟩ := ih hj (canon_commitWord t e hc)
    refine ⟨fun a => ?_, iact.trans hact, imb.trans hmb, idir.trans hdir⟩
    rw [List.foldl_cons, ishd, overlay_cons]
    by_cases ha : a = e.1
    · rw [if_pos ha, overlay_of_not_mem (ha ▸ he), shd_commitWord t e hc, if_pos ha]
    · rw [if_neg ha]
      have hb : (commitWord t s e).shd a = s.shd a := by rw [shd_commitWord t e hc, if_neg ha]
      simp only [overlay, hb]

/-- Marking words of the Shadow Set as good touches the errors and live words alone. -/
theorem cleanShadow_frame (j : List (Nat × Word)) (s : State) :
    (cleanShadow j s).regs.shadow = s.regs.shadow ∧ (cleanShadow j s).regs.active = s.regs.active ∧
    (cleanShadow j s).mbox = s.mbox ∧ (cleanShadow j s).dir = s.dir := by
  unfold cleanShadow
  split
  · exact ⟨rfl, rfl, rfl, rfl⟩
  · dsimp only
    split <;> exact ⟨rfl, rfl, rfl, rfl⟩

/-- Settles O12: the journal by induction on its entries, the commit by induction on the journal. -/
theorem journalsAndCommits : Obligations.JournalsAndCommits := by
  refine ⟨fun base j a b v => ⟨overlay_journalPut base j a b v, fun h => nodup_journalPut h a v⟩, fun s t hc hn => ?_⟩
  obtain ⟨hshd, hact, hmb, hdir⟩ := foldl_commitWord t t.journal hn hc
  obtain ⟨cshd, cact, cmb, cdir⟩ := cleanShadow_frame t.journal (t.journal.foldl (commitWord t) s)
  have hcanon : (commit t s).regs.canon = true := (kept_commit (kept_of_regs hc)).regs rfl
  rw [commit_eq] at hcanon ⊢
  refine ⟨fun a => ?_, cact.trans hact, cmb.trans hmb, cdir.trans hdir, hcanon⟩
  rw [← hshd a]
  show (Tab.find (cleanShadow _ _).regs.shadow a).getD _ = _
  rw [cshd]
  rfl

theorem b2n_true : b2n true = 1 := rfl
theorem b2n_false : b2n false = 0 := rfl

/-! ## An entry of the slate log (R83) -/

/-- The TIME of the next entry of the slate log. -/
def nextTime (s : State) : Nat := if decide (s.ft < s.slate.time) then s.slate.time + 1 else s.ft

/-- The words of the next entry of the slate log. -/
def nextWords (e : Entry) (s : State) : List DWord :=
  (entryWords e (nextTime s) (s.livB Reg.GLB_FT_STAT Fld.GLB_FT_STAT_SYNC) (decide (s.ft < s.slate.time)) s.head).map
    (fun x => BitVec.ofNat 64 x)

/-- The slot of the next entry of the slate log. -/
def nextSlot (e : Entry) (s : State) : Slot :=
  let w := nextWords e s
  .entry (nth 0 w 0) (nth 0 w 1) (nth 0 w 2) (nth 0 w 3) (nth 0 w 4) (chainNext s.slate.chain w)

theorem OnlyLive.slate (h : OnlyLive s u) : u.slate = s.slate := by
  obtain ⟨_, rfl⟩ := h
  rfl

theorem OnlyEvents.slate (h : OnlyEvents s u) : u.slate = s.slate := by
  obtain ⟨_, _, _, _, rfl⟩ := h
  rfl

theorem driftMove_slate (q : Bool) (k : Nat) (s : State) : (driftMove q k s).slate = s.slate :=
  (onlyLive_perf _ _ _ _ _ _).slate

/-- State `u` with the next entry of `s` in its slot. -/
def withEntry (e : Entry) (s u : State) : State :=
  { u with slate := { u.slate with
    slots := Tab.put u.slate.slots (s.head % 2 ^ 20) (some (nextSlot e s))
    chain := chainNext s.slate.chain (nextWords e s), time := nextTime s } }

theorem slatePut_eq (e : Entry) (s : State) :
    slatePut e s =
      slateAdvance 1 (withEntry e s (driftMove false 64 (perf 73 9 none 1 { master := some e.origin } s))) := rfl

theorem slatePut_slate (e : Entry) (s : State) : (slatePut e s).slate = (withEntry e s s).slate := by
  have hd : (driftMove false 64 (perf 73 9 none 1 { master := some e.origin } s)).slate = s.slate :=
    (driftMove_slate _ _ _).trans (onlyLive_perf _ _ _ _ _ s).slate
  rw [slatePut_eq, (onlyEvents_slateAdvance _ _).slate]
  generalize driftMove false 64 (perf 73 9 none 1 { master := some e.origin } s) = v at hd
  simp only [withEntry, hd]

theorem time_le_nextTime (s : State) : s.slate.time ≤ nextTime s := by
  unfold nextTime
  split
  · exact Nat.le_succ _
  · next h => exact Nat.not_lt.1 fun hl => h (decide_eq_true hl)

theorem nextTime_lt (ht : s.slate.time < 2 ^ 64 - 1) (hf : s.ft < 2 ^ 64) : nextTime s < 2 ^ 64 := by
  unfold nextTime
  split <;> omega

/-- The flags of an entry stand in bits 16 to 19 of its word 1. -/
theorem entryWord_flags (e : Entry) (time num : Nat) (tsync held : Bool) :
    bits (BitVec.ofNat 64 (nth 0 (entryWords e time tsync held num) 1)).toNat 16 4 =
      b2n tsync + 2 * b2n e.at_ + 4 * b2n held + 8 * b2n e.failed := by
  have h1 := b2n_lt_two tsync
  have h2 := b2n_lt_two e.at_
  have h3 := b2n_lt_two held
  have h4 := b2n_lt_two e.failed
  have hs : e.serial % 2 ^ 32 < 2 ^ 32 := Nat.mod_lt _ (by decide)
  have ho : e.origin % 64 < 64 := Nat.mod_lt _ (by decide)
  have hk : e.kind % 16 < 16 := Nat.mod_lt _ (by decide)
  have hp : e.pc % 2 ^ 13 < 2 ^ 13 := Nat.mod_lt _ (by decide)
  simp only [entryWords, nth, BitVec.toNat_ofNat, bits]
  generalize e.serial % 2 ^ 32 = a at *
  generalize e.origin % 64 = b at *
  generalize e.kind % 16 = c at *
  generalize e.pc % 2 ^ 13 = d at *
  omega

theorem bit_of_flags {x : Nat} {a b c d : Bool} (h : bits x 16 4 = b2n a + 2 * b2n b + 4 * b2n c + 8 * b2n d) :
    bit x 16 = a ∧ bit x 18 = c := by
  have ha := b2n_lt_two a
  have hb := b2n_lt_two b
  have hc := b2n_lt_two c
  have hd := b2n_lt_two d
  unfold bits at h
  constructor
  · cases a <;> simp only [bit, beq_iff_eq, beq_eq_false_iff_ne, b2n_true, b2n_false] at * <;> omega
  · cases c <;> simp only [bit, beq_iff_eq, beq_eq_false_iff_ne, b2n_true, b2n_false] at * <;> omega

theorem nextWords_time (e : Entry) (ht : s.slate.time < 2 ^ 64 - 1) (hf : s.ft < 2 ^ 64) :
    (nth 0 (nextWords e s) 0).toNat = nextTime s := by
  show (BitVec.ofNat 64 (nextTime s % 2 ^ 64)).toNat = nextTime s
  rw [BitVec.toNat_ofNat, Nat.mod_mod, Nat.mod_eq_of_lt (nextTime_lt ht hf)]

theorem nextWords_flags (e : Entry) (s : State) :
    bit (nth 0 (nextWords e s) 1).toNat 16 = s.livB Reg.GLB_FT_STAT Fld.GLB_FT_STAT_SYNC ∧
    bit (nth 0 (nextWords e s) 1).toNat 18 = decide (s.ft < s.slate.time) :=
  bit_of_flags (entryWord_flags e (nextTime s) s.head _ _)

theorem slatePut_time (e : Entry) (s : State) : (slatePut e s).slate.time = nextTime s :=
  congrArg Slate.time (slatePut_slate e s)

theorem slatePut_slots (e : Entry) (s : State) :
    (slatePut e s).slate.slots = Tab.put s.slate.slots (s.head % 2 ^ 20) (some (nextSlot e s)) :=
  congrArg Slate.slots (slatePut_slate e s)

theorem slatePut_chain (e : Entry) (s : State) :
    (slatePut e s).slate.chain = chainNext s.slate.chain (nextWords e s) :=
  congrArg Slate.chain (slatePut_slate e s)

/-- The new entry stands in its slot. -/
theorem find_slatePut_self (e : Entry) (s : State) :
    Tab.find (slatePut e s).slate.slots (s.head % 2 ^ 20) = some (some (nextSlot e s)) := by
  rw [slatePut_slots]
  exact Tab.find_put_self _ _ _

theorem find_slatePut_ne (e : Entry) (s : State) {k : Nat} (hk : k ≠ s.head % 2 ^ 20) :
    Tab.find (slatePut e s).slate.slots k = Tab.find s.slate.slots k := by
  rw [slatePut_slots]
  exact Tab.find_put_ne _ _ hk

/-- Settles O20: what `slatePut` writes is said by `slatePut_slate`, its TIME and flags by `nextWords_time` and
`nextWords_flags`. -/
theorem slateTimeNeverDecreases : Obligations.SlateTimeNeverDecreases := by
  intro s e ht hf
  refine ⟨(time_le_nextTime s).trans_eq (slatePut_time e s).symm, slatePut_time e s,
    ⟨nth 0 (nextWords e s) 0, nth 0 (nextWords e s) 1, nth 0 (nextWords e s) 2, nth 0 (nextWords e s) 3,
      nth 0 (nextWords e s) 4, chainNext s.slate.chain (nextWords e s), find_slatePut_self e s,
      (nextWords_time e ht hf).trans (slatePut_time e s).symm, (nextWords_flags e s).2, (nextWords_flags e s).1,
      slatePut_chain e s⟩, fun k hk => find_slatePut_ne e s hk⟩

/-! ## Performance counters (R578, R579) -/

theorem join64_lo32_hi32 {x : Nat} (h : x < 2 ^ 64) : join64 (lo32 x) (hi32 x) = x := by
  simp only [join64, lo32, hi32, BitVec.toNat_ofNat]
  omega

theorem liv64_setLiv64_self {a x : Nat} (hc : s.regs.canon = true) (h : x < 2 ^ 64) : (s.setLiv64 a x).liv64 a = x := by
  have hc' := State.canon_setLiv a (lo32 x) hc
  rw [State.liv64, State.setLiv64, State.liv_setLiv_self _ _ hc', State.liv_setLiv_ne _ (by omega) hc',
    State.liv_setLiv_self _ _ hc, join64_lo32_hi32 h]

theorem liv_setLiv64_ne {a b x : Nat} (hc : s.regs.canon = true) (h : b ≠ a) (h' : b ≠ a + 4) :
    (s.setLiv64 a x).liv b = s.liv b := by
  rw [State.setLiv64, State.liv_setLiv_ne _ h' (State.canon_setLiv _ _ hc), State.liv_setLiv_ne _ h hc]

theorem perfAdd_of_lt {u c k : Nat} (h : s.liv64 (Reg.PC_VAL_LO u c) + k < 2 ^ 48) :
    perfAdd u c k s = s.setLiv64 (Reg.PC_VAL_LO u c) ((s.liv64 (Reg.PC_VAL_LO u c) + k) % 2 ^ 48) :=
  if_neg (by omega)

theorem perfAdd_of_le {u c k : Nat} (h : 2 ^ 48 ≤ s.liv64 (Reg.PC_VAL_LO u c) + k) :
    perfAdd u c k s =
      (s.setLiv64 (Reg.PC_VAL_LO u c) ((s.liv64 (Reg.PC_VAL_LO u c) + k) % 2 ^ 48)).setLivN (Reg.PC_OVF u)
        (setBits ((s.setLiv64 (Reg.PC_VAL_LO u c) ((s.liv64 (Reg.PC_VAL_LO u c) + k) % 2 ^ 48)).liv (Reg.PC_OVF u)).toNat
          (1 + c) 1 1) :=
  if_pos h

/-- A bit of a word that has been set in its number. -/
theorem bit_ofNat_setBits {x i : Nat} (h : i < 32) : bit (BitVec.ofNat 32 (setBits x i 1 1)).toNat i = true := by
  rw [bit_eq_bits, bits_toNat_ofNat _ (by omega), bits_setBits_self]
  rfl

/-- Settles O23: the two words of the counter take the sum, and the OVF word its bit when the sum runs over. -/
theorem counterAddsAndOverflows : Obligations.CounterAddsAndOverflows := by
  intro s u c k hc hu hcu hk hv r
  have hc8 : c < 8 := by
    unfold perfCounters at hcu
    split at hcu <;> omega
  have hovf : Reg.PC_OVF u ≠ Reg.PC_VAL_LO u c ∧ Reg.PC_OVF u ≠ Reg.PC_VAL_LO u c + 4 := by
    unfold Reg.PC_OVF Reg.PC_VAL_LO
    omega
  have hx : (s.liv64 (Reg.PC_VAL_LO u c) + k) % 2 ^ 48 < 2 ^ 64 := by omega
  have hcp : ∀ x, (s.setLiv64 (Reg.PC_VAL_LO u c) x).regs.canon = true := fun x =>
    State.canon_setLiv _ _ (State.canon_setLiv _ _ hc)
  rcases Nat.lt_or_ge (s.liv64 (Reg.PC_VAL_LO u c) + k) (2 ^ 48) with h | h
  · have hr : r = _ := perfAdd_of_lt h
    rw [hr]
    exact ⟨liv64_setLiv64_self hc hx, fun h' => absurd h (by omega), fun _ => liv_setLiv64_ne hc hovf.1 hovf.2,
      fun a h1 h2 _ => liv_setLiv64_ne hc h1 h2, onlyLive_setLiv64 _ _ _⟩
  · have hr : r = _ := perfAdd_of_le h
    rw [hr]
    refine ⟨?_, fun _ => ?_, fun h' => absurd h (by omega), fun a h1 h2 h3 => ?_,
      (onlyLive_setLiv64 _ _ _).trans (onlyLive_setLivN _ _ _)⟩
    · rw [State.liv64, State.setLivN, State.liv_setLiv_ne _ (Ne.symm hovf.1) (hcp _),
        State.liv_setLiv_ne _ (Ne.symm hovf.2) (hcp _)]
      exact liv64_setLiv64_self hc hx
    · rw [State.setLivN, State.liv_setLiv_self _ _ (hcp _)]
      exact bit_ofNat_setBits (by omega)
    · rw [State.setLivN, State.liv_setLiv_ne _ h3 (hcp _)]
      exact liv_setLiv64_ne hc h1 h2

end Sys2Proof.Machine
end

section
/-! PROOFS. Live writes under a rule, the mailboxes, and the protection unit. -/

namespace Sys2Proof.Machine

variable {s u : State} {t : Take} {w a : Nat} {v : Word}

/-! ## A live write under a rule (R42 to R44, R51, R52) -/

/-- The instruction word at the program counter selects the rule. -/
theorem insn_liveStep {r : LiveRule} (h : AtInsn s t w 0x16 0x8000)
    (hsel : r.sel (xAddr t w) ((t.g (fD w)).extractLsb' 0 32) = true) : liveStep r s = .next (liveWrite r t w s) := by
  have hready : ready s = some t := by
    obtain ⟨hf, -, -⟩ := h
    unfold fetch at hf
    split at hf
    · cases hf
    · next t' ht =>
      obtain ⟨rfl, -⟩ := Prod.mk.inj (Option.some.inj hf)
      exact ht
  exact insn_of_atInsn h _ _ (by rw [hready]; exact hsel)

/-- A live write that nothing turns away logs its LIVE entry; then its effect `e` follows. -/
theorem liveStep_of_atLive {r : LiveRule} (h : AtLive r s t w a v) {e : Effect} (he : r.eff s t a v = e) :
    liveStep r s = .next (finish e.fin t e.act (logLive t a (e.new.getD v) s)) := by
  obtain ⟨hi, rfl, rfl, hsel, hw, hp, hd, hb⟩ := h
  subst he
  rw [insn_liveStep hi hsel]
  simp only [liveWrite, hw, hp, hd, hb, logLive, Bool.not_true, Bool.false_eq_true, if_false]

/-- A live write with an effect of its own. -/
theorem liveStep_of_command {r : LiveRule} (h : AtLive r s t w a v) {act : State → State} {fin : Finish}
    (he : r.eff s t a v = command act fin) : liveStep r s = .next (finish fin t act (logLive t a v s)) :=
  liveStep_of_atLive h he

/-- A live write that an owning chapter turns away (check 4 of R536). -/
theorem liveStep_of_denied {r : LiveRule} (h : AtInsn s t w 0x16 0x8000) (ha : xAddr t w = a)
    (hv : (t.g (fD w)).extractLsb' 0 32 = v) (hsel : r.sel a v = true) (hw : liveWritable a = true)
    (hp : protRefuses s t.origin a true = none) (hd : r.deny s t a v = true) :
    liveStep r s = .next (endTake .protect (protFault t.origin a true 6 0 s)) := by
  subst ha hv
  rw [insn_liveStep h hsel]
  simp only [liveWrite, hw, hp, hd, Bool.not_true, Bool.false_eq_true, if_false, if_true]

/-! ## Words into a mailbox (R26 to R34) -/

theorem mb_mbDrop (m n k : Nat) (s : State) : (mbDrop m k s).mb n = s.mb n :=
  mb_congr ((onlyLive_perf _ _ _ _ _ _).mbox.trans (onlyLive_bump s _ _).mbox) n

theorem mb_dropFlag (m n : Nat) (f : Fld) (c : Bool) (s : State) : (dropFlag m f c s).mb n = s.mb n := by
  unfold dropFlag
  split <;> rfl

/-- The open packet of a mailbox goes, with one word beside it. -/
theorem dropOpen_of_mb {b : Mbox} {m : Nat} (h : s.mb m = b) (last : Bool) :
    dropOpen m last s = (mbDrop m (1 + openLen b.inq) s).setMb m { b with inq := closedWords b.inq, discarding := !last } := by
  subst h
  rfl

theorem wordIn_of_room {m : Nat} {d : DWord} {last : Bool} (hbusy : s.dir.longop.isSome = false)
    (hfull : (decide (8192 ≤ (s.mb m).inq.length) || (last && decide (8191 ≤ pktCount (s.mb m).inq))) = false)
    (hdisc : (s.mb m).discarding = false) :
    wordIn m d last s = s.setMb m { s.mb m with
      inq := (s.mb m).inq ++ [{ word := d, last := last, forced := !last && openLen (s.mb m).inq + 1 == 2050 }]
      discarding := !last && openLen (s.mb m).inq + 1 == 2050 } := by
  simp only [wordIn, hbusy, hfull, hdisc, Bool.or_false, Bool.false_eq_true, if_false]

/-- The state with a STAT flag for each case of R31 that holds. -/
def flagged (m : Nat) (busy full : Bool) (s : State) : State :=
  dropFlag m Fld.MBOX_STAT_DROP_FRAG (s.mb m).discarding
    (dropFlag m Fld.MBOX_STAT_DROP_FULL full (dropFlag m Fld.MBOX_STAT_DROP_BUSY busy s))

theorem mb_flagged (m n : Nat) (busy full : Bool) (s : State) : (flagged m busy full s).mb n = s.mb n := by
  simp only [flagged, mb_dropFlag]

theorem wordIn_of_busyOrFull {m : Nat} {d : DWord} {last busy full : Bool} (hbusy : s.dir.longop.isSome = busy)
    (hfull : (decide (8192 ≤ (s.mb m).inq.length) || (last && decide (8191 ≤ pktCount (s.mb m).inq))) = full)
    (h : busy = true ∨ full = true) :
    wordIn m d last s = (mbDrop m (1 + openLen (s.mb m).inq) (flagged m busy full s)).setMb m
      { s.mb m with inq := closedWords (s.mb m).inq, discarding := !last } := by
  have hor : (busy || full) = true := by simpa using h
  rw [← dropOpen_of_mb (mb_flagged m m busy full s)]
  simp only [wordIn, hbusy, hfull, hor, Bool.true_or, if_true, flagged]

theorem wordIn_of_discarding {m : Nat} {d : DWord} {last : Bool} (hbusy : s.dir.longop.isSome = false)
    (hfull : (decide (8192 ≤ (s.mb m).inq.length) || (last && decide (8191 ≤ pktCount (s.mb m).inq))) = false)
    (hdisc : (s.mb m).discarding = true) :
    wordIn m d last s = (mbDrop m 1 (flagged m false false s)).setMb m { s.mb m with discarding := !last } := by
  simp only [wordIn, hbusy, hfull, hdisc, Bool.or_true, Bool.or_false, Bool.false_eq_true, if_true, if_false, flagged]

/-! ## Bytes into a mailbox (R28) -/

theorem byteJoin_of_lt {path : BytePath} {m : Nat} {last : Bool} {l : List Byte} (x : Byte) (s : State) (h : l.length < 7) :
    byteJoin path ⟨m, last, l⟩ x s = s.setPartial path (some ⟨m, last, l ++ [x]⟩) := by
  have hl : (l ++ [x]).length ≠ 8 := by
    rw [List.length_append, List.length_singleton]
    omega
  simp only [byteJoin, if_neg hl]

theorem byteJoin_of_eq {path : BytePath} {m : Nat} {last : Bool} {l : List Byte} (x : Byte) (s : State) (h : l.length = 7) :
    byteJoin path ⟨m, last, l⟩ x s = wordIn m (BitVec.ofNat 64 (ofBytes (l ++ [x]))) last (s.setPartial path none) := by
  have hl : (l ++ [x]).length = 8 := by
    rw [List.length_append, h]
    rfl
  simp only [byteJoin, if_pos hl]

section MailboxByte

variable {path : BytePath} {m : Fin 64} (last : Bool) (x : Byte) (hr : reachesMbox s (bytePath path) m.val = true)
include hr

theorem execMailboxByte_of_none (hp : s.partialOf path = none) :
    execMailboxByte path m last x s = .next (s.setPartial path (some ⟨m.val, last, [x]⟩)) := by
  simp only [execMailboxByte, hr, hp, if_true]
  rw [byteJoin_of_lt x s (by decide), List.nil_append]

theorem execMailboxByte_of_own {y : Partial} (hp : s.partialOf path = some y) (hy : y.mbox = m.val ∧ y.last = last) :
    execMailboxByte path m last x s = .next (byteJoin path y x s) := by
  simp only [execMailboxByte, hr, hp, hy, and_self, if_true]

theorem execMailboxByte_of_other {y : Partial} (hp : s.partialOf path = some y) (hy : ¬(y.mbox = m.val ∧ y.last = last)) :
    execMailboxByte path m last x s = .next ((dropPartial y s).setPartial path (some ⟨m.val, last, [x]⟩)) := by
  simp only [execMailboxByte, hr, hp, hy, if_true, if_false]
  rw [byteJoin_of_lt x _ (by decide), List.nil_append]

end MailboxByte

theorem dropPartial_eq (y : Partial) (s : State) :
    dropPartial y s = (mbDrop y.mbox (1 + openLen (s.mb y.mbox).inq)
      (s.setLivF (Reg.MBOX_STAT y.mbox) Fld.MBOX_STAT_DROP_FRAG 1)).setMb y.mbox
        { s.mb y.mbox with inq := closedWords (s.mb y.mbox).inq, discarding := !y.last } := rfl

/-! ## What has been sent stays sent -/

theorem out_forUpto {n : Nat} {f : Nat → State → State} (hf : ∀ i s, s.out <+: (f i s).out) (s : State) :
    s.out <+: (forUpto n f s).out :=
  forUpto_rel (R := fun s u => s.out <+: u.out) (fun _ => List.prefix_rfl) (fun h k => h.trans k) hf n s

theorem out_sendWires (x old new : Nat) (s : State) : s.out <+: (sendWires x old new s).out := by
  refine out_forUpto (fun i s => ?_) s
  split
  · exact List.prefix_rfl
  · exact List.prefix_append _ _

theorem out_ite {c : Prop} {_ : Decidable c} {v : State} (h : s.out <+: u.out) (k : s.out <+: v.out) :
    s.out <+: (if c then u else v).out := by
  split
  · exact h
  · exact k

theorem out_syncIntx (q : Nat) (s : State) : s.out <+: (syncIntx q s).out := by
  have hs : s.out <+: s.out := List.prefix_rfl
  have hstop {x old : Nat} {c : Prop} {_ : Decidable c} : s.out <+: (if c then sendWires x old 0 s else s).out :=
    out_ite (out_sendWires _ _ _ _) hs
  unfold syncIntx
  dsimp only
  split
  · exact out_ite hs hstop
  · have hfirst {x old : Nat} {c d : Prop} {_ : Decidable c} {_ : Decidable d} {i : Tab (Nat × Nat)} :
        s.out <+: (if d then
          { (if c then sendWires x old 0 s else s) with
            parts := { (if c then sendWires x old 0 s else s).parts with intx := i } } else s).out :=
      out_ite hstop hs
    exact out_ite (out_ite hfirst (hfirst.trans (out_sendWires _ _ _ _))) (out_ite hfirst hfirst)

theorem out_intx (s : State) : s.out <+: s.intx.out :=
  foldl_rel (R := fun s u => s.out <+: u.out) (fun _ => List.prefix_rfl) (fun h k => h.trans k)
    (fun s q => out_syncIntx q s) _ s

/-! ## Words out of a mailbox (R29) -/

theorem OnlyIntx.regs (h : OnlyIntx s u) : u.regs = s.regs := by
  obtain ⟨_, _, rfl⟩ := h
  rfl

theorem OnlyIntx.dir (h : OnlyIntx s u) : u.dir = s.dir := by
  obtain ⟨_, _, rfl⟩ := h
  rfl

theorem OnlyIntx.slate (h : OnlyIntx s u) : u.slate = s.slate := by
  obtain ⟨_, _, rfl⟩ := h
  rfl

/-- A mailbox whose oldest outbound word has left. -/
def popped (s : State) (m : Nat) (last : Bool) (q : List MWord) : State := s.setMb m { s.mb m with outq := q, lastPop := last }

section OutWord

variable {path : Path} {m : Fin 64} (hl : pathLive s path = true) (hb : s.boot.readable = true)
  (hp : protRefuses s (pathIdent s path) (outWordAddr m.val) false = none)
include hl hb hp

theorem execOutWord_of_word {x : MWord} {q : List MWord} (hr : reachesMbox s path m.val = true)
    (hq : (s.mb m.val).outq = x :: q) :
    execOutWord path m true s =
      .next ((popped s m.val x.last q).answer path (outWordAddr m.val) x.word.toNat).intx := by
  simp only [execOutWord, hl, hb, hp, hr, hq, Bool.not_true, Bool.false_eq_true, if_false, Bool.and_true, if_true, popped]

theorem execOutWord_of_nothing {full : Bool}
    (h : full = false ∨ reachesMbox s path m.val = false ∨ (s.mb m.val).outq = []) :
    execOutWord path m full s = .next (s.answer path (outWordAddr m.val) 0) := by
  simp only [execOutWord, hl, hb, hp, Bool.not_true, Bool.false_eq_true, if_false]
  split
  · next hfr =>
    obtain ⟨hf, hr⟩ := Bool.and_eq_true_iff.1 hfr
    have hq : (s.mb m.val).outq = [] := by simpa [hf, hr] using h
    rw [hq]
  · rfl

end OutWord

/-- Settles O8: `wordIn` by its three cases, a byte by the partial word that stands, a read by what it finds. -/
theorem mailboxes : Obligations.Mailboxes := by
  refine ⟨fun s p m d h => ⟨?_, ?_⟩, fun s m d last => ⟨wordIn_of_room, wordIn_of_busyOrFull rfl rfl, fun hb hf => ?_⟩,
    fun s path m last x hr => ⟨execMailboxByte_of_none last x hr, fun l hp hlt => ?_, fun l hp heq => ?_, fun y hp hy => ?_⟩,
    fun s p m d full => ⟨fun h => ?_, fun path last x h => ?_⟩, fun s path m hwf hl hb hp => ⟨fun x q hr hq => ?_, fun full h => ?_⟩⟩
  · show execInWord p m true d s = _
    simp only [execInWord, h, Bool.and_true, if_true]
  · show execInLast p m true d s = _
    simp only [execInLast, h, Bool.and_true, if_true]
  · rw [hb, hf]
    exact wordIn_of_discarding hb hf
  · rw [← byteJoin_of_lt x s hlt]
    exact execMailboxByte_of_own last x hr hp ⟨rfl, rfl⟩
  · rw [← byteJoin_of_eq x s heq]
    exact execMailboxByte_of_own last x hr hp ⟨rfl, rfl⟩
  · exact execMailboxByte_of_other last x hr hp hy
  · have hno : (full && reachesMbox s (.bar p) m.val) = false := Bool.and_eq_false_iff.2 h
    exact ⟨congrArg Host.Outcome.next (if_neg (by simp [hno])), congrArg Host.Outcome.next (if_neg (by simp [hno]))⟩
  · exact congrArg Host.Outcome.next (if_neg (by simp [h]))
  · have hi := onlyIntx_intx ((popped s m.val x.last q).answer path (outWordAddr m.val) x.word.toNat)
    have hrise := Tab.wf_rises hwf
    refine ⟨_, execOutWord_of_word hl hb hp hr hq, ?_, fun k hk => ?_, ?_, ?_, ?_, hi.dir, hi.slate⟩
    · rw [mb_congr hi.mbox]
      exact State.mb_setMb_self _ _ hrise
    · rw [mb_congr hi.mbox]
      exact State.mb_setMb_ne _ hk hrise
    · obtain ⟨l, e⟩ := out_intx ((popped s m.val x.last q).answer path (outWordAddr m.val) x.word.toNat)
      rw [← e]
      exact List.take_left' (by simp [popped, State.answer, State.setMb])
    · rw [hi.regs]
      rfl
    · rw [hi.regs]
      rfl
  · exact execOutWord_of_nothing hl hb hp h

/-! ## The protection unit (R536 to R544) -/

theorem protRefuses_of_fixed {who : Nat} {write : Bool} (h : fixedRefuses who a write = true) :
    protRefuses s who a write = some 4 := if_pos h

theorem fixedRefuses_iff (who a : Nat) (write : Bool) :
    fixedRefuses who a write = true ↔
      (write = true ∧ who < 48 ∧ (protSlotOf a = 76 ∨ protSlotOf a = 77)) ∨
      (write = true ∧ a = Reg.SEC_OTP_CMD ∧ who ≠ 49 ∧ who ≠ 51) ∨
      (write = false ∧ protSlotOf a = 79 ∧ who < 48 ∧ (a - 0x800000) / 0x100 ≠ who) := by
  simp [fixedRefuses, isUser, and_assoc, or_assoc]

theorem slotRefuses_of_on {k who : Nat} {write : Bool}
    (h : (s.livB Reg.PROT_CTL Fld.PROT_CTL_EN && bit (s.liv (Reg.PROT_SLOT k 0)).toNat 0) = true) :
    slotRefuses s k who write = if maskBit s k who write then none else some 1 := by
  rw [slotRefuses, if_pos h]

theorem slotRefuses_of_user {k who : Nat} {write : Bool}
    (h : (s.livB Reg.PROT_CTL Fld.PROT_CTL_EN && bit (s.liv (Reg.PROT_SLOT k 0)).toNat 0) = false) (hu : who < 48) :
    slotRefuses s k who write ≠ none := by
  simp [slotRefuses, h, isUser, hu]

theorem slotRefuses_of_privileged {k who : Nat} {write : Bool}
    (h : (s.livB Reg.PROT_CTL Fld.PROT_CTL_EN && bit (s.liv (Reg.PROT_SLOT k 0)).toNat 0) = false) (hu : 48 ≤ who) :
    slotRefuses s k who write = none ↔ defaultMap k who write = true := by
  simp [slotRefuses, h, isUser, Nat.not_lt.2 hu]

theorem sel_protCtlRule {q : Word → Bool} : (protCtlRule q).sel Reg.PROT_CTL v = true ↔ q v = true := by
  simp [protCtlRule]

theorem liveStep_protCtl {q : Word → Bool} (h : AtLive (protCtlRule q) s t w Reg.PROT_CTL v) {act : State → State}
    (he : protCtl v = act) :
    liveStep (protCtlRule q) s = .next (liveDone t Reg.PROT_CTL v act s) :=
  he ▸ liveStep_of_command h rfl

theorem protCtl_of_disable (h : fget v Fld.PROT_CTL_EN = 0) :
    protCtl v = fun k => k.setLivF Reg.PROT_CTL Fld.PROT_CTL_EN 0 := by
  funext k
  rw [protCtl, if_pos h]

theorem protCtl_of_unfenced (h : fget v Fld.PROT_CTL_EN = 1) (hf : fget v Fld.PROT_CTL_FENCE = 0) :
    protCtl v = fun k => k.setLivN Reg.PROT_STAT 1 := by
  funext k
  rw [protCtl, if_neg (by omega), if_pos hf]

theorem protCtl_of_fenced {lock : Nat} (h : fget v Fld.PROT_CTL_EN = 1) (hf : fget v Fld.PROT_CTL_FENCE = 1)
    (hl : fget v Fld.PROT_CTL_LOCK = lock) :
    protCtl v = fun k => (k.setLivF Reg.PROT_CTL Fld.PROT_CTL_EN 1).setLivF Reg.PROT_CTL Fld.PROT_CTL_LOCK lock := by
  funext k
  rw [protCtl, if_neg (by omega), if_neg (by omega), hl]

theorem setsLock_iff : setsLock v = true ↔
    fget v Fld.PROT_CTL_EN = 1 ∧ fget v Fld.PROT_CTL_FENCE = 1 ∧ fget v Fld.PROT_CTL_LOCK = 1 := by
  simp [setsLock, and_assoc]

/-- Settles O36: the fixed rules and the default map by their tests, PROT_CTL by what its value asks for. -/
theorem protectionUnit : Obligations.ProtectionUnit := by
  refine ⟨fun s who a => ⟨fun hw hk => ?_, fun h49 h51 => ?_, fun hw hk hm => ?_⟩,
    fun s who k write => ⟨fun h => ?_, slotRefuses_of_user, fun h h48 h55 => ?_, fun h h48 hk => ?_, fun h h48 hk => ?_⟩,
    fun s t w v => ⟨fun he h => ?_, fun he hf hl h => ?_, fun he hf h => ?_, fun h => ?_, fun hi ha hw hp hlock hv =>
      ⟨fun he => ?_, fun he hs => ?_, fun hs => ?_⟩⟩⟩
  · exact protRefuses_of_fixed ((fixedRefuses_iff _ _ _).2 (.inl ⟨rfl, hw, hk⟩))
  · exact protRefuses_of_fixed ((fixedRefuses_iff _ _ _).2 (.inr (.inl ⟨rfl, rfl, h49, h51⟩)))
  · exact protRefuses_of_fixed ((fixedRefuses_iff _ _ _).2 (.inr (.inr ⟨rfl, hk, hw, hm⟩)))
  · rw [slotRefuses_of_on h]
    cases maskBit s k who write <;> simp
  · rw [slotRefuses_of_privileged h h48]
    simp [defaultMap, h48, h55]
  · rw [slotRefuses_of_privileged h h48]
    simp [defaultMap, h48, hk]
    omega
  · rw [slotRefuses_of_privileged h h48]
    simp [defaultMap, h48, hk]
    omega
  · exact liveStep_protCtl h (protCtl_of_disable he)
  · exact liveStep_protCtl h (protCtl_of_fenced he hf hl)
  · exact liveStep_protCtl h (protCtl_of_unfenced he hf)
  · obtain ⟨-, -, -, hsel, -⟩ := id h
    obtain ⟨he, hf, hl⟩ := setsLock_iff.1 (sel_protCtlRule.1 hsel)
    exact liveStep_protCtl h (protCtl_of_fenced he hf hl)
  · exact liveStep_of_denied hi ha hv (by simp [protCtlRule, he]) hw hp hlock
  · exact liveStep_of_denied hi ha hv (by simp [protCtlRule, he, hs]) hw hp hlock
  · exact liveStep_of_denied hi ha hv (by simp [protCtlRule, hs]) hw hp hlock

end Sys2Proof.Machine
end

section
/-! PROOFS. The end of a cut's copy. -/

namespace Sys2Proof.Machine

/-- A cut's copy is in progress, and an MGMT packet of this node for itself waits for the internal reserve, which has room
for it. -/
def copyWithMgmt : State :=
  { State.reset with
    dir := { State.reset.dir with longop := some { kind := .cut, started := 0, byTake := false } }
    dp := { State.reset.dp with fab := { State.reset.dp.fab with
      mgmtOut := [{ type := 4, vc := 0, dnode := 0, snode := 0, len := 1, body := .mgmt 0 true 0 false [] }] } } }

/-- The MGMT packet leaves with the end of the copy (R292). -/
theorem cutCopyDone_copyWithMgmt : (match exec .cutCopyDone copyWithMgmt with
    | .next u => u.dp.fab.mgmtOut.isEmpty
    | _ => false) = true := by decide +kernel

/-- Refutes O18: CUT_COPY_DONE also lets the MGMT packets leave that wait for the internal reserve (R292), so that the data
path does not stay as it was where one waits. -/
theorem not_longOperationsEnd : ¬ Obligations.LongOperationsEnd := by
  intro h
  obtain ⟨u, hu, -, -, -, -, -, hdp⟩ := h.1 copyWithMgmt _ rfl rfl rfl rfl
  have hgone := cutCopyDone_copyWithMgmt
  rw [hu] at hgone
  exact absurd (hdp ▸ hgone : copyWithMgmt.dp.fab.mgmtOut.isEmpty = true) (by decide)

end Sys2Proof.Machine
end

section
/-! PROOFS. The upkeep of the device: scrubs, spared rows, uncorrectable errors of the register sets (R526, R564 to R567). -/

namespace Sys2Proof.Machine

variable {s u : State}

/-! ## Uncorrectable errors of the register sets -/

theorem OnlyEvents.regs (h : OnlyEvents s u) : ∃ l, u.regs = { s.regs with live := l } := by
  obtain ⟨l, _, _, _, rfl⟩ := h
  exact ⟨l, rfl⟩

theorem onlyLive_errLog (loc kind store : Nat) (s : State) : OnlyLive s (errLog loc kind store s) :=
  (onlyLive_setLivN s _ _).trans (onlyLive_setLivN _ _ _)

/-- The words of a set that hold an error. -/
def badWords (shadow : Bool) (s : State) : List Nat := if shadow then s.regs.badS else s.regs.badA

theorem configUe_of_known {shadow : Bool} {a : Nat} (h : a ∈ badWords shadow s) : configUe shadow a s = s :=
  if_pos (List.contains_iff_mem.2 h)

/-- A new error joins the list of its set; events and live words apart, nothing else changes. -/
theorem configUe_of_new {shadow : Bool} {a : Nat} (h : a ∉ badWords shadow s) :
    OnlyEvents { s with regs := if shadow then { s.regs with badS := s.regs.badS ++ [a] }
                                else { s.regs with badA := s.regs.badA ++ [a] } } (configUe shadow a s) := by
  have hn : ¬(badWords shadow s).contains a = true := fun hc => h (List.contains_iff_mem.1 hc)
  have he : configUe shadow a s = _ := if_neg hn
  rw [he]
  exact ((onlyLive_bump _ _ _).trans (onlyLive_errLog _ _ _ _)).events.trans (onlyEvents_devErr _ _)

/-- What an uncorrectable error of a word leaves of the register sets. -/
theorem configUe_regs (shadow : Bool) (a : Nat) (s : State) :
    (configUe shadow a s).regs.active = s.regs.active ∧ (configUe shadow a s).regs.shadow = s.regs.shadow ∧
    badWords (!shadow) (configUe shadow a s) = badWords (!shadow) s ∧
    ∀ b, b ∈ badWords shadow (configUe shadow a s) ↔ b = a ∨ b ∈ badWords shadow s := by
  by_cases h : a ∈ badWords shadow s
  · rw [configUe_of_known h]
    exact ⟨rfl, rfl, rfl, fun b => ⟨.inr, fun hb => hb.elim (fun e => e ▸ h) id⟩⟩
  · obtain ⟨l, hr⟩ := (configUe_of_new h).regs
    rw [badWords, badWords, hr]
    cases shadow
    · exact ⟨rfl, rfl, rfl, fun b => by simp [badWords, hr, or_comm]⟩
    · exact ⟨rfl, rfl, rfl, fun b => by simp [badWords, hr, or_comm]⟩

/-! ## The Drift scrub -/

theorem execDriftScrub_of_run {fixed : Bool} {ue : Option DriftUe}
    (h : fcstLevel s = 0 ∨ scrubLimit s ≤ max s.now (s.scrub.pass + dPos s * dPass s / 2 ^ 24)) :
    let k := scrubUnit (s.reach (max s.now (s.scrub.pass + dPos s * dPass s / 2 ^ 24)))
    let k := if fixed then k.bump Reg.GLB_DRIFT_CECCCNT else k
    execDriftScrub fixed ue s = .next (ue.elim k (fun u => driftBad u k)) := by
  have hn : ¬(1 ≤ fcstLevel s ∧ max s.now (s.scrub.pass + dPos s * dPass s / 2 ^ 24) < scrubLimit s) := by omega
  simp only [execDriftScrub, if_neg hn]
  cases ue <;> rfl

theorem execDriftScrub_of_putOff {fixed : Bool} {ue : Option DriftUe} (h : 1 ≤ fcstLevel s)
    (h' : max s.now (s.scrub.pass + dPos s * dPass s / 2 ^ 24) < scrubLimit s) : execDriftScrub fixed ue s = .next s := by
  simp only [execDriftScrub, if_pos (And.intro h h')]

/-- Settles O24: each command by the case that its state is in; the register sets by `configUe_regs`. -/
theorem upkeep : Obligations.Upkeep := by
  refine ⟨⟨fun s fs => ⟨_, _, rfl, rfl, rfl⟩, fun s n bad => ⟨_, rfl, rfl⟩,
    fun s fixed ue => ⟨execDriftScrub_of_run, execDriftScrub_of_putOff⟩, fun s => ⟨fun h => if_pos h, fun h => ?_⟩,
    fun s => ⟨fun h => ?_, fun h => ?_⟩, fun s x l h => ?_, fun s => rfl, fun s n l k h => ?_⟩,
    fun s shadow a => ?_⟩
  · exact if_neg (Nat.not_lt.2 h)
  · exact congrArg Host.Outcome.next (if_neg (Nat.pos_iff_ne_zero.1 h))
  · exact congrArg Host.Outcome.next (if_pos h)
  · show execDeferLimitExpire .sweep s = _
    simp only [execDeferLimitExpire, h]
  · show execDeferLimitExpire (.readapt n l) s = _
    simp only [execDeferLimitExpire, h]
  · obtain ⟨hact, hshd, hother, hmem⟩ := configUe_regs shadow a s
    refine ⟨hact, hshd, ?_, ?_, ?_, ?_⟩
    · rintro rfl
      exact ⟨hother, (hmem a).2 (.inl rfl), hmem⟩
    · rintro rfl
      exact ⟨hother, (hmem a).2 (.inl rfl), hmem⟩
    · rintro rfl h
      exact configUe_of_known h
    · rintro rfl h
      exact configUe_of_known h

end Sys2Proof.Machine
end

section
/-! PROOFS. Reference clocks and fabric time (R107, R249 to R252, R568, R569). -/

namespace Sys2Proof.Machine

variable {s u : State}

/-! ## Reference clocks -/

section Refclk

variable {r : Fin 3} (hw : watched s r.val = true)
include hw

/-- The state in which a reference that is lost no longer reads valid. -/
def refLost (s : State) (r : Nat) : State := s.setLivF Reg.GLB_CLK_STAT (refOk r) 0

theorem execRefclkLoss_of_taken (hr : r.val < 2) (hv : s.livB Reg.GLB_CLK_STAT (refOk r.val) = true)
    (ho : (refLost s r.val).livB Reg.GLB_CLK_STAT (refOk (1 - r.val)) = true)
    (hwo : watched (refLost s r.val) (1 - r.val) = true) (hu : refUse (refLost s r.val) = r.val) :
    execRefclkLoss r s = .next ((((refLost s r.val).setLivF Reg.GLB_CLK_STAT Fld.GLB_CLK_STAT_USE (1 - r.val)).devErr
      (refCause r.val)).logDevice 511) := by
  have h2 : r.val ≠ 2 := by omega
  unfold refLost at *
  simp only [execRefclkLoss, hw, hv, Bool.and_self, if_true, if_neg h2, ho, hwo, hu, Bool.not_true, Bool.and_false,
    Bool.false_eq_true, if_false, beq_self_eq_true]
  rfl

theorem execRefclkLoss_of_notTaken (hr : r.val < 2) (hv : s.livB Reg.GLB_CLK_STAT (refOk r.val) = true)
    (ho : (refLost s r.val).livB Reg.GLB_CLK_STAT (refOk (1 - r.val)) = true)
    (h : watched (refLost s r.val) (1 - r.val) = false ∨ refUse (refLost s r.val) ≠ r.val) :
    execRefclkLoss r s = .next ((refLost s r.val).devErr (refCause r.val)) := by
  have h2 : r.val ≠ 2 := by omega
  unfold refLost at *
  simp only [execRefclkLoss, hw, hv, Bool.and_self, if_true, if_neg h2, ho, Bool.true_and]
  cases hwo : watched (s.setLivF Reg.GLB_CLK_STAT (refOk r.val) 0) (1 - r.val) with
  | false => rfl
  | true =>
    have hu : (refUse (s.setLivF Reg.GLB_CLK_STAT (refOk r.val) 0) == r.val) = false :=
      beq_false_of_ne (h.resolve_left (by simp [hwo]))
    simp only [hu, Bool.not_true, Bool.false_eq_true, if_false]

theorem execRefclkLoss_of_noRef (hr : r.val < 2) (hv : s.livB Reg.GLB_CLK_STAT (refOk r.val) = true)
    (ho : (refLost s r.val).livB Reg.GLB_CLK_STAT (refOk (1 - r.val)) = false) :
    execRefclkLoss r s = .next (((refLost s r.val).setLivF Reg.GLB_ERR_STAT Fld.GLB_ERR_STAT_NOREF 1).devErr
      (refCause r.val)) := by
  have h2 : r.val ≠ 2 := by omega
  unfold refLost at *
  simp only [execRefclkLoss, hw, hv, Bool.and_self, if_true, if_neg h2, ho, Bool.false_and, Bool.false_eq_true, if_false]

/-- The state in which a reference that has stayed within limits for 1 ms reads valid. -/
def refBack (s : State) (r : Nat) : State := (s.advance 1000000).setLivF Reg.GLB_CLK_STAT (refOk r) 1

theorem execRefclkRevalid_of_invalid (hv : s.livB Reg.GLB_CLK_STAT (refOk r.val) = false) :
    execRefclkRevalid r s = .next (
      if r.val = 2 then (refBack s r.val).setLivF Reg.GLB_CLK_STAT Fld.GLB_CLK_STAT_FSYN 0
      else if refUse (refBack s r.val) ≠ r.val ∧ !(refBack s r.val).livB Reg.GLB_CLK_STAT (refOk (1 - r.val)) then
        refMove r.val true (refBack s r.val)
      else refBack s r.val) :=
  congrArg Host.Outcome.next (if_pos (by rw [hw, hv]; rfl))

end Refclk

theorem refMove_device (r : Nat) (s : State) :
    refMove r true s = (s.setLivF Reg.GLB_CLK_STAT Fld.GLB_CLK_STAT_USE r).logDevice 511 := by
  have h : gEvt 31 = 511 := rfl
  rw [refMove, if_pos rfl, h]

theorem execRefclkLoss_fref (hw : watched s 2 = true) (hv : s.livB Reg.GLB_CLK_STAT Fld.GLB_CLK_STAT_FOK = true) :
    execRefclkLoss 2 s = .next (((s.setLivF Reg.GLB_CLK_STAT Fld.GLB_CLK_STAT_FOK 0).setLivF
      Reg.GLB_CLK_STAT Fld.GLB_CLK_STAT_FSYN 1).devErr Fld.GLB_ERR_STAT_FREF) := by
  have h : (watched s (2 : Fin 3).val && s.livB Reg.GLB_CLK_STAT (refOk (2 : Fin 3).val)) = true := by
    rw [Bool.and_eq_true]
    exact ⟨hw, hv⟩
  rw [execRefclkLoss, if_pos h]
  rfl

theorem refOk_mod_two (x : Nat) :
    refOk (x % 2) = if x % 2 = 0 then Fld.GLB_CLK_STAT_AOK else Fld.GLB_CLK_STAT_BOK := by
  rcases Nat.mod_two_eq_zero_or_one x with h | h <;> rw [h] <;> rfl

/-! ## Fabric time -/

theorem sourceSync_ft (s : State) : (sourceSync s).ft = s.ft := by
  unfold sourceSync
  split <;> rfl

theorem sourceSync_dp (s : State) : (sourceSync s).dp = s.dp := by
  unfold sourceSync
  split <;> rfl

theorem loadFt_ft (x : Nat) (s : State) : (loadFt x s).ft = x % 2 ^ 64 := sourceSync_ft _

theorem loadFt_time (x : Nat) (s : State) :
    (loadFt x s).dp.time.loaded = true ∧ (loadFt x s).dp.time.waitLoad = none := by
  rw [loadFt, sourceSync_dp]
  exact ⟨rfl, rfl⟩

/-- What a write of GLB_FT_SET_HI does (R249). -/
def ftSetAct (v : Word) (k : State) : State :=
  let k := k.setLiv Reg.GLB_FT_SET_HI v
  if !isSource k then k
  else if ppsEn k then k.onTime (fun r => { r with waitLoad := some (k.liv64 Reg.GLB_FT_SET_LO) })
  else loadFt (k.liv64 Reg.GLB_FT_SET_LO) k

section FtSet

variable {k : State} {v : Word}

theorem ftSetAct_of_follower (hs : isSource k = false) : ftSetAct v k = k.setLiv Reg.GLB_FT_SET_HI v :=
  if_pos (by rw [show isSource (k.setLiv Reg.GLB_FT_SET_HI v) = isSource k from rfl, hs]; rfl)

theorem ftSetAct_of_pps (hs : isSource k = true) (hp : ppsEn k = true) :
    ftSetAct v k = (k.setLiv Reg.GLB_FT_SET_HI v).onTime (fun r => { r with
      waitLoad := some ((k.setLiv Reg.GLB_FT_SET_HI v).liv64 Reg.GLB_FT_SET_LO) }) := by
  have hs' : isSource (k.setLiv Reg.GLB_FT_SET_HI v) = true := hs
  have hp' : ppsEn (k.setLiv Reg.GLB_FT_SET_HI v) = true := hp
  simp only [ftSetAct, hs', hp', Bool.not_true, Bool.false_eq_true, if_false, if_true]

theorem ftSetAct_of_load (hs : isSource k = true) (hp : ppsEn k = false) :
    ftSetAct v k =
      loadFt ((k.setLiv Reg.GLB_FT_SET_HI v).liv64 Reg.GLB_FT_SET_LO) (k.setLiv Reg.GLB_FT_SET_HI v) := by
  have hs' : isSource (k.setLiv Reg.GLB_FT_SET_HI v) = true := hs
  have hp' : ppsEn (k.setLiv Reg.GLB_FT_SET_HI v) = false := hp
  simp only [ftSetAct, hs', hp', Bool.not_true, Bool.false_eq_true, if_false]

end FtSet

/-- The rate after a slew lies within 100 ppm of the free-running one. -/
theorem slewBy_time (phase : Int) (s : State) :
    (slewBy phase s).dp.time.slew = phase ∧ (slewBy phase s).dp.time.rate.natAbs ≤ 100000 := by
  have h : Config.free s.fresh % 200001 < 200001 := Nat.mod_lt _ (by decide)
  refine ⟨rfl, ?_⟩
  show (((Config.free s.fresh % 200001 : Nat) : Int) - 100000).natAbs ≤ 100000
  omega

/-- The state in which an edge of PPS_IN has been noted. -/
def ppsNoted (s : State) : State :=
  (s.setLivF Reg.GLB_FT_STAT Fld.GLB_FT_STAT_PPSOK 1).onTime (fun r => { r with ppsAt := some s.now })

theorem execPpsInEdge_of_follower (h : (isSource s && ppsEn s) = false) : execPpsInEdge s = .next (sourceSync (ppsNoted s)) :=
  congrArg Host.Outcome.next (if_neg (Bool.eq_false_iff.1 h))

theorem execPpsInEdge_of_source (hs : isSource s = true) (hp : ppsEn s = true) :
    execPpsInEdge s = .next (match s.dp.time.waitLoad with
      | some t => loadFt t (ppsNoted s)
      | none => sourceSync (if s.dp.time.loaded then slewBy (toSecond s.ft) (ppsNoted s) else ppsNoted s)) := by
  have h : (isSource s && ppsEn s) = true := by rw [hs, hp, Bool.and_self]
  exact congrArg Host.Outcome.next (if_pos h)

/-- A follower's period has ended. -/
def periodEnded (s : State) : State :=
  let r := s.reach (s.dp.time.at_ + 2 ^ min 10 (s.actF Reg.GLB_FT_CTL Fld.GLB_FT_CTL_PERIOD) * 1000)
  r.onTime (fun x => { x with at_ := r.now })

/-- An exchange of port `f` of station `n` that has had no valid response is a miss. -/
def missCounted (n f : Nat) (r : State) : State :=
  if (r.lnk n f).tsT1.isSome || (r.lnk n f).tsReq then
    let m := r.dp.time.misses + 1
    let missed := r.onTime (fun x => { x with misses := m, good := 0 })
    if 8 ≤ m then syncClear missed else missed
  else r

theorem execTimeSyncPeriod_of_follower (hs : isSource s = false) (hn : (parentPort s).1 < 24) :
    execTimeSyncPeriod s = .next (
      let n := (parentPort s).1
      let f := (parentPort s).2
      let k := missCounted n f (periodEnded s)
      if fabPort k.act n f && decide (k.flState n f = 3) then
        k.onLnk n f (fun l => { l with tsReq := true, tsTag := !l.tsTag, tsT1 := none })
      else k) := by
  have h : ¬(isSource s || decide (24 ≤ (parentPort s).1)) = true := by simp [hs, hn]
  exact congrArg Host.Outcome.next (if_neg h)

/-- Settles O25: the clocks by the cases of a loss and of a return, fabric time by what a load and a slew leave. -/
theorem clocksAndFabricTime : Obligations.ClocksAndFabricTime := by
  refine ⟨⟨fun s => execRefclkLoss_fref, fun s r hr hw hv => ⟨execRefclkLoss_of_taken hw hr hv,
      execRefclkLoss_of_notTaken hw hr hv, execRefclkLoss_of_noRef hw hr hv⟩, fun s r hw hv => ⟨fun h => ?_, fun h hm => ?_,
      fun h hm => ?_⟩, fun s t w v h => ?_⟩,
    fun s t w v h => ⟨ftSetAct v, liveStep_of_command h rfl, fun k => ⟨fun hs => ?_, fun hs hp => ?_, fun hs hp => ?_⟩⟩,
    fun s x hs hp hx => ⟨_, ?_, loadFt_ft x (ppsNoted s), (loadFt_time x (ppsNoted s)).2, (loadFt_time x (ppsNoted s)).1⟩,
    fun s hs hp hx hl =>
      ⟨sourceSync (slewBy (toSecond s.ft) (ppsNoted s)), ?_, ?_, ?_, ?_, ?_⟩, fun s => execPpsInEdge_of_follower, fun s k hk hp => ?_, fun s => rfl,
    fun s hs hn => ⟨fun hf h3 => ?_, fun hno => ?_⟩⟩
  · exact (execRefclkRevalid_of_invalid hw hv).trans (congrArg Host.Outcome.next (if_pos h))
  · refine (execRefclkRevalid_of_invalid hw hv).trans (congrArg Host.Outcome.next ?_)
    rw [if_neg h, if_pos ⟨hm.1, by rw [refBack, hm.2]; rfl⟩, refMove_device, refBack]
  · refine (execRefclkRevalid_of_invalid hw hv).trans (congrArg Host.Outcome.next ?_)
    rw [if_neg h, if_neg fun hn => hm ⟨hn.1, by simpa [refBack] using hn.2⟩, refBack]
  · refine liveStep_of_command h (congrArg command (funext fun k => ?_))
    rw [← refOk_mod_two]
    rfl
  · exact ftSetAct_of_follower hs
  · rw [ftSetAct_of_pps hs hp]
    exact ⟨rfl, rfl⟩
  · rw [ftSetAct_of_load hs hp]
    exact ⟨loadFt_ft _ _, loadFt_time _ _⟩
  · refine (execPpsInEdge_of_source hs hp).trans ?_
    rw [hx]
  · refine (execPpsInEdge_of_source hs hp).trans ?_
    rw [hx, hl, if_pos rfl]
  · exact sourceSync_ft _
  · rw [sourceSync_dp]
    exact (slewBy_time _ _).1
  · rw [sourceSync_dp]
    exact (slewBy_time _ _).2
  · rw [sourceSync_dp]
    rfl
  · show execPpsokExpire s = _
    rw [execPpsokExpire, hk]
    exact congrArg Host.Outcome.next (if_pos hp)
  · refine (execTimeSyncPeriod_of_follower hs hn).trans (congrArg Host.Outcome.next ?_)
    exact if_pos (Bool.and_eq_true_iff.2 ⟨hf, decide_eq_true h3⟩)
  · refine (execTimeSyncPeriod_of_follower hs hn).trans (congrArg Host.Outcome.next ?_)
    exact if_neg fun h => hno ⟨(Bool.and_eq_true_iff.1 h).1, of_decide_eq_true (Bool.and_eq_true_iff.1 h).2⟩

end Sys2Proof.Machine
end

section
/-! PROOFS. Warm resets. -/

namespace Sys2Proof.Machine

/-- A device that a warm reset holds, whose live words are not in canonical form: GLB_STRAP is listed behind GLB_RSTCAUSE and
so reads as reset. -/
def heldUnsorted : State :=
  { State.reset with
    regs := { State.reset.regs with live := [(Reg.GLB_RSTCAUSE, 16), (Reg.GLB_STRAP, 16)] }
    rst := { State.reset.rst with warm := .held } }

/-- GLB_STRAP.TEST reads 0 before the release; once FALLBACK is cleared it reads 1, and no boot follows. -/
theorem warmRstRelease_heldUnsorted : heldUnsorted.livB Reg.GLB_STRAP Fld.GLB_STRAP_TEST = false ∧
    (match exec .warmRstRelease heldUnsorted with
      | .next u => u.boot.step == 10
      | _ => false) = true := by decide +kernel

/-- Refutes O29: the clause about the release of WARM_RST_N has no premise that the register tables are in canonical form.
Where they are not, the write of GLB_RSTCAUSE can change how GLB_STRAP reads, and with it the step at which the boot restarts. -/
theorem not_warmAndStationResets : ¬ Obligations.WarmAndStationResets := by
  rintro ⟨⟨-, -, h, -⟩, -⟩
  obtain ⟨u, hu, hstep, -⟩ := h heldUnsorted rfl rfl
  obtain ⟨htest, hten⟩ := warmRstRelease_heldUnsorted
  rw [hu] at hten
  rw [htest] at hstep
  exact absurd (hstep.symm.trans (beq_iff_eq.1 hten)) (by decide)

end Sys2Proof.Machine
end

section
/-! PROOFS. Steps, the instructions of a take, its waits and its endings. -/

namespace Sys2Proof.Machine

variable {s u : State} {t : Take} {w op rsv : Nat}

/-! ## A step, and a tick of the timebase -/

/-- Settles O1: `step` is defined by the queue's front. -/
theorem stepRunsFrontCommand : Obligations.StepRunsFrontCommand := by
  intro c rest s h
  rw [step, h]

/-- `k` ns pass on the 1 GHz timebase. -/
theorem now_advance {k : Nat} (hk : k ≠ 0) (s : State) : (s.advance k).now = s.now + k := by
  have hnow {a b : State} (h : OnlyLive a b) : b.now = a.now := by
    obtain ⟨_, rfl⟩ := h
    rfl
  rw [State.advance, if_neg hk, hnow (forUpto_rel OnlyLive.refl OnlyLive.trans (onlyLive_fixTick k) 74 _)]
  have hbw (r : State) : (driftBw k r).now = r.now := by
    unfold driftBw
    extract_lets d rate
    split <;> rfl
  show (driftBw k _).now + k = _
  rw [hbw, hnow (forUpto_rel OnlyLive.refl OnlyLive.trans (onlyLive_tickWaits k) 74 s)]

/-- Settles O2: a tick changes what time touches alone. -/
theorem emptyQueueTicks : Obligations.EmptyQueueTicks := by
  intro s h
  have hnow := now_advance Nat.one_ne_zero s
  obtain ⟨_, _, _, _, _, hu⟩ := onlyTime_advance s 1
  refine ⟨s.advance 1, by rw [step, h], hnow, ?_⟩
  rw [hu]
  exact ⟨h, rfl, rfl, rfl, rfl, rfl, rfl, rfl⟩

/-! ## Results in general registers (R37 to R39) -/

/-- An instruction that only writes `v` to Gd. -/
theorem insn_of_result {f : Take → Nat → State → DWord} (h : AtInsn s t w op rsv) (hpc : t.pc + 1 < t.code.length) :
    insn op rsv (fun t w s => retireG t (fD w) (f t w s) s) s = .next (goesOn (t.setG (fD w) (f t w s)) (t.pc + 1) s) := by
  rw [insn_of_atInsn h _ _ rfl, retireG_of_lt _ _ _ hpc]

/-- A written general register reads as written, and every other one as before. -/
theorem Take.g_setG (d e : Nat) (v : DWord) (h : Tab.wf (fun _ => (0 : DWord)) t.regs = true) :
    (t.setG d v).g e = if e = 0 then 0 else if e = d then v else t.g e := by
  unfold Take.setG Take.g
  by_cases he : e = 0
  · simp [he]
  by_cases hd : d = 0
  · simp [hd, he]
  by_cases hed : e = d
  · rw [if_neg hd, if_neg he, if_neg he, if_pos hed, hed]
    exact Tab.get_set_self d v (Tab.wf_rises h)
  · simp [he, hd, hed, Tab.get, Tab.find_set_ne v hed (Tab.wf_rises h)]

theorem Take.canon_setG (d : Nat) (v : DWord) (h : t.canon = true) : (t.setG d v).canon = true := by
  obtain ⟨hregs, hckpt⟩ := Bool.and_eq_true_iff.1 h
  unfold Take.setG
  split
  · exact h
  · exact Bool.and_eq_true_iff.2 ⟨Tab.wf_set (d := fun _ => (0 : DWord)) d v hregs, hckpt⟩

theorem Take.setG_frame (t : Take) (d : Nat) (v : DWord) :
    (t.setG d v).pc = t.pc ∧ (t.setG d v).stack = t.stack ∧ (t.setG d v).journal = t.journal := by
  unfold Take.setG
  split <;> exact ⟨rfl, rfl, rfl⟩

theorem mul_eq_ofNat (a b : DWord) : a * b = BitVec.ofNat 64 (a.toNat * b.toNat) := by
  apply BitVec.eq_of_toNat_eq
  simp [BitVec.toNat_mul]

theorem alu_of_atInsn {f : DWord → DWord → DWord} (h : AtInsn s t w op 0x7FF) (hpc : t.pc + 1 < t.code.length) :
    alu op f s = .next (goesOn (t.setG (fD w) (f (t.g (fA w)) (t.g (fB w)))) (t.pc + 1) s) :=
  insn_of_result (f := fun t w _ => f (t.g (fA w)) (t.g (fB w))) h hpc

theorem aluI_of_atInsn {f : DWord → Nat → DWord} (h : AtInsn s t w op rsv) (hpc : t.pc + 1 < t.code.length) :
    aluI op rsv f s = .next (goesOn (t.setG (fD w) (f (t.g (fA w)) (fImm w))) (t.pc + 1) s) :=
  insn_of_result (f := fun t w _ => f (t.g (fA w)) (fImm w)) h hpc

/-- The half of Gd that LDI with L = 0 writes. -/
theorem execLdiLo_of_atInsn (h : AtInsn s t w 0x10 0x1E0000) (hpc : t.pc + 1 < t.code.length) :
    execLdiLo s = .next (goesOn (t.setG (fD w) (if bit w 16 then put16 (t.g (fD w)) 16 (fImm w)
      else BitVec.ofNat 64 (fImm w))) (t.pc + 1) s) :=
  insn_of_result (f := fun t w _ => if bit w 16 then put16 (t.g (fD w)) 16 (fImm w) else BitVec.ofNat 64 (fImm w)) h hpc

/-- The half of Gd that LDI with L = 1 writes. -/
theorem execLdiHi_of_atInsn (h : AtInsn s t w 0x11 0x1E0000) (hpc : t.pc + 1 < t.code.length) :
    execLdiHi s = .next (goesOn (t.setG (fD w) (put16 (t.g (fD w)) (if bit w 16 then 48 else 32) (fImm w)))
      (t.pc + 1) s) :=
  insn_of_result (f := fun t w _ => put16 (t.g (fD w)) (if bit w 16 then 48 else 32) (fImm w)) h hpc

theorem execNow_of_atInsn (h : AtInsn s t w 0x24 0x1FFFFF) (hpc : t.pc + 1 < t.code.length) :
    execNow s = .next (goesOn (t.setG (fD w) (BitVec.ofNat 64 s.ft)) (t.pc + 1) s) :=
  insn_of_result (f := fun _ _ s => BitVec.ofNat 64 s.ft) h hpc

theorem execNop_of_atInsn (h : AtInsn s t w 0x00 0x3FFFFFF) : execNop s = .next (retire t s) :=
  insn_of_atInsn h _ _ rfl

/-- Settles O3: each of these instructions is the equation of its kind with its own value. -/
theorem registerResults : Obligations.RegisterResults := by
  refine ⟨fun s t w hpc => ?_, fun s t w hpc => ?_, fun t d e v hc => ?_⟩
  · refine ⟨fun h => ?_, fun h => ?_, fun h => ?_, fun h => ?_, fun h => ?_, fun h => ?_, fun h => ?_, fun h => ?_,
      fun h => ?_⟩
    · show execAdd s = _
      rw [execAdd, alu_of_atInsn h hpc]
    · show execSub s = _
      rw [execSub, alu_of_atInsn h hpc]
    · show execAnd s = _
      rw [execAnd, alu_of_atInsn h hpc]
    · show execOr s = _
      rw [execOr, alu_of_atInsn h hpc]
    · show execXor s = _
      rw [execXor, alu_of_atInsn h hpc]
    · show execShl s = _
      rw [execShl, alu_of_atInsn h hpc, shamt]
    · show execShr s = _
      rw [execShr, alu_of_atInsn h hpc, shamt]
    · show execSar s = _
      rw [execSar, alu_of_atInsn h hpc, shamt]
    · show execMul s = _
      rw [execMul, alu_of_atInsn h hpc, mul_eq_ofNat]
  · refine ⟨fun h => ?_, fun h => ?_, fun h => ?_, fun h => ?_, fun h => ?_, fun h => ?_, fun h hb => ?_, fun h hb => ?_,
      fun h hb => ?_, fun h hb => ?_, fun h => ?_, fun h => ?_⟩
    · show execAddi s = _
      rw [execAddi, aluI_of_atInsn h hpc, sext16]
    · show execAndi s = _
      rw [execAndi, aluI_of_atInsn h hpc]
    · show execOri s = _
      rw [execOri, aluI_of_atInsn h hpc]
    · show execXori s = _
      rw [execXori, aluI_of_atInsn h hpc]
    · show execShli s = _
      rw [execShli, aluI_of_atInsn h hpc]
    · show execShri s = _
      rw [execShri, aluI_of_atInsn h hpc]
    · show execLdiLo s = _
      rw [execLdiLo_of_atInsn h hpc, hb, if_neg Bool.false_ne_true]
    · show execLdiLo s = _
      rw [execLdiLo_of_atInsn h hpc, hb, if_pos rfl, put16]
    · show execLdiHi s = _
      rw [execLdiHi_of_atInsn h hpc, hb, if_neg Bool.false_ne_true, put16]
    · show execLdiHi s = _
      rw [execLdiHi_of_atInsn h hpc, hb, if_pos rfl, put16]
    · show execNow s = _
      rw [execNow_of_atInsn h hpc]
    · show execNop s = _
      rw [execNop_of_atInsn h, retire_of_lt s hpc]
  · obtain ⟨hpc, hstack, hjournal⟩ := t.setG_frame d v
    exact ⟨Take.g_setG d e v (Bool.and_eq_true_iff.1 hc).1, Take.canon_setG d v hc, hpc, hstack, hjournal⟩

end Sys2Proof.Machine
end

section
/-! PROOFS. Branches, waits and the endings of a take. -/

namespace Sys2Proof.Machine

variable {s u : State} {t : Take} {w : Nat}

/-! ## Branches, calls and returns (R39, R40) -/

theorem execBr_of_atInsn (h : AtInsn s t w 0x1C 0) : execBr s = .next (goTo t (target t 26 (bits w 0 26)) s) :=
  insn_of_atInsn h _ _ rfl

/-- A CALL with room on the stack to an index within the take. -/
theorem execCall_of_inside (h : AtInsn s t w 0x1E 0) (hroom : t.stack.length < 8)
    (hlo : 0 ≤ target t 26 (bits w 0 26)) (hhi : target t 26 (bits w 0 26) < t.code.length) :
    execCall s = .next (goesOn { t with stack := (t.pc + 1) :: t.stack } (target t 26 (bits w 0 26)).toNat s) := by
  rw [execCall, insn_of_atInsn h _ _ rfl, if_neg (Nat.not_le.2 hroom)]
  simp only [if_pos (And.intro hlo hhi)]
  exact congrArg _ (goTo_of_inside s hlo hhi)

/-- A ninth nested CALL, and one to an index outside the take. -/
theorem execCall_of_illegal (h : AtInsn s t w 0x1E 0) (hout : 8 ≤ t.stack.length ∨
    ¬(0 ≤ target t 26 (bits w 0 26) ∧ target t 26 (bits w 0 26) < t.code.length)) :
    execCall s = .next (endsWith t .illegal s) := by
  rw [execCall, insn_of_atInsn h _ _ rfl, ← endTake_eq_endsWith .illegal (take_of_fetch h.1)]
  by_cases hfull : 8 ≤ t.stack.length
  · rw [if_pos hfull]
  · rw [if_neg hfull]
    simp only [if_neg (hout.resolve_left hfull)]

theorem execRet_of_atInsn (h : AtInsn s t w 0x1F 0x3FFFFFF) : execRet s = .next (match t.stack with
    | [] => endTake .illegal s
    | pc :: rest => if pc < t.code.length then goTo { t with stack := rest } pc s else endTake .illegal s) :=
  insn_of_atInsn h _ _ rfl

/-- The executing take stands in the state already. -/
theorem setTake_take_self (h : s.dir.take = some t) : s.setTake (some t) = s := by
  show { s with dir := { s.dir with take := some t } } = s
  rw [← h]

/-- Execution past the last index (R40). -/
theorem retire_of_ge (h : s.dir.take = some t) (hpc : t.code.length ≤ t.pc + 1) :
    retire t s = endTake .illegal (countInstr t s) := by
  rw [retire, if_neg (Nat.not_lt.2 hpc), setTake_take_self h]

/-- Counting a retired instruction leaves the Director's record. -/
theorem countInstr_dir (t : Take) (s : State) : (countInstr t s).dir = s.dir := (onlyLive_countInstr t s).events.log.dir

/-- A take that still executes after an instruction went on to the next one. -/
theorem retire_take {t' : Take} (h : (retire t s).dir.take = some t') :
    t.pc + 1 < t.code.length ∧ t' = { t with pc := t.pc + 1 } := by
  by_cases hpc : t.pc + 1 < t.code.length
  · rw [retire_of_lt s hpc, goesOn, countInstr_dir] at h
    exact ⟨hpc, (Option.some.inj h).symm⟩
  · have ht : (countInstr t (s.setTake (some t))).dir.take = some t := by rw [countInstr_dir]; rfl
    rw [retire, if_neg hpc, endTake_eq_endsWith .illegal ht, endsWith, (answerTake_frame ..).1] at h
    cases h

/-! ## Waits (R47 to R49, R61) -/

/-- A wait ends where the take then goes on, before its limit; else at its limit with TIMEOUT. -/
theorem waited_of_lt {go : State → State} (h : u.now < t.limitAt) : waited t u go s = stallTake (go u) := if_pos h

theorem waited_of_ge {go : State → State} (h : t.limitAt ≤ u.now) :
    waited t u go s = endTake .timeout (s.reach t.limitAt) := if_neg (Nat.not_lt.2 h)

theorem execWaittElapse_of_wait {k : Nat} (ht : s.dir.take = some t) (hl : s.dir.longop = none) (hw : t.wait = .time k) :
    execWaittElapse s = .next (waited t (s.reachFt k) (retire { t with wait := .none }) s) := by
  simp only [execWaittElapse, ht, hl, hw]

theorem execWaitcueTimeout_of_wait {l k gd : Nat} (ht : s.dir.take = some t) (hl : s.dir.longop = none)
    (hw : t.wait = .cue l k gd) :
    execWaitcueTimeout s = .next (waited t (s.reach k) (retireG { t with wait := .none } gd 0) s) := by
  simp only [execWaitcueTimeout, ht, hl, hw]
  rfl

theorem execWaitt_of_atInsn (h : AtInsn s t w 0x25 0x3E0FFFF) : execWaitt s = .next (
    if (t.g (fA w)).toNat ≤ s.ft then retire t s
    else if t.startFt + 2000000 < (t.g (fA w)).toNat then endTake .timeout s
    else s.setTake (some { t with wait := .time (t.g (fA w)).toNat })) :=
  insn_of_atInsn h _ _ rfl

theorem execWaitcue_of_atInsn (h : AtInsn s t w 0x28 0x100000) : execWaitcue s = .next (
    if bits w 0 12 = 0 ∨ 2000 < bits w 0 12 then endTake .illegal s
    else if cueMay s (originPart t.origin) (bits w 12 8) then
      s.setTake (some { t with wait := .cue (bits w 12 8) (s.now + bits w 0 12 * 1000) (fD w) })
    else endTake .protect s) :=
  insn_of_atInsn h _ _ rfl

theorem execFirecue_of_may (h : AtInsn s t w 0x29 0x3F00FFF)
    (hmay : cueMay s (originPart t.origin) (bits w 12 8) = true) :
    execFirecue s = .next (retireMark t (cueAccept (bits w 12 8) s)) := by
  rw [execFirecue, insn_of_atInsn h _ _ rfl]
  simp only [hmay, if_true]

/-- A pulse that finds fewer than 64 waiting joins them (R467). -/
theorem cueAccept_of_lt {l : Nat} (h : Tab.get 0 s.cues.waiting l < 64) : cueAccept l s =
    { s with cues := { s.cues with waiting := Tab.put s.cues.waiting l (Tab.get 0 s.cues.waiting l + 1) } } := by
  unfold cueAccept
  simp only [if_pos h, Tab.set, Nat.add_one_ne_zero, if_false]

/-- An instruction that retires with a checkpoint changes the count of retired instructions and the take's record alone. -/
theorem retireMark_of_lt (s : State) (h : t.pc + 1 < t.code.length) :
    retireMark t s = (goesOn t (t.pc + 1) s).setTake
      (some (Take.mark { t with pc := t.pc + 1 } (goesOn t (t.pc + 1) s).now)) := by
  unfold retireMark
  rw [retire_of_lt s h]
  have ht : (goesOn t (t.pc + 1) s).dir.take = some { t with pc := t.pc + 1 } := by rw [goesOn, countInstr_dir]; rfl
  simp only [ht]

theorem retireMark_frame_of_lt (s : State) (h : t.pc + 1 < t.code.length) :
    ∃ l d, retireMark t s = { s with regs := { s.regs with live := l }, dir := d } := by
  rw [retireMark_of_lt s h, goesOn]
  obtain ⟨l, hl⟩ := onlyLive_countInstr t (s.setTake (some { t with pc := t.pc + 1 }))
  rw [hl]
  exact ⟨_, _, rfl⟩

/-- Settles O5: each ending is the equation of its instruction or of the end of its wait. -/
theorem controlFlowAndWaits : Obligations.ControlFlowAndWaits := by
  refine ⟨fun s t w => ⟨fun h hlo hhi => ?_, fun h hroom hlo hhi => ?_, fun pc rest h hst hpc => ?_⟩,
    ⟨fun s t w => ⟨fun h hout => ?_, fun h hc hout => ?_, fun h hout => ?_, fun h hfull => ?_, fun h hst => ?_,
      fun pc rest h hst hpc => ?_, fun h hpc => ?_⟩, fun s t w u t' h hc hd hu ht => ?_⟩,
    fun s t w => ⟨fun h hg hpc => ?_, fun h hft hlate => ?_, fun h hft hin => ?_,
      fun k ht hl hw hpc => ⟨fun hlt => ?_, fun hge => ?_⟩, fun h hlo hhi hmay => ?_, fun h hbad => ?_,
      fun l k gd ht hl hw hpc => ⟨fun hlt => ?_, fun hge => ?_⟩, fun h hmay hpc hlt => ?_⟩⟩
  · show execBr s = _
    rw [execBr_of_atInsn h]
    exact congrArg _ (goTo_of_inside s hlo hhi)
  · exact execCall_of_inside h hroom hlo hhi
  · show execRet s = _
    simp only [execRet_of_atInsn h, hst, if_pos hpc]
    rw [goTo_of_inside (t := { t with stack := rest }) s (Int.natCast_nonneg pc) (Int.ofNat_lt.2 hpc), Int.toNat_natCast]
  · show execBr s = _
    rw [execBr_of_atInsn h]
    exact congrArg _ (goTo_of_outside s hout)
  · rw [exec_brc, execBrc_of_atInsn h, if_pos hc]
    exact congrArg _ (goTo_of_outside s hout)
  · exact execCall_of_illegal h (.inr hout)
  · exact execCall_of_illegal h (.inl hfull)
  · show execRet s = _
    simp only [execRet_of_atInsn h, hst]
    rw [endTake_eq_endsWith .illegal (take_of_fetch h.1)]
  · show execRet s = _
    simp only [execRet_of_atInsn h, hst, if_neg (Nat.not_lt.2 hpc)]
    rw [endTake_eq_endsWith .illegal (take_of_fetch h.1)]
  · show execNop s = _
    rw [execNop_of_atInsn h, retire_of_ge (take_of_fetch h.1) hpc]
  · have hadd : exec .add s = .next (retireG t (fD w) (t.g (fA w) + t.g (fB w)) s) := by
      show execAdd s = _
      exact insn_of_atInsn h _ _ rfl
    rw [hadd] at hu
    cases hu
    obtain ⟨-, rfl⟩ := retire_take ht
    have hg := Take.g_setG (fD w) (fD w) (t.g (fA w) + t.g (fB w)) (Bool.and_eq_true_iff.1 hc).1
    rw [if_neg hd, if_pos rfl] at hg
    show ((t.setG (fD w) (t.g (fA w) + t.g (fB w))).g (fD w)).toNat = _
    rw [hg, BitVec.toNat_add]
  · show execWaitt s = _
    rw [execWaitt_of_atInsn h, if_pos hg, retire_of_lt s hpc]
  · show execWaitt s = _
    rw [execWaitt_of_atInsn h, if_neg (Nat.not_le.2 hft), if_pos hlate, endTake_eq_endsWith .timeout (take_of_fetch h.1)]
  · show execWaitt s = _
    rw [execWaitt_of_atInsn h, if_neg (Nat.not_le.2 hft), if_neg (Nat.not_lt.2 hin)]
  · show execWaittElapse s = _
    rw [execWaittElapse_of_wait ht hl hw, waited_of_lt hlt, retire_of_lt (t := { t with wait := .none }) _ hpc]
  · show execWaittElapse s = _
    rw [execWaittElapse_of_wait ht hl hw, waited_of_ge hge]
  · show execWaitcue s = _
    rw [execWaitcue_of_atInsn h, if_neg (by omega), if_pos hmay]
  · show execWaitcue s = _
    rw [execWaitcue_of_atInsn h, if_pos hbad, endTake_eq_endsWith .illegal (take_of_fetch h.1)]
  · show execWaitcueTimeout s = _
    rw [execWaitcueTimeout_of_wait ht hl hw, waited_of_lt hlt, retireG_of_lt (t := { t with wait := .none }) _ _ _ hpc]
  · show execWaitcueTimeout s = _
    rw [execWaitcueTimeout_of_wait ht hl hw, waited_of_ge hge]
  · obtain ⟨l, d, hmark⟩ := retireMark_frame_of_lt (cueAccept (bits w 12 8) s) hpc
    refine ⟨_, execFirecue_of_may h hmay, ?_⟩
    rw [hmark, cueAccept_of_lt hlt]
    exact ⟨rfl, rfl, rfl, rfl, rfl⟩

/-! ## Endings (R50, R51, R61 to R63, R66) -/

theorem execHalt_of_atInsn (h : AtInsn s t w 0x20 0x1FFFFF) : execHalt s = .next (
    submitting t (fun s => endWith .ok (resultWords t (fD w)) (countInstr t (commit t s))) s) :=
  insn_of_atInsn h _ _ rfl

theorem execAbort_of_atInsn (h : AtInsn s t w 0x2E 0x3FFFFFE) (hb : bit w 0 = false) :
    execAbort s = .next (endTake .aborted (countInstr t s)) := by
  rw [execAbort, insn_of_atInsn h _ _ (by simp only [hb, Bool.not_false])]

theorem execNote_of_atInsn (h : AtInsn s t w 0x30 0x3E00000) : execNote s = .next (retireMark t (s.log
    { origin := t.origin, serial := t.serial, kind := 3, pc := t.pc, loc := fImm w, new := (t.g (fA w)).toNat })) := by
  rw [execNote, insn_of_atInsn h _ _ rfl]

/-- The take that a first mismatch restarts: its registers, its stack, its journal and its index are those of the last
checkpoint (R66). -/
def Take.restarted (t : Take) (now : Nat) : Take :=
  { t with pc := t.ckpt.pc, regs := t.ckpt.regs, stack := t.ckpt.stack, journal := t.ckpt.journal, wait := .none,
           mismatches := 1, free := now - t.startNow - t.ckpt.used, stall := t.stall.map (fun _ => now) }

theorem execLockstepMismatch_of_first (ht : s.dir.take = some t) (hl : s.dir.longop = none) (hm : t.mismatches = 0) :
    execLockstepMismatch s =
      .next (((s.setTake (some (t.restarted s.now))).bump Reg.GLB_LSCNT).raise (gEvt 0)) := by
  simp only [execLockstepMismatch, ht, hl, if_pos hm, Take.restarted]

theorem execLockstepMismatch_of_second (ht : s.dir.take = some t) (hl : s.dir.longop = none) (hm : t.mismatches ≠ 0) :
    execLockstepMismatch s =
      .next (endTake .lockstep ((s.setLivF Reg.GLB_DIRSTAT Fld.GLB_DIRSTAT_LSFAIL 1).raise (gEvt 0))) := by
  simp only [execLockstepMismatch, ht, hl, if_neg hm]

/-- Settles O6: each ending is the equation of its command. -/
theorem takeEndings : Obligations.TakeEndings := by
  intro s t w
  refine ⟨fun h hj => ?_, fun r h hj => ?_, fun h hb => ?_, fun c h hb hcut hmay => ⟨_, ?_, rfl⟩,
    fun c h hb hcut hne hpriv => ?_, fun h => ?_, fun hf hop => ?_, fun ht hl hst => ?_, fun ht hl hm => ?_,
    fun ht hl hm => ?_⟩
  · show execHalt s = _
    simp only [execHalt_of_atInsn h, submitting, hj, resultWords]
  · show execHalt s = _
    simp only [execHalt_of_atInsn h, submitting, hj]
  · exact execAbort_of_atInsn h hb
  · rw [exec_abortCancel, execAbortCancel_of_may hcut h hb hmay]
    rfl
  · rw [exec_abortCancel, execAbortCancel_of_mayNot hcut h hb (by tauto)]
  · exact execNote_of_atInsn h
  · show execUndefinedOpcode s = _
    simp only [execUndefinedOpcode, hf, hop, Bool.false_eq_true, if_false]
    rw [endTake_eq_endsWith .illegal (take_of_fetch hf)]
  · show execTakeLimitExpire s = _
    simp only [execTakeLimitExpire, ht, hl, if_pos hst]
  · exact ⟨t.restarted s.now, execLockstepMismatch_of_first ht hl hm, rfl, rfl, rfl, rfl, rfl, rfl, rfl⟩
  · exact execLockstepMismatch_of_second ht hl hm

end Sys2Proof.Machine
end

section
/-! PROOFS. Register writes, table access, host configuration writes, direct reads, cuts. -/

namespace Sys2Proof.Machine

variable {s u : State} {t : Take} {w a : Nat} {v : Word}

/-! ## Journalled and live writes (R43, R44, R50 to R52, R81) -/

/-- An instruction that retires goes on with the executing take as its effect left it. -/
theorem finish_retire {act : State → State} (h : (act s).dir.take = some t) (t' : Take) :
    finish .retire t' act s = retireMark t (act s) := by
  simp only [finish, h]

theorem logLive_take (t : Take) (a : Nat) (v : Word) (s : State) : (logLive t a v s).dir.take = s.dir.take := by
  unfold logLive
  rw [(onlyLog_log s _).dir]

theorem intx_dir (s : State) : s.intx.dir = s.dir := (onlyIntx_intx s).dir

theorem wrlive_of_addressless (h : AtInsn s t w 0x16 0x8000) (hw : liveWritable (xAddr t w) = false) :
    execWrlive s = .next (endsWith t .address s) := by
  rw [execWrlive, insn_of_atInsn h _ _ rfl]
  simp only [liveWrite, hw, Bool.not_false, if_true, endTake_eq_endsWith .address (take_of_fetch h.1)]

/-- What the plain rule does to a word: its TL fields are written, its W1C bits written 1 are cleared. -/
def plainWrite (a : Nat) (r : RegRow) (v : Word) (s : State) : State := (s.setLiv a (plainNew r (s.liv a) v)).intx

theorem plainWrite_take (a : Nat) (r : RegRow) (v : Word) (s : State) :
    (plainWrite a r v s).dir.take = s.dir.take := by
  rw [plainWrite, intx_dir, State.setLiv_dir]

theorem plainRule_eff {r : RegRow} (hrow : regRow a = some r) : plainRule.eff s t a v = command (plainWrite a r v) := by
  show plainEffect s t a v = _
  rw [plainEffect, hrow]
  rfl

/-- A live write of a word that no command owns follows the plain rule. -/
theorem wrlive_of_plain (h : AtLive plainRule s t w a v) (hrule : ruleOf a v = plainRule) {r : RegRow}
    (hrow : regRow a = some r) : execWrlive s = .next (retireMark t (plainWrite a r v (logLive t a v s))) := by
  have ht : (plainWrite a r v (logLive t a v s)).dir.take = some t := by
    rw [plainWrite_take, logLive_take, take_of_fetch h.1.1]
  have hstep : liveStep plainRule s = .next (finish .retire t (plainWrite a r v) (logLive t a v s)) :=
    liveStep_of_command h (plainRule_eff hrow)
  rw [← finish_retire ht t, ← hstep]
  obtain ⟨hi, ha, hv, hsel, -⟩ := h
  rw [execWrlive, insn_of_atInsn hi _ _ rfl, insn_liveStep hi (by rw [ha, hv]; exact hsel), ha, hv, hrule]

/-- The value that WRREG journals for a word: its TW fields as written, the others as they stand. -/
def wrregValue (s : State) (t : Take) (w : Nat) (r : RegRow) : Word :=
  (overlay s.shd t.journal (xAddr t w) &&& ~~~BitVec.ofNat 32 r.tw) |||
    ((t.g (fD w)).extractLsb' 0 32 &&& BitVec.ofNat 32 r.tw)

theorem execWrreg_of_allowed {r : RegRow} (h : AtInsn s t w 0x15 0x8000) (hrow : regRow (xAddr t w) = some r)
    (htw : r.tw ≠ 0) (hprot : protRefuses s t.origin (xAddr t w) true = none)
    (hman : (isUser t.origin && managerOnly (xAddr t w)) = false) (hcut : s.dir.cutAt = none)
    (hpc : t.pc + 1 < t.code.length) :
    execWrreg s =
      .next (goesOn { t with journal := journalPut t.journal (xAddr t w) (wrregValue s t w r) } (t.pc + 1) s) := by
  rw [execWrreg, insn_of_atInsn h _ _ rfl]
  simp only [hrow, if_neg htw, hprot, hman, sealed, hcut, Option.isSome_none, Bool.false_eq_true, if_false]
  exact congrArg _ (retire_of_lt (t := { t with journal := _ }) s hpc)

theorem execWrreg_of_addressless (h : AtInsn s t w 0x15 0x8000)
    (hrow : ∀ r, regRow (xAddr t w) = some r → r.tw = 0) : execWrreg s = .next (endsWith t .address s) := by
  rw [execWrreg, insn_of_atInsn h _ _ rfl, ← endTake_eq_endsWith .address (take_of_fetch h.1)]
  cases hr : regRow (xAddr t w) with
  | none => simp only [hr]
  | some r => simp only [hr, hrow r hr, if_true]

/-- Settles O11: WRREG journals, an address without the fields it needs is refused, a plain live write is `plainNew`. -/
theorem registerWrites : Obligations.RegisterWrites := by
  exact ⟨fun s t w => ⟨fun r h hrow htw hprot hman hcut hpc => execWrreg_of_allowed h hrow htw hprot hman hcut hpc,
    fun r h hrow htw => execWrreg_of_addressless h (fun r' h' => Option.some.inj (hrow.symm.trans h') ▸ htw),
    fun h hrow => execWrreg_of_addressless h (fun r h' => nomatch hrow.symm.trans h'), fun h hw => wrlive_of_addressless h hw⟩,
    fun s t w a v r h hrule hrow => wrlive_of_plain h hrule hrow⟩

/-! ## TBLR and TBLW (R46, R391, R410, R540) -/

section Table
variable {write : Bool} {go : Nat → Nat → Nat → State → State}

theorem tabAccess_of_illegal (ht : s.dir.take = some t) (h : bits w 14 2 = 3) :
    tabAccess write t w go s = endsWith t .illegal s := by
  rw [tabAccess, if_pos h, endTake_eq_endsWith .illegal ht]

theorem tabAccess_of_refused {c : Nat} (h : bits w 14 2 ≠ 3) (hp : slotRefuses s 80 t.origin write = some c) :
    tabAccess write t w go s = endTake .protect (protFault t.origin (t.g (fA w)).toNat write c 0 s) := by
  simp only [tabAccess, if_neg h, hp]

theorem tabAccess_of_secret (h : bits w 14 2 = 2) (hp : slotRefuses s 80 t.origin true = none) :
    tabAccess true t w go s = endTake .protect (protFault t.origin (t.g (fA w)).toNat true 6 0 s) := by
  simp only [tabAccess, h, hp, Bool.true_and, beq_self_eq_true, if_true, show (2 : Nat) ≠ 3 by decide, if_false]

theorem tabAccess_of_outside (ht : s.dir.take = some t) (h : bits w 14 2 ≠ 3)
    (hw : (write && bits w 14 2 == 2) = false) (hp : slotRefuses s 80 t.origin write = none)
    (hout : tabEntries (bits w 14 2) ≤ (t.g (fA w)).toNat ∨ tabWords (bits w 14 2) ≤ bits w 0 5) :
    tabAccess write t w go s = endsWith t .table s := by
  simp only [tabAccess, if_neg h, hp, hw, Bool.false_eq_true, if_false, if_pos hout, endTake_eq_endsWith .table ht]

theorem tabAccess_of_inside (h : bits w 14 2 ≠ 3)
    (hw : (write && bits w 14 2 == 2) = false) (hp : slotRefuses s 80 t.origin write = none)
    (hi : (t.g (fA w)).toNat < tabEntries (bits w 14 2)) (hk : bits w 0 5 < tabWords (bits w 14 2)) :
    tabAccess write t w go s = go (bits w 14 2) (t.g (fA w)).toNat (bits w 0 5) s := by
  have hin : ¬(tabEntries (bits w 14 2) ≤ (t.g (fA w)).toNat ∨ tabWords (bits w 14 2) ≤ bits w 0 5) := by omega
  simp only [tabAccess, if_neg h, hp, hw, Bool.false_eq_true, if_false, if_neg hin]

end Table

/-- What TBLW does with a word that lies in its table: the owning chapter refuses it, or it is written and logged. -/
def tblwGo (t : Take) (w tb i k : Nat) (s : State) : State :=
  if tblwRefused s t.origin tb i k (t.g (fD w)) then endTake .protect (protFault t.origin i true 6 0 s)
  else retireMark t (logTable t.origin t.serial t.pc tb i k (tabWord s tb i k)
    (tabWord (tblwEffect tb i k (t.g (fD w)) s) tb i k) (tblwEffect tb i k (t.g (fD w)) s))

theorem execTblr_of_atInsn (h : AtInsn s t w 0x18 0x3FE0) : execTblr s = .next (tabAccess false t w
    (fun tb i k s => retireG t (fD w) (tabSeen s t.origin tb i k) (driftMove false 8 s)) s) :=
  insn_of_atInsn h _ _ rfl

theorem execTblw_of_atInsn (h : AtInsn s t w 0x19 0x3FE0) : execTblw s = .next (tabAccess true t w (tblwGo t w) s) :=
  insn_of_atInsn h _ _ rfl

/-- Settles O13: TBLR and TBLW are `tabAccess`, in the order of its tests. -/
theorem driftTableAccess : Obligations.DriftTableAccess := by
  intro s t w
  have hw {tb : Nat} (h : tb < 2) : (true && tb == 2) = false := by simp; omega
  refine ⟨fun h htb hp hi hk hpc => ?_, fun h htb hp hi hk hr => ?_, fun h htb => ?_, fun h htb => ?_,
    fun c h htb hp => ?_, fun c h htb hp => ?_, fun h htb hp => ?_, fun h htb hp hout => ?_, fun h htb hp hout => ?_,
    fun h htb hp hi hk hr => ?_⟩
  · show execTblr s = _
    rw [execTblr_of_atInsn h, tabAccess_of_inside htb rfl hp hi hk, retireG_of_lt _ _ _ hpc]
  · show execTblw s = _
    rw [execTblw_of_atInsn h, tabAccess_of_inside (by omega) (hw htb) hp hi hk, tblwGo, hr, if_neg Bool.false_ne_true]
  · show execTblr s = _
    rw [execTblr_of_atInsn h, tabAccess_of_illegal (take_of_fetch h.1) htb]
  · show execTblw s = _
    rw [execTblw_of_atInsn h, tabAccess_of_illegal (take_of_fetch h.1) htb]
  · show execTblr s = _
    rw [execTblr_of_atInsn h, tabAccess_of_refused htb hp]
  · show execTblw s = _
    rw [execTblw_of_atInsn h, tabAccess_of_refused htb hp]
  · show execTblw s = _
    rw [execTblw_of_atInsn h, tabAccess_of_secret htb hp]
  · show execTblr s = _
    rw [execTblr_of_atInsn h, tabAccess_of_outside (take_of_fetch h.1) htb rfl hp hout]
  · show execTblw s = _
    rw [execTblw_of_atInsn h, tabAccess_of_outside (take_of_fetch h.1) (by omega) (hw htb) hp hout]
  · show execTblw s = _
    rw [execTblw_of_atInsn h, tabAccess_of_inside (by omega) (hw htb) hp hi hk, tblwGo, hr, if_pos rfl]

/-! ## Host configuration writes (R193, R194) -/

/-- Settles O14: arrival and service are the two branches of their commands. -/
theorem hostConfigurationWrites : Obligations.HostConfigurationWrites := by
  refine ⟨fun s q fn r off be data req tag hup hhas => ?_, fun w s => ?_, fun s w l hheld hlong hwarm hcold hrail => ?_⟩
  · show execConfigWriteArrival q fn r off be data req tag s = _
    simp only [execConfigWriteArrival, hup, hhas, Bool.and_self, if_true]
  · rfl
  · show execConfigWriteServe s = _
    simp only [execConfigWriteServe, hheld, hlong, hwarm, hcold, hrail, beq_self_eq_true, Bool.not_false, Bool.and_self,
      if_true]

/-! ## Direct reads (R136, R592) -/

section Direct
variable {path : Path}

theorem checkedRead_of_ok {go : State → State} (hl : pathLive s path = true) (hb : s.boot.readable = true)
    (hp : protRefuses s (pathIdent s path) a false = none) : checkedRead path a true go s = go s := by
  simp only [checkedRead, hl, hb, hp, Bool.not_true, Bool.false_eq_true, if_false]

/-- A direct read before the end of step 2 of a cold boot (R136). -/
theorem checkedRead_of_unreadable {ok : Bool} {go : State → State} (hl : pathLive s path = true)
    (hb : s.boot.readable = false) : checkedRead path a ok go s = s.answer path a 0 := by
  simp only [checkedRead, hl, hb, Bool.not_true, Bool.false_eq_true, if_false, Bool.not_false, if_true]

theorem directRead_of_unreadable {full : Bool} (hl : pathLive s path = true) (hb : s.boot.readable = false) :
    directRead path a full s = s.answer path a 0 := by
  simp only [directRead, checkedRead_of_unreadable hl hb]

/-- A 4-byte read of a word that the path may read. -/
theorem directRead_of_ok (hl : pathLive s path = true) (hb : s.boot.readable = true)
    (hr : (regRow a).isSome = true) (hp : protRefuses s (pathIdent s path) a false = none) (hi : isPort a = false) :
    directRead path a false s =
      (readOne path a s).2.answer path a (viewed s (pathIdent s path) a (readOne path a s).1).toNat := by
  have hok : readable a = true := by rw [readable, hr, Bool.true_or]
  simp only [directRead, Bool.false_eq_true, if_false, hok, checkedRead_of_ok hl hb hp, hi]

/-- A 4-byte read of a word that latches a partner. -/
theorem directRead_of_partner (hl : pathLive s path = true) (hb : s.boot.readable = true)
    (h : ∀ b, b = a ∨ b = a + 4 → (regRow b).isSome = true ∧ protRefuses s (pathIdent s path) b false = none ∧
      viewed s (pathIdent s path) b (readWord s b) = readWord s b)
    (hp : partner a = some (a + 4)) (hi : isPort a = false) : directRead path a false s =
      (readTakes a (s.latch path (a + 4) (readWord s (a + 4)))).answer path a (readWord s a).toNat := by
  obtain ⟨hrow, hprot, hview⟩ := h a (.inl rfl)
  rw [directRead_of_ok hl hb hrow hprot hi, readOne_of_partner path hp, hview]

/-- A read of a high word whose latch the path holds. -/
theorem directRead_of_latched (hl : pathLive s path = true) (hb : s.boot.readable = true) (hp : partner a = none)
    (hh : isHigh a = true) (hv : s.latched path a = some v) (hr : (regRow a).isSome = true) (hi : isPort a = false)
    (hprot : protRefuses s (pathIdent s path) a false = none)
    (hseen : (isUser (pathIdent s path) && hidden s (pathIdent s path) a) = false) :
    directRead path a false s = (s.unlatch path a).answer path a v.toNat := by
  rw [directRead_of_ok hl hb hr hprot hi, readOne_of_latched path hp hh hv, viewed, hseen, if_neg Bool.false_ne_true]

theorem apertureRead_full (b o : Nat) : apertureRead path b o true s =
    ((driftMove false 8 (s.bump Reg.IW_RDCNT)).unlatch path (apertureAddr b o + 4)).answer path (apertureAddr b o)
      (apertureWord s (pathIdent s path) b o).toNat := by
  simp only [apertureRead, if_true]

end Direct

/-- Settles O15: each of these commands is `directRead` or `checkedRead` of its address. -/
theorem directReads : Obligations.DirectReads := by
  refine ⟨fun s path hl hb => ?_, fun s path hpath hb => ?_⟩
  · intro low
    refine ⟨fun h hp hi => ?_, fun h hp hi => ?_, fun n h hp hi => ?_, fun r h hp hi => ?_, fun q h hp hi => ?_,
      fun q c h hp hi => ?_, fun a v hp hh hv hr hi hprot hseen => ?_, fun a o ho hprot => ?_⟩
    · exact congrArg Host.Outcome.next (directRead_of_partner hl hb h hp hi)
    · exact congrArg Host.Outcome.next (directRead_of_partner hl hb h hp hi)
    · exact congrArg Host.Outcome.next (directRead_of_partner hl hb h hp hi)
    · exact congrArg Host.Outcome.next (directRead_of_partner hl hb h hp hi)
    · exact congrArg Host.Outcome.next (directRead_of_partner hl hb h hp hi)
    · exact congrArg Host.Outcome.next (directRead_of_partner hl hb h hp hi)
    · show execHighWordRead path a false s = _
      simp only [execHighWordRead, hp, Option.isSome_none, Bool.and_false, Bool.or_self, Bool.false_eq_true, if_false,
        directRead_of_latched hl hb hp hh hv hr hi hprot hseen]
    · show execApertureRead path a o true s = _
      simp only [execApertureRead, if_true, ho, beq_self_eq_true, checkedRead_of_ok hl hb hprot, apertureRead_full]
  · have hl : pathLive s path = true := by
      rcases hpath with rfl | rfl <;> rfl
    refine ⟨fun m full => ?_, ?_, ?_, fun a o full => ?_⟩
    · show execOutWord path m full s = _
      simp only [execOutWord, hl, hb, Bool.not_true, Bool.false_eq_true, if_false, Bool.not_false, if_true, State.answer]
    · exact congrArg Host.Outcome.next (directRead_of_unreadable hl hb)
    · exact congrArg Host.Outcome.next (directRead_of_unreadable hl hb)
    · exact congrArg Host.Outcome.next (checkedRead_of_unreadable hl hb)

/-! ## Cuts (R52 to R54, R59, R70) -/

section Cut
variable (hcut : s.dir.cutAt = none) (hbad : leavesBad s t = false) (hforeign : cutForeign s t = false)
  (hrefused : cutRefused s t.origin (overlaid s t.journal) = false) (hjournal : journalRefused s t.journal = none)
include hcut hbad hforeign hrefused hjournal

/-- A cut that passes its tests goes on. -/
theorem cutTests_of_ok (go : State → State) : cutTests t go s = go s := by
  simp only [cutTests, hcut, hbad, hforeign, hrefused, Option.isSome_none, Bool.or_self, Bool.false_eq_true, if_false,
    submitting, hjournal]

theorem execCut_of_ok (h : AtInsn s t w 0x2C 0x3FFFFFF) : execCut s =
    .next (startLong .cut true (swap (journalAddrs t) ((logCut t.origin t.serial t.pc false (commit t s)).setTake
      (some (({ t with journal := [] } : Take).mark (logCut t.origin t.serial t.pc false (commit t s)).now))))) := by
  rw [execCut, insn_of_atInsn h _ _ rfl, cutTests_of_ok hcut hbad hforeign hrefused hjournal]

end Cut

theorem execCutat_of_time (hcut : s.dir.cutAt = none) (h : AtInsn s t w 0x2D 0x3E0FFFF) : execCutat s = .next (
    if (t.g (fA w)).toNat ≤ s.ft then endTake .pasttime s
    else if s.ft + 2 ^ 32 < (t.g (fA w)).toNat then endTake .illegal s
    else cutTests t (fun s =>
      let s := (commit t s).setLiv64 Reg.GLB_CUTTIME_LO (t.g (fA w)).toNat
      let c : CutAt := ⟨t.origin, t.serial, t.pc, journalAddrs t, false⟩
      let s := { s with dir := { s.dir with cutAt := some c } }
      let s := s.log { origin := t.origin, serial := t.serial, kind := 5, pc := t.pc, new := (t.g (fA w)).toNat }
      retireMark { t with journal := [] } s) s) := by
  rw [execCutat, insn_of_atInsn h _ _ rfl]
  simp only [hcut, Option.isSome_none, Bool.false_eq_true, if_false]

/-- The swap of a CUTAT, in the state `e` with its CUT entry: an event where fabric time is not in sync (R78). -/
def cutSwaps (wrote : List Nat) (e : State) : State :=
  startLong .cut false (swap wrote (if e.livB Reg.GLB_FT_STAT Fld.GLB_FT_STAT_SYNC then e else e.raise (gEvt 1)))

theorem fireCut_of_ok {c : CutAt} (hbad : s.noCutAt.regs.badS = [])
    (hr : cutRefused s.noCutAt c.origin s.noCutAt.regs.shadow = false) :
    fireCut c s = cutSwaps c.wrote (logCut c.origin c.serial c.pc true s.noCutAt) := by
  refine if_neg ?_
  rw [Bool.or_eq_true, not_or]
  exact ⟨by rw [show ({ s with dir := { s.dir with cutAt := none } } : State).regs.badS = [] from hbad]; decide,
    Bool.not_eq_true _ ▸ hr⟩

theorem exchange_sets (wrote : List Nat) (s : State) :
    (exchange wrote s).regs.active = s.regs.shadow ∧ (exchange wrote s).regs.shadow = s.regs.active := by
  unfold exchange
  extract_lets bad s1
  split <;> exact ⟨rfl, rfl⟩

theorem cutatFire_of_due {c : CutAt} (hcut : s.dir.cutAt = some c) (hlong : s.dir.longop = none)
    (htime : (s.reachFt (cutTime s)).dir = s.dir) (hbad : (s.reachFt (cutTime s)).noCutAt.regs.badS = [])
    (hr : cutRefused (s.reachFt (cutTime s)).noCutAt c.origin (s.reachFt (cutTime s)).noCutAt.regs.shadow = false) :
    execCutatFire s =
      .next (cutSwaps c.wrote (logCut c.origin c.serial c.pc true (s.reachFt (cutTime s)).noCutAt)) := by
  rw [execCutatFire_of_pending hcut]
  obtain ⟨r, hreach⟩ : ∃ r, s.reachFt (cutTime s) = r := ⟨_, rfl⟩
  rw [hreach] at htime hbad hr ⊢
  have hno : (cutComes c s r).noCutAt = r.noCutAt := noCutAt_cutComes htime
  rw [dueCut_of_due (s := cutComes c s r) rfl rfl hlong]
  exact congrArg _ ((fireCut_of_ok (hno ▸ hbad) (hno ▸ hr)).trans (by rw [hno]))

/-- Settles O17: `cutTests_of_ok` and the branches of CUTAT give the instructions, `fireCut` the swap at its time. -/
theorem cutsExchangeTheSets : Obligations.CutsExchangeTheSets := by
  intro s t w
  refine ⟨fun h hok => ?_, fun h hok hlate hsoon => ?_, fun h hcut hpast => ?_, fun h hcut hfar => ?_,
    fun c hcut hlong => ?_, fun c l hcut hlong => ?_, fun wrote => exchange_sets wrote s⟩
  · obtain ⟨hcut, hbad, hforeign, hrefused, hjournal⟩ := hok
    exact execCut_of_ok hcut hbad hforeign hrefused hjournal h
  · obtain ⟨hcut, hbad, hforeign, hrefused, hjournal⟩ := hok
    rw [exec_cutat, execCutat_of_time hcut h, if_neg (Nat.not_le.2 hlate), if_neg (Nat.not_lt.2 hsoon),
      cutTests_of_ok hcut hbad hforeign hrefused hjournal]
  · rw [exec_cutat, execCutat_of_time hcut h, if_pos hpast, endTake_eq_endsWith .pasttime (take_of_fetch h.1)]
  · rw [exec_cutat, execCutat_of_time hcut h, if_neg (by omega), if_pos hfar,
      endTake_eq_endsWith .illegal (take_of_fetch h.1)]
  · have htime : (s.reachFt (cutTime s)).dir = s.dir := (onlyTime_reachFt s _).dir
    refine fun hbad hr => ⟨fun hsync => ?_, fun hsync => ?_⟩
    · exact (cutatFire_of_due hcut hlong htime hbad hr).trans
        (congrArg (fun e => Host.Outcome.next (startLong .cut false (swap c.wrote e))) (if_pos hsync))
    · exact (cutatFire_of_due hcut hlong htime hbad hr).trans
        (congrArg (fun e => Host.Outcome.next (startLong .cut false (swap c.wrote e))) (if_neg (fun hs => Bool.false_ne_true (hsync.symm.trans hs))))
  · have htime : (s.reachFt (cutTime s)).dir = s.dir := (onlyTime_reachFt s _).dir
    rw [exec_cutatFire, execCutatFire_of_pending hcut]
    obtain ⟨r, hreach⟩ : ∃ r, s.reachFt (cutTime s) = r := ⟨_, rfl⟩
    rw [hreach] at htime ⊢
    simp only [dueCut, cutComes, hlong, htime]

end Sys2Proof.Machine
end

section
/-! PROOFS. Commands of the slate log, counter commands, the state at power-on. -/

namespace Sys2Proof.Machine

variable {s u : State} {t : Take} {w a : Nat} {v : Word}

/-! ## The state at power-on -/

/-- Settles O26: the reset state's tables are empty but for GLB_RSTCAUSE. -/
theorem resetState : Obligations.ResetState := by
  refine ⟨fun a => ⟨rfl, rfl⟩, fun a ha => ?_, rfl, rfl, rfl, rfl, rfl, fun _ => rfl, rfl, rfl, rfl, rfl, rfl, rfl⟩
  have hfind : Tab.find State.reset.regs.live a = none := Tab.find_put_ne [] (1 : Word) ha
  show (Tab.find State.reset.regs.live a).getD (resetVal a) = resetVal a
  rw [hfind]
  rfl

/-- Settles O27: the one word of the reset state's tables is not at its reset value. -/
theorem resetIsCanonical : Obligations.ResetIsCanonical := by
  unfold Obligations.ResetIsCanonical
  decide +kernel

/-! ## Commands of the slate log (R85, R87, R147, R148) -/

/-- The CHECKPOINT entry with its number noted, before its signature's slots are reserved. -/
def withCheckpoint (s : State) : State :=
  (slatePut { kind := 8, old := s.slate.ckpt.getD s.slate.first, new := asDigestLo s } s).setLivN Reg.GLB_SLATE_CKPT s.head

theorem checkpoint_eq (s : State) : checkpoint s = slateReserve { withCheckpoint s with
    slate := { (withCheckpoint s).slate with ckpt := some s.head, count := 0, uncovered := none,
                                             signing := (withCheckpoint s).slate.signing ++ [s.head] } } := rfl

theorem slateReserve_slate (s : State) :
    (slateReserve s).slate.uncovered = s.slate.uncovered ∧ (slateReserve s).slate.count = s.slate.count ∧
    (slateReserve s).slate.signing = s.slate.signing := by
  unfold slateReserve
  extract_lets h slots
  rw [(onlyEvents_slateAdvance _ _).slate]
  exact ⟨rfl, rfl, rfl⟩

/-- After a CHECKPOINT no entry is uncovered, and a signature is due (R85). -/
theorem checkpoint_slate (s : State) :
    (checkpoint s).slate.uncovered = none ∧ (checkpoint s).slate.count = 0 ∧ (checkpoint s).slate.signing ≠ [] := by
  rw [checkpoint_eq]
  obtain ⟨huncovered, hcount, hsigning⟩ := slateReserve_slate { withCheckpoint s with
    slate := { (withCheckpoint s).slate with ckpt := some s.head, count := 0, uncovered := none,
                                             signing := (withCheckpoint s).slate.signing ++ [s.head] } }
  exact ⟨huncovered, hcount, by rw [hsigning]; simp⟩

theorem execCheckpointIdleTimer_of_uncovered {k : Nat} (h : s.slate.uncovered = some k) :
    execCheckpointIdleTimer s = .next (checkpoint (s.reach (k + 10000000000))) := by
  simp only [execCheckpointIdleTimer, h]

theorem execCheckpointSignDone_of_signing {n : Nat} {l : List Nat} (h : s.slate.signing = n :: l) :
    execCheckpointSignDone s = .next (({ fillSignature n s with
      slate := { (fillSignature n s).slate with signing := l } } : State).bump Reg.SEC_SIGCNT) := by
  simp only [execCheckpointSignDone, h]

theorem rdTakes_iff (s : State) (x : Nat) : rdTakes s x = true ↔
    (x + 2 ^ 32 - (s.liv Reg.GLB_SLATE_RD).toNat) % 2 ^ 32 ≤ (s.head + 2 ^ 32 - (s.liv Reg.GLB_SLATE_RD).toNat) % 2 ^ 32 :=
  decide_eq_true_iff

/-- The write of GLB_SLATE_RD that its own LIVE entry has not overtaken. -/
def rdMoves (a : Nat) (v : Word) (s : State) : State := if rdTakes s v.toNat then s.setLiv a v else s

/-- A refused write of GLB_SLATE_RD. -/
def rdRejected (s : State) : State := s.setLivF Reg.GLB_SLATE_STAT Fld.GLB_SLATE_STAT_RDREJ 1

theorem slateRdRule_of_takes (h : rdTakes s v.toNat = true) : slateRdRule.eff s t a v = command (rdMoves a v) :=
  if_pos h

theorem slateRdRule_of_not (h : ¬rdTakes s v.toNat = true) :
    slateRdRule.eff s t a v = { new := some (s.liv a), act := rdRejected } :=
  if_neg h

/-- A live write whose effect leaves the Director's record goes on; its LIVE entry shows `new`. -/
theorem liveStep_of_going {r : LiveRule} (h : AtLive r s t w a v) {act : State → State} {new : Option Word}
    (he : r.eff s t a v = { new := new, act := act }) (hdir : ∀ k, (act k).dir = k.dir) :
    liveStep r s = .next (retireMark t (act (logLive t a (new.getD v) s))) := by
  have ht : (act (logLive t a (new.getD v) s)).dir.take = some t := by
    rw [hdir, logLive_take, take_of_fetch h.1.1]
  rw [← finish_retire ht t]
  exact liveStep_of_atLive h he

theorem rdMoves_dir (a : Nat) (v : Word) (s : State) : (rdMoves a v s).dir = s.dir := by
  unfold rdMoves
  split <;> rfl

theorem slateRdWrite_of_takes (h : AtLive slateRdRule s t w a v) (hr : rdTakes s v.toNat = true) :
    execSlateRdWrite s = .next (retireMark t (rdMoves a v (logLive t a v s))) :=
  liveStep_of_going (new := none) h (slateRdRule_of_takes hr) (rdMoves_dir a v)

theorem slateRdWrite_of_not (h : AtLive slateRdRule s t w a v) (hr : ¬rdTakes s v.toNat = true) :
    execSlateRdWrite s = .next (retireMark t (rdRejected (logLive t a (s.liv a) s))) :=
  liveStep_of_going (new := some (s.liv a)) h (slateRdRule_of_not hr) (fun _ => rfl)

/-- What a write of GLB_DRAINCTL does once the register, written, stands as in `p`; `was` is HOLD before it. -/
def drainSet (was : Bool) (p : State) : State :=
  if p.livB Reg.GLB_DRAINCTL Fld.GLB_DRAINCTL_HOLD then
    (if was then p else { p with rst := { p.rst with holdAt := some p.now } })
  else settle (unhold { p with rst := { p.rst with holdAt := none } })

theorem plainEffect_frame (s : State) (t : Take) (a : Nat) (v : Word) :
    (plainEffect s t a v).fin = .retire ∧ (plainEffect s t a v).new = none := by
  unfold plainEffect
  split <;> exact ⟨rfl, rfl⟩

/-- The effect of a write of GLB_DRAINCTL. -/
def drainAct (s : State) (t : Take) (v : Word) (k : State) : State :=
  drainSet (k.livB Reg.GLB_DRAINCTL Fld.GLB_DRAINCTL_HOLD) ((plainEffect s t Reg.GLB_DRAINCTL v).act k)

theorem withAct_of_plain {e : Effect} (h : e.fin = .retire ∧ e.new = none) (act : State → State) :
    ({ e with act := act } : Effect) = command act := by
  obtain ⟨hfin, hnew⟩ := h
  cases e
  subst hfin hnew
  rfl

theorem drainRule_eff (s : State) (t : Take) (v : Word) :
    drainRule.eff s t Reg.GLB_DRAINCTL v = command (drainAct s t v) :=
  withAct_of_plain (plainEffect_frame s t Reg.GLB_DRAINCTL v) (drainAct s t v)

theorem execDrainLate_of_hold {k : Nat} (h : s.rst.holdAt = some k) (hd : drainLimit s ≠ 0) : execDrainLate s = .next (
    if drainStat (s.reach (k + drainLimit s)) % 2 = 1 then s.reach (k + drainLimit s)
    else State.raise { s.reach (k + drainLimit s) with
      rst := { (s.reach (k + drainLimit s)).rst with holdAt := none } } (gEvt 6)) := by
  simp only [execDrainLate, h, if_neg hd]

/-- Settles O21: each command is its equation above. -/
theorem slateCommands : Obligations.SlateCommands := by
  refine ⟨⟨fun s k h => ?_, fun s n l h => execCheckpointSignDone_of_signing h, fun s t w v h =>
    ⟨fun ht hk => ?_, fun ht hk => ?_, fun ht => ?_⟩⟩, fun s t w v h => ?_, fun s k h hd => ⟨fun hst => ?_, fun hst => ?_⟩⟩
  · exact ⟨_, execCheckpointIdleTimer_of_uncovered h, rfl, checkpoint_slate _⟩
  · show execSlateRdWrite s = _
    rw [slateRdWrite_of_takes h ((rdTakes_iff s _).2 ht), rdMoves, if_pos hk]
  · show execSlateRdWrite s = _
    rw [slateRdWrite_of_takes h ((rdTakes_iff s _).2 ht), rdMoves, if_neg (ne_true_of_eq_false hk)]
  · show execSlateRdWrite s = _
    rw [slateRdWrite_of_not h (mt (rdTakes_iff s _).1 ht), rdRejected]
  · refine ⟨drainAct s t v, liveStep_of_command h (drainRule_eff s t v), fun k => ⟨fun hp hk => ?_, fun hp hk => ?_,
      fun hp => ?_⟩⟩
    · rw [drainAct, drainSet, if_pos hp, if_neg (ne_true_of_eq_false hk)]
    · rw [drainAct, drainSet, if_pos hp, if_pos hk]
    · rw [drainAct, drainSet, if_neg (ne_true_of_eq_false hp)]
  · show execDrainLate s = _
    exact (execDrainLate_of_hold h hd).trans (congrArg _ (if_neg (by omega)))
  · show execDrainLate s = _
    rw [execDrainLate_of_hold h hd, if_pos hst]

/-! ## Counter commands (R584, R587) -/

/-- A live write whose effect is a command that retires. -/
theorem liveStep_done {r : LiveRule} (h : AtLive r s t w a v) {act : State → State} (he : r.eff s t a v = command act) :
    liveStep r s = .next (liveDone t a v act s) :=
  liveStep_of_command h he

/-- Settles O22: the rules' effects are the ones stated. -/
theorem counterCommands : Obligations.CounterCommands := by
  refine ⟨fun s t w a v => ⟨fun h => ?_, fun h => ?_, fun h => ?_⟩, fun s t w v i h => ⟨fun hi => ?_, fun hi => ?_,
    fun hi => ?_, fun hi => ?_⟩⟩
  · exact liveStep_done h rfl
  · exact liveStep_done h rfl
  · exact liveStep_done h rfl
  · subst hi
    exact liveStep_done h rfl
  · subst hi
    exact liveStep_done h rfl
  · subst hi
    exact liveStep_done h rfl
  · subst hi
    exact liveStep_done h rfl

end Sys2Proof.Machine
end

section
/-! PROOFS. Cold resets, the boot, the core rail, writes of SPC_CMD. -/

namespace Sys2Proof.Machine

variable {s u : State} {t : Take} {w a : Nat} {v : Word}

/-! ## Cold resets (R112, R117, R127 to R135) -/

/-- An OTP command that a reset cuts off touches the security unit and the draw alone. -/
theorem otpCut_frame (s : State) : (otpCut s).pending = s.pending ∧ (otpCut s).now = s.now ∧ (otpCut s).out = s.out := by
  unfold otpCut
  cases s.sec.cmd with
  | none => exact ⟨rfl, rfl, rfl⟩
  | some c => exact ⟨rfl, rfl, rfl⟩

/-- The one live word that a cold reset leaves off its reset value is GLB_RSTCAUSE. -/
theorem coldState_liv (cause : Nat) (rst : Resets) (s : State) (ha : a ≠ Reg.GLB_RSTCAUSE) :
    (coldState cause rst s).liv a = resetVal a := by
  have hfind : Tab.find (coldState cause rst s).regs.live a = none := Tab.find_put_ne [] _ ha
  show (Tab.find (coldState cause rst s).regs.live a).getD (resetVal a) = resetVal a
  rw [hfind]
  rfl

theorem coldState_cause (cause : Nat) (rst : Resets) (s : State) :
    (coldState cause rst s).liv Reg.GLB_RSTCAUSE = BitVec.ofNat 32 (2 ^ cause) := rfl

/-- The state of a cold reset. -/
theorem coldState_cleared (cause : Nat) (rst : Resets) (s : State) :
    (∀ a, (coldState cause rst s).act a = resetVal a ∧ (coldState cause rst s).shd a = resetVal a) ∧
    (∀ a, a ≠ Reg.GLB_RSTCAUSE → (coldState cause rst s).liv a = resetVal a) ∧
    (coldState cause rst s).liv Reg.GLB_RSTCAUSE = BitVec.ofNat 32 (2 ^ cause) ∧ (coldState cause rst s).mbox = [] ∧
    (coldState cause rst s).dir = {} ∧ (coldState cause rst s).dp = {} ∧ (coldState cause rst s).eng = {} ∧
    (coldState cause rst s).pow = {} ∧ (coldState cause rst s).slate.slots = [] ∧ (coldState cause rst s).boot.step = 0 ∧
    (coldState cause rst s).boot.readable = false ∧ (coldState cause rst s).pending = s.pending ∧
    (coldState cause rst s).now = s.now ∧ (coldState cause rst s).out = s.out := by
  obtain ⟨hpending, hnow, hout⟩ := otpCut_frame s
  exact ⟨fun _ => ⟨rfl, rfl⟩, fun _ => coldState_liv cause rst s, coldState_cause cause rst s, rfl, rfl, rfl, rfl, rfl, rfl,
    rfl, rfl, hpending, hnow, hout⟩

/-- The straps as GLB_STRAP shows them (R114). -/
def strapsWord (x : Straps) : Nat := b2n x.spiq + 2 * x.i3ca.val + 16 * b2n x.test

/-- The start of the boot, with neither cause of a cold reset left (R135). -/
theorem coldStart_of_free (x : Straps) (hc : s.rst.cold = false) (hr : s.rst.rail = false) (hcanon : s.regs.canon = true) :
    (coldStart x s).rst = s.rst ∧ (coldStart x s).boot.step = 1 ∧
    (coldStart x s).liv Reg.GLB_STRAP = BitVec.ofNat 32 (strapsWord x) := by
  have hfree : ¬(s.rst.cold || s.rst.rail) = true := by rw [hc, hr]; decide
  rw [coldStart, if_neg hfree]
  exact ⟨rfl, rfl, State.liv_setLiv_self _ _ hcanon⟩

theorem execI3cBroadcastCcc_of_running (hc : s.rst.cold = false) (hr : s.rst.rail = false)
    (d : Option (Fin 128 × Fin 128)) : execI3cBroadcastCcc s d = .next { s with rst := { s.rst with
      i3c := true
      i3cDyn := match d with
        | some (x, d) => if x.val = 0x58 + s.livF Reg.GLB_STRAP Fld.GLB_STRAP_I3CA then some d.val else s.rst.i3cDyn
        | none => s.rst.i3cDyn } } := by
  have hfree : ¬(s.rst.cold || s.rst.rail) = true := by rw [hc, hr]; decide
  exact congrArg Host.Outcome.next (if_neg hfree)

/-- Settles O28: a cold reset is `coldState`, its release `coldStart`. -/
theorem coldResets : Obligations.ColdResets := by
  refine ⟨⟨fun s hc hr => ?_, fun s hc hr => ?_, fun s off hc => ?_, fun s off hc => ?_, fun s x hc hr hk => ?_,
    fun s x hr hc hk => ?_⟩, fun s ht => ?_, fun s ht => ?_, fun s hc hr => ⟨?_, fun x d hx => ?_, fun x d hx => ?_⟩⟩
  · refine ⟨coldState 1 { cold := true, thermtrip := s.rst.thermtrip } s, ?_, coldState_cleared _ _ s, rfl⟩
    show execColdRstAssert s = _
    simp only [execColdRstAssert, hc, hr, Bool.false_eq_true, if_false]
  · show execColdRstAssert s = _
    simp only [execColdRstAssert, hc, hr, Bool.false_eq_true, if_false, if_true]
  · refine ⟨coldState 0 { rail := true, thermtrip := s.rst.thermtrip && !off } s, ?_, coldState_cleared _ _ s, rfl, rfl⟩
    show execRailOutOfRange off s = _
    simp only [execRailOutOfRange, hc, Bool.false_eq_true, if_false]
  · show execRailOutOfRange off s = _
    simp only [execRailOutOfRange, hc, if_true]
  · obtain ⟨hrst, hstep, hstrap⟩ := coldStart_of_free (s := { s with rst := { s.rst with cold := false } }) x rfl hr hk
    refine ⟨coldStart x { s with rst := { s.rst with cold := false } }, ?_, by rw [hrst], hstep, hstrap⟩
    show execColdRstRelease x s = _
    rw [execColdRstRelease, if_pos hc]
  · obtain ⟨hrst, hstep, hstrap⟩ := coldStart_of_free (s := { s with rst := { s.rst with rail := false } }) x hc rfl hk
    refine ⟨coldStart x { s with rst := { s.rst with rail := false } }, ?_, by rw [hrst], hstep, hstrap⟩
    show execRailRecoveryElapse x s = _
    rw [execRailRecoveryElapse, if_pos hr]
  · show execThermtrip s = _
    simp only [execThermtrip, ht, Bool.false_eq_true, if_false]
  · show execThermtrip s = _
    simp only [execThermtrip, ht, if_true]
  · exact execI3cBroadcastCcc_of_running hc hr none
  · refine (execI3cBroadcastCcc_of_running hc hr (some (x, d))).trans ?_
    simp only [if_pos hx]
  · refine (execI3cBroadcastCcc_of_running hc hr (some (x, d))).trans ?_
    simp only [if_neg hx]

/-! ## The boot (R114, R135 to R140) -/

/-- The spare rows as step 4 shows them. -/
theorem liv_step4 (l n : Nat) (s : State) (hc : s.regs.canon = true) :
    (step4 true l n s).liv Reg.GLB_DRIFT_SPARE = BitVec.ofNat 32 (l + n * 2 ^ 16) := by
  have hne : Reg.GLB_DRIFT_SPARE ≠ Reg.GLB_ERR_STAT := by decide
  show ((s.setLivN Reg.GLB_DRIFT_SPARE (l + n * 2 ^ 16)).setLivF Reg.GLB_ERR_STAT Fld.GLB_ERR_STAT_SPARELOW _).liv _ = _
  rw [State.setLivF, State.setLivN, State.liv_setLiv_ne _ hne (State.canon_setLiv _ _ hc), State.liv_setLiv_self _ _ hc]

/-- Reading the reel only sends commands to the flash. -/
theorem checkReel_readReel (img : Option (List Byte)) (s : State) : checkReel (readReel img s) img = checkReel s img := by
  cases img with
  | none => rfl
  | some r =>
    have hout : ∃ o, readReel (some r) s = { s with out := o } := by
      refine ⟨(readReel (some r) s).out, ?_⟩
      simp only [readReel, State.emit]
      split <;> rfl
    obtain ⟨o, ho⟩ := hout
    rw [ho]
    rfl

theorem onlyLive_reelReport (x : Reel) (s : State) : OnlyLive s (reelReport x s) :=
  ((onlyLive_setLivN s _ _).trans (onlyLive_setLivN _ _ _)).trans
    (forUpto_rel OnlyLive.refl OnlyLive.trans (fun _ s => onlyLive_setLivN s _ _) 16 _)

theorem OnlyLive.boot (h : OnlyLive s u) : u.boot = s.boot := by
  obtain ⟨_, rfl⟩ := h
  rfl

theorem step5_of_accepted {img : Option (List Byte)} {c : Nat} {x : Reel} (h : checkReel s img = (c, some x)) :
    (step5 img s).boot.step = 6 ∧ (step5 img s).boot.reel = some x := by
  have hstep : step5 img s =
      reelReport x (toStep 6 { readReel img s with boot := { (readReel img s).boot with reel := some x } }) := by
    simp only [step5, checkReel_readReel, h]
  rw [hstep, (onlyLive_reelReport x _).boot]
  exact ⟨rfl, rfl⟩

theorem step5_of_failed {img : Option (List Byte)} {c : Nat} (h : checkReel s img = (c, none)) :
    step5 img s = bootRetry c (readReel img s) := by
  simp only [step5, checkReel_readReel, h]

theorem OnlyLog.env (h : OnlyLog s u) : u.env = s.env := by
  obtain ⟨_, _, _, _, _, _, rfl⟩ := h
  rfl

theorem onlyLog_refJoin (s : State) : OnlyLog s (refJoin s) := by
  unfold refJoin
  split
  · exact .refl s
  split
  · exact .refl s
  split
  · exact (onlyLive_setLivF s _ _ _).events.log.trans (onlyLog_log _ _)
  · exact ((onlyLive_setLivF s _ _ _).events.trans (onlyEvents_devErr _ _)).log

/-- What is not fitted shows in GLB_CLK_STAT. -/
theorem onlyLog_refsFitted (e : EnvDecl) (s : State) : OnlyLog s (refsFitted e s) := by
  unfold refsFitted
  extract_lets a s1 s2
  have h1 : OnlyLive s s1 := by
    show OnlyLive s (if _ then _ else _)
    split
    · exact .refl s
    · exact (onlyLive_setLivF s _ _ _).trans (onlyLive_setLivF _ _ _ _)
  have h2 : OnlyLog s s2 := h1.events.log.trans (onlyLog_refJoin s1)
  split
  · exact h2
  · exact h2.trans (((onlyLive_setLivF s2 _ _ _).trans (onlyLive_setLivF _ _ _ _)).trans
      (onlyLive_setLivF _ _ _ _)).events.log

/-- The declaration in force, with the first boot take in its mailbox. -/
theorem step7_of_accepted {x : Reel} {e : EnvDecl} (hx : s.boot.reel = some x) (he : checkEnv x.env = some e)
    (hm : Tab.rises s.mbox = true) : (step7 s).boot.step = 8 ∧ (step7 s).env = e ∧ (step7 s).boot.left = x.takes.tail ∧
      ((step7 s).mb 51).inq = asPacket (x.takes.headD []) := by
  have hlog : OnlyLog { s with env := e } (refsFitted e { s with env := e }) := onlyLog_refsFitted e _
  obtain ⟨k, hk⟩ : ∃ k, refsFitted e { s with env := e } = k := ⟨_, rfl⟩
  rw [hk] at hlog
  have hstep : step7 s = { k.setMb 51 { k.mb 51 with inq := asPacket (x.takes.headD []) } with
      boot := { k.boot with step := 8, left := x.takes.tail, index := 0, answer := none } } := by
    simp only [step7, hx, he, hk]
    rfl
  have hmb : (k.setMb 51 { k.mb 51 with inq := asPacket (x.takes.headD []) }).mb 51 =
      { k.mb 51 with inq := asPacket (x.takes.headD []) } :=
    State.mb_setMb_self 51 _ (by rw [hlog.mbox]; exact hm)
  rw [hstep]
  refine ⟨rfl, hlog.env, rfl, ?_⟩
  show ((k.setMb 51 { k.mb 51 with inq := asPacket (x.takes.headD []) }).mb 51).inq = _
  rw [hmb]

theorem step7_of_failed {x : Reel} (hx : s.boot.reel = some x) (he : checkEnv x.env = none) : step7 s = bootRetry 6 s := by
  simp only [step7, hx, he]

section Boot
variable (ok : Bool) (l n : Fin 65536) (img : Option (List Byte))

/-- The step in progress ends as `k`. -/
abbrev StepEnds (s k : State) (ok : Bool) (l n : Fin 65536) (img : Option (List Byte)) : Prop :=
  execBootStepDone ok l n img s = .next k

theorem stepEnds_one (h : s.boot.step = 1) : StepEnds s (step1 s) ok l n img := by
  simp only [StepEnds, execBootStepDone, h]

theorem stepEnds_two (h : s.boot.step = 2) : StepEnds s (step2 s) ok l n img := by
  simp only [StepEnds, execBootStepDone, h]

theorem stepEnds_three (h : s.boot.step = 3) :
    StepEnds s (if ok then toStep 4 s else bootFail 0xA s) ok l n img := by
  simp only [StepEnds, execBootStepDone, h]

theorem stepEnds_four (h : s.boot.step = 4) : StepEnds s (step4 ok l.val n.val s) ok l n img := by
  simp only [StepEnds, execBootStepDone, h]

theorem stepEnds_five (h : s.boot.step = 5) : StepEnds s (step5 img s) ok l n img := by
  simp only [StepEnds, execBootStepDone, h]

theorem stepEnds_six (h : s.boot.step = 6) : StepEnds s (step6 s) ok l n img := by
  simp only [StepEnds, execBootStepDone, h]

theorem stepEnds_seven (h : s.boot.step = 7) : StepEnds s (step7 s) ok l n img := by
  simp only [StepEnds, execBootStepDone, h]

theorem stepEnds_eight (h : s.boot.step = 8) : StepEnds s (step8 s) ok l n img := by
  simp only [StepEnds, execBootStepDone, h]

end Boot

/-- Step 4 that fails shows the spare rows all the same. -/
theorem step4_of_failed (l n : Nat) (s : State) : ∃ k, step4 false l n s = bootFail 0xB k ∧ OnlyLive s k :=
  ⟨(s.setLivN Reg.GLB_DRIFT_SPARE (l + n * 2 ^ 16)).setLivF Reg.GLB_ERR_STAT Fld.GLB_ERR_STAT_SPARELOW
    (b2n (decide (l < 64))), by simp only [step4, Bool.false_eq_true, if_false], (onlyLive_setLivN s _ _).trans (onlyLive_setLivF _ _ _ _)⟩

theorem step4_of_ok (l n : Nat) (s : State) : (step4 true l n s).boot.step = 5 := by
  unfold step4
  extract_lets s1 s2
  rw [if_pos rfl]
  rfl

theorem toStep_step (k : Nat) (s : State) : (toStep k s).boot.step = k := rfl

theorem toStep_slate (k : Nat) (s : State) : (toStep k s).slate = s.slate := rfl

theorem step6_of_reel {x : Reel} (hx : s.boot.reel = some x) : (step6 s).boot.step = 7 ∧
    (step6 s).slate = (s.log { kind := 7, old := x.digest / 2 ^ 64 % 2 ^ 64, new := x.digest % 2 ^ 64 }).slate := by
  have hstep : step6 s =
      toStep 7 (s.log { kind := 7, old := x.digest / 2 ^ 64 % 2 ^ 64, new := x.digest % 2 ^ 64 }) := by
    simp only [step6, hx]
  rw [hstep]
  exact ⟨toStep_step _ _, toStep_slate _ _⟩

theorem step8_of_ok (ha : s.boot.answer = some 0) (hcut : s.dir.cutAt = none) :
    step8 s = toStep 9 (s.setLivF Reg.GLB_BOOTSTAT Fld.GLB_BOOTSTAT_STATE 1) := by
  simp only [step8, ha, hcut, ne_eq, not_true_eq_false, if_false, Option.isSome_none, Bool.false_eq_true]

theorem step8_of_cutAt (ha : s.boot.answer = some 0) (hcut : s.dir.cutAt ≠ none) : step8 s = bootRetry 8 s := by
  simp only [step8, ha, ne_eq, not_true_eq_false, if_false, Option.isSome_iff_ne_none.2 hcut, if_true]

theorem step8_of_failed {c : Nat} (ha : s.boot.answer = some c) (hne : c ≠ 0) :
    step8 s = bootRetry 7 (s.setLivF Reg.GLB_BOOTSTAT Fld.GLB_BOOTSTAT_TAKEIDX s.boot.index) := by
  simp only [step8, ha, ne_eq, hne, not_false_eq_true, if_true]

/-- Settles O30: each step's end is the equation of its step. -/
theorem bootSteps : Obligations.BootSteps := by
  intro s l n img
  refine ⟨fun h => stepEnds_one true l n img h, fun h => ⟨step2 s, stepEnds_two true l n img h, rfl, rfl⟩,
    fun h => stepEnds_three true l n img h, fun h => stepEnds_three false l n img h,
    fun h hc => ⟨_, stepEnds_four true l n img h, step4_of_ok _ _ s, ?_⟩, fun h => ?_, fun c x h hx => ?_,
    fun c h hx => ?_, fun x h hx => ?_, fun x e h hx he hm => ?_, fun x h hx he => ?_, fun h ha hcut => ?_,
    fun h ha hcut => ?_, fun c h ha hne => ?_⟩
  · have hl := l.isLt
    have hn := n.isLt
    rw [liv_step4 _ _ _ hc, BitVec.toNat_ofNat]
    omega
  · obtain ⟨k, hk, hlive⟩ := step4_of_failed l.val n.val s
    exact ⟨k, hk ▸ stepEnds_four false l n img h, hlive⟩
  · obtain ⟨hstep, hreel⟩ := step5_of_accepted hx
    exact ⟨step5 img s, stepEnds_five true l n img h, hstep, hreel⟩
  · rw [← step5_of_failed hx]
    exact stepEnds_five true l n img h
  · obtain ⟨hstep, hslate⟩ := step6_of_reel hx
    exact ⟨step6 s, stepEnds_six true l n img h, hstep, hslate⟩
  · obtain ⟨hstep, henv, hleft, hin⟩ := step7_of_accepted hx he hm
    exact ⟨step7 s, stepEnds_seven true l n img h, hstep, henv, hleft, hin⟩
  · rw [← step7_of_failed hx he]
    exact stepEnds_seven true l n img h
  · refine ⟨step8 s, stepEnds_eight true l n img h, ?_⟩
    rw [step8_of_ok ha hcut]
    exact ⟨rfl, rfl⟩
  · rw [← step8_of_cutAt ha hcut]
    exact stepEnds_eight true l n img h
  · rw [← step8_of_failed ha hne]
    exact stepEnds_eight true l n img h

/-! ## The core rail (R121, R122) -/

/-- A device whose last Voltage write was of 600 mV, and whose FCST_VSET, back at its reset value of 720 mV as after a warm
reset, no longer shows it; its read-back is awaited. -/
def vsetReset : State := { State.reset with pow := { State.reset.pow with avs := { set := 600, wait := true } } }

/-- The read-back of 720 mV agrees with FCST_VSET, and not with what was written: it is not taken. -/
theorem avsReadback_vsetReset : (vsetReset.liv Reg.FCST_VSET).toNat = 720 ∧
    (match exec (.avsReadback true 720) vsetReset with
      | .next u => u.pow.avs.retries
      | _ => 0) = 1 := by decide +kernel

/-- Refutes O31: the read-back is compared with what was written last, which FCST_VSET need not show (a warm reset takes the
register to Reset and not the rail). -/
theorem not_voltageWritesAndReadback : ¬ Obligations.VoltageWritesAndReadback := by
  rintro ⟨-, -, h, -⟩
  obtain ⟨hvset, hretries⟩ := avsReadback_vsetReset
  have hnear := (h vsetReset true 720 rfl).1 ⟨rfl, by rw [hvset]; decide, by rw [hvset]; decide⟩
  rw [hnear] at hretries
  exact absurd hretries (by decide +kernel)

/-! ## Writes of SPC_CMD (R493, R494, R509, R617) -/

/-- The outcome of a write of SPC_CMD, `act` being what the accepted command does. -/
def spcWrite (n code : Nat) (a : Nat) (act : State → State) (k : State) : State :=
  if code = 0 then act (setSpc n Fld.SPC_STAT_CODE code (k.setLiv a 0)) else setSpc n Fld.SPC_STAT_CODE code (k.setLiv a 0)

/-- A write of SPC_CMD whose OP the rule takes up: SPC_CMD reads 0, CODE shows the outcome, and with 0 the command acts. -/
theorem spcRule_eff {op : Nat} (hop : 1 ≤ op ∧ op ≤ 5) (hv : fget v Fld.SPC_CMD_OP = op) (s : State) (t : Take) :
    (spcRule [op]).eff s t a v = command (spcWrite (stnOf a)
      (spcCode s t.origin (stnOf a) op (fget v Fld.SPC_CMD_LOADW) (fget v Fld.SPC_CMD_FEED)) a
      (spcDo (stnOf a) op (fget v Fld.SPC_CMD_LOADW) (fget v Fld.SPC_CMD_FEED))) := by
  have hin : ¬(op = 0 ∨ 5 < op) := by omega
  subst hv
  simp only [spcRule, if_neg hin]
  rfl

theorem spcOp_of_atLive {op : Nat} (h : AtLive (spcRule [op]) s t w a v) : fget v Fld.SPC_CMD_OP = op := by
  obtain ⟨-, -, -, hsel, -⟩ := h
  have hop : [op].contains (fget v Fld.SPC_CMD_OP) = true := (Bool.and_eq_true_iff.1 hsel).2
  simpa using hop

/-- FEEDSEL: nothing where the feed is in use already. -/
def spcFeedTo (n feed : Nat) (k : State) : State :=
  if spcStat k n Fld.SPC_STAT_FEED = feed then k else enterSwitch n feed k

theorem spcLiveStep {op : Nat} (h : AtLive (spcRule [op]) s t w a v) (hop : 1 ≤ op ∧ op ≤ 5) {act : State → State}
    (hact : spcDo (stnOf a) op (fget v Fld.SPC_CMD_LOADW) (fget v Fld.SPC_CMD_FEED) = act) :
    liveStep (spcRule [op]) s = .next (liveDone t a v (spcWrite (stnOf a)
      (spcCode s t.origin (stnOf a) op (fget v Fld.SPC_CMD_LOADW) (fget v Fld.SPC_CMD_FEED)) a act) s) :=
  hact ▸ liveStep_done h (spcRule_eff hop (spcOp_of_atLive h) s t)

/-- Settles O33: the rule's effect, with `spcDo` of each OP. -/
theorem slotPowerCommands : Obligations.SlotPowerCommands := by
  intro s t w a v
  refine ⟨fun h => ?_, fun h => ?_, fun h => ?_, fun h => ?_, fun h => ?_⟩
  · exact spcLiveStep (act := spcEnable (stnOf a) (fget v Fld.SPC_CMD_LOADW)) h (by decide) rfl
  · exact spcLiveStep (act := spcDisable (stnOf a)) h (by decide) rfl
  · exact spcLiveStep (act := openWin (stnOf a) 1) h (by decide) rfl
  · exact spcLiveStep (act := closeWin (stnOf a) 1) h (by decide) rfl
  · exact spcLiveStep (act := spcFeedTo (stnOf a) (fget v Fld.SPC_CMD_FEED)) h (by decide) rfl

end Sys2Proof.Machine
end

section
/-! PROOFS. The words that neither an event nor a log entry nor a counter writes. -/

namespace Sys2Proof.Machine

variable {s u v : State} {a b : Nat}

/-! ## A word that stays -/

/-- Where the tables are in canonical form they stay so, and the live word `a` reads as before. -/
def KeepsWord (a : Nat) (s u : State) : Prop :=
  s.regs.canon = true → u.regs.canon = true ∧ u.liv a = s.liv a

theorem KeepsWord.refl (s : State) : KeepsWord a s s := fun h => ⟨h, rfl⟩

theorem KeepsWord.trans (h : KeepsWord a s u) (k : KeepsWord a u v) : KeepsWord a s v := fun hc => by
  obtain ⟨hu, hsu⟩ := h hc
  obtain ⟨hv, huv⟩ := k hu
  exact ⟨hv, huv.trans hsu⟩

/-- Whatever leaves the registers leaves the word. -/
theorem KeepsWord.of_regs (h : u.regs = s.regs) : KeepsWord a s u := fun hc => by
  rw [State.liv, State.liv, h]
  exact ⟨hc, rfl⟩

theorem keepsWord_evt (s : State) (e : Events) : KeepsWord a s { s with evt := e } := .of_regs rfl

theorem keepsWord_slate (s : State) (g : Slate) : KeepsWord a s { s with slate := g } := .of_regs rfl

theorem keepsWord_drift (s : State) (d : DriftWindow) : KeepsWord a s { s with drift := d } := .of_regs rfl

theorem KeepsWord.ite {c : Prop} {_ : Decidable c} (h : KeepsWord a s u) (k : KeepsWord a s v) :
    KeepsWord a s (if c then u else v) := by
  split
  · exact h
  · exact k

theorem keepsWord_setLiv (s : State) (w : Word) (h : a ≠ b) : KeepsWord a s (s.setLiv b w) :=
  fun hc => ⟨State.canon_setLiv b w hc, State.liv_setLiv_ne w h hc⟩

theorem keepsWord_setLivN (s : State) (x : Nat) (h : a ≠ b) : KeepsWord a s (s.setLivN b x) := keepsWord_setLiv s _ h

theorem keepsWord_setLivF (s : State) (f : Fld) (x : Nat) (h : a ≠ b) : KeepsWord a s (s.setLivF b f x) :=
  keepsWord_setLiv s _ h

theorem keepsWord_bump (s : State) (k : Nat) (h : a ≠ b) : KeepsWord a s (s.bump b k) := keepsWord_setLiv s _ h

theorem keepsWord_setLiv64 (s : State) (x : Nat) (h : a ≠ b) (h4 : a ≠ b + 4) : KeepsWord a s (s.setLiv64 b x) :=
  (keepsWord_setLiv s _ h).trans (keepsWord_setLiv _ _ h4)

/-! ## Counters, events, log entries -/

/-- A word that is none of GLB_SLATE, of the event unit, of the event rings and of the counters. -/
def Quiet (a : Nat) : Prop := (0x160 ≤ a ∧ a < 0x1200) ∨ (0x1990 ≤ a ∧ a < 0x780000)

section
variable (hq : Quiet a)
include hq

theorem keepsWord_perfAdd (n c k : Nat) (s : State) : KeepsWord a s (perfAdd n c k s) := by
  have hlt : a < 0x780000 := by unfold Quiet at hq; omega
  have hval : a < Reg.PC_VAL_LO n c := by unfold Reg.PC_VAL_LO; omega
  have hovf : a ≠ Reg.PC_OVF n := by unfold Reg.PC_OVF; omega
  unfold perfAdd
  extract_lets x s1
  have h1 : KeepsWord a s s1 := keepsWord_setLiv64 s _ (by omega) (by omega)
  exact .ite (h1.trans (keepsWord_setLivN s1 _ hovf)) h1

theorem keepsWord_perf (n code : Nat) (arg : Option Nat) (k : Nat) (o : Occ) (s : State) :
    KeepsWord a s (perf n code arg k o s) := by
  unfold perf perfAny
  refine .ite (.refl s) (foldl_rel KeepsWord.refl KeepsWord.trans (fun s c => ?_) _ s)
  extract_lets x
  exact .ite (.refl s) (keepsWord_perfAdd hq n c _ s)

theorem keepsWord_countInstr (t : Take) (s : State) : KeepsWord a s (countInstr t s) := keepsWord_perf hq _ _ _ _ _ s

theorem keepsWord_ringPut {q : Nat} (h : q < 64) (ty info d2 d3 : Nat) (s : State) :
    KeepsWord a s (ringPut q ty info d2 d3 s) := by
  have ha : a ≠ Reg.GLB_EVR q 2 := by unfold Quiet at hq; unfold Reg.GLB_EVR; omega
  exact keepsWord_setLivN _ _ ha

theorem keepsWord_ringLose {q : Nat} (h : q < 64) (k : Nat) (s : State) : KeepsWord a s (ringLose q k s) := by
  have ha : a ≠ Reg.GLB_EVR q 3 := by unfold Quiet at hq; unfold Reg.GLB_EVR; omega
  exact (keepsWord_setLivN s _ ha).trans (.of_regs rfl)

theorem keepsWord_ringWrite {q : Nat} (h : q < 64) (ty info d2 d3 : Nat) (s : State) :
    KeepsWord a s (ringWrite q ty info d2 d3 s) := by
  unfold ringWrite
  extract_lets w0 pi ci used size lost s1 s2
  have hlose : KeepsWord a s (ringLose q 1 s) := keepsWord_ringLose hq h 1 s
  refine .ite hlose (.ite (.ite hlose (keepsWord_ringPut hq h _ _ _ _ s)) (.ite hlose ?_))
  exact ((keepsWord_ringPut hq h _ _ _ _ s).trans (.of_regs rfl)).trans (keepsWord_ringPut hq h ty info d2 d3 _)

theorem keepsWord_eventEntryGo {q : Nat} (h : q < 64) (g n p k : Nat) (s : State) :
    KeepsWord a s (eventEntry.go q g n p k s) := by
  have hgo : eventEntry.go q g n p k s = ringWrite q 1 (g + n * 2 ^ 9 + p * 2 ^ 14) 0 0
      { s with evt := { s.evt with written := Tab.put s.evt.written k s.now } } := rfl
  rw [hgo]
  exact (keepsWord_evt s _).trans (keepsWord_ringWrite hq h 1 _ 0 0 _)

theorem keepsWord_eventEntry {q : Nat} (h : q < 64) (g n p : Nat) (s : State) :
    KeepsWord a s (eventEntry q g n p s) := by
  have hcoal : a ≠ Reg.GLB_EVT_COAL := by unfold Quiet at hq; unfold Reg.GLB_EVT_COAL; omega
  have hgo (k : Nat) : KeepsWord a s (eventEntry.go q g n p k s) := keepsWord_eventEntryGo hq h g n p k s
  unfold eventEntry
  extract_lets k
  split
  · exact .ite (keepsWord_bump s 1 hcoal) (hgo k)
  · exact hgo k

omit hq in
theorem keepsWord_intx (s : State) : KeepsWord a s s.intx := .of_regs (onlyIntx_intx s).regs

/-- An event of the device or of a station (R309) leaves every quiet word. -/
theorem keepsWord_raise {g : Nat} {q? : Option Nat} (hg : g < 512) (h : ∀ q, q? = some q → q < 64) (n p : Nat) (s : State) :
    KeepsWord a s (s.raise g q? n p) := by
  have hpend : a ≠ Reg.GLB_EVT_PEND (g / 32) := by unfold Quiet at hq; unfold Reg.GLB_EVT_PEND; omega
  have hcnt : a ≠ Reg.GLB_EVT_CNT := by unfold Quiet at hq; unfold Reg.GLB_EVT_CNT; omega
  have hlast : a ≠ Reg.GLB_EVT_LAST := by unfold Quiet at hq; unfold Reg.GLB_EVT_LAST; omega
  unfold State.raise
  extract_lets b s1 s2 s3 s4 fm s5
  have h3 : KeepsWord a s s3 := ((keepsWord_setLiv s _ hpend).trans ((keepsWord_bump s1 _ hcnt).trans
    (keepsWord_perf hq _ _ _ _ _ _))).trans (keepsWord_setLivN s2 _ hlast)
  have h4 : KeepsWord a s3 s4 := by
    cases q? with
    | none => exact .refl s3
    | some q => exact keepsWord_eventEntry hq (h q rfl) _ _ _ s3
  have h5 : KeepsWord a s4 s5 := by
    show KeepsWord a s4 (if _ then _ else _)
    split
    · next hfm =>
      have hlt : fm < 48 := by simp only [Bool.and_eq_true, decide_eq_true_eq] at hfm; exact hfm.2
      exact keepsWord_eventEntry hq (by omega) _ _ _ s4
    · exact .refl s4
  exact ((h3.trans h4).trans h5).trans (keepsWord_intx s5)

theorem keepsWord_raiseLimited {g : Nat} {q? : Option Nat} (hg : g < 512) (h : ∀ q, q? = some q → q < 64) (k : Nat)
    (s : State) : KeepsWord a s (s.raiseLimited g q? k) := by
  unfold State.raiseLimited
  exact .ite (.refl s) ((keepsWord_evt s _).trans (keepsWord_raise hq hg h 0 0 _))

omit hq in
theorem noPart (q : Nat) (h : none = some q) : q < 64 := nomatch h

omit hq in
theorem stnAttr_lt {n p q : Nat} (h : stnAttr s n p = some q) : q < 64 := by
  simp only [stnAttr, Option.ite_none_right_eq_some, Option.ite_none_left_eq_some, Option.some.injEq] at h
  obtain ⟨-, -, rfl⟩ := h
  exact Nat.mod_lt _ (by decide)

theorem keepsWord_raiseStn {n i : Nat} (hn : n < 24) (hi : i < 16) (p : Nat) (s : State) :
    KeepsWord a s (s.raiseStn n i p) := by
  unfold State.raiseStn
  exact .ite (.refl s) (keepsWord_raise hq (by omega) (fun _ => stnAttr_lt) n p s)

theorem keepsWord_devErr (cause : Fld) (s : State) (ha : a ≠ Reg.GLB_ERR_STAT) : KeepsWord a s (s.devErr cause) := by
  unfold State.devErr
  exact (keepsWord_setLivF s _ _ ha).trans (keepsWord_raise hq (by decide) noPart _ _ _)

theorem keepsWord_slateAdvance (k : Nat) (s : State) : KeepsWord a s (slateAdvance k s) := by
  have hhead : a ≠ Reg.GLB_SLATE_HEAD := by unfold Quiet at hq; unfold Reg.GLB_SLATE_HEAD; omega
  have hstat : a ≠ Reg.GLB_SLATE_STAT := by unfold Quiet at hq; unfold Reg.GLB_SLATE_STAT; omega
  have hlost : a ≠ Reg.GLB_SLATE_LOST := by unfold Quiet at hq; unfold Reg.GLB_SLATE_LOST; omega
  have hrd : a ≠ Reg.GLB_SLATE_RD := by unfold Quiet at hq; unfold Reg.GLB_SLATE_RD; omega
  have hflag (f : Fld) (g : Nat) (hg : g < 512) (s : State) :
      KeepsWord a s ((s.setLivF Reg.GLB_SLATE_STAT f 1).raise g) :=
    (keepsWord_setLivF s f 1 hstat).trans (keepsWord_raise hq hg noPart 0 0 _)
  unfold slateAdvance
  extract_lets rd before after s1 s2 s3 s4
  have h1 : KeepsWord a s s1 := keepsWord_bump s k hhead
  have h2 : KeepsWord a s1 s2 := .ite (hflag _ (gEvt 3) (by decide) s1) (.refl s1)
  have h4 : KeepsWord a s2 s4 := (keepsWord_bump s2 _ hlost).trans (keepsWord_setLivN s3 _ hrd)
  exact (h1.trans h2).trans (.ite (h4.trans (hflag _ (gEvt 4) (by decide) s4)) (.refl s2))

theorem keepsWord_driftMove (q : Bool) (k : Nat) (s : State) : KeepsWord a s (driftMove q k s) := by
  unfold driftMove
  exact (keepsWord_drift s _).trans (keepsWord_perf hq 73 8 none k {} _)

theorem keepsWord_slatePut (e : Entry) (s : State) : KeepsWord a s (slatePut e s) := by
  rw [slatePut_eq]
  exact ((keepsWord_perf hq 73 9 none 1 _ s).trans (keepsWord_driftMove hq false 64 _)).trans
    ((keepsWord_slate _ _).trans (keepsWord_slateAdvance hq 1 _))

theorem keepsWord_slateReserve (s : State) : KeepsWord a s (slateReserve s) := by
  unfold slateReserve
  extract_lets h slots
  exact (keepsWord_slate s _).trans (keepsWord_slateAdvance hq 52 _)

theorem keepsWord_checkpoint (s : State) : KeepsWord a s (checkpoint s) := by
  have hck : a ≠ Reg.GLB_SLATE_CKPT := by unfold Quiet at hq; unfold Reg.GLB_SLATE_CKPT; omega
  have h1 : KeepsWord a s (withCheckpoint s) := (keepsWord_slatePut hq _ s).trans (keepsWord_setLivN _ _ hck)
  rw [checkpoint_eq]
  exact h1.trans ((keepsWord_slate _ _).trans (keepsWord_slateReserve hq _))

theorem keepsWord_log (e : Entry) (s : State) : KeepsWord a s (s.log e) := by
  unfold State.log checkpointIfDue
  exact ((keepsWord_slatePut hq e s).trans (keepsWord_slate _ _)).trans (.ite (keepsWord_checkpoint hq _) (.refl _))

theorem keepsWord_logDevice (loc old new : Nat) (s : State) : KeepsWord a s (s.logDevice loc old new) := keepsWord_log hq _ s

end

end Sys2Proof.Machine
end

section
/-! PROOFS. The fields of a live word. -/

namespace Sys2Proof.Machine

variable {s u v : State} {a b n : Nat} {f g : Fld}

theorem testBit_bits (x lo w i : Nat) : (bits x lo w).testBit i = (decide (i < w) && x.testBit (i + lo)) := by
  rw [bits, Nat.testBit_mod_two_pow, Nat.testBit_div_two_pow]

theorem testBit_setBits (x lo w v i : Nat) :
    (setBits x lo w v).testBit i = if lo ≤ i ∧ i < lo + w then v.testBit (i - lo) else x.testBit i := by
  have hlow : x % 2 ^ lo < 2 ^ lo := Nat.mod_lt _ (Nat.two_pow_pos _)
  have hval : v % 2 ^ w < 2 ^ w := Nat.mod_lt _ (Nat.two_pow_pos _)
  rw [setBits_eq, Nat.add_comm, Nat.testBit_two_pow_mul_add _ hlow, Nat.add_comm (v % 2 ^ w),
    Nat.testBit_two_pow_mul_add _ hval]
  by_cases h1 : i < lo
  · rw [if_pos h1, if_neg (by omega), Nat.testBit_mod_two_pow, decide_eq_true h1, Bool.true_and]
  rw [if_neg h1]
  by_cases h2 : i - lo < w
  · rw [if_pos h2, if_pos (by omega), Nat.testBit_mod_two_pow, decide_eq_true h2, Bool.true_and]
  · rw [if_neg h2, if_neg (by omega), Nat.testBit_div_two_pow, Nat.testBit_div_two_pow]
    congr 1
    omega

/-- Two fields that share no bit. -/
abbrev Fld.Apart (f g : Fld) : Prop := f.lo + f.w ≤ g.lo ∨ g.lo + g.w ≤ f.lo

theorem bits_setBits_apart (x v : Nat) (h : f.Apart g) : bits (setBits x f.lo f.w v) g.lo g.w = bits x g.lo g.w := by
  apply Nat.eq_of_testBit_eq
  intro i
  rw [testBit_bits, testBit_bits, testBit_setBits]
  by_cases hi : i < g.w
  · rw [if_neg (by omega)]
  · simp [hi]

/-- Two numbers that agree in the bits of the field. -/
theorem bits_eq_of_testBit {x y lo w : Nat} (h : ∀ i, lo ≤ i → i < lo + w → x.testBit i = y.testBit i) :
    bits x lo w = bits y lo w := by
  apply Nat.eq_of_testBit_eq
  intro i
  rw [testBit_bits, testBit_bits]
  by_cases hi : i < w
  · rw [h (i + lo) (by omega) (by omega)]
  · simp [hi]

theorem fget_fset_self (x : Word) (k : Nat) (h : f.lo + f.w ≤ 32) : fget (fset x f k) f = k % 2 ^ f.w := by
  rw [fget, fset, bits_toNat_ofNat _ h, bits_setBits_self]

theorem fget_fset_apart (x : Word) (k : Nat) (h : f.Apart g) (hg : g.lo + g.w ≤ 32) : fget (fset x f k) g = fget x g := by
  rw [fget, fset, bits_toNat_ofNat _ hg, bits_setBits_apart _ _ h, fget]

/-! ## Fields of a live word -/

section
variable (hc : s.regs.canon = true)
include hc

theorem livF_setLivF_self (a : Nat) (x : Nat) (h : f.lo + f.w ≤ 32) : (s.setLivF a f x).livF a f = x % 2 ^ f.w := by
  show fget ((s.setLiv a (fset (s.liv a) f x)).liv a) f = _
  rw [State.liv_setLiv_self _ _ hc, fget_fset_self _ _ h]

theorem livF_setLivF_apart (a : Nat) (x : Nat) (h : f.Apart g) (hg : g.lo + g.w ≤ 32) :
    (s.setLivF a f x).livF a g = s.livF a g := by
  show fget ((s.setLiv a (fset (s.liv a) f x)).liv a) g = _
  rw [State.liv_setLiv_self _ _ hc, fget_fset_apart _ _ h hg]
  rfl

theorem livF_setLivF_ne (x : Nat) (h : b ≠ a) : (s.setLivF a f x).livF b g = s.livF b g := by
  show fget ((s.setLiv a (fset (s.liv a) f x)).liv b) g = _
  rw [State.liv_setLiv_ne _ h hc]
  rfl

theorem canon_setLivF (a : Nat) (x : Nat) : (s.setLivF a f x).regs.canon = true := State.canon_setLiv _ _ hc

end

/-- A word that stays has every field as before. -/
theorem KeepsWord.livF (h : KeepsWord a s u) (hc : s.regs.canon = true) (f : Fld) : u.livF a f = s.livF a f := by
  show fget (u.liv a) f = fget (s.liv a) f
  rw [(h hc).2]

end Sys2Proof.Machine
end

section
/-! PROOFS. The Slot Power Controllers: trips, ENABLE, DISABLE (R494, R497, R503 to R509). -/

namespace Sys2Proof.Machine

variable {s u v : State} {n : Nat}

/-- A pulse that finds 64 waiting is lost, counted and reported (R467). -/
theorem cueAccept_of_ge {l : Nat} (h : 64 ≤ Tab.get 0 s.cues.waiting l) : cueAccept l s =
    ((s.bump Reg.CUE_LOSTCNT).setLivN Reg.CUE_STAT (1 + l * 256)).raiseLimited (gEvt 20) := by
  unfold cueAccept
  simp only [if_neg (Nat.not_lt.2 h)]

/-! ## What stays of a controller -/

/-- What a controller does with its gates and PERST_N, and the end of a DISABLE's wait. -/
def Spc.gates (x : Spc) : Option Nat × Bool × Perst × Option Nat := (x.drive, x.full, x.perst, x.disAt)

/-- The tables that a controller's record and its registers lie in are in canonical form. -/
structure SpcCanon (s : State) : Prop where
  regs : s.regs.canon = true
  rises : Tab.rises s.pow.spc = true

/-- SPC_STAT, the gates and PERST_N of controller `n`, and the Active Set, stay. -/
structure SpcSame (n : Nat) (s u : State) : Prop where
  canon : SpcCanon u
  stat : u.liv (Reg.SPC_STAT n) = s.liv (Reg.SPC_STAT n)
  active : u.regs.active = s.regs.active
  gates : (u.spc n).gates = (s.spc n).gates

/-- The same, from a canonical state on. -/
def SpcStays (n : Nat) (s u : State) : Prop := SpcCanon s → SpcSame n s u

theorem SpcStays.refl (s : State) : SpcStays n s s := fun h => ⟨h, rfl, rfl, rfl⟩

theorem SpcStays.trans (h : SpcStays n s u) (k : SpcStays n u v) : SpcStays n s v := fun hs => by
  have h1 := h hs
  have h2 := k h1.canon
  exact ⟨h2.canon, h2.stat.trans h1.stat, h2.active.trans h1.active, h2.gates.trans h1.gates⟩

theorem SpcStays.ite {c : Prop} {_ : Decidable c} (h : SpcStays n s u) (k : SpcStays n s v) :
    SpcStays n s (if c then u else v) := by
  split
  · exact h
  · exact k

/-- What leaves SPC_STAT, the Active Set and the power control stays within the frame. -/
theorem SpcStays.of_keeps (h : KeepsWord (Reg.SPC_STAT n) s u) (ha : u.regs.active = s.regs.active) (hp : u.pow = s.pow) :
    SpcStays n s u := fun hs => by
  obtain ⟨hc, hw⟩ := h hs.regs
  exact ⟨⟨hc, by rw [hp]; exact hs.rises⟩, hw, ha, by rw [State.spc, State.spc, hp]⟩

theorem spcStays_setLiv (s : State) {b : Nat} (w : Word) (h : Reg.SPC_STAT n ≠ b) : SpcStays n s (s.setLiv b w) :=
  .of_keeps (keepsWord_setLiv s w h) rfl rfl

/-- A change of a controller's record that leaves the gates, PERST_N and the wait of a DISABLE. -/
theorem spcStays_onSpc (s : State) {f : Spc → Spc} (h : ∀ x : Spc, (f x).gates = x.gates) : SpcStays n s (s.onSpc n f) :=
  fun hs => by
  have hget : (s.onSpc n f).spc n = f (s.spc n) := Tab.get_set_self n _ hs.rises
  refine ⟨⟨hs.regs, ?_⟩, rfl, rfl, by rw [hget, h]⟩
  show Tab.rises (Tab.set _ _ _ _) = true
  unfold Tab.set
  split
  · exact Tab.rises_del _ hs.rises
  · exact Tab.rises_put _ _ hs.rises

theorem OnlyLog.pow (h : OnlyLog s u) : u.pow = s.pow := by
  obtain ⟨_, _, _, _, _, _, rfl⟩ := h
  rfl

theorem SpcStays.of_log (h : KeepsWord (Reg.SPC_STAT n) s u) (hl : OnlyLog s u) : SpcStays n s u :=
  .of_keeps h hl.active hl.pow

theorem spcStays_fit (w x : Nat) (s : State) : SpcStays n s (s.fit w x).2 := by
  unfold State.fit
  split
  · exact .refl s
  · exact .of_keeps (.of_regs rfl) rfl rfl

/-! ## Records, capture windows, events of a slot -/

section
variable (hn : n < 24)
include hn

theorem quiet_spcStat : Quiet (Reg.SPC_STAT n) := .inr (by unfold Reg.SPC_STAT; omega)

omit hn in
theorem spcStays_faultRecord (cause point : Nat) (s : State) : SpcStays n s (faultRecord n cause point s) := by
  have h0 : Reg.SPC_STAT n ≠ Reg.SPC_FREC n 0 := by unfold Reg.SPC_STAT Reg.SPC_FREC; omega
  have h1 : Reg.SPC_STAT n ≠ Reg.SPC_FREC n 1 := by unfold Reg.SPC_STAT Reg.SPC_FREC; omega
  have h2 : Reg.SPC_STAT n ≠ Reg.SPC_FREC n 2 := by unfold Reg.SPC_STAT Reg.SPC_FREC; omega
  have h3 : Reg.SPC_STAT n ≠ Reg.SPC_FREC n 2 + 4 := by unfold Reg.SPC_STAT Reg.SPC_FREC; omega
  exact (((spcStays_fit _ _ s).trans (spcStays_setLiv _ _ h0)).trans (spcStays_setLiv _ _ h1)).trans
    ((spcStays_setLiv _ _ h2).trans (spcStays_setLiv _ _ h3))

omit hn in
theorem spcStays_onWin (k : Nat) (f : Window → Window) (s : State) : SpcStays n s (onWin n k f s) :=
  spcStays_onSpc s (fun _ => rfl)

omit hn in
theorem spcStays_setCap (k i : Nat) (w : Word) (s : State) : SpcStays n s (s.setLiv (Reg.SPC_CAP n k i) w) :=
  spcStays_setLiv s w (by unfold Reg.SPC_STAT Reg.SPC_CAP; omega)

omit hn in
theorem spcStays_winDur (k : Nat) (s : State) : SpcStays n s (winDur n k s) := by
  unfold winDur
  extract_lets w
  split
  · exact (spcStays_fit _ _ s).trans (spcStays_setCap k 1 _ _)
  · exact .refl s

omit hn in
theorem spcStays_closeWin (k : Nat) (s : State) : SpcStays n s (closeWin n k s) :=
  (spcStays_winDur k s).trans (spcStays_onWin k _ _)

omit hn in
theorem spcStays_closeRuns (s : State) : SpcStays n s (closeRuns n s) :=
  (spcStays_closeWin 0 s).trans (spcStays_closeWin 2 _)

omit hn in
theorem spcStays_openWin (k : Nat) (s : State) : SpcStays n s (openWin n k s) := by
  unfold openWin
  extract_lets s1 s2
  have h1 : SpcStays n s s1 := spcStays_setCap k 0 _ s
  have h2 : SpcStays n s1 s2 :=
    ((spcStays_setCap k 1 _ s1).trans (spcStays_setCap k 2 _ _)).trans (spcStays_setCap k 3 _ _)
  exact (h1.trans h2).trans (spcStays_onWin k _ s2)

theorem spcStays_raise {g : Nat} {q? : Option Nat} (hg : g < 512) (hq : ∀ q, q? = some q → q < 64) (i p : Nat) (s : State) :
    SpcStays n s (s.raise g q? i p) :=
  .of_log (keepsWord_raise (quiet_spcStat hn) hg hq i p s) (onlyEvents_raise s g q? i p).log

theorem spcStays_raiseStn (i p : Nat) (hi : i < 16) (s : State) : SpcStays n s (s.raiseStn n i p) :=
  .of_log (keepsWord_raiseStn (quiet_spcStat hn) hn hi p s) (onlyEvents_raiseStn s n i p).log

theorem spcStays_logDevice (loc old new : Nat) (s : State) : SpcStays n s (s.logDevice loc old new) :=
  .of_log (keepsWord_logDevice (quiet_spcStat hn) loc old new s) (onlyLog_log s _)

omit hn in
theorem spcStays_setCfg (q fn : Nat) (r : CfgReg) (w : Word) (s : State) : SpcStays n s (s.setCfg q fn r w) :=
  .of_keeps (.of_regs rfl) rfl rfl

omit hn in
theorem spcStays_slotStatus (k set : Nat) (s : State) : SpcStays n s (slotStatus k set s) := by
  have hset (s : State) (f : Nat × Nat) := spcStays_setCfg (n := n) f.1 f.2 .slotCtl
    (s.cfgR f.1 f.2 .slotCtl ||| BitVec.ofNat 32 (set * 2 ^ 16)) s
  exact foldl_rel (R := SpcStays n) (fun s => .refl s) (fun h k => h.trans k) hset (slotFns s k) s

theorem spcStays_hotplug (s : State) : SpcStays n s (hotplug n s) := by
  unfold hotplug
  exact .ite (spcStays_raiseStn hn 14 _ (by decide) s) (.refl s)

omit hn in
theorem firstBelow_lt {k m : Nat} {p : Nat → Bool} (h : firstBelow k p = some m) : m < k := by
  unfold firstBelow at h
  simpa using List.mem_of_find?_eq_some h

theorem spcStays_spcEvent (g : Nat) (hg : g < 32) (fault : Bool) (s : State) : SpcStays n s (spcEvent n g fault s) := by
  have hraise : SpcStays n s (s.raise (gEvt g) (slotOwner s n)) :=
    spcStays_raise hn (by unfold gEvt; omega) (fun _ h => Nat.lt_trans (firstBelow_lt h) (by decide)) 0 0 s
  unfold spcEvent
  extract_lets s1
  exact .ite (hraise.trans ((spcStays_slotStatus n 2 s1).trans (spcStays_hotplug hn _))) hraise

theorem spcStays_spcLog (g : Nat) (s : State) : SpcStays n s (spcLog n g s) := spcStays_logDevice hn _ _ _ s

theorem spcStays_flagStn {a : Nat} (ha : a < 0x100000) (s : State) : SpcStays n s (flagStn a n s) :=
  spcStays_setLiv s _ (by unfold Reg.SPC_STAT; omega)

theorem spcStays_cueAccept (l : Nat) (s : State) : SpcStays n s (cueAccept l s) := by
  have hlost : Reg.SPC_STAT n ≠ Reg.CUE_LOSTCNT := by unfold Reg.SPC_STAT Reg.CUE_LOSTCNT; omega
  have hstat : Reg.SPC_STAT n ≠ Reg.CUE_STAT := by unfold Reg.SPC_STAT Reg.CUE_STAT; omega
  have hraise (z : State) : SpcStays n z (z.raiseLimited (gEvt 20)) :=
    .of_log (keepsWord_raiseLimited (quiet_spcStat hn) (by decide) noPart _ z) (onlyEvents_raiseLimited z _ _).log
  by_cases h : Tab.get 0 s.cues.waiting l < 64
  · rw [cueAccept_of_lt h]
    exact .of_keeps (.of_regs rfl) rfl rfl
  · rw [cueAccept_of_ge (Nat.le_of_not_lt h)]
    exact ((spcStays_setLiv s _ hlost).trans (spcStays_setLiv _ _ hstat)).trans (hraise _)

theorem spcStays_spcCue (b : Nat) (s : State) : SpcStays n s (spcCue n b s) := by
  have hdeny : Reg.SPC_STAT n ≠ Reg.CUE_DENYCNT := by unfold Reg.SPC_STAT Reg.CUE_DENYCNT; omega
  unfold spcCue
  extract_lets w
  refine .ite ?_ (.refl s)
  unfold cuePulse
  exact .ite (spcStays_cueAccept hn _ s) (spcStays_setLiv s _ hdeny)

end

/-! ## Fields of SPC_STAT -/

theorem spcStat_setSpc_self {f : Fld} (hs : SpcCanon s) (x : Nat) (h : f.lo + f.w ≤ 32) :
    spcStat (setSpc n f x s) n f = x % 2 ^ f.w := livF_setLivF_self hs.regs _ x h

theorem spcStat_setSpc_apart {f g : Fld} (hs : SpcCanon s) (x : Nat) (h : f.Apart g) (hg : g.lo + g.w ≤ 32) :
    spcStat (setSpc n f x s) n g = spcStat s n g := livF_setLivF_apart hs.regs _ x h hg

theorem SpcCanon.setSpc (hs : SpcCanon s) (f : Fld) (x : Nat) : SpcCanon (setSpc n f x s) :=
  ⟨canon_setLivF hs.regs _ x, hs.rises⟩

theorem SpcSame.spcStat (h : SpcSame n s u) (f : Fld) : spcStat u n f = spcStat s n f := by
  show fget (u.liv _) f = fget (s.liv _) f
  rw [h.stat]

theorem SpcSame.spcCfg (h : SpcSame n s u) (f : Fld) : spcCfg u n f = spcCfg s n f := by
  show fget (Tab.get _ u.regs.active _) f = fget (Tab.get _ s.regs.active _) f
  rw [h.active]

/-- A change of a controller's record. -/
theorem spc_onSpc (hs : SpcCanon s) (f : Spc → Spc) : (s.onSpc n f).spc n = f (s.spc n) ∧ SpcCanon (s.onSpc n f) := by
  refine ⟨Tab.get_set_self n _ hs.rises, hs.regs, ?_⟩
  show Tab.rises (Tab.set _ _ _ _) = true
  unfold Tab.set
  split
  · exact Tab.rises_del _ hs.rises
  · exact Tab.rises_put _ _ hs.rises

/-! ## A trip (R505 to R507) -/

/-- The gates are off, PERST_N is not high and power-good is low; RETRIES and the Active Set are as in `s`. -/
structure SpcDown (n : Nat) (s u : State) : Prop where
  canon : SpcCanon u
  active : u.regs.active = s.regs.active
  drive : (u.spc n).drive = none
  full : (u.spc n).full = false
  perst : (u.spc n).perst ≠ .high
  pg : spcStat u n Fld.SPC_STAT_PG = 0
  retries : spcStat u n Fld.SPC_STAT_RETRIES = spcStat s n Fld.SPC_STAT_RETRIES

/-- PERST_N is not high once it has fallen. -/
theorem perst_perstFall (hs : SpcCanon s) : ((perstFall n s).spc n).perst ≠ .high ∧
    ((perstFall n s).spc n).drive = (s.spc n).drive ∧ ((perstFall n s).spc n).full = (s.spc n).full ∧
    ((perstFall n s).spc n).disAt = (s.spc n).disAt ∧ SpcCanon (perstFall n s) := by
  obtain ⟨hget, hc⟩ := spc_onSpc (n := n) hs (fun x => { x with perst := if x.perst = .z then .z else .low })
  refine ⟨?_, by rw [perstFall, hget], by rw [perstFall, hget], by rw [perstFall, hget], hc⟩
  rw [perstFall, hget]
  show (if (s.spc n).perst = .z then Perst.z else .low) ≠ .high
  split <;> decide

/-- The power-good and PERST_N of a controller fall after its gates were turned off. -/
theorem spcDown_pgDown (hs : SpcCanon s) : SpcDown n s (pgDown n (gatesOff n s)) := by
  obtain ⟨hoff, h1⟩ := spc_onSpc (n := n) hs
    (fun x => { x with drive := none, full := false, ck := [], rev := 0, pgcnt := 0, sw := .none, fast := false })
  obtain ⟨hperst, hdrive, hfull, -, h2⟩ := perst_perstFall (n := n) h1
  obtain ⟨hcnt, h3⟩ := spc_onSpc (n := n) h2 (fun x => { x with pgcnt := 0 })
  have hspc : (pgDown n (gatesOff n s)).spc n = { (perstFall n (gatesOff n s)).spc n with pgcnt := 0 } := hcnt
  have hoff' : (gatesOff n s).spc n = _ := hoff
  refine ⟨h3.setSpc _ _, rfl, ?_, ?_, ?_, spcStat_setSpc_self h3 0 (by decide),
    spcStat_setSpc_apart h3 0 (by decide) (by decide)⟩
  · rw [hspc]
    exact hdrive.trans (by rw [hoff])
  · rw [hspc]
    exact hfull.trans (by rw [hoff])
  · rw [hspc]
    exact hperst

theorem SpcDown.same (h : SpcDown n s u) (k : SpcStays n u v) : SpcDown n s v := by
  have hk := k h.canon
  have hg := hk.gates
  simp only [Spc.gates, Prod.mk.injEq] at hg
  obtain ⟨hdrive, hfull, hperst, -⟩ := hg
  exact ⟨hk.canon, hk.active.trans h.active, hdrive.trans h.drive, hfull.trans h.full, hperst ▸ h.perst,
    (hk.spcStat _).trans h.pg, (hk.spcStat _).trans h.retries⟩

theorem SpcDown.after (h : SpcSame n s u) (k : SpcDown n u v) : SpcDown n s v :=
  { k with active := k.active.trans h.active, retries := k.retries.trans (h.spcStat _) }

theorem SpcDown.setSpc (h : SpcDown n s u) {f : Fld} (x : Nat) (hp : f.Apart Fld.SPC_STAT_PG)
    (hr : f.Apart Fld.SPC_STAT_RETRIES) : SpcDown n s (setSpc n f x u) :=
  ⟨h.canon.setSpc _ _, h.active, h.drive, h.full, h.perst, (spcStat_setSpc_apart h.canon x hp (by decide)).trans h.pg,
    (spcStat_setSpc_apart h.canon x hr (by decide)).trans h.retries⟩

/-- The state of a trip before it is decided whether the controller retries. -/
def tripped (n cause point : Nat) (s : State) : State :=
  spcCue n 9 (spcLog n 23 (spcEvent n 23 true (flagStn Reg.GLB_SPC_TRIP n (closeRuns n (setSpc n Fld.SPC_STAT_TRIPPED 1
    ((pgDown n (gatesOff n (faultRecord n cause point s))).bump (Reg.SPC_TRIPCNT n)))))))

theorem trip_eq (n cause point : Nat) (s : State) : trip n cause point s =
    if cause ≤ 3 ∧ spcStat (tripped n cause point s) n Fld.SPC_STAT_RETRIES <
        spcCfg (tripped n cause point s) n Fld.SPC_CFG_RETRYMAX then
      toState n 5 ((tripped n cause point s).onSpc n (fun x => { x with retryAt := some ((tripped n cause point s).now +
        max (retryWait (tripped n cause point s) n) (99 * (s.now - (s.spc n).tryAt))) }))
    else enterLockout n (tripped n cause point s) := rfl

theorem spcStays_bump (s : State) {b : Nat} (h : Reg.SPC_STAT n ≠ b) : SpcStays n s (s.bump b) :=
  .of_keeps (keepsWord_bump s 1 h) rfl rfl

theorem spcDown_tripped (hn : n < 24) (cause point : Nat) (hs : SpcCanon s) :
    SpcDown n s (tripped n cause point s) ∧ spcStat (tripped n cause point s) n Fld.SPC_STAT_TRIPPED = 1 := by
  have hrec := spcStays_faultRecord (n := n) cause point s hs
  have hcnt := ((spcDown_pgDown hrec.canon).same (spcStays_bump _ (b := Reg.SPC_TRIPCNT n)
    (by unfold Reg.SPC_STAT Reg.SPC_TRIPCNT; omega))).after hrec
  have hstays (z : State) : SpcStays n z (spcCue n 9 (spcLog n 23 (spcEvent n 23 true
      (flagStn Reg.GLB_SPC_TRIP n (closeRuns n z))))) :=
    ((spcStays_closeRuns z).trans ((spcStays_flagStn hn (by decide) _).trans (spcStays_spcEvent hn 23 (by decide) true _))).trans
      ((spcStays_spcLog hn 23 _).trans (spcStays_spcCue hn 9 _))
  have hset := hcnt.setSpc (f := Fld.SPC_STAT_TRIPPED) 1 (by decide) (by decide)
  exact ⟨hset.same (hstays _), ((hstays _ hset.canon).spcStat _).trans (spcStat_setSpc_self hcnt.canon 1 (by decide))⟩

theorem spcStays_enterLockoutEnd (hn : n < 24) (s : State) : SpcStays n s (spcCue n 10 (spcLog n 25 (spcEvent n 25 true s))) :=
  (spcStays_spcEvent hn 25 (by decide) true s).trans ((spcStays_spcLog hn 25 _).trans (spcStays_spcCue hn 10 _))

/-- LOCKOUT (R507). -/
theorem spcDown_enterLockout (hn : n < 24) (h : SpcDown n s u) : SpcDown n s (enterLockout n u) ∧
    spcState (enterLockout n u) n = 7 ∧
    spcStat (enterLockout n u) n Fld.SPC_STAT_TRIPPED = spcStat u n Fld.SPC_STAT_TRIPPED := by
  have hstate := h.setSpc (f := Fld.SPC_STAT_STATE) 7 (by decide) (by decide)
  have hload := hstate.setSpc (f := Fld.SPC_STAT_LOADW) 0 (by decide) (by decide)
  have hend := spcStays_enterLockoutEnd hn (setSpc n Fld.SPC_STAT_LOADW 0 (toState n 7 u))
  refine ⟨hload.same hend, ?_, ?_⟩
  · calc spcStat (enterLockout n u) n Fld.SPC_STAT_STATE
      _ = spcStat (setSpc n Fld.SPC_STAT_LOADW 0 (toState n 7 u)) n Fld.SPC_STAT_STATE := (hend hload.canon).spcStat _
      _ = spcStat (toState n 7 u) n Fld.SPC_STAT_STATE := spcStat_setSpc_apart hstate.canon 0 (by decide) (by decide)
      _ = 7 := spcStat_setSpc_self h.canon 7 (by decide)
  · calc spcStat (enterLockout n u) n Fld.SPC_STAT_TRIPPED
      _ = spcStat (setSpc n Fld.SPC_STAT_LOADW 0 (toState n 7 u)) n Fld.SPC_STAT_TRIPPED := (hend hload.canon).spcStat _
      _ = spcStat (toState n 7 u) n Fld.SPC_STAT_TRIPPED := spcStat_setSpc_apart hstate.canon 0 (by decide) (by decide)
      _ = spcStat u n Fld.SPC_STAT_TRIPPED := spcStat_setSpc_apart h.canon 7 (by decide) (by decide)

/-- RETRYWAIT (R507). -/
theorem spcDown_retryWait (h : SpcDown n s u) (t : Nat) :
    let k := toState n 5 (u.onSpc n (fun x => { x with retryAt := some t }))
    SpcDown n s k ∧ spcState k n = 5 ∧ spcStat k n Fld.SPC_STAT_TRIPPED = spcStat u n Fld.SPC_STAT_TRIPPED := by
  have hon := spcStays_onSpc (n := n) u (f := fun x => { x with retryAt := some t }) (fun _ => rfl)
  have hdown := h.same hon
  exact ⟨hdown.setSpc (f := Fld.SPC_STAT_STATE) 5 (by decide) (by decide), spcStat_setSpc_self hdown.canon 5 (by decide),
    (spcStat_setSpc_apart hdown.canon 5 (by decide) (by decide)).trans ((hon h.canon).spcStat _)⟩

theorem trip_spec (hn : n < 24) (cause point : Nat) (hs : SpcCanon s) :
    SpcDown n s (trip n cause point s) ∧ spcStat (trip n cause point s) n Fld.SPC_STAT_TRIPPED = 1 ∧
    spcState (trip n cause point s) n =
      if cause ≤ 3 ∧ spcStat s n Fld.SPC_STAT_RETRIES < spcCfg s n Fld.SPC_CFG_RETRYMAX then 5 else 7 := by
  obtain ⟨hdown, htripped⟩ := spcDown_tripped hn cause point hs
  have hmax : spcCfg (tripped n cause point s) n Fld.SPC_CFG_RETRYMAX = spcCfg s n Fld.SPC_CFG_RETRYMAX := by
    show fget (Tab.get _ (tripped n cause point s).regs.active _) _ = fget (Tab.get _ s.regs.active _) _
    rw [hdown.active]
  rw [trip_eq, hdown.retries, hmax]
  split
  · obtain ⟨h, hstate, htrip⟩ := spcDown_retryWait hdown ((tripped n cause point s).now +
      max (retryWait (tripped n cause point s) n) (99 * (s.now - (s.spc n).tryAt)))
    exact ⟨h, htrip.trans htripped, hstate⟩
  · obtain ⟨h, hstate, htrip⟩ := spcDown_enterLockout hn hdown
    exact ⟨h, htrip.trans htripped, hstate⟩

/-! ## ENABLE and DISABLE (R494, R509) -/

theorem spcEnable_spec (load : Nat) (hload : load < 2 ^ 12) (hs : SpcCanon s) :
    spcState (spcEnable n load s) n = 1 ∧ slotClaim (spcEnable n load s) n = load ∧
    spcStat (spcEnable n load s) n Fld.SPC_STAT_RETRIES = 0 := by
  have h1 := hs.setSpc (n := n) Fld.SPC_STAT_RETRIES 0
  have h2 := h1.setSpc (n := n) Fld.SPC_STAT_LOADW load
  have h3 := h2.setSpc (n := n) Fld.SPC_STAT_STATE 1
  have hopen := spcStays_openWin (n := n) 0 _ h3
  refine ⟨?_, ?_, ?_⟩
  · calc spcStat (spcEnable n load s) n Fld.SPC_STAT_STATE
      _ = _ := hopen.spcStat _
      _ = 1 := spcStat_setSpc_self h2 1 (by decide)
  · calc spcStat (spcEnable n load s) n Fld.SPC_STAT_LOADW
      _ = _ := hopen.spcStat _
      _ = _ := spcStat_setSpc_apart h2 1 (by decide) (by decide)
      _ = load % 2 ^ 12 := spcStat_setSpc_self h1 load (by decide)
      _ = load := Nat.mod_eq_of_lt hload
  · calc spcStat (spcEnable n load s) n Fld.SPC_STAT_RETRIES
      _ = _ := hopen.spcStat _
      _ = _ := spcStat_setSpc_apart h2 1 (by decide) (by decide)
      _ = _ := spcStat_setSpc_apart h1 load (by decide) (by decide)
      _ = 0 := spcStat_setSpc_self hs 0 (by decide)

/-- A change of a controller's record leaves its registers. -/
theorem spcStat_onSpc (s : State) (g : Spc → Spc) (f : Fld) : spcStat (s.onSpc n g) n f = spcStat s n f := rfl

/-- OFF (R497). -/
theorem enterOff_spec (hn : n < 24) (hs : SpcCanon s) :
    spcState (enterOff n s) n = 0 ∧ slotClaim (enterOff n s) n = 0 ∧
    spcStat (enterOff n s) n Fld.SPC_STAT_PG = spcStat s n Fld.SPC_STAT_PG := by
  have h1 := hs.setSpc (n := n) Fld.SPC_STAT_STATE 0
  have h2 := h1.setSpc (n := n) Fld.SPC_STAT_LOADW 0
  have h3 := (spc_onSpc (n := n) h2 (fun x => { x with disAt := none, retryAt := none })).2
  have hend := ((spcStays_closeWin 1 _).trans (spcStays_spcCue hn 10 _)) h3
  have hstat (f : Fld) : spcStat (enterOff n s) n f = spcStat (setSpc n Fld.SPC_STAT_LOADW 0 (toState n 0 s)) n f :=
    (hend.spcStat f).trans (spcStat_onSpc _ _ f)
  refine ⟨?_, ?_, ?_⟩
  · exact (hstat _).trans ((spcStat_setSpc_apart h1 0 (by decide) (by decide)).trans (spcStat_setSpc_self hs 0 (by decide)))
  · exact (hstat _).trans (spcStat_setSpc_self h1 0 (by decide))
  · exact (hstat _).trans ((spcStat_setSpc_apart h1 0 (by decide) (by decide)).trans
      (spcStat_setSpc_apart hs 0 (by decide) (by decide)))

theorem spcDisable_of_on (h : spcState s n = 3) : spcDisable n s =
    closeRuns n ((perstFall n s).onSpc n (fun x => { x with
      disAt := if x.disAt.isSome then x.disAt else some (s.now + 100000) })) := if_pos h

theorem spcDisable_of_not_on (h : spcState s n ≠ 3) : spcDisable n s = disableEnd n s := if_neg h

theorem disableEnd_spec (hn : n < 24) (hs : SpcCanon s) :
    spcState (disableEnd n s) n = 0 ∧ slotClaim (disableEnd n s) n = 0 ∧
    spcStat (disableEnd n s) n Fld.SPC_STAT_PG = 0 := by
  have hdown := (spcDown_pgDown (n := n) hs).same (spcStays_closeRuns _)
  obtain ⟨hstate, hload, hpg⟩ := enterOff_spec hn hdown.canon
  exact ⟨hstate, hload, hpg.trans hdown.pg⟩

theorem spcDisable_on_spec (hs : SpcCanon s) (h : spcState s n = 3) :
    spcState (spcDisable n s) n = 3 ∧ ((spcDisable n s).spc n).perst ≠ .high ∧
    ((s.spc n).disAt = none → ((spcDisable n s).spc n).disAt = some (s.now + 100000)) := by
  obtain ⟨hperst, -, -, hdis, h1⟩ := perst_perstFall (n := n) hs
  obtain ⟨hget, h2⟩ := spc_onSpc (n := n) h1
    (fun x => { x with disAt := if x.disAt.isSome then x.disAt else some (s.now + 100000) })
  have hend := spcStays_closeRuns (n := n) _ h2
  have hg := hend.gates
  simp only [Spc.gates, Prod.mk.injEq] at hg
  obtain ⟨-, -, hp, hd⟩ := hg
  rw [spcDisable_of_on h]
  refine ⟨?_, ?_, fun hnone => ?_⟩
  · exact (hend.spcStat _).trans h
  · rw [hp, hget]
    exact hperst
  · rw [hd, hget]
    show (if ((perstFall n s).spc n).disAt.isSome then ((perstFall n s).spc n).disAt else some (s.now + 100000)) = _
    rw [hdis, hnone]
    rfl

theorem canon_regs (hc : s.canon = true) : s.regs.canon = true := by
  simp only [State.canon, Bool.and_eq_true] at hc
  exact hc.1.1

theorem SpcCanon.of_state (hc : s.canon = true) (hr : Tab.rises s.pow.spc = true) : SpcCanon s :=
  ⟨canon_regs hc, hr⟩

/-- Settles O35: a trip leaves the controller down (`SpcDown`), whatever its cause, with RETRIES as they were. -/
theorem slotTrips : Obligations.SlotTrips := by
  unfold Obligations.SlotTrips
  refine ⟨⟨fun s n m hlive => ⟨fun k hk => ?_, ?_, fun t hd hf => ?_, fun hm => ?_⟩,
    fun s n cause point hn _ _ hc hr => ?_⟩, fun s n load hn hload hc hr => ⟨?_, fun h => ?_, fun h => ?_⟩⟩
  · exact congrArg Host.Outcome.next (if_pos ⟨hk, hlive⟩)
  · exact congrArg Host.Outcome.next (if_pos hlive)
  · show execSpcRampTimeout n s = _
    simp [execSpcRampTimeout, hd, hf, hlive]
  · exact congrArg Host.Outcome.next (if_pos ⟨hm, hlive⟩)
  · obtain ⟨hdown, htripped, hstate⟩ := trip_spec hn cause point (.of_state hc hr)
    exact ⟨hdown.drive, hdown.full, hdown.perst, hdown.pg, htripped, fun h => hstate.trans (if_pos h),
      fun h => hstate.trans (if_neg h)⟩
  · exact spcEnable_spec load hload (.of_state hc hr)
  · rw [spcDisable_of_not_on h]
    exact disableEnd_spec hn (.of_state hc hr)
  · exact spcDisable_on_spec (.of_state hc hr) h

/-! ## Progress (R492, R496 to R501, R508 to R511) -/

theorem fit_regs (w x : Nat) (s : State) : (s.fit w x).2.regs = s.regs := by
  unfold State.fit
  split
  · rfl
  · rfl

theorem meterUpdate_eq (h : (s.spc n).sums.n = 1000) : meterUpdate n s =
    (((((s.onSpc n (fun x => { x with sums := {} })).fit 16 ((s.spc n).sums.i / (s.spc n).sums.n)).2.setLivN (Reg.SPC_V n)
      ((s.spc n).sums.vout / (s.spc n).sums.n + (s.spc n).sums.vin / (s.spc n).sums.n * 2 ^ 16)).setLivN (Reg.SPC_VIN n)
      ((s.spc n).sums.vinA / (s.spc n).sums.n + (s.spc n).sums.vinB / (s.spc n).sums.n * 2 ^ 16)).setLivN (Reg.SPC_I n)
      ((s.onSpc n (fun x => { x with sums := {} })).fit 16 ((s.spc n).sums.i / (s.spc n).sums.n)).1).setLivN (Reg.SPC_P n)
      ((s.spc n).sums.p / (s.spc n).sums.n) := if_neg (by rw [h]; decide)

/-- The mean power of 1,000 steps (R511). -/
theorem liv_meterUpdate (hs : s.canon = true) (h : (s.spc n).sums.n = 1000) :
    (meterUpdate n s).liv (Reg.SPC_P n) = BitVec.ofNat 32 ((s.spc n).sums.p / 1000) := by
  rw [meterUpdate_eq h]
  refine (State.liv_setLiv_self _ _ (State.canon_setLiv _ _ (State.canon_setLiv _ _ (State.canon_setLiv _ _ ?_)))).trans
    (by rw [h])
  rw [fit_regs]
  exact canon_regs hs

/-- Settles O34, clause by clause: each condition selects the branch of its command. -/
theorem slotPowerProgress : Obligations.SlotPowerProgress := by
  unfold Obligations.SlotPowerProgress
  refine ⟨fun s n m => ⟨rfl, fun here h1 h2 => ?_, fun k h => ?_, fun k h => ?_, fun h => ?_, fun h1 h2 => ?_, fun y h => ?_,
    fun y t h => ?_, fun y h => ?_⟩, fun s n => ⟨fun h1 h2 h3 h4 h5 h6 => ?_, fun h1 h2 h3 => ?_, fun t h => ?_, fun h => ?_,
    fun t h1 h2 => ?_, fun h => ?_, fun h => ?_, fun h => ⟨_, rfl, rfl, fun hc => liv_meterUpdate hc h⟩⟩⟩
  · exact congrArg Host.Outcome.next (if_pos ⟨h1, h2⟩)
  · show execSpcFeedValid n k s = _
    simp [execSpcFeedValid, h]
  · exact congrArg Host.Outcome.next (if_pos h)
  · exact congrArg Host.Outcome.next (if_pos (.inl h))
  · exact congrArg Host.Outcome.next (if_pos (.inr ⟨h1, h2⟩))
  · show execSpcOffConfirm n s = _
    simp only [execSpcOffConfirm, h]
  · show execSpcDeadTimeEnd n s = _
    simp only [execSpcDeadTimeEnd, h]
  · show execSpcAutoret n s = _
    simp only [execSpcAutoret, h]
  · exact congrArg Host.Outcome.next (if_pos ⟨h1, h2, by rw [h3]; rfl, h4, h5, h6⟩)
  · exact congrArg Host.Outcome.next (if_pos ⟨h1, by rw [h2]; rfl, by rw [h3]; rfl⟩)
  · show execSpcDisableWaitEnd n s = _
    simp only [execSpcDisableWaitEnd, h]
  · exact congrArg Host.Outcome.next (if_pos h)
  · show execSpcRetryWaitEnd n s = _
    simp only [execSpcRetryWaitEnd, h2, if_pos h1]
  · exact congrArg Host.Outcome.next (if_pos h)
  · exact congrArg Host.Outcome.next (if_pos h)

end Sys2Proof.Machine
end

section
/-! PROOFS. OTP commands (R546, R547). -/

namespace Sys2Proof.Machine

variable {s u : State} {t : Take} {w a b : Nat} {v : Word}

theorem onlyLive_storeCmd (a : Nat) (v : Word) (zeros : List Fld) (s : State) : OnlyLive s (storeCmd a v zeros s) := by
  unfold storeCmd
  split
  · exact ⟨_, rfl⟩
  · exact ⟨_, rfl⟩

theorem OnlyLive.sec (h : OnlyLive s u) : u.sec = s.sec := by
  obtain ⟨_, rfl⟩ := h
  rfl

/-- A write of a command register changes no other word. -/
theorem keepsWord_storeCmd (v : Word) (zeros : List Fld) (s : State) (h : a ≠ b) : KeepsWord a s (storeCmd b v zeros s) := by
  unfold storeCmd
  split
  · exact .refl s
  · exact keepsWord_setLiv s _ h

/-- The arming word cleared and the command stored. -/
def otpStored (v : Word) (s : State) : State := storeCmd Reg.SEC_OTP_CMD v [Fld.SEC_OTP_CMD_OP] (s.setLiv Reg.SEC_OTP_ARM 0)

/-- A refused command shows its CODE. -/
def otpRefused (c : Nat) (v : Word) (s : State) : State :=
  (otpStored v s).setLivF Reg.SEC_OTP_STAT Fld.SEC_OTP_STAT_CODE c

/-- The command that is then in progress. -/
def otpBegun (v : Word) (s : State) : State :=
  ((otpStored v s).onSec (fun x => { x with cmd := some ⟨fget v Fld.SEC_OTP_CMD_OP, fget v Fld.SEC_OTP_CMD_SLOT,
    fget v Fld.SEC_OTP_CMD_VALUE, otpHash (otpStored v s)⟩ })).setLivF Reg.SEC_OTP_STAT Fld.SEC_OTP_STAT_BUSY 1

theorem otpStored_sec (v : Word) (s : State) : (otpStored v s).sec = s.sec := (onlyLive_storeCmd _ _ _ _).sec

theorem keepsWord_otpStored (v : Word) (s : State) (h1 : a ≠ Reg.SEC_OTP_ARM) (h2 : a ≠ Reg.SEC_OTP_CMD) :
    KeepsWord a s (otpStored v s) := (keepsWord_setLiv s 0 h1).trans (keepsWord_storeCmd v _ _ h2)

theorem otpStored_arm (v : Word) (hs : s.regs.canon = true) :
    (otpStored v s).regs.canon = true ∧ (otpStored v s).liv Reg.SEC_OTP_ARM = 0 := by
  obtain ⟨hc, hw⟩ := keepsWord_storeCmd (a := Reg.SEC_OTP_ARM) v [Fld.SEC_OTP_CMD_OP] (s.setLiv Reg.SEC_OTP_ARM 0)
    (b := Reg.SEC_OTP_CMD) (by decide) (State.canon_setLiv _ _ hs)
  exact ⟨hc, hw.trans (State.liv_setLiv_self _ _ hs)⟩

theorem otpHash_otpStored (v : Word) (hs : s.regs.canon = true) : otpHash (otpStored v s) = otpHash s := by
  have hw (i : Nat) : (otpStored v s).liv (Reg.SEC_OTP_DATA i) = s.liv (Reg.SEC_OTP_DATA i) :=
    (keepsWord_otpStored v s (by unfold Reg.SEC_OTP_DATA Reg.SEC_OTP_ARM; omega)
      (by unfold Reg.SEC_OTP_DATA Reg.SEC_OTP_CMD; omega) hs).2
  unfold otpHash
  simp only [hw]

theorem otpTest_congr (hsec : u.sec = s.sec) (hboot : reelInUse u = reelInUse s) (op slot value : Nat) :
    otpTest u op slot value = otpTest s op slot value := by
  unfold otpTest keySlot
  rw [hsec, hboot]

theorem otpCommand_eq (h : fget v Fld.SEC_OTP_CMD_OP ≠ 0) : otpCommand v s =
    if !(s.liv Reg.SEC_OTP_ARM == 0x7A9) then otpRefused 2 v s
    else if (otpStored v s).sec.cmd.isSome then otpRefused 3 v s
    else match otpTest (otpStored v s) (fget v Fld.SEC_OTP_CMD_OP) (fget v Fld.SEC_OTP_CMD_SLOT) (fget v Fld.SEC_OTP_CMD_VALUE) with
      | some c => otpRefused c v s
      | none => otpBegun v s := if_neg h

theorem otpTest_otpStored (v : Word) (hs : s.regs.canon = true) (op slot value : Nat) :
    otpTest (otpStored v s) op slot value = otpTest s op slot value := by
  refine otpTest_congr (otpStored_sec v s) ?_ op slot value
  have hboot : (otpStored v s).boot = s.boot := (onlyLive_storeCmd _ _ _ _).boot
  have hfailed : (otpStored v s).bootFailed = s.bootFailed := by
    unfold State.bootFailed
    rw [(keepsWord_otpStored v s (by decide) (by decide)).livF hs]
  rw [reelInUse, reelInUse, hboot, hfailed]

/-- A refused command changes nothing of the OTP. -/
theorem otpRefused_spec (c : Nat) (hc : c < 2 ^ 4) (hs : s.regs.canon = true) : (otpRefused c v s).sec = s.sec ∧
    (otpRefused c v s).livF Reg.SEC_OTP_STAT Fld.SEC_OTP_STAT_CODE = c ∧ (otpRefused c v s).liv Reg.SEC_OTP_ARM = 0 := by
  obtain ⟨hcanon, harm⟩ := otpStored_arm v hs
  exact ⟨otpStored_sec v s, (livF_setLivF_self hcanon _ c (by decide)).trans (Nat.mod_eq_of_lt hc),
    (State.liv_setLiv_ne _ (by decide) hcanon).trans harm⟩

theorem otpBegun_spec (hs : s.regs.canon = true) : (otpBegun v s).sec = { s.sec with cmd := some ⟨fget v Fld.SEC_OTP_CMD_OP,
      fget v Fld.SEC_OTP_CMD_SLOT, fget v Fld.SEC_OTP_CMD_VALUE, otpHash s⟩ } ∧
    (otpBegun v s).livF Reg.SEC_OTP_STAT Fld.SEC_OTP_STAT_BUSY = 1 ∧ (otpBegun v s).liv Reg.SEC_OTP_ARM = 0 := by
  obtain ⟨hcanon, harm⟩ := otpStored_arm v hs
  refine ⟨?_, ?_, ?_⟩
  · rw [← otpStored_sec v s, ← otpHash_otpStored v hs]
    rfl
  · exact livF_setLivF_self (s := (otpStored v s).onSec _) hcanon _ 1 (by decide)
  · exact (State.liv_setLiv_ne (s := (otpStored v s).onSec _) _ (by decide) hcanon).trans harm

theorem otpTest_lt {op slot value c : Nat} (h : otpTest s op slot value = some c) : c < 2 ^ 4 := by
  unfold otpTest at h
  extract_lets k used other high at h
  have hc : c = 4 ∨ c = 5 := by
    split at h
    · split at h
      · exact nomatch h
      · exact .inl (Option.some.inj h).symm
    · split at h
      · split at h
        · exact .inl (Option.some.inj h).symm
        · exact nomatch h
      · split at h
        · exact .inr (Option.some.inj h).symm
        · exact nomatch h
  omega

/-- What a write of SEC_OTP_CMD with an OP does (R546). -/
theorem otpCommand_cases (hs : s.regs.canon = true) (h : fget v Fld.SEC_OTP_CMD_OP ≠ 0) :
    (s.liv Reg.SEC_OTP_ARM ≠ 0x7A9 ∧ otpCommand v s = otpRefused 2 v s) ∨
    (s.liv Reg.SEC_OTP_ARM = 0x7A9 ∧ s.sec.cmd ≠ none ∧ otpCommand v s = otpRefused 3 v s) ∨
    (∃ c, s.liv Reg.SEC_OTP_ARM = 0x7A9 ∧ s.sec.cmd = none ∧ otpTest s (fget v Fld.SEC_OTP_CMD_OP)
      (fget v Fld.SEC_OTP_CMD_SLOT) (fget v Fld.SEC_OTP_CMD_VALUE) = some c ∧ otpCommand v s = otpRefused c v s) ∨
    (s.liv Reg.SEC_OTP_ARM = 0x7A9 ∧ s.sec.cmd = none ∧ otpTest s (fget v Fld.SEC_OTP_CMD_OP)
      (fget v Fld.SEC_OTP_CMD_SLOT) (fget v Fld.SEC_OTP_CMD_VALUE) = none ∧ otpCommand v s = otpBegun v s) := by
  rw [otpCommand_eq h, otpStored_sec, otpTest_otpStored v hs]
  by_cases harm : s.liv Reg.SEC_OTP_ARM = 0x7A9
  · rw [if_neg (by rw [harm]; decide)]
    by_cases hcmd : s.sec.cmd = none
    · rw [if_neg (by rw [hcmd]; decide)]
      cases htest : otpTest s (fget v Fld.SEC_OTP_CMD_OP) (fget v Fld.SEC_OTP_CMD_SLOT) (fget v Fld.SEC_OTP_CMD_VALUE) with
      | some c => exact .inr (.inr (.inl ⟨c, harm, hcmd, rfl, rfl⟩))
      | none => exact .inr (.inr (.inr ⟨harm, hcmd, rfl, rfl⟩))
    · rw [if_pos (Option.isSome_iff_ne_none.2 hcmd)]
      exact .inr (.inl ⟨harm, hcmd, rfl⟩)
  · rw [if_pos (by rw [Bool.not_eq_true', beq_eq_false_iff_ne]; exact harm)]
    exact .inl ⟨harm, rfl⟩

theorem nth_setNth_self {α : Type} (d x : α) (l : List α) (i : Nat) (h : i < l.length) : nth d (setNth l i x) i = x := by
  induction l generalizing i with
  | nil => exact absurd h (Nat.not_lt_zero i)
  | cons y l ih =>
    cases i with
    | zero => rfl
    | succ i => exact ih i (Nat.lt_of_succ_lt_succ h)

/-- Settles O37: the four outcomes of a write of SEC_OTP_CMD, and what a command leaves in the OTP. -/
theorem otpCommands : Obligations.OtpCommands := by
  unfold Obligations.OtpCommands
  refine ⟨fun s t w v => ⟨fun h => ?_, fun h => ?_, fun h => ?_⟩, fun s v hc hop => ?_, fun s c ok h => ?_,
    fun c x => ⟨fun h hl => ?_, fun h hl => ?_, fun h => ?_⟩⟩
  · exact liveStep_done h (act := otpCommand v) rfl
  · exact liveStep_done h (act := otpCommand v) rfl
  · exact liveStep_done h (act := otpCommand v) rfl
  · have hr := canon_regs hc
    rcases otpCommand_cases hr hop with ⟨harm, he⟩ | ⟨harm, hcmd, he⟩ | ⟨c, harm, hcmd, htest, he⟩ | ⟨harm, hcmd, htest, he⟩
    · obtain ⟨hsec, hcode, hzero⟩ := otpRefused_spec (v := v) 2 (by decide) hr
      dsimp only
      rw [he]
      exact ⟨fun _ => ⟨hsec, hcode⟩, fun h => absurd h harm, fun c h => absurd h harm, fun h => absurd h harm, hzero⟩
    · obtain ⟨hsec, hcode, hzero⟩ := otpRefused_spec (v := v) 3 (by decide) hr
      dsimp only
      rw [he]
      exact ⟨fun h => absurd harm h, fun _ _ => ⟨hsec, hcode⟩, fun c _ h => absurd h hcmd, fun _ h => absurd h hcmd, hzero⟩
    · obtain ⟨hsec, hcode, hzero⟩ := otpRefused_spec (v := v) c (otpTest_lt htest) hr
      dsimp only
      rw [he, htest]
      exact ⟨fun h => absurd harm h, fun _ h => absurd hcmd h, fun d _ _ hd => Option.some.inj hd ▸ ⟨hsec, hcode⟩,
        fun _ _ h => (nomatch h), hzero⟩
    · obtain ⟨hsec, hbusy, hzero⟩ := otpBegun_spec (v := v) hr
      dsimp only
      rw [he, htest]
      exact ⟨fun h => absurd harm h, fun _ h => absurd hcmd h, fun d _ _ hd => (nomatch hd), fun _ _ _ => ⟨hsec, hbusy⟩, hzero⟩
  · show execOtpCommandDone ok s = _
    unfold execOtpCommandDone
    rw [h]
    rfl
  · rw [otpDone, if_pos h]
    show (nth {} (setNth x.slots c.slot _) c.slot).hash = _
    rw [nth_setNth_self _ _ _ _ hl]
  · rw [otpDone, if_neg (by omega), if_pos h]
    show (nth {} (setNth x.slots c.slot _) c.slot).revoked = _
    rw [nth_setNth_self _ _ _ _ hl]
  · rw [otpDone, if_neg (by omega), if_neg (by omega)]

end Sys2Proof.Machine
end

section
/-! PROOFS. DMA channels, cue lines and cue timers (R456 to R469). -/

namespace Sys2Proof.Machine

variable {s u : State} {t : Take} {w a c i l : Nat} {v : Word}

/-! ## Channels -/

/-- What an accepted write of CH_PI does. -/
def piStored (c a x : Nat) (k : State) : State := settle (pumpFetch c (k.setLivN a x))

theorem chPiWrite_of_ok (h : AtLive chPiRule s t w a v)
    (hok : (originOwns s t.origin (chOwner s (chOf a)) && piFits s (chOf a) (v.toNat % 2 ^ 16)) = true) :
    execChPiWrite s = .next (liveDone t a v (piStored (chOf a) a (v.toNat % 2 ^ 16)) s) :=
  liveStep_done h (congrArg command (if_pos hok))

theorem chPiWrite_of_not (h : AtLive chPiRule s t w a v)
    (hok : (originOwns s t.origin (chOwner s (chOf a)) && piFits s (chOf a) (v.toNat % 2 ^ 16)) = false) :
    execChPiWrite s = .next (liveDone t a v (cmdRej (chOf a)) s) :=
  liveStep_done h (congrArg command (if_neg (by rw [hok]; decide)))

/-- The effect of each command of a channel. -/
def chanAct (c op : Nat) (clr own : Bool) : State → State :=
  if op = 0 then id
  else if !own then cmdRej c
  else if op = 1 then fun k => settle (startChan c clr k)
  else if op = 2 then pauseChan c
  else fun k => settle (abortChan c k)

theorem chanAct_refused {op : Nat} (clr : Bool) (h : op ≠ 0) : chanAct c op clr false = cmdRej c := by
  rw [chanAct, if_neg h]
  exact if_pos rfl

theorem liveStep_chCmd {op : Nat} (h : AtLive (chCmdRule [op]) s t w a v) :
    liveStep (chCmdRule [op]) s = .next (liveDone t a v (chanAct (chOf a) op (fget v Fld.CH_CMD_CLRGO == 1)
      (originOwns s t.origin (chOwner s (chOf a)))) s) := by
  have hsel : (isCh 0x14 a && [op].contains (fget v Fld.CH_CMD_OP)) = true := h.2.2.2.1
  have hop : fget v Fld.CH_CMD_OP = op := by
    simp only [Bool.and_eq_true] at hsel
    simpa using hsel.2
  refine liveStep_done h ?_
  rw [← hop]
  rfl

theorem chState_setChStat (hs : s.regs.canon = true) (x : Nat) (h : x < 2 ^ 2) :
    chState (setChStat c Fld.CH_STAT_STATE x s) c = x :=
  (livF_setLivF_self hs _ x (by decide)).trans (Nat.mod_eq_of_lt h)

theorem pauseChan_of_running (h : chState s c = 1 ∨ chState s c = 2) : pauseChan c s =
    setChStat c Fld.CH_STAT_STATE 3 (s.onChan c (fun x => { x with fromWait := chState s c == 2 })) := if_pos h

theorem pauseChan_of_not (h : chState s c = 0 ∨ chState s c = 3) : pauseChan c s = cmdRej c s := if_neg (by omega)

/-- What an ABORT of a channel without a descriptor in progress leaves of its record. -/
def chanAborted (x : Chan) : Chan := { x with
  entry := none
  fetching := false
  lull := false
  fromWait := false
  goTaken := false
  gen := x.gen + 1 }

theorem abortChan_of_idle (h : chState s c = 0) : abortChan c s = cmdRej c s := if_pos h

theorem abortChan_of_none (h : chState s c ≠ 0) (hcur : (s.chan c).cur = none) :
    abortChan c s = setChStat c Fld.CH_STAT_STATE 0 (s.onChan c chanAborted) := by
  unfold abortChan
  simp only [if_neg h, hcur]
  rfl

theorem startChan_refused (b : Bool)
    (h : s.mode = 0 ∨ s.mode = 4 ∨ s.mode = 5 ∨ chState s c = 1 ∨ chState s c = 2) : startChan c b s = cmdRej c s := by
  by_cases hmode : s.mode = 0 ∨ s.mode = 4 ∨ s.mode = 5 ∨ lulled s (chOwner s c)
  · exact if_pos hmode
  · unfold startChan
    rw [if_neg hmode]
    have hstate : chState s c = 1 ∨ chState s c = 2 := by
      rcases h with h | h | h | h
      · exact absurd (.inl h) hmode
      · exact absurd (.inr (.inl h)) hmode
      · exact absurd (.inr (.inr (.inl h))) hmode
      · exact h
    rcases hstate with h1 | h1
    · simp only [h1]
    · simp only [h1]

theorem nextCh_of_not_run (h : chState s c ≠ 1) : nextCh c s = s := if_pos (.inl h)

/-! ## Cue lines and timers -/

theorem bits_zero (x k : Nat) : bits x 0 k = x % 2 ^ k := by rw [bits, Nat.pow_zero, Nat.div_one]

theorem armTimer_of_off (h : v.toNat % 4 = 0) : armTimer i v s = s.onEng (fun e => { e with tmr := Tab.del e.tmr i }) :=
  if_pos ((bits_zero _ 2).trans h)

/-- The timer that a write of its word 0 arms. -/
def timerSet (s : State) (i : Nat) (v : Word) : CueTimer where
  mode := bits v.toNat 0 2
  line := bits v.toNat 2 8
  sline := bits v.toNat 10 8
  sen := bit v.toNat 18
  period := max 4 (s.liv (Reg.CUE_TMR i 1)).toNat
  next := some (if bits v.toNat 0 2 = 3 then s.liv64 (Reg.CUE_TMR i 2)
    else s.now + max 4 (s.liv (Reg.CUE_TMR i 1)).toNat)

theorem armTimer_of_on (h : v.toNat % 4 ≠ 0) :
    armTimer i v s = s.onEng (fun e => { e with tmr := Tab.put e.tmr i (timerSet s i v) }) :=
  if_neg (fun hb => h ((bits_zero _ 2).symm.trans hb))

theorem find_armTimer_of_on (h : v.toNat % 4 ≠ 0) : Tab.find (armTimer i v s).eng.tmr i = some (timerSet s i v) := by
  rw [armTimer_of_on h]
  exact Tab.find_put_self _ _ _

/-- What a write of word 0 of a timer does. -/
def timerAct (s : State) (t : Take) (i : Nat) (v : Word) (k : State) : State :=
  armTimer i v ((plainEffect s t (Reg.CUE_TMR i 0) v).act k)

theorem tmrRule_eff (s : State) (t : Take) (i : Nat) (v : Word) :
    tmrRule.eff s t (Reg.CUE_TMR i 0) v = command (timerAct s t i v) := by
  have haligned : Reg.CUE_TMR i 0 % 16 = 0 := by unfold Reg.CUE_TMR; omega
  have hindex : (Reg.CUE_TMR i 0 - Reg.CUE_TMR 0 0) / 16 = i := by unfold Reg.CUE_TMR; omega
  refine Eq.trans (if_pos haligned) ?_
  rw [hindex]
  exact withAct_of_plain (plainEffect_frame s t (Reg.CUE_TMR i 0) v) (timerAct s t i v)

/-- The pulse of a line that a delivery takes: what follows in the order of R467. -/
theorem execCuePulseDeliver_of_waiting {l : Fin 256} {k : Nat} (h : Tab.get 0 s.cues.waiting l.val = k + 1) :
    execCuePulseDeliver l s = .next (settle (cueForward l.val (cueRestart l.val (cueGo l.val (waitCue l.val
      (cueTake l.val (perf 73 5 (some l.val) 1 {}
        (State.bump { s with cues := { s.cues with waiting := Tab.set 0 s.cues.waiting l.val k } }
          (Reg.CUE_CNT l.val))))))))) := by
  unfold execCuePulseDeliver
  simp only [h, if_neg (Nat.succ_ne_zero k), Nat.add_sub_cancel]

theorem execCuePulseDeliver_of_none {l : Fin 256} (h : Tab.get 0 s.cues.waiting l.val = 0) :
    execCuePulseDeliver l s = .next (settle s) := by
  unfold execCuePulseDeliver
  simp only [h, if_pos]

theorem execCueTimerFire_of_armed {t : Fin 16} {m : CueTimer} {d : Nat} (h : Tab.find s.eng.tmr t.val = some m)
    (hd : m.next = some d) : execCueTimerFire t s = .next (cuePulse none m.line
      ((if m.mode = 3 then s.reachFt d else s.reach d).onEng (fun e => { e with tmr := Tab.put e.tmr t.val { m with
        next := if m.mode = 2 then some (d + m.period) else none } }))) := by
  unfold execCueTimerFire
  simp only [h, hd]

theorem execCueTimerFire_of_none {t : Fin 16} (h : (Tab.find s.eng.tmr t.val).bind (fun m => m.next) = none) :
    execCueTimerFire t s = .next s := by
  unfold execCueTimerFire
  cases hm : Tab.find s.eng.tmr t.val with
  | none => rfl
  | some m =>
    rw [hm] at h
    have hnext : m.next = none := h
    simp only [hnext]

theorem OnlyEvents.cues (h : OnlyEvents s u) : u.cues = s.cues := by
  obtain ⟨_, _, _, _, rfl⟩ := h
  rfl

theorem cueAccept_cues_of_ge (h : 64 ≤ Tab.get 0 s.cues.waiting l) : (cueAccept l s).cues = s.cues := by
  rw [cueAccept_of_ge h, (onlyEvents_raiseLimited _ _ _).cues]
  rfl

/-- Settles O55: each command is the equation of its branch above. -/
theorem dmaAndCues : Obligations.DmaAndCues := by
  unfold Obligations.DmaAndCues
  refine ⟨⟨fun s t w a v h => ⟨fun hok => chPiWrite_of_ok h hok, fun hok => chPiWrite_of_not h hok⟩,
    fun s t w a v => ⟨fun h ho => ?_, fun h ho => ?_, fun h ho => ?_, fun h ho => ?_, fun h ho => ?_, fun h ho => ?_⟩,
    fun s c _ hs => ⟨fun h => ?_, pauseChan_of_not, abortChan_of_idle, fun h hcur => ?_, fun h b => startChan_refused b h⟩,
    fun s c => ⟨rfl, nextCh_of_not_run, fun d h => ?_, fun h => ?_, fun h => ?_, fun h => ?_⟩⟩,
    fun s l k h => execCuePulseDeliver_of_waiting h, fun s l h => execCuePulseDeliver_of_none h,
    fun s t w i v _ h => ⟨?_, liveStep_done h (tmrRule_eff s t i v)⟩,
    fun s i v hr => ⟨fun h => ?_, fun h => ?_, fun h => ?_⟩,
    fun s t m d h hd => execCueTimerFire_of_armed h hd, fun s t h => execCueTimerFire_of_none h, fun s q l h => ?_,
    fun s l h => ⟨cueAccept_cues_of_ge h, cueAccept_of_ge h⟩⟩
  · exact (liveStep_chCmd h).trans (by rw [ho]; rfl)
  · exact (liveStep_chCmd h).trans (by rw [ho]; rfl)
  · exact (liveStep_chCmd h).trans (by rw [ho]; rfl)
  · exact (liveStep_chCmd h).trans (by rw [ho, chanAct_refused _ (by decide)])
  · exact (liveStep_chCmd h).trans (by rw [ho, chanAct_refused _ (by decide)])
  · exact (liveStep_chCmd h).trans (by rw [ho, chanAct_refused _ (by decide)])
  · rw [pauseChan_of_running h]
    exact chState_setChStat (s := s.onChan c _) hs 3 (by decide)
  · rw [abortChan_of_none h hcur]
    exact chState_setChStat (s := s.onChan c chanAborted) hs 0 (by decide)
  · show execDmaBeat s = _
    simp only [execDmaBeat, h]
  · show execDmaBeat s = _
    simp only [execDmaBeat, h]
  · exact congrArg (fun k => Host.Outcome.next (settle k)) (if_pos h)
  · exact congrArg (fun k => Host.Outcome.next (settle k)) (if_neg (by rw [h]; decide))
  · have hdeny : decide (t.origin < 48) = false := h.2.2.2.2.2.2.1
    exact Nat.le_of_not_lt (of_decide_eq_false hdeny)
  · rw [armTimer_of_off h]
    exact Tab.find_del_self _ _ hr
  · refine ⟨timerSet s i v, find_armTimer_of_on (by omega), rfl, ?_⟩
    exact congrArg some (if_neg (by rw [bits_zero]; omega))
  · exact ⟨timerSet s i v, find_armTimer_of_on (by omega), congrArg some (if_pos ((bits_zero _ 2).trans h))⟩
  · exact if_neg (by rw [cueMay, h]; decide)

end Sys2Proof.Machine
end

section
/-! PROOFS. Slice commands (R476 to R484) and SPDM requests (R198, R551 to R554). -/

namespace Sys2Proof.Machine

variable {s u : State} {t : Take} {w a i op : Nat} {v : Word}

/-! ## Slice commands -/

/-- The command stored and its CODE shown. -/
def sliceTold (s : State) (t : Take) (v : Word) (z : State) : State :=
  (storeCmd Reg.GLB_SLICECMD v [Fld.GLB_SLICECMD_OP] z).setLivN Reg.GLB_SLICESTAT
    (sliceCode s t.origin (fget v Fld.GLB_SLICECMD_SLICE) (fget v Fld.GLB_SLICECMD_OP) + 16 * fget v Fld.GLB_SLICECMD_SLICE)

/-- What an accepted LULL does once its long operation has begun. -/
def lullAct (s : State) (t : Take) (v : Word) (z : State) : State :=
  settle (beginLull (fget v Fld.GLB_SLICECMD_SLICE) ((sliceTold s t v z).onSl (fget v Fld.GLB_SLICECMD_SLICE)
    (fun x => { x with late := false, lullCue := sliceCue v })))

/-- What each accepted command does. -/
def sliceAct (s : State) (t : Take) (v : Word) : Effect :=
  let i := fget v Fld.GLB_SLICECMD_SLICE
  let op := fget v Fld.GLB_SLICECMD_OP
  if op = 1 then command (lullAct s t v) (.long (.lull i))
  else if op = 2 then command (fun z => settle (resumeSlice i (sliceTold s t v z)))
  else if op = 3 then command (fun z => settle (clearSlice i (sliceTold s t v z)))
  else command (fun z => settle (flushSlice i (sliceCue v) (sliceTold s t v z)))

theorem sliceRule_eff (ops : List Nat) (hop : 1 ≤ fget v Fld.GLB_SLICECMD_OP ∧ fget v Fld.GLB_SLICECMD_OP ≤ 4) :
    (sliceRule ops).eff s t Reg.GLB_SLICECMD v =
      if sliceCode s t.origin (fget v Fld.GLB_SLICECMD_SLICE) (fget v Fld.GLB_SLICECMD_OP) ≠ 0 then
        command (sliceTold s t v) (if fget v Fld.GLB_SLICECMD_OP = 1 then .stop .refused else .retire)
      else sliceAct s t v := if_neg (by omega)

theorem sliceAct_lull (h : fget v Fld.GLB_SLICECMD_OP = 1) : sliceAct s t v =
    command (lullAct s t v) (.long (.lull (fget v Fld.GLB_SLICECMD_SLICE))) := if_pos h

theorem sliceAct_resume (h : fget v Fld.GLB_SLICECMD_OP = 2) : sliceAct s t v =
    command (fun z => settle (resumeSlice (fget v Fld.GLB_SLICECMD_SLICE) (sliceTold s t v z))) :=
  (if_neg (by omega)).trans (if_pos h)

theorem sliceAct_reset (h : fget v Fld.GLB_SLICECMD_OP = 3) : sliceAct s t v =
    command (fun z => settle (clearSlice (fget v Fld.GLB_SLICECMD_SLICE) (sliceTold s t v z))) :=
  (if_neg (by omega)).trans ((if_neg (by omega)).trans (if_pos h))

theorem sliceAct_flush (h : fget v Fld.GLB_SLICECMD_OP = 4) : sliceAct s t v =
    command (fun z => settle (flushSlice (fget v Fld.GLB_SLICECMD_SLICE) (sliceCue v) (sliceTold s t v z))) :=
  (if_neg (by omega)).trans ((if_neg (by omega)).trans (if_neg (by omega)))

theorem sliceOp_of_atLive (h : AtLive (sliceRule [op]) s t w a v) : fget v Fld.GLB_SLICECMD_OP = op := by
  have hsel : (a == Reg.GLB_SLICECMD && [op].contains (fget v Fld.GLB_SLICECMD_OP)) = true := h.2.2.2.1
  simp only [Bool.and_eq_true] at hsel
  simpa using hsel.2

theorem sliceStep_refused (h : AtLive (sliceRule [op]) s t w Reg.GLB_SLICECMD v) (hop : 1 ≤ op ∧ op ≤ 4)
    (hc : sliceCode s t.origin (fget v Fld.GLB_SLICECMD_SLICE) (fget v Fld.GLB_SLICECMD_OP) ≠ 0) :
    liveStep (sliceRule [op]) s = .next (finish (if op = 1 then .stop .refused else .retire) t (sliceTold s t v)
      (logLive t Reg.GLB_SLICECMD v s)) := by
  have hv := sliceOp_of_atLive h
  refine liveStep_of_command h ?_
  rw [sliceRule_eff _ (hv ▸ hop), if_pos hc, hv]

theorem sliceStep_accepted (h : AtLive (sliceRule [op]) s t w Reg.GLB_SLICECMD v) (hop : 1 ≤ op ∧ op ≤ 4)
    (hc : sliceCode s t.origin (fget v Fld.GLB_SLICECMD_SLICE) (fget v Fld.GLB_SLICECMD_OP) = 0)
    {act : State → State} {fin : Finish} (he : sliceAct s t v = command act fin) :
    liveStep (sliceRule [op]) s = .next (finish fin t act (logLive t Reg.GLB_SLICECMD v s)) := by
  refine liveStep_of_command h ?_
  rw [sliceRule_eff _ (sliceOp_of_atLive h ▸ hop), if_neg (by rw [hc]; decide), he]

theorem tryLull_of_flushed (hst : (s.sl i).st = 2) (hq : sliceQuiet s i = true) (hf : (s.sl i).lullFlush = true)
    (hl : (s.sl i).lines = 0) : tryLull i s = enterLull i s := by
  unfold tryLull
  simp only [hst, hq, hf, hl, true_and, if_true]

theorem tryLull_of_not (h : (s.sl i).st ≠ 2 ∨ sliceQuiet s i = false ∨ ((s.sl i).lullFlush = true ∧ 0 < (s.sl i).lines)) :
    tryLull i s = s := by
  unfold tryLull
  by_cases hq : (s.sl i).st = 2 ∧ sliceQuiet s i = true
  · obtain ⟨hst, hquiet⟩ := hq
    rcases h with h | h | ⟨hf, hl⟩
    · exact absurd hst h
    · exact absurd hquiet (by rw [h]; decide)
    · simp only [hst, hquiet, hf, true_and, if_true, if_neg (Nat.ne_of_gt hl)]
  · exact if_neg hq

theorem execSliceResetDone_of_not {t : Fin 4096} (h : (s.sl t.val).resetting = false ∨ keysOf s (isSlice t.val) ≠ []) :
    execSliceResetDone t s = .next s := by
  refine congrArg Host.Outcome.next (if_neg ?_)
  rintro ⟨hr, hk⟩
  rcases h with h | h
  · exact absurd hr (by rw [h]; decide)
  · exact h hk

theorem execSliceFlushDone_of_done {t : Fin 4096} (hf : (s.sl t.val).flushing = true) (hl : (s.sl t.val).lines = 0) :
    execSliceFlushDone t s = .next (match (s.sl t.val).flushCue with
      | some l => cuePulse (some (slicePart s t.val)) l (s.onSl t.val (fun x => { x with flushing := false, flushCue := none }))
      | none => s.onSl t.val (fun x => { x with flushing := false, flushCue := none })) :=
  congrArg Host.Outcome.next (if_pos ⟨hf, hl⟩)

theorem execSliceFlushDone_of_not {t : Fin 4096} (h : (s.sl t.val).flushing = false ∨ 0 < (s.sl t.val).lines) :
    execSliceFlushDone t s = .next s := by
  refine congrArg Host.Outcome.next (if_neg ?_)
  rintro ⟨hf, hl⟩
  rcases h with h | h
  · exact absurd hf (by rw [h]; decide)
  · omega

/-- Is a command's row there in the slice's state (R476)? -/
def sliceRow (op st : Nat) : Bool := if op = 1 then st == 1 else if op = 4 then st != 2 else st == 0

theorem sliceRow_iff {st : Nat} (h1 : 1 ≤ op) (h4 : op ≤ 4) : sliceRow op st = true ↔
    (op = 1 ∧ st = 1) ∨ ((op = 2 ∨ op = 3) ∧ st = 0) ∨ (op = 4 ∧ st ≠ 2) := by
  unfold sliceRow
  split
  · rw [beq_iff_eq]
    omega
  · split
    · rw [bne_iff_ne]
      omega
    · rw [beq_iff_eq]
      omega

theorem sliceCode_of_foreign {origin : Nat} (h : origin < 48 ∧ slicePart s i ≠ origin) : sliceCode s origin i op = 1 := if_pos h

theorem sliceCode_of_unbound {origin : Nat} (h : ¬(origin < 48 ∧ slicePart s i ≠ origin)) (hb : sliceBound s i = false) :
    sliceCode s origin i op = 2 := by
  unfold sliceCode
  rw [if_neg h, hb]
  rfl

theorem sliceCode_of_noRow {origin : Nat} (h : ¬(origin < 48 ∧ slicePart s i ≠ origin)) (hb : sliceBound s i = true)
    (hr : sliceRow op (s.sl i).st = false) : sliceCode s origin i op = 3 := by
  unfold sliceCode
  rw [if_neg h, hb]
  exact if_pos (congrArg not hr)

/-- Settles O56: the commands by their CODE, then the three ends. -/
theorem sliceCommands : Obligations.SliceCommands := by
  unfold Obligations.SliceCommands
  refine ⟨fun s t w v => ⟨fun h hc => ?_, fun h hc => ?_, fun h hc => ?_, fun h hc => ?_, fun h hc => ?_, fun h hc => ?_,
    fun h hc => ?_, fun h hc => ?_⟩,
    fun s t => ⟨fun h1 h2 h3 h4 => congrArg (fun k => Host.Outcome.next (settle k)) (tryLull_of_flushed h1 h2 h3 h4),
      fun h => congrArg (fun k => Host.Outcome.next (settle k)) (tryLull_of_not h),
      fun h1 h2 => congrArg Host.Outcome.next (if_pos ⟨h1, h2⟩), execSliceResetDone_of_not,
      fun h1 h2 h3 => (execSliceFlushDone_of_done h1 h2).trans (by rw [h3]),
      fun l h1 h2 h3 => (execSliceFlushDone_of_done h1 h2).trans (by rw [h3]), execSliceFlushDone_of_not⟩,
    fun s origin t op h1 h4 => ⟨sliceCode_of_foreign, sliceCode_of_unbound, fun h hb hr =>
      sliceCode_of_noRow h hb (Bool.eq_false_iff.2 (fun hrow => hr ((sliceRow_iff h1 h4).1 hrow)))⟩⟩
  · exact sliceStep_refused h (by decide) hc
  · exact sliceStep_accepted h (by decide) hc (sliceAct_lull (sliceOp_of_atLive h))
  · exact sliceStep_accepted h (by decide) hc (sliceAct_resume (sliceOp_of_atLive h))
  · exact sliceStep_accepted h (by decide) hc (sliceAct_reset (sliceOp_of_atLive h))
  · exact sliceStep_accepted h (by decide) hc (sliceAct_flush (sliceOp_of_atLive h))
  · exact sliceStep_refused h (by decide) hc
  · exact sliceStep_refused h (by decide) hc
  · exact sliceStep_refused h (by decide) hc

end Sys2Proof.Machine
end

section
/-! PROOFS. SPDM requests, their responses, and the Active Set digest (R198, R551 to R554). -/

namespace Sys2Proof.Machine

variable {s u : State} {p : Fin 48}

/-- A request that reaches a management function is counted, and answered. -/
theorem spdm_of_reached (h : mgmtReached s p.val = true) (f : State → State) :
    spdm p f s = .next (f (s.bump Reg.SEC_SPDM_REQCNT)) := congrArg Host.Outcome.next (if_pos h)

theorem spdmMeasure_of_bad {q : Nat} {r : SpdmReq} (h : badSpdm r = true) : spdmMeasure q r s = spdmSend q (.error 1) s :=
  if_pos h

theorem spdmMeasure_of_waiting {q : Nat} {r : SpdmReq} (h : badSpdm r = false) (hm : (measuredBy r).contains 2 = true)
    (hd : s.liv Reg.SEC_ASSTAT = 0) : spdmMeasure q r s = s.onSec (fun x => { x with waits := x.waits ++ [(q, r)] }) :=
  (if_neg (by rw [h]; decide)).trans (if_pos ⟨hm, hd⟩)

theorem spdmMeasure_of_ready {q : Nat} {r : SpdmReq} (h : badSpdm r = false)
    (hm : (measuredBy r).contains 2 = false ∨ s.liv Reg.SEC_ASSTAT ≠ 0) : spdmMeasure q r s = spdmAnswer q r s := by
  refine (if_neg (by rw [h]; decide)).trans (if_neg ?_)
  rintro ⟨hc, hd⟩
  rcases hm with hm | hm
  · exact absurd hc (by rw [hm]; decide)
  · exact hm hd

theorem spdmSend_frame (q : Nat) (r : SpdmReply) (s : State) :
    (spdmSend q r s).sec = s.sec ∧ (spdmSend q r s).regs.active = s.regs.active := by
  cases r <;> exact ⟨rfl, rfl⟩

theorem spdmAnswer_frame (q : Nat) (r : SpdmReq) (s : State) :
    (spdmAnswer q r s).sec = s.sec ∧ (spdmAnswer q r s).regs.active = s.regs.active := by
  cases r with
  | challenge slot sum nonce => exact spdmSend_frame _ _ (s.bump Reg.SEC_SIGCNT)
  | measure index sign slot nonce =>
    unfold spdmAnswer
    extract_lets ms all
    dsimp only
    split
    · exact spdmSend_frame _ _ (s.bump Reg.SEC_SIGCNT)
    · exact spdmSend_frame _ _ s

theorem foldl_spdmAnswer_frame (l : List (Nat × SpdmReq)) (s : State) :
    (l.foldl (fun s e => spdmAnswer e.1 e.2 s) s).sec = s.sec ∧
    (l.foldl (fun s e => spdmAnswer e.1 e.2 s) s).regs.active = s.regs.active := by
  induction l generalizing s with
  | nil => exact ⟨rfl, rfl⟩
  | cons e l ih =>
    obtain ⟨hsec, hactive⟩ := ih (spdmAnswer e.1 e.2 s)
    obtain ⟨hsec1, hactive1⟩ := spdmAnswer_frame e.1 e.2 s
    exact ⟨hsec.trans hsec1, hactive.trans hactive1⟩

/-! ## The digest of the Active Set -/

/-- The digest written word by word. -/
def digestShown (n d : Nat) (s : State) : State := forUpto n (fun i s => s.setLivN (Reg.SEC_ASDIG i) (d / 2 ^ (32 * i))) s

theorem digestShown_frame (n d : Nat) (s : State) : (digestShown n d s).sec = s.sec ∧
    (digestShown n d s).regs.active = s.regs.active ∧
    (s.regs.canon = true → (digestShown n d s).regs.canon = true ∧
      ∀ i, i < n → (digestShown n d s).liv (Reg.SEC_ASDIG i) = BitVec.ofNat 32 (d / 2 ^ (32 * i))) := by
  induction n with
  | zero => exact ⟨rfl, rfl, fun hs => ⟨hs, fun i hi => absurd hi (Nat.not_lt_zero i)⟩⟩
  | succ n ih =>
    obtain ⟨hsec, hactive, hwords⟩ := ih
    refine ⟨hsec, hactive, fun hs => ?_⟩
    obtain ⟨hc, hw⟩ := hwords hs
    refine ⟨State.canon_setLiv _ _ hc, fun i hi => ?_⟩
    by_cases h : i = n
    · subst h
      exact State.liv_setLiv_self _ _ hc
    · exact (State.liv_setLiv_ne _ (by unfold Reg.SEC_ASDIG; omega) hc).trans (hw i (by omega))

/-- A digest shown and ready, with no request waiting any more. -/
def digestReadyOf (n d : Nat) (s : State) : State :=
  ((digestShown n d s).setLivN Reg.SEC_ASSTAT 1).onSec (fun x => { x with waits := [] })

theorem digestReadyOf_words {n d : Nat} (hn : n ≤ 16) (hs : s.regs.canon = true) : (digestReadyOf n d s).liv Reg.SEC_ASSTAT = 1 ∧
    ∀ i, i < n → (digestReadyOf n d s).liv (Reg.SEC_ASDIG i) = BitVec.ofNat 32 (d / 2 ^ (32 * i)) := by
  obtain ⟨-, -, hwords⟩ := digestShown_frame n d s
  obtain ⟨hc, hw⟩ := hwords hs
  exact ⟨State.liv_setLiv_self _ _ hc, fun i hi =>
    (State.liv_setLiv_ne _ (by unfold Reg.SEC_ASDIG Reg.SEC_ASSTAT; omega) hc).trans (hw i hi)⟩

/-- The digest of the Active Set, shown and ready. -/
def digestReady (s : State) : State := digestReadyOf 16 (asDigest s).toNat s

theorem digestReady_words (hs : s.regs.canon = true) : (digestReady s).liv Reg.SEC_ASSTAT = 1 ∧
    ∀ i, i < 16 → (digestReady s).liv (Reg.SEC_ASDIG i) = (asDigest s).extractLsb' (32 * i) 32 := by
  obtain ⟨hstat, hw⟩ := digestReadyOf_words (d := (asDigest s).toNat) (Nat.le_refl 16) hs
  refine ⟨hstat, fun i hi => (hw i hi).trans ?_⟩
  rw [BitVec.extractLsb', Nat.shiftRight_eq_div_pow]

theorem execAsDigestDone_of_pending (h : s.liv Reg.SEC_ASSTAT = 0) :
    execAsDigestDone s = .next (s.sec.waits.foldl (fun s e => spdmAnswer e.1 e.2 s) (digestReady s)) := by
  refine congrArg Host.Outcome.next ((if_pos h).trans ?_)
  show (digestShown 16 (asDigest s).toNat s).sec.waits.foldl (fun s e => spdmAnswer e.1 e.2 s) (digestReady s) = _
  rw [(digestShown_frame 16 (asDigest s).toNat s).1]

theorem digestReady_active (s : State) : (digestReady s).regs.active = s.regs.active :=
  (digestShown_frame 16 (asDigest s).toNat s).2.1

/-- The three ways of a request that measures (R552). -/
theorem spdmMeasure_cases {r : SpdmReq} {a : Host.Outcome State Fault Refusal} (h : mgmtReached s p.val = true)
    (ha : a = spdm p (spdmMeasure p.val r) s) :
    (badSpdm r = true → a = .next (((s.bump Reg.SEC_SPDM_REQCNT).bump Reg.SEC_SPDM_ERRCNT).emit (.spdm p.val (.error 1)))) ∧
    (badSpdm r = false → (measuredBy r).contains 2 = true → (s.bump Reg.SEC_SPDM_REQCNT).liv Reg.SEC_ASSTAT = 0 →
      a = .next ((s.bump Reg.SEC_SPDM_REQCNT).onSec (fun x => { x with waits := x.waits ++ [(p.val, r)] }))) ∧
    (badSpdm r = false → (measuredBy r).contains 2 = false ∨ (s.bump Reg.SEC_SPDM_REQCNT).liv Reg.SEC_ASSTAT ≠ 0 →
      a = .next (spdmAnswer p.val r (s.bump Reg.SEC_SPDM_REQCNT))) := by
  rw [ha, spdm_of_reached h]
  exact ⟨fun hb => congrArg Host.Outcome.next (spdmMeasure_of_bad hb),
    fun hb hm hd => congrArg Host.Outcome.next (spdmMeasure_of_waiting hb hm hd),
    fun hb hm => congrArg Host.Outcome.next (spdmMeasure_of_ready hb hm)⟩

/-- The portion of the certificate chain that a request gets. -/
def certPortion (off len : Nat) (s : State) : SpdmReply :=
  .certificate ((s.sec.certs.drop off).take (min (min len 4080) (s.sec.certs.length - off)))
    (s.sec.certs.length - off - min (min len 4080) (s.sec.certs.length - off))

theorem execGetCertificate_of_reached (h : mgmtReached s p.val = true) (slot : Fin 16) (off len : Nat) :
    execGetCertificate p slot off len s = .next (
      if slot.val ≠ 0 ∨ s.sec.certs.length ≤ off then
        ((s.bump Reg.SEC_SPDM_REQCNT).bump Reg.SEC_SPDM_ERRCNT).emit (.spdm p.val (.error 1))
      else (s.bump Reg.SEC_SPDM_REQCNT).emit (.spdm p.val (certPortion off len s))) :=
  spdm_of_reached h _

theorem execMctpMessage_of_reached (h : mgmtReached s p.val = true) (ty : Fin 128) :
    execMctpMessage p ty s = .next (if ty.val = 0 then s.emit (.mctp p.val)
      else if ty.val = 5 then s else s.bump Reg.SEC_MCTP_DROPCNT) := congrArg Host.Outcome.next (if_pos h)

/-- Settles O38: each request is one answer to the counted state. -/
theorem spdmRequests : Obligations.SpdmRequests := by
  unfold Obligations.SpdmRequests
  refine ⟨fun s p h => ⟨spdm_of_reached h _, spdm_of_reached h _, fun a b hab => ?_, spdm_of_reached h _, spdm_of_reached h _,
    fun off len ho => ?_, fun slot off len ho => ?_, spdm_of_reached h _, fun slot sum nonce => spdmMeasure_cases h rfl,
    fun index sign slot nonce => spdmMeasure_cases h rfl, fun nonce => ?_, fun nonce => ?_, ?_, fun ty h0 h5 => ?_⟩,
    fun s h => ⟨digestReady s, _, execAsDigestDone_of_pending h, rfl, rfl, ?_, ?_, digestReady_words⟩⟩
  · refine (spdm_of_reached h _).trans ?_
    rw [if_pos hab]
    rfl
  · exact (execGetCertificate_of_reached h 0 off len).trans
      (congrArg Host.Outcome.next (if_neg (by simp only [Fin.val_zero, ne_eq, not_true, false_or]; omega)))
  · exact (execGetCertificate_of_reached h slot off len).trans (congrArg Host.Outcome.next (if_pos ho))
  · exact (spdm_of_reached h _).trans (congrArg Host.Outcome.next (spdmMeasure_of_ready rfl (.inl rfl)))
  · exact (spdm_of_reached h _).trans (congrArg Host.Outcome.next (spdmMeasure_of_ready rfl (.inl rfl)))
  · exact (execMctpMessage_of_reached h 0).trans (congrArg Host.Outcome.next (if_pos rfl))
  · exact (execMctpMessage_of_reached h ty).trans (congrArg Host.Outcome.next ((if_neg h0).trans (if_neg h5)))
  · rw [(foldl_spdmAnswer_frame _ _).1]
    rfl
  · rw [(foldl_spdmAnswer_frame _ _).2, digestReady_active]

end Sys2Proof.Machine
end

section
/-! PROOFS. The core planes and their speed (R269 to R285). -/

namespace Sys2Proof.Machine

variable {s u : State} {t : Take} {w n k i cause : Nat} {v : Word}

theorem OnlyLog.dp (h : OnlyLog s u) : u.dp = s.dp := by
  obtain ⟨_, _, _, _, _, _, rfl⟩ := h
  rfl

/-! ## The word GLB_CORE_STAT -/

theorem quiet_coreStat : Quiet Reg.GLB_CORE_STAT := .inl (by decide)

/-- An event without a partition and its DEVICE entry. -/
theorem keepsWord_reported {a : Nat} (hq : Quiet a) (g : Nat) (hg : g < 32) (s : State) :
    KeepsWord a s ((s.raise (gEvt g)).logDevice (gEvt g)) :=
  (keepsWord_raise hq (by unfold gEvt; omega) noPart 0 0 s).trans (keepsWord_logDevice hq _ _ _ _)

theorem onlyLog_reported (g : Nat) (s : State) : OnlyLog s ((s.raise (gEvt g)).logDevice (gEvt g)) :=
  (onlyEvents_raise s (gEvt g) none 0 0).log.trans (onlyLog_log _ _)

theorem keepsWord_onDp {a : Nat} (f : DataPath → DataPath) (s : State) : KeepsWord a s (s.onDp f) := .of_regs rfl

theorem setLivF_dp (a : Nat) (f : Fld) (x : Nat) (s : State) : (s.setLivF a f x).dp = s.dp := rfl

theorem livB_eq (a : Nat) (f : Fld) (s : State) : s.livB a f = (s.livF a f == 1) := rfl

theorem KeepsWord.livB {a : Nat} (h : KeepsWord a s u) (hc : s.regs.canon = true) (f : Fld) : u.livB a f = s.livB a f := by
  rw [livB_eq, livB_eq, h.livF hc]

/-! ## Cells in flight -/

theorem find_mapVals {α : Type} (f : Nat → α → α) (t : Tab α) (k : Nat) :
    Tab.find (Tab.mapVals f t) k = (Tab.find t k).map (f k) := by
  induction t with
  | nil => rfl
  | cons e t ih =>
    obtain ⟨j, x⟩ := e
    show (if j = k then some (f j x) else if k < j then none else Tab.find (Tab.mapVals f t) k) =
      (if j = k then some x else if k < j then none else Tab.find t k).map (f k)
    split
    · next h =>
      subst h
      rfl
    · split
      · rfl
      · exact ih

theorem exists_mem_of_find {α : Type} {t : Tab α} {k : Nat} {x : α} (h : Tab.find t k = some x) : ∃ e ∈ t, e.2 = x := by
  induction t with
  | nil => exact nomatch h
  | cons e t ih =>
    obtain ⟨j, y⟩ := e
    have hfind : (if j = k then some y else if k < j then none else Tab.find t k) = some x := h
    split at hfind
    · exact ⟨(j, y), List.mem_cons_self, Option.some.inj hfind⟩
    · split at hfind
      · exact nomatch hfind
      · obtain ⟨e, he, hx⟩ := ih hfind
        exact ⟨e, List.mem_cons_of_mem _ he, hx⟩

theorem foldl_add_eq_zero {α : Type} (g : α → Nat) (l : List α) (m : Nat) (h : l.foldl (fun m e => m + g e) m = 0) :
    m = 0 ∧ ∀ e ∈ l, g e = 0 := by
  induction l generalizing m with
  | nil => exact ⟨h, fun e he => nomatch he⟩
  | cons x l ih =>
    obtain ⟨hm, hl⟩ := ih _ h
    have hsum : m + g x = 0 := hm
    refine ⟨by omega, fun e he => ?_⟩
    rcases List.mem_cons.1 he with rfl | he
    · omega
    · exact hl e he

/-- No cell of a unit in flight is on a plane that `q` holds for. -/
def NoneOn (q : Nat → Bool) (i : Ingress) : Prop := ∀ x, (Tab.get [] i.flying x).all (fun c => !q c.plane) = true

/-- The cells of an ingress on the planes that `q` holds for. -/
def cellsOn (q : Nat → Bool) (i : Ingress) : Nat := i.flying.foldl (fun m e => m + (e.2.filter (fun c => q c.plane)).length) 0

theorem noneOn_of_cellsOn {q : Nat → Bool} {i : Ingress} (h : cellsOn q i = 0) : NoneOn q i := by
  have hsum : i.flying.foldl (fun m e => m + (fun e : Nat × List Flying => (e.2.filter (fun c => q c.plane)).length) e) 0 = 0 :=
    h
  obtain ⟨-, hall⟩ := foldl_add_eq_zero _ i.flying 0 hsum
  intro x
  unfold Tab.get
  cases hx : Tab.find i.flying x with
  | none => rfl
  | some l =>
    obtain ⟨e, he, rfl⟩ := exists_mem_of_find hx
    have hnil := List.eq_nil_of_length_eq_zero (hall e he)
    rw [List.filter_eq_nil_iff] at hnil
    simpa using hnil

/-- The cells on the planes that `q` holds for go again on plane `k`. -/
def resent (q : Nat → Bool) (k now : Nat) (i : Ingress) : Ingress := { i with
  flying := Tab.mapVals (fun _ l => l.map (fun c =>
    if q c.plane then { c with plane := k, at_ := now, captured := false } else c)) i.flying }

theorem noneOn_resent {q : Nat → Bool} (hk : q k = false) (now : Nat) (i : Ingress) : NoneOn q (resent q k now i) := by
  intro x
  rw [resent, Tab.get, find_mapVals]
  cases Tab.find i.flying x with
  | none => rfl
  | some l =>
    rw [Option.map_some, Option.getD_some, List.all_map, List.all_eq_true]
    intro c _
    by_cases hc : q c.plane = true
    · simp [hc, hk]
    · simp [hc]

/-- The cells of a station that go again, counted. -/
def resentCounted (q : Nat → Bool) (k n : Nat) (s : State) : State :=
  (s.bump (Reg.XB_RSNDCNT n) (cellsOn q (s.ing n))).bump (Reg.XB_CELLCNT n k) (cellsOn q (s.ing n))

/-- One station's part of `resendCells`. -/
def resendAt (q : Nat → Bool) (k : Nat) (s : State) (n : Nat) : State :=
  if cellsOn q (s.ing n) = 0 then s
  else (resentCounted q k n s).onIng n (resent q k s.now)

theorem resendCells_eq (q : Nat → Bool) (k : Nat) (s : State) :
    resendCells q k s = (List.range 24).foldl (resendAt q k) s := rfl

theorem ing_onIng (hr : Tab.rises s.dp.ing = true) (n m : Nat) (g : Ingress → Ingress) :
    Tab.rises (s.onIng n g).dp.ing = true ∧ (s.onIng n g).ing m = if m = n then g (s.ing n) else s.ing m := by
  constructor
  · show Tab.rises (Tab.set _ _ _ _) = true
    unfold Tab.set
    split
    · exact Tab.rises_del _ hr
    · exact Tab.rises_put _ _ hr
  · split
    · next h =>
      subst h
      exact Tab.get_set_self _ _ hr
    · next h =>
      show (Tab.find (Tab.set _ _ _ _) m).getD _ = (Tab.find _ m).getD _
      rw [Tab.find_set_ne _ h hr]

theorem resendAt_spec {q : Nat → Bool} (hk : q k = false) (hr : Tab.rises s.dp.ing = true) (n : Nat) :
    Tab.rises (resendAt q k s n).dp.ing = true ∧ NoneOn q ((resendAt q k s n).ing n) ∧
    ∀ m, NoneOn q (s.ing m) → NoneOn q ((resendAt q k s n).ing m) := by
  unfold resendAt
  split
  · next h => exact ⟨hr, noneOn_of_cellsOn h, fun m hm => hm⟩
  · have hing (m : Nat) := ing_onIng (s := resentCounted q k n s) hr n m (resent q k s.now)
    refine ⟨(hing n).1, ?_, fun m hm => ?_⟩
    · rw [(hing n).2, if_pos rfl]
      exact noneOn_resent hk _ _
    · rw [(hing m).2]
      split
      · exact noneOn_resent hk _ _
      · exact hm

theorem foldl_resendAt {q : Nat → Bool} (hk : q k = false) (l : List Nat) (hr : Tab.rises s.dp.ing = true) :
    ∀ m, m ∈ l ∨ NoneOn q (s.ing m) → NoneOn q ((l.foldl (resendAt q k) s).ing m) := by
  induction l generalizing s with
  | nil => exact fun m hm => hm.resolve_left (List.not_mem_nil)
  | cons n l ih =>
    obtain ⟨hrises, hself, hkeep⟩ := resendAt_spec hk hr n
    intro m hm
    refine ih hrises m ?_
    rcases hm with hm | hm
    · rcases List.mem_cons.1 hm with rfl | hm
      · exact .inr hself
      · exact .inl hm
    · exact .inr (hkeep m hm)

theorem noneOn_resendCells {q : Nat → Bool} (hk : q k = false) (hr : Tab.rises s.dp.ing = true) {m : Nat} (hm : m < 24) :
    NoneOn q ((resendCells q k s).ing m) :=
  foldl_resendAt hk (List.range 24) hr m (.inl (List.mem_range.2 hm))

theorem keepsWord_resendCells {a : Nat} (h : a < 0x100000) (q : Nat → Bool) (k : Nat) (s : State) :
    KeepsWord a s (resendCells q k s) := by
  rw [resendCells_eq]
  refine foldl_rel (R := KeepsWord a) (fun s => .refl s) (fun h k => h.trans k) (fun s n => ?_) _ s
  unfold resendAt
  have hcount : KeepsWord a s (resentCounted q k n s) :=
    (keepsWord_bump s _ (by unfold Reg.XB_RSNDCNT; omega)).trans (keepsWord_bump _ _ (by unfold Reg.XB_CELLCNT; omega))
  exact .ite (.refl s) (hcount.trans (keepsWord_onDp _ _))

/-! ## A plane fails (R269) -/

/-- Plane A out of service, with its cause and station. -/
def planeMarked (n cause : Nat) (s : State) : State :=
  ((setPlane 0 false s).setLivF Reg.GLB_CORE_STAT Fld.GLB_CORE_STAT_ACAUSE cause).setLivF Reg.GLB_CORE_STAT
    Fld.GLB_CORE_STAT_ASTN n

/-- The same, with its removal dropped and the event told. -/
def planeTold (s : State) : State :=
  ((if removing s 0 then s.onDp (fun d => { d with removal := none }) else s).raise (gEvt 7)).logDevice (gEvt 7)

theorem planeFault_eq (n cause : Nat) (s : State) : planeFault n 0 cause s =
    if planeIn (planeTold (planeMarked n cause s)) 1 then
      resendCells (fun p => p == 0) 1 (planeTold (planeMarked n cause s))
    else ((planeTold (planeMarked n cause s)).setLivF Reg.GLB_CORE_STAT Fld.GLB_CORE_STAT_DOWN 1).raise (gEvt 10) := rfl

theorem keepsWord_planeTold (s : State) : KeepsWord Reg.GLB_CORE_STAT s (planeTold s) :=
  (KeepsWord.ite (keepsWord_onDp _ s) (.refl s)).trans (keepsWord_reported quiet_coreStat 7 (by decide) _)

theorem planeTold_ing (s : State) : (planeTold s).dp.ing = s.dp.ing := by
  unfold planeTold
  rw [(onlyLog_reported 7 _).dp]
  split <;> rfl

/-- What GLB_CORE_STAT shows of plane A and of plane B after a fault of plane A at station `n`. -/
structure FaultShown (s u : State) (n cause : Nat) : Prop where
  canon : u.regs.canon = true
  out : u.livF Reg.GLB_CORE_STAT Fld.GLB_CORE_STAT_AIN = 0
  cause : u.livF Reg.GLB_CORE_STAT Fld.GLB_CORE_STAT_ACAUSE = cause
  stn : u.livF Reg.GLB_CORE_STAT Fld.GLB_CORE_STAT_ASTN = n
  other : planeIn u 1 = planeIn s 1

theorem faultShown_planeMarked (hn : n < 24) (hcause : cause < 4) (hs : s.regs.canon = true) :
    FaultShown s (planeMarked n cause s) n cause := by
  have h1 : (setPlane 0 false s).regs.canon = true := canon_setLivF hs _ _
  have h2 := canon_setLivF (f := Fld.GLB_CORE_STAT_ACAUSE) h1 Reg.GLB_CORE_STAT cause
  refine ⟨canon_setLivF h2 _ n, ?_, ?_, ?_, ?_⟩
  · calc (planeMarked n cause s).livF Reg.GLB_CORE_STAT Fld.GLB_CORE_STAT_AIN
      _ = _ := livF_setLivF_apart h2 _ n (by decide) (by decide)
      _ = _ := livF_setLivF_apart h1 _ cause (by decide) (by decide)
      _ = 0 := livF_setLivF_self hs _ 0 (by decide)
  · calc (planeMarked n cause s).livF Reg.GLB_CORE_STAT Fld.GLB_CORE_STAT_ACAUSE
      _ = _ := livF_setLivF_apart h2 _ n (by decide) (by decide)
      _ = cause % 2 ^ 2 := livF_setLivF_self h1 _ cause (by decide)
      _ = cause := Nat.mod_eq_of_lt hcause
  · exact (livF_setLivF_self h2 _ n (by decide)).trans (Nat.mod_eq_of_lt (by show n < 32; omega))
  · show ((planeMarked n cause s).livF Reg.GLB_CORE_STAT Fld.GLB_CORE_STAT_BIN == 1) =
      (s.livF Reg.GLB_CORE_STAT Fld.GLB_CORE_STAT_BIN == 1)
    refine congrArg (· == 1) ?_
    calc (planeMarked n cause s).livF Reg.GLB_CORE_STAT Fld.GLB_CORE_STAT_BIN
      _ = _ := livF_setLivF_apart h2 _ n (by decide) (by decide)
      _ = _ := livF_setLivF_apart h1 _ cause (by decide) (by decide)
      _ = _ := livF_setLivF_apart hs _ 0 (by decide) (by decide)

theorem FaultShown.keeps {z : State} (h : FaultShown s u n cause) (k : KeepsWord Reg.GLB_CORE_STAT u z) :
    FaultShown s z n cause :=
  ⟨(k h.canon).1, (k.livF h.canon _).trans h.out, (k.livF h.canon _).trans h.cause, (k.livF h.canon _).trans h.stn,
    (k.livB h.canon _).trans h.other⟩

theorem FaultShown.down (h : FaultShown s u n cause) :
    FaultShown s (u.setLivF Reg.GLB_CORE_STAT Fld.GLB_CORE_STAT_DOWN 1) n cause := by
  refine ⟨canon_setLivF h.canon _ 1, ?_, ?_, ?_, ?_⟩
  · exact (livF_setLivF_apart h.canon _ 1 (by decide) (by decide)).trans h.out
  · exact (livF_setLivF_apart h.canon _ 1 (by decide) (by decide)).trans h.cause
  · exact (livF_setLivF_apart h.canon _ 1 (by decide) (by decide)).trans h.stn
  · exact (congrArg (· == 1) (livF_setLivF_apart h.canon _ 1 (by decide) (by decide))).trans h.other

theorem planeFault_shown (hn : n < 24) (hcause : cause < 4) (hs : s.regs.canon = true) :
    FaultShown s (planeFault n 0 cause s) n cause := by
  have h := (faultShown_planeMarked hn hcause hs).keeps (keepsWord_planeTold _)
  rw [planeFault_eq]
  split
  · exact h.keeps (keepsWord_resendCells (by decide) _ _ _)
  · exact h.down.keeps (keepsWord_raise quiet_coreStat (by decide) noPart 0 0 _)

theorem planeFault_down (hn : n < 24) (hcause : cause < 4) (hs : s.regs.canon = true) (h1 : planeIn s 1 = false) :
    (planeFault n 0 cause s).livB Reg.GLB_CORE_STAT Fld.GLB_CORE_STAT_DOWN = true := by
  have h := (faultShown_planeMarked hn hcause hs).keeps (keepsWord_planeTold _)
  rw [planeFault_eq, h.other, h1]
  have hk := keepsWord_raise quiet_coreStat (g := gEvt 10) (by decide) noPart 0 0
    ((planeTold (planeMarked n cause s)).setLivF Reg.GLB_CORE_STAT Fld.GLB_CORE_STAT_DOWN 1)
  refine (hk.livB (canon_setLivF h.canon _ 1) _).trans ?_
  rw [livB_eq, livF_setLivF_self h.canon _ 1 (by decide)]
  rfl

theorem planeFault_cells (hn : n < 24) (hcause : cause < 4) (hs : s.regs.canon = true) (h1 : planeIn s 1 = true)
    (hr : Tab.rises s.dp.ing = true) {m : Nat} (hm : m < 24) :
    NoneOn (fun p => p == 0) ((planeFault n 0 cause s).ing m) := by
  have h := (faultShown_planeMarked hn hcause hs).keeps (keepsWord_planeTold _)
  rw [planeFault_eq, h.other, h1]
  refine noneOn_resendCells rfl ?_ hm
  rw [planeTold_ing]
  exact hr

/-! ## Commands -/

theorem coreCommand_of_refused {op : Nat} (hop : op ≠ 0) (h : coreRefuses s op k = true) :
    coreCommand op k s = s.setLivF Reg.GLB_CORE_STAT Fld.GLB_CORE_STAT_CMDREJ 1 := (if_neg hop).trans (if_pos h)

theorem coreRefuses_of_test {j : Nat} {r : Bool} (h : s.dp.plane = .test j r) (op : Nat) : coreRefuses s op k = true := by
  unfold coreRefuses
  rw [h]
  rfl

theorem coreRefuses_of_idle {op : Nat} (h : s.dp.plane = .none) :
    coreRefuses s op k = if op = 3 then !planeIn s (1 - k) || removing s (1 - k) else planeIn s k := by
  unfold coreRefuses
  rw [h]
  rfl

theorem coreRefuses_of_cond {op : Nat}
    (h : (if op = 3 then !planeIn s (1 - k) || removing s (1 - k) else planeIn s k) = true) : coreRefuses s op k = true := by
  unfold coreRefuses
  rw [h, Bool.or_true]

theorem coreCommand_test {op : Nat} (hop : op = 1 ∨ op = 2) (h : planeIn s k = false) (hi : s.dp.plane = .none) :
    (coreCommand op k s).dp.plane = .test k (op == 2) := by
  have hnot : ¬coreRefuses s op k = true := by
    rw [coreRefuses_of_idle hi, if_neg (by omega), h]
    decide
  rw [coreCommand, if_neg (by omega), if_neg hnot, if_neg (by omega)]
  rfl

theorem coreCommand_remove (h1 : planeIn s (1 - k) = true) (hk : planeIn s k = true) (hi : s.dp.plane = .none)
    (hr : s.dp.removal ≠ some (1 - k)) : coreCommand 3 k s = s.onDp (fun d => { d with removal := some k }) := by
  have hnot : ¬coreRefuses s 3 k = true := by
    rw [coreRefuses_of_idle hi, if_pos rfl, h1, removing, beq_eq_false_iff_ne.2 hr]
    decide
  exact (if_neg (by decide)).trans ((if_neg hnot).trans ((if_pos rfl).trans (if_pos hk)))

/-! ## Ends of tests and removals -/

theorem planeField_lt : ∀ k : Nat, (if k = 0 then Fld.GLB_CORE_STAT_AIN else Fld.GLB_CORE_STAT_BIN).lo +
    (if k = 0 then Fld.GLB_CORE_STAT_AIN else Fld.GLB_CORE_STAT_BIN).w ≤ 32
  | 0 => by decide
  | _ + 1 => by
    rw [if_neg (Nat.succ_ne_zero _)]
    decide

theorem planeIn_setPlane (hs : s.regs.canon = true) (k : Nat) (b : Bool) : planeIn (setPlane k b s) k = b := by
  unfold planeIn setPlane
  rw [livB_eq, livF_setLivF_self hs _ _ (planeField_lt k)]
  cases k <;> cases b <;> rfl

/-- A field of GLB_CORE_STAT that lies past the IN bits. -/
theorem planeIn_setLivF (hs : s.regs.canon = true) {f : Fld} (h : 2 ≤ f.lo) (x : Nat) (k : Nat) :
    planeIn (s.setLivF Reg.GLB_CORE_STAT f x) k = planeIn s k := by
  unfold planeIn
  rw [livB_eq, livB_eq, livF_setLivF_apart hs _ x ?_ (planeField_lt k)]
  refine .inr ?_
  cases k with
  | zero => exact Nat.le_trans (by decide) h
  | succ k => exact h

theorem KeepsWord.planeIn (h : KeepsWord Reg.GLB_CORE_STAT s u) (hs : s.regs.canon = true) (k : Nat) :
    planeIn u k = planeIn s k := h.livB hs _

/-- The state in which the end of a test is judged. -/
def testEnded (k : Nat) (s : State) : State :=
  (s.onDp (fun d => { d with plane := .none })).setLivF Reg.GLB_CORE_STAT
    (if k = 0 then Fld.GLB_CORE_STAT_ATEST else Fld.GLB_CORE_STAT_BTEST) 0

/-- A plane restored. -/
def planeRestored (k : Nat) (s : State) : State :=
  ((((setPlane k true s).setLivF Reg.GLB_CORE_STAT Fld.GLB_CORE_STAT_DOWN 0).raise (gEvt 8)).logDevice (gEvt 8))

theorem testEnded_canon (k : Nat) (hs : s.regs.canon = true) : (testEnded k s).regs.canon = true :=
  canon_setLivF (s := s.onDp (fun d => { d with plane := .none })) hs _ 0

theorem planeIn_testEnded (k : Nat) (hs : s.regs.canon = true) (j : Nat) : planeIn (testEnded k s) j = planeIn s j :=
  planeIn_setLivF (s := s.onDp (fun d => { d with plane := .none })) hs (by split <;> decide) 0 j

/-- A test judged. -/
def testJudged (pass restore : Bool) (k : Nat) (s : State) : State :=
  if !pass then
    (testEnded k s).setLivF Reg.GLB_CORE_STAT (if k = 0 then Fld.GLB_CORE_STAT_ACAUSE else Fld.GLB_CORE_STAT_BCAUSE) 3
  else if restore then
    if (testEnded k s).livB Reg.GLB_CORE_STAT Fld.GLB_CORE_STAT_DOWN then
      resendCells (fun _ => true) k (planeRestored k (testEnded k s))
    else planeRestored k (testEnded k s)
  else testEnded k s

theorem execPlaneTestDone_of_test {pass r : Bool} (h : s.dp.plane = .test k r) :
    execPlaneTestDone pass s = .next (settle (testJudged pass r k s)) := by
  unfold execPlaneTestDone
  rw [h]
  rfl

theorem testJudged_failed (r : Bool) (k : Nat) (s : State) : testJudged false r k s = (testEnded k s).setLivF Reg.GLB_CORE_STAT
    (if k = 0 then Fld.GLB_CORE_STAT_ACAUSE else Fld.GLB_CORE_STAT_BCAUSE) 3 := if_pos rfl

theorem testJudged_passed (k : Nat) (s : State) : testJudged true false k s = testEnded k s :=
  (if_neg (by decide)).trans (if_neg (by decide))

theorem testJudged_restored (h : (testEnded k s).livB Reg.GLB_CORE_STAT Fld.GLB_CORE_STAT_DOWN = false) :
    testJudged true true k s = planeRestored k (testEnded k s) :=
  (if_neg (by decide)).trans ((if_pos rfl).trans (if_neg (by rw [h]; decide)))

theorem testEnded_plane (k : Nat) (s : State) : (testEnded k s).dp.plane = .none := rfl

theorem testEnded_down (k : Nat) (hs : s.regs.canon = true) : (testEnded k s).livB Reg.GLB_CORE_STAT Fld.GLB_CORE_STAT_DOWN =
    s.livB Reg.GLB_CORE_STAT Fld.GLB_CORE_STAT_DOWN := by
  refine congrArg (· == 1) (livF_setLivF_apart (s := s.onDp (fun d => { d with plane := .none })) hs _ 0 ?_ (by decide))
  split <;> decide

theorem planeRestored_spec (hs : s.regs.canon = true) (k : Nat) :
    planeIn (planeRestored k s) k = true ∧ (planeRestored k s).dp = s.dp := by
  have h1 : (setPlane k true s).regs.canon = true := canon_setLivF hs _ _
  refine ⟨?_, (onlyLog_reported 8 _).dp.trans ((setLivF_dp _ _ _ _).trans (setLivF_dp _ _ _ s))⟩
  calc planeIn (planeRestored k s) k
    _ = _ := (keepsWord_reported quiet_coreStat 8 (by decide) _).planeIn (canon_setLivF h1 _ 0) k
    _ = _ := planeIn_setLivF h1 (by decide) 0 k
    _ = true := planeIn_setPlane hs k true

/-- The cells of a plane still in flight. -/
def flies (s : State) (k : Nat) : Bool := s.dp.ing.any (fun i => i.2.flying.any (fun e => e.2.any (fun c => c.plane == k)))

/-- A plane removed and reported. -/
def planeRemoved (k : Nat) (s : State) : State :=
  (setPlane k false (s.onDp (fun d => { d with removal := none }))).logDevice (gEvt 7)

theorem execPlaneRemoveDone_of_removal (h : s.dp.removal = some k) : execPlaneRemoveDone s = .next (settle
    (if flies s k then s
    else if planeIn (planeRemoved k s) (1 - k) then planeRemoved k s
    else (planeRemoved k s).setLivF Reg.GLB_CORE_STAT Fld.GLB_CORE_STAT_DOWN 1)) := by
  unfold execPlaneRemoveDone
  rw [h]
  rfl

theorem planeRemoved_spec (hs : s.regs.canon = true) (k : Nat) : (planeRemoved k s).regs.canon = true ∧
    planeIn (planeRemoved k s) k = false ∧ (planeRemoved k s).dp.removal = none := by
  have hset : (setPlane k false (s.onDp (fun d => { d with removal := none }))).regs.canon = true := canon_setLivF hs _ _
  have hlog := keepsWord_logDevice quiet_coreStat (gEvt 7) 0 0 (setPlane k false (s.onDp (fun d => { d with removal := none })))
  refine ⟨(hlog hset).1, (hlog.planeIn hset k).trans (planeIn_setPlane hs k false), ?_⟩
  rw [planeRemoved, State.logDevice, (onlyLog_log _ _).dp]
  rfl

/-! ## CORE_SLOW -/

theorem slowCheck_speed (ths : Fin 1024) (hs : s.regs.canon = true) :
    slowCheck (s.setLivF Reg.GLB_CORE_SPEED Fld.GLB_CORE_SPEED_THS ths.val) =
      if tMax (s.setLivF Reg.GLB_CORE_SPEED Fld.GLB_CORE_SPEED_THS ths.val) < ths.val ∧
          !s.livB Reg.GLB_CORE_STAT Fld.GLB_CORE_STAT_SLOW then
        ((s.setLivF Reg.GLB_CORE_SPEED Fld.GLB_CORE_SPEED_THS ths.val).setLivF Reg.GLB_CORE_STAT
          Fld.GLB_CORE_STAT_SLOW 1).raise (gEvt 9)
      else s.setLivF Reg.GLB_CORE_SPEED Fld.GLB_CORE_SPEED_THS ths.val := by
  have hths : (s.setLivF Reg.GLB_CORE_SPEED Fld.GLB_CORE_SPEED_THS ths.val).livF Reg.GLB_CORE_SPEED
      Fld.GLB_CORE_SPEED_THS = ths.val := (livF_setLivF_self hs _ _ (by decide)).trans (Nat.mod_eq_of_lt ths.isLt)
  have hslow : (s.setLivF Reg.GLB_CORE_SPEED Fld.GLB_CORE_SPEED_THS ths.val).livB Reg.GLB_CORE_STAT
      Fld.GLB_CORE_STAT_SLOW = s.livB Reg.GLB_CORE_STAT Fld.GLB_CORE_STAT_SLOW :=
    congrArg (· == 1) (livF_setLivF_ne hs _ (by decide))
  rw [slowCheck, hths, hslow]

/-- What a write of GLB_CORE_CMD does. -/
def coreAct (op : Nat) (v : Word) (z : State) : State :=
  coreCommand op (fget v Fld.GLB_CORE_CMD_PLANE) (storeCmd Reg.GLB_CORE_CMD v [Fld.GLB_CORE_CMD_OP] z)

theorem coreStep {op : Nat} (h : AtLive (coreRule [op]) s t w Reg.GLB_CORE_CMD v) :
    liveStep (coreRule [op]) s = .next (liveDone t Reg.GLB_CORE_CMD v (coreAct op v) s) := by
  have hsel : (Reg.GLB_CORE_CMD == Reg.GLB_CORE_CMD && [op].contains (fget v Fld.GLB_CORE_CMD_OP)) = true := h.2.2.2.1
  simp only [Bool.and_eq_true] at hsel
  have hop : fget v Fld.GLB_CORE_CMD_OP = op := by simpa using hsel.2
  refine liveStep_done h ?_
  rw [← hop]
  rfl

theorem execPlaneAckTimeout_of_cell {n : Fin 24} {c : Flying} (h : oldestCell s n.val = some c) :
    execPlaneAckTimeout n s = .next (settle (planeFault n.val c.plane 1 (s.reach (c.at_ + 150)))) := by
  simp only [execPlaneAckTimeout, h]

theorem execPlaneAckTimeout_of_none {n : Fin 24} (h : oldestCell s n.val = none) :
    execPlaneAckTimeout n s = .next (settle s) := by
  simp only [execPlaneAckTimeout, h]

/-- The cells of a station on a plane that are not captured. -/
def fliesAt (s : State) (n k : Nat) : Bool :=
  (s.ing n).flying.any (fun e => e.2.any (fun c => c.plane == k && !c.captured))

theorem execPlaneErrorReport_eq (n : Fin 24) (k : Fin 2) (s : State) : execPlaneErrorReport n k s =
    .next (settle (if planeIn s k.val && fliesAt s n.val k.val then planeFault n.val k.val 2 s else s)) := rfl

theorem execPlaneErrorReport_of_not {n : Fin 24} {k : Fin 2} (h : planeIn s k.val = false ∨ fliesAt s n.val k.val = false) :
    execPlaneErrorReport n k s = .next (settle s) := by
  have hnot : (planeIn s k.val && fliesAt s n.val k.val) = false := by
    rcases h with h | h
    · rw [h, Bool.false_and]
    · rw [h, Bool.and_false]
  rw [execPlaneErrorReport_eq, hnot]
  rfl

/-- A plane fails: what it shows, and where its cells go (R269). -/
theorem planeFault_spec (hn : n < 24) (hcause : cause < 4) (hs : s.regs.canon = true) :
    planeIn (planeFault n 0 cause s) 0 = false ∧
    (planeFault n 0 cause s).livF Reg.GLB_CORE_STAT Fld.GLB_CORE_STAT_ACAUSE = cause ∧
    (planeFault n 0 cause s).livF Reg.GLB_CORE_STAT Fld.GLB_CORE_STAT_ASTN = n ∧
    (planeIn s 1 = false → (planeFault n 0 cause s).livB Reg.GLB_CORE_STAT Fld.GLB_CORE_STAT_DOWN = true) ∧
    (planeIn s 1 = true → Tab.rises s.dp.ing = true → ∀ m x : Nat, m < 24 →
      (Tab.get [] ((planeFault n 0 cause s).ing m).flying x).all (fun c => c.plane != 0) = true) := by
  have h := planeFault_shown hn hcause hs
  refine ⟨?_, h.cause, h.stn, planeFault_down hn hcause hs, fun h1 hr m x hm => planeFault_cells hn hcause hs h1 hr hm x⟩
  rw [planeIn, if_pos rfl, livB_eq, h.out]
  rfl

/-- What a command is refused for, and what an accepted one begins (R271, R273). -/
theorem coreCommand_spec (z : State) (k : Nat) :
    let rejected := z.setLivF Reg.GLB_CORE_STAT Fld.GLB_CORE_STAT_CMDREJ 1
    (planeIn z k = true → coreCommand 1 k z = rejected ∧ coreCommand 2 k z = rejected) ∧
    (∀ j r, z.dp.plane = .test j r → ∀ op, op ≠ 0 → coreCommand op k z = rejected) ∧
    (planeIn z (1 - k) = false ∨ z.dp.removal = some (1 - k) → coreCommand 3 k z = rejected) := by
  refine ⟨fun h => ⟨?_, ?_⟩, fun j r h op hop => coreCommand_of_refused hop (coreRefuses_of_test h op), fun h => ?_⟩
  · exact coreCommand_of_refused (by decide) (coreRefuses_of_cond ((if_neg (by decide)).trans h))
  · exact coreCommand_of_refused (by decide) (coreRefuses_of_cond ((if_neg (by decide)).trans h))
  · refine coreCommand_of_refused (by decide) (coreRefuses_of_cond ?_)
    rw [if_pos rfl, Bool.or_eq_true, Bool.not_eq_true']
    exact h.imp_right (fun h => beq_iff_eq.2 h)

/-- The end of a test (R271, R272). -/
theorem planeTestDone_spec {r : Bool} (h : s.dp.plane = .test k r) (hs : s.regs.canon = true)
    (hd : s.livB Reg.GLB_CORE_STAT Fld.GLB_CORE_STAT_DOWN = false) :
    (r = true → planeIn (testJudged true r k s) k = true ∧ (testJudged true r k s).dp.plane = .none) ∧
    (r = false → planeIn (testJudged true r k s) k = planeIn s k ∧ (testJudged true r k s).dp.plane = .none) ∧
    planeIn (testJudged false r k s) k = planeIn s k ∧ (testJudged false r k s).dp.plane = .none ∧
    (testJudged false r k s).livF Reg.GLB_CORE_STAT
      (if k = 0 then Fld.GLB_CORE_STAT_ACAUSE else Fld.GLB_CORE_STAT_BCAUSE) = 3 := by
  refine ⟨fun hr => ?_, fun hr => ?_, ?_⟩
  · subst hr
    obtain ⟨hin, hdp⟩ := planeRestored_spec (testEnded_canon k hs) k
    rw [testJudged_restored ((testEnded_down k hs).trans hd), hdp]
    exact ⟨hin, testEnded_plane k s⟩
  · subst hr
    rw [testJudged_passed]
    exact ⟨planeIn_testEnded k hs k, testEnded_plane k s⟩
  · rw [testJudged_failed]
    refine ⟨?_, testEnded_plane k s, ?_⟩
    · exact (planeIn_setLivF (testEnded_canon k hs) (by split <;> decide) 3 k).trans (planeIn_testEnded k hs k)
    · refine (livF_setLivF_self (testEnded_canon k hs) _ 3 (by split <;> decide)).trans ?_
      split <;> rfl

/-- The end of a removal (R273). -/
theorem planeRemoveDone_spec (h : s.dp.removal = some k) (hf : flies s k = false) (hs : s.regs.canon = true) :
    ∃ u, execPlaneRemoveDone s = .next (settle u) ∧ planeIn u k = false ∧ u.dp.removal = none := by
  obtain ⟨hc, hout, hremoval⟩ := planeRemoved_spec hs k
  refine ⟨_, execPlaneRemoveDone_of_removal h, ?_⟩
  rw [if_neg (by rw [hf]; decide)]
  split
  · exact ⟨hout, hremoval⟩
  · exact ⟨(planeIn_setLivF hc (by decide) 1 k).trans hout, (congrArg DataPath.removal (setLivF_dp _ _ _ _)).trans hremoval⟩

/-- Settles O50: each command through its equation above. -/
theorem planesAndSpeed : Obligations.PlanesAndSpeed := by
  unfold Obligations.PlanesAndSpeed
  refine ⟨fun s n => ⟨fun c h => execPlaneAckTimeout_of_cell h, fun h => execPlaneAckTimeout_of_none h⟩,
    fun s n k => ⟨fun h1 h2 => ?_, fun h => execPlaneErrorReport_of_not h⟩,
    fun s n cause hn hcause hs => planeFault_spec hn hcause hs, fun s t w v => ⟨coreStep, coreStep, coreStep⟩,
    fun z k => ?_, fun s k r h hk hs hd => ?_, fun s k h => ⟨fun hf => ?_, fun hf hk hs => planeRemoveDone_spec h hf hs⟩,
    fun s ths hs => ⟨fun h => ?_, fun h1 h2 => ?_⟩⟩
  · refine (execPlaneErrorReport_eq n k s).trans (congrArg (fun k => Host.Outcome.next (settle k)) (if_pos ?_))
    rw [h1]
    exact h2
  · obtain ⟨h1, h2, h3⟩ := coreCommand_spec z k
    refine ⟨h1, h2, h3, fun h hi => ⟨coreCommand_test (.inr rfl) h hi, coreCommand_test (.inl rfl) h hi⟩,
      fun h1 hk hi hr => ?_⟩
    rw [coreCommand_remove h1 hk hi hr]
    exact ⟨rfl, rfl⟩
  · obtain ⟨h1, h2, h3⟩ := planeTestDone_spec h hs hd
    exact ⟨fun hr => ⟨_, execPlaneTestDone_of_test h, h1 hr⟩, fun hr => ⟨_, execPlaneTestDone_of_test h, h2 hr⟩,
      _, execPlaneTestDone_of_test h, h3⟩
  · exact (execPlaneRemoveDone_of_removal h).trans (congrArg (fun k => Host.Outcome.next (settle k)) (if_pos hf))
  · refine congrArg (fun k => Host.Outcome.next (settle k)) ((slowCheck_speed ths hs).trans (if_neg ?_))
    rintro ⟨h1, h2⟩
    rcases h with h | h
    · exact absurd h1 (Nat.not_lt.2 h)
    · exact absurd h2 (by rw [h]; decide)
  · exact congrArg (fun k => Host.Outcome.next (settle k)) ((slowCheck_speed ths hs).trans (if_pos ⟨h1, by rw [h2]; rfl⟩))

end Sys2Proof.Machine
end

section
/-! PROOFS. The lanes of a fabric port together, and margin sweeps (R159 to R164, R180, R181). -/

namespace Sys2Proof.Machine

variable {s u : State} {t : Take} {w n f l a : Nat} {v : Word}

/-! ## Deskew -/

/-- A lane becomes READY and good, with its SKEW. -/
def laneReady (n : Nat) (skews : List Nat) (s : State) (l : Nat) : State :=
  let k := setLaneState n l 6 (s.setLivF (Reg.LN_STAT n l) Fld.LN_STAT_SKEW (nth 0 skews l))
  k.setLane n l { k.lane n l with good := true, fails := 0 }

theorem laneState_setLaneState (hs : s.regs.canon = true) (st : Nat) (h : st < 16) :
    laneState (setLaneState n l st s) n l = st :=
  (livF_setLivF_self hs (Reg.LN_STAT n l) st (by decide)).trans (Nat.mod_eq_of_lt h)

theorem laneState_setLane (s : State) (n l m k : Nat) (x : Lane) : laneState (s.setLane n l x) m k = laneState s m k := rfl

theorem laneState_laneReady (skews : List Nat) (hs : s.regs.canon = true) : laneState (laneReady n skews s l) n l = 6 :=
  (laneState_setLane _ n l n l _).trans (laneState_setLaneState (canon_setLivF hs _ _) 6 (by decide))

/-- The lanes of a port that are in DESKEW. -/
def lanesInDeskew (s : State) (n f : Nat) : List Nat :=
  (fabLanes s n f ++ (if f = 0 then [8] else [])).filter (fun l => laneState s n l == 5)

theorem execDeskewDone_of_ready {n : Fin 24} {f : Fin 2} {skews : List Nat} (hf : fabPort s.act n.val f.val = true)
    (huse : ∀ l ∈ (s.lnk n.val f.val).use, laneState s n.val l = 0 ∨ 5 ≤ laneState s n.val l)
    (hskew : ∀ l ∈ lanesInDeskew s n.val f.val,
      nth 0 skews l ≤ if s.actB (Reg.LINK_CTL n.val) Fld.LINK_CTL_FLRATE then 1008 else 504) :
    execDeskewDone n f skews s = .next ((lanesInDeskew s n.val f.val).foldl (laneReady n.val skews) s) := by
  have hwaits : (s.lnk n.val f.val).use.any (fun l => decide (1 ≤ laneState s n.val l) && decide (laneState s n.val l ≤ 4)) =
      false := by
    rw [List.any_eq_false]
    intro l hl
    have := huse l hl
    simp only [Bool.and_eq_true, decide_eq_true_eq]
    omega
  refine congrArg Host.Outcome.next (if_pos ?_)
  rw [hf, hwaits, Bool.not_false, Bool.true_and, Bool.true_and, List.all_eq_true]
  exact fun l hl => decide_eq_true (hskew l hl)

/-! ## Margin sweeps -/

/-- The sweep that MARGIN_CTL asks for. -/
def marginSweep (v : Word) (now : Nat) : MarginSweep where
  lane := fget v Fld.MARGIN_CTL_LANE
  voltage := fget v Fld.MARGIN_CTL_AXIS == 1
  positive := fget v Fld.MARGIN_CTL_DIR == 1
  step := fget v Fld.MARGIN_CTL_STEP
  eye := fget v Fld.MARGIN_CTL_EYE
  dwell := fget v Fld.MARGIN_CTL_DWELL
  at_ := now

/-- What a write of MARGIN_CTL with GO does once it is stored as in `k`. -/
def marginBegin (n : Nat) (v : Word) (k : State) : State :=
  if k.mode = 5 then (k.setLivF (Reg.MARGIN_RES n) ⟨0, 2⟩ 0).onDp (fun d => { d with
    margin := Tab.put d.margin n (marginSweep v (k.setLivF (Reg.MARGIN_RES n) ⟨0, 2⟩ 0).now) })
  else k.setLivF (Reg.MARGIN_RES n) ⟨0, 2⟩ 2

theorem marginBegin_of_m5 (h : s.mode = 5) : marginBegin n v s =
    (s.setLivF (Reg.MARGIN_RES n) ⟨0, 2⟩ 0).onDp (fun d => { d with
      margin := Tab.put d.margin n (marginSweep v s.now) }) := if_pos h

/-- The effect of a write of MARGIN_CTL with GO. -/
def marginAct (a : Nat) (v : Word) (z : State) : State := marginBegin (stnOf a) v (storeCmd a v [Fld.MARGIN_CTL_GO] z)

theorem marginGoRule_eff (s : State) (t : Take) (a : Nat) (v : Word) : marginGoRule.eff s t a v = command (marginAct a v) := rfl

/-- Settles O40: the deskew of a port's lanes, its retries and buffers, and the sweeps. -/
theorem lanesTogether : Obligations.LanesTogether := by
  unfold Obligations.LanesTogether
  refine ⟨fun s n f hf => ⟨fun skews hw hl => ⟨laneReady n.val skews, execDeskewDone_of_ready hf hw hl, fun k l => rfl,
      fun k l hk => laneState_laneReady skews hk⟩, fun hw => ⟨_, rfl, ?_⟩, fun fill h => ?_, fun fill h => ?_, ?_⟩,
    fun s t w a v h => ⟨marginAct a v, liveStep_done h (marginGoRule_eff s t a v), fun z => ⟨fun h => marginBegin_of_m5 h, fun h => if_neg h⟩⟩,
    fun s n e x h => ?_, fun s n l voltage positive step e samples h => ⟨fun h1 => ?_, fun h1 h2 => ?_, ?_⟩⟩
  · exact congrArg Host.Outcome.next (if_pos (by rw [hf, hw]; rfl))
  · exact congrArg Host.Outcome.next (if_pos (by rw [hf, decide_eq_true h]; rfl))
  · exact congrArg Host.Outcome.next (if_neg (by rw [hf, decide_eq_false (by omega)]; decide))
  · exact congrArg Host.Outcome.next (if_pos hf)
  · show execMarginDone n e s = _
    simp only [execMarginDone, h]
  · refine congrArg Host.Outcome.next ((if_pos h).trans (if_pos h1))
  · refine congrArg Host.Outcome.next ((if_pos h).trans (if_neg ?_))
    rw [h1]
    simp only [Bool.false_eq_true, false_or]
    omega
  · exact congrArg Host.Outcome.next (if_pos h)

end Sys2Proof.Machine
end

section
/-! PROOFS. Time synchronisation (R250 to R252). -/

namespace Sys2Proof.Machine

variable {s u : State} {n f a : Nat} {h : ShortHdr}

/-! ## Short packets that come in -/

/-- The state once BOUND and BACK of a short packet are taken. -/
def ackedBy (n f : Nat) (h : ShortHdr) (s : State) : State := backTo n f h.back (takeBound n f h s)

theorem takeBound_frame (n f : Nat) (h : ShortHdr) (s : State) :
    (takeBound n f h s).regs = s.regs ∧ (takeBound n f h s).ft = s.ft := by
  unfold takeBound
  split
  · exact ⟨rfl, rfl⟩
  · exact ⟨rfl, rfl⟩

theorem backTo_frame (n f b : Nat) (s : State) : (backTo n f b s).regs = s.regs ∧ (backTo n f b s).ft = s.ft := by
  unfold backTo
  extract_lets l acked rest
  split
  · exact ⟨rfl, rfl⟩
  · exact ⟨rfl, rfl⟩

theorem ackedBy_frame (n f : Nat) (h : ShortHdr) (s : State) : (ackedBy n f h s).regs = s.regs ∧ (ackedBy n f h s).ft = s.ft := by
  obtain ⟨hr, hf⟩ := takeBound_frame n f h s
  obtain ⟨hr', hf'⟩ := backTo_frame n f h.back (takeBound n f h s)
  exact ⟨hr'.trans hr, hf'.trans hf⟩

/-- A short packet that is not sequenced, at a port that is not in DOWN. -/
theorem shortIn_of_up (hp : fabPort s.act n f = true) (hup : 1 ≤ s.flState n f) (ini : Bool) (k : State → State) :
    shortIn n f h false ini k s = k (ackedBy n f h s) := by
  unfold shortIn
  rw [hp, decide_eq_true hup]
  exact (if_pos rfl).trans (if_pos rfl)

theorem flState_congr (h : u.regs = s.regs) (n f : Nat) : u.flState n f = s.flState n f := by
  rw [State.flState, State.flState, State.livF, State.livF, State.liv, State.liv, h]

theorem act_congr (h : u.regs = s.regs) : u.act = s.act := by
  funext a
  rw [State.act, State.act, h]

/-! ## What a measurement leaves (R251, R252) -/

theorem OnlyLog.ft (h : OnlyLog s u) : u.ft = s.ft := by
  obtain ⟨_, _, _, _, _, _, rfl⟩ := h
  rfl

theorem keepsWord_foldl {α : Type} {g : State → α → State} (l : List α) (h : ∀ s, ∀ x ∈ l, KeepsWord a s (g s x)) (s : State) :
    KeepsWord a s (l.foldl g s) := by
  induction l generalizing s with
  | nil => exact .refl s
  | cons x l ih =>
    exact (h s x List.mem_cons_self).trans (ih (fun s y hy => h s y (List.mem_cons_of_mem _ hy)) _)

theorem keepsWord_forUpto {g : Nat → State → State} (n : Nat) (h : ∀ i s, KeepsWord a s (g i s)) (s : State) :
    KeepsWord a s (forUpto n g s) := forUpto_rel (R := KeepsWord a) (fun s => .refl s) (fun h k => h.trans k) h n s

theorem keepsWord_fit (w x : Nat) (s : State) : KeepsWord a s (s.fit w x).2 := .of_regs (fit_regs w x s)

theorem keepsWord_windowFigures (ha : a < 0x1200) (s : State) : KeepsWord a s (windowFigures s) := by
  unfold windowFigures
  exact ((keepsWord_fit _ _ s).trans (keepsWord_setLivN _ _ (by unfold Reg.FCST_DEVE; omega))).trans
    (keepsWord_forUpto 6 (fun i s => keepsWord_setLivN s _ (by unfold Reg.FCST_RAILP; omega)) _)

/-- A limit that a window exceeds: its flag and its event. -/
def exceeded (f : Fld) (g : Nat) (q : Option Nat) (s : State) : State := (s.setLivF Reg.FCST_STAT f 1).raise (gEvt g) q

theorem keepsWord_exceeded (hq : Quiet a) (ha : a < 0x1200) (f : Fld) {g : Nat} (hg : g < 32) {q : Option Nat}
    (h : ∀ p, q = some p → p < 64) (s : State) : KeepsWord a s (exceeded f g q s) :=
  (keepsWord_setLivF s f 1 (by unfold Reg.FCST_STAT; omega)).trans (keepsWord_raise hq (by unfold gEvt; omega) h 0 0 _)

/-- The check of the device's energy. -/
def deviceCheck (s : State) : State := if energyBudget s < devWin s then exceeded Fld.FCST_STAT_DEVOVER 26 none s else s

/-- The check of a slot's energy. -/
def slotCheck (s : State) (n : Nat) : State :=
  if bits (s.act (Reg.FCST_SLOT n)).toNat 12 16 ≠ 0 ∧ bits (s.act (Reg.FCST_SLOT n)).toNat 12 16 * 1000000 < slotWin s n then
    exceeded Fld.FCST_STAT_SLOTOVER 26 none s
  else s

/-- The check of a partition's energy. -/
def partCheck (charges : Tab Nat) (s : State) (p : Nat) : State :=
  if (s.act (Reg.FCST_PART p 1)).toNat ≠ 0 ∧ (s.act (Reg.FCST_PART p 1)).toNat * 1000000 < Tab.get 0 charges p then
    exceeded Fld.FCST_STAT_PARTOVER 27 (some p) (s.bump (Reg.FCST_PACC p 1))
  else s

theorem windowChecks_eq (charges : Tab Nat) (s : State) : windowChecks charges s =
    (List.range 48).foldl (partCheck charges) ((List.range 24).foldl slotCheck (deviceCheck s)) := rfl

theorem keepsWord_windowChecks (hq : Quiet a) (ha : a < 0x1200) (charges : Tab Nat) (s : State) :
    KeepsWord a s (windowChecks charges s) := by
  have hdev : KeepsWord a s (deviceCheck s) := .ite (keepsWord_exceeded hq ha _ (by decide) noPart s) (.refl s)
  have hslot (z : State) (n : Nat) : KeepsWord a z (slotCheck z n) :=
    .ite (keepsWord_exceeded hq ha _ (by decide) noPart z) (.refl z)
  have hpart (z : State) (p : Nat) (hp : p ∈ List.range 48) : KeepsWord a z (partCheck charges z p) := by
    have hp48 := List.mem_range.1 hp
    refine .ite ((keepsWord_bump z 1 (by unfold Reg.FCST_PACC; omega)).trans (keepsWord_exceeded hq ha _ (by decide) ?_ _)) (.refl z)
    intro q hq
    cases hq
    omega
  rw [windowChecks_eq]
  exact (hdev.trans (keepsWord_foldl (List.range 24) (fun z n _ => hslot z n) (deviceCheck s))).trans
    (keepsWord_foldl (List.range 48) hpart _)

theorem keepsWord_onFcst (g : Fcst → Fcst) (s : State) : KeepsWord a s (s.onFcst g) := .of_regs rfl

/-- The end of a window writes no word below 0x1200 but those of events and the slate log. -/
theorem keepsWord_endWindow (hq : Quiet a) (ha : a < 0x1200) (s : State) : KeepsWord a s (endWindow s) := by
  unfold endWindow
  exact ((keepsWord_windowFigures ha s).trans (keepsWord_windowChecks hq ha _ _)).trans (keepsWord_onFcst _ _)

/-- The same fabric time. -/
def SameFt (s u : State) : Prop := u.ft = s.ft

theorem sameFt_trans {v : State} (h : SameFt s u) (k : SameFt u v) : SameFt s v := Eq.trans k h

theorem sameFt_exceeded (f : Fld) (g : Nat) (q : Option Nat) (s : State) : SameFt s (exceeded f g q s) :=
  (onlyEvents_raise (s.setLivF Reg.FCST_STAT f 1) (gEvt g) q 0 0).log.ft

theorem sameFt_ite {c : Prop} {_ : Decidable c} (h : SameFt s u) : SameFt s (if c then u else s) := by
  split
  · exact h
  · exact rfl

theorem sameFt_setLivN (a x : Nat) (s : State) : SameFt s (s.setLivN a x) := rfl

theorem sameFt_fit (w x : Nat) (s : State) : SameFt s (s.fit w x).2 := by
  unfold State.fit
  split
  · exact rfl
  · exact rfl

theorem sameFt_windowFigures (s : State) : SameFt s (windowFigures s) := by
  unfold windowFigures
  exact sameFt_trans (sameFt_trans (sameFt_fit 24 _ s) (sameFt_setLivN _ _ _))
    (forUpto_rel (R := SameFt) (fun _ => rfl) sameFt_trans (fun _ z => sameFt_setLivN _ _ z) 6 _)

theorem sameFt_windowChecks (charges : Tab Nat) (s : State) : SameFt s (windowChecks charges s) := by
  have hdev : SameFt s (deviceCheck s) := sameFt_ite (sameFt_exceeded _ _ _ s)
  have hslot (z : State) (n : Nat) : SameFt z (slotCheck z n) := sameFt_ite (sameFt_exceeded _ _ _ z)
  have hpart (z : State) (p : Nat) : SameFt z (partCheck charges z p) :=
    sameFt_ite (sameFt_exceeded _ _ _ (z.bump (Reg.FCST_PACC p 1)))
  rw [windowChecks_eq]
  exact sameFt_trans (sameFt_trans hdev (foldl_rel (R := SameFt) (fun _ => rfl) sameFt_trans hslot (List.range 24) _))
    (foldl_rel (R := SameFt) (fun _ => rfl) sameFt_trans hpart (List.range 48) _)

theorem onFcst_ft (g : Fcst → Fcst) (s : State) : (s.onFcst g).ft = s.ft := rfl

theorem endWindow_ft (s : State) : (endWindow s).ft = s.ft := by
  unfold endWindow
  exact (onFcst_ft _ _).trans (sameFt_trans (sameFt_windowFigures s) (sameFt_windowChecks _ _))

/-- Offset and delay shown. -/
def tsShown (offset delay : Int) (s : State) : State :=
  (s.setLivN Reg.GLB_FT_OFFSET (unsigned 32 (sat32 offset))).setLivN Reg.GLB_FT_DELAY (unsigned 32 delay)

/-- The time steps by the offset. -/
def tsStepped (offset : Int) (s : State) : State :=
  State.setLivF (State.onTime { endWindow s with ft := (((endWindow s).ft : Int) + offset).toNat % 2 ^ 64 }
    (fun r => { r with slew := 0, acc := 0 })) Reg.GLB_FT_STAT Fld.GLB_FT_STAT_STEP 1

/-- The time steps, or slews. -/
def tsMoved (offset delay : Int) (s : State) : State :=
  if offset.natAbs ≤ 1000 then slewBy offset (tsShown offset delay s) else tsStepped offset (tsShown offset delay s)

/-- The good exchanges in succession after one more. -/
def tsGood (offset : Int) (psync : Bool) (s : State) : Nat := if offset.natAbs ≤ 10 ∧ psync then s.dp.time.good + 1 else 0

/-- The time valid, and the exchange counted. -/
def tsCounted (offset : Int) (psync : Bool) (s : State) : State :=
  (s.setLivF Reg.GLB_FT_STAT Fld.GLB_FT_STAT_VALID 1).onTime (fun r => { r with good := tsGood offset psync s, misses := 0 })

theorem tsMeasure_eq (offset delay : Int) (psync : Bool) (s : State) : tsMeasure offset delay psync s =
    if !psync then syncClear (tsCounted offset psync (tsMoved offset delay s))
    else if 4 ≤ tsGood offset psync (tsMoved offset delay s) then
      (tsCounted offset psync (tsMoved offset delay s)).setLivF Reg.GLB_FT_STAT Fld.GLB_FT_STAT_SYNC 1
    else tsCounted offset psync (tsMoved offset delay s) := rfl

/-! ## The time record and fabric time after a measurement -/

theorem tsCounted_time (offset : Int) (psync : Bool) (s : State) : (tsCounted offset psync s).dp.time =
    { s.dp.time with good := tsGood offset psync s, misses := 0 } := rfl

theorem tsCounted_slew (offset : Int) (psync : Bool) (s : State) : (tsCounted offset psync s).dp.time.slew = s.dp.time.slew := rfl

theorem tsCounted_ft (offset : Int) (psync : Bool) (s : State) : (tsCounted offset psync s).ft = s.ft := rfl

theorem setLivF_ft (a : Nat) (g : Fld) (x : Nat) (s : State) : (s.setLivF a g x).ft = s.ft := rfl

theorem tsShown_time (offset delay : Int) (s : State) : (tsShown offset delay s).dp.time = s.dp.time := rfl

theorem tsShown_ft (offset delay : Int) (s : State) : (tsShown offset delay s).ft = s.ft := rfl

theorem onTime_ft (g : TimeSync → TimeSync) (s : State) : (s.onTime g).ft = s.ft := rfl

theorem onTime_time (g : TimeSync → TimeSync) (s : State) : (s.onTime g).dp.time = g s.dp.time := rfl

theorem tsMoved_of_slew {offset : Int} (h : offset.natAbs ≤ 1000) (delay : Int) (s : State) :
    tsMoved offset delay s = slewBy offset (tsShown offset delay s) := if_pos h

theorem tsMoved_of_step {offset : Int} (h : 1000 < offset.natAbs) (delay : Int) (s : State) :
    tsMoved offset delay s = tsStepped offset (tsShown offset delay s) := if_neg (Nat.not_le.2 h)

/-- A measurement with PSYNC leaves the time record and fabric time of the count. -/
theorem tsMeasure_sync_frame (offset delay : Int) (s : State) :
    (tsMeasure offset delay true s).dp.time = (tsCounted offset true (tsMoved offset delay s)).dp.time ∧
    (tsMeasure offset delay true s).ft = (tsMoved offset delay s).ft := by
  rw [tsMeasure_eq, if_neg (by decide)]
  split
  · exact ⟨congrArg DataPath.time (setLivF_dp _ _ _ _), (setLivF_ft _ _ _ _).trans (tsCounted_ft _ _ _)⟩
  · exact ⟨rfl, tsCounted_ft _ _ _⟩

theorem tsStepped_ft (offset : Int) (s : State) : (tsStepped offset s).ft = ((s.ft : Int) + offset).toNat % 2 ^ 64 := by
  rw [tsStepped, setLivF_ft, onTime_ft, endWindow_ft]

theorem tsStepped_slew (offset : Int) (s : State) : (tsStepped offset s).dp.time.slew = 0 := by
  rw [tsStepped, setLivF_dp, onTime_time]

theorem slewBy_ft (offset : Int) (s : State) : (slewBy offset s).ft = s.ft := rfl

theorem slewBy_record (offset : Int) (s : State) : (slewBy offset s).dp.time =
    { s.dp.time with slew := offset, rate := (Config.free s.fresh % 200001 : Nat) - 100000 } := rfl

theorem slewBy_rate (offset : Int) (s : State) : (slewBy offset s).dp.time.rate.natAbs ≤ 100000 := by
  rw [slewBy_record]
  show (((Config.free s.fresh % 200001 : Nat) : Int) - 100000).natAbs ≤ 100000
  omega

/-! ## The words after a measurement -/

theorem quiet_ft : Quiet Reg.GLB_FT_OFFSET ∧ Quiet Reg.GLB_FT_DELAY ∧ Quiet Reg.GLB_FT_STAT :=
  ⟨.inl (by decide), .inl (by decide), .inl (by decide)⟩

theorem unsigned_lt (w : Nat) (x : Int) : unsigned w x < 2 ^ w := by
  unfold unsigned
  have h1 := Int.emod_nonneg x (b := (2 ^ w : Int)) (by positivity)
  have h2 := Int.emod_lt_of_pos x (b := (2 ^ w : Int)) (by positivity)
  zify
  omega

theorem liv_tsShown (hs : s.regs.canon = true) (offset delay : Int) : (tsShown offset delay s).regs.canon = true ∧
    ((tsShown offset delay s).liv Reg.GLB_FT_OFFSET).toNat = unsigned 32 (sat32 offset) ∧
    ((tsShown offset delay s).liv Reg.GLB_FT_DELAY).toNat = unsigned 32 delay := by
  have h1 : (s.setLivN Reg.GLB_FT_OFFSET (unsigned 32 (sat32 offset))).regs.canon = true := State.canon_setLiv _ _ hs
  refine ⟨State.canon_setLiv _ _ h1, ?_, ?_⟩
  · rw [tsShown, State.setLivN, State.liv_setLiv_ne _ (by decide) h1, State.setLivN, State.liv_setLiv_self _ _ hs,
      BitVec.toNat_ofNat, Nat.mod_eq_of_lt (unsigned_lt 32 _)]
  · rw [tsShown, State.setLivN, State.liv_setLiv_self _ _ h1, BitVec.toNat_ofNat, Nat.mod_eq_of_lt (unsigned_lt 32 _)]

theorem keepsWord_slewBy (offset : Int) (s : State) : KeepsWord a s (slewBy offset s) := .of_regs rfl

theorem keepsWord_onTime (g : TimeSync → TimeSync) (s : State) : KeepsWord a s (s.onTime g) := .of_regs rfl

theorem keepsWord_setFt (x : Nat) (s : State) : KeepsWord a s { s with ft := x } := .of_regs rfl

/-- A word below 0x1200 but GLB_FT_STAT stays when the time moves. -/
theorem keepsWord_tsStepped (hq : Quiet a) (ha : a < 0x1200) (hne : a ≠ Reg.GLB_FT_STAT) (offset : Int) (s : State) :
    KeepsWord a s (tsStepped offset s) :=
  (((keepsWord_endWindow hq ha s).trans (keepsWord_setFt _ _)).trans (keepsWord_onTime _ _)).trans (keepsWord_setLivF _ _ _ hne)

theorem keepsWord_tsMoved (hq : Quiet a) (ha : a < 0x1200) (hne : a ≠ Reg.GLB_FT_STAT) (offset delay : Int) (s : State) :
    KeepsWord a (tsShown offset delay s) (tsMoved offset delay s) :=
  .ite (keepsWord_slewBy _ _) (keepsWord_tsStepped hq ha hne _ _)

theorem keepsWord_tsCounted (hne : a ≠ Reg.GLB_FT_STAT) (offset : Int) (psync : Bool) (s : State) :
    KeepsWord a s (tsCounted offset psync s) := (keepsWord_setLivF s _ _ hne).trans (keepsWord_onTime _ _)

/-- A word that only the time figures write, after a measurement with PSYNC. -/
theorem keepsWord_tsMeasure (hq : Quiet a) (ha : a < 0x1200) (hne : a ≠ Reg.GLB_FT_STAT) (offset delay : Int) (s : State) :
    KeepsWord a (tsShown offset delay s) (tsMeasure offset delay true s) := by
  have hcount := (keepsWord_tsMoved hq ha hne offset delay s).trans (keepsWord_tsCounted hne offset true _)
  rw [tsMeasure_eq, if_neg (by decide)]
  exact .ite (hcount.trans (keepsWord_setLivF _ _ _ hne)) hcount

theorem tsMoved_canon (hs : s.regs.canon = true) (offset delay : Int) : (tsMoved offset delay s).regs.canon = true :=
  (keepsWord_tsMoved (a := Reg.GLB_FT_OFFSET) quiet_ft.1 (by decide) (by decide) offset delay s (liv_tsShown hs offset delay).1).1

theorem tsCounted_canon (hs : s.regs.canon = true) (offset : Int) (psync : Bool) : (tsCounted offset psync s).regs.canon = true :=
  canon_setLivF hs _ 1

theorem tsCounted_livF (offset : Int) (psync : Bool) (s : State) (g : Fld) : (tsCounted offset psync s).livF Reg.GLB_FT_STAT g =
    (s.setLivF Reg.GLB_FT_STAT Fld.GLB_FT_STAT_VALID 1).livF Reg.GLB_FT_STAT g := rfl

/-- The fields of GLB_FT_STAT other than SYNC. -/
theorem tsMeasure_livF (hs : s.regs.canon = true) (offset delay : Int) {g : Fld} (hg : Fld.GLB_FT_STAT_SYNC.Apart g)
    (hw : g.lo + g.w ≤ 32) : (tsMeasure offset delay true s).livF Reg.GLB_FT_STAT g =
      ((tsMoved offset delay s).setLivF Reg.GLB_FT_STAT Fld.GLB_FT_STAT_VALID 1).livF Reg.GLB_FT_STAT g := by
  have hm := tsMoved_canon hs offset delay
  rw [tsMeasure_eq, if_neg (by decide), ← tsCounted_livF offset true]
  split
  · exact livF_setLivF_apart (tsCounted_canon hm offset true) _ 1 hg hw
  · rfl

theorem tsMeasure_valid (hs : s.regs.canon = true) (offset delay : Int) :
    (tsMeasure offset delay true s).livF Reg.GLB_FT_STAT Fld.GLB_FT_STAT_VALID = 1 :=
  (tsMeasure_livF hs offset delay (by decide) (by decide)).trans
    (livF_setLivF_self (tsMoved_canon hs offset delay) _ 1 (by decide))

theorem tsStepped_step (hs : s.regs.canon = true) (offset : Int) :
    (tsStepped offset s).livF Reg.GLB_FT_STAT Fld.GLB_FT_STAT_STEP = 1 :=
  livF_setLivF_self (((keepsWord_endWindow (a := Reg.GLB_FT_STAT) quiet_ft.2.2 (by decide) s).trans
    ((keepsWord_setFt _ _).trans (keepsWord_onTime _ _))) hs).1 _ 1 (by decide)

theorem tsMeasure_step (hs : s.regs.canon = true) {offset : Int} (h : 1000 < offset.natAbs) (delay : Int) :
    (tsMeasure offset delay true s).livF Reg.GLB_FT_STAT Fld.GLB_FT_STAT_STEP = 1 := by
  refine (tsMeasure_livF hs offset delay (by decide) (by decide)).trans
    ((livF_setLivF_apart (tsMoved_canon hs offset delay) _ 1 (by decide) (by decide)).trans ?_)
  rw [tsMoved_of_step h]
  exact tsStepped_step (liv_tsShown hs offset delay).1 offset

theorem fget_one_lt (w : Word) {g : Fld} (h : g.w = 1) : fget w g < 2 := by
  rw [fget, bits, h]
  exact Nat.mod_lt _ (by decide)

/-- SYNC clear, and the good exchanges begun anew. -/
def syncCleared (s : State) : State :=
  (s.setLivF Reg.GLB_FT_STAT Fld.GLB_FT_STAT_SYNC 0).onDp (fun d => { d with time := { d.time with good := 0 } })

theorem syncClear_eq (s : State) : syncClear s =
    if s.livB Reg.GLB_FT_STAT Fld.GLB_FT_STAT_SYNC then
      if fget (s.act Reg.GLB_FT_CTL) Fld.GLB_FT_CTL_ROLE = 0 ∧ fget (s.act Reg.GLB_FT_CTL) Fld.GLB_FT_CTL_PSTN < 24 then
        (syncCleared s).raiseStn (fget (s.act Reg.GLB_FT_CTL) Fld.GLB_FT_CTL_PSTN) 15
          (fget (s.act Reg.GLB_FT_CTL) Fld.GLB_FT_CTL_PPORT)
      else syncCleared s
    else s := rfl

/-- Losing synchronisation leaves SYNC clear (R252). -/
theorem syncClear_sync (hs : s.regs.canon = true) : (syncClear s).livF Reg.GLB_FT_STAT Fld.GLB_FT_STAT_SYNC = 0 := by
  have hclear : (syncCleared s).livF Reg.GLB_FT_STAT Fld.GLB_FT_STAT_SYNC = 0 := livF_setLivF_self hs _ 0 (by decide)
  have hc : (syncCleared s).regs.canon = true := canon_setLivF hs _ 0
  rw [syncClear_eq]
  by_cases hsync : s.livB Reg.GLB_FT_STAT Fld.GLB_FT_STAT_SYNC = true
  · rw [if_pos hsync]
    split
    · next h => exact ((keepsWord_raiseStn quiet_ft.2.2 h.2 (by decide) _ _).livF hc _).trans hclear
    · exact hclear
  · rw [if_neg hsync]
    have hlt : s.livF Reg.GLB_FT_STAT Fld.GLB_FT_STAT_SYNC < 2 := fget_one_lt _ rfl
    have hne : s.livF Reg.GLB_FT_STAT Fld.GLB_FT_STAT_SYNC ≠ 1 := fun h => hsync (beq_iff_eq.2 h)
    omega

theorem tsMeasure_nosync (hs : s.regs.canon = true) (offset delay : Int) :
    (tsMeasure offset delay false s).livF Reg.GLB_FT_STAT Fld.GLB_FT_STAT_SYNC = 0 := by
  have heq : tsMeasure offset delay false s = syncClear (tsCounted offset false (tsMoved offset delay s)) :=
    (tsMeasure_eq _ _ _ _).trans (if_pos (by decide))
  rw [heq]
  exact syncClear_sync (tsCounted_canon (tsMoved_canon hs offset delay) offset false)

theorem tsGood_moved {offset : Int} (h : offset.natAbs ≤ 10) (delay : Int) (s : State) :
    tsGood offset true (tsMoved offset delay s) = s.dp.time.good + 1 := by
  rw [tsGood, if_pos ⟨h, rfl⟩, tsMoved_of_slew (by omega), slewBy_record, tsShown_time]

theorem tsMeasure_good {offset : Int} (h : offset.natAbs ≤ 10) (delay : Int) (s : State) :
    (tsMeasure offset delay true s).dp.time.good = s.dp.time.good + 1 := by
  rw [(tsMeasure_sync_frame offset delay s).1, tsCounted_time]
  exact tsGood_moved h delay s

/-- The fourth good exchange in succession sets SYNC (R252). -/
theorem tsMeasure_fourth (hs : s.regs.canon = true) {offset : Int} (h : offset.natAbs ≤ 10) (delay : Int)
    (h3 : 3 ≤ s.dp.time.good) : (tsMeasure offset delay true s).livF Reg.GLB_FT_STAT Fld.GLB_FT_STAT_SYNC = 1 := by
  rw [tsMeasure_eq, if_neg (by decide), if_pos (by rw [tsGood_moved h]; omega)]
  exact livF_setLivF_self (tsCounted_canon (tsMoved_canon hs offset delay) offset true) _ 1 (by decide)

theorem tsMeasure_slewed {offset : Int} (h : offset.natAbs ≤ 1000) (delay : Int) (s : State) :
    (tsMeasure offset delay true s).ft = s.ft ∧ (tsMeasure offset delay true s).dp.time.slew = offset ∧
    (tsMeasure offset delay true s).dp.time.rate.natAbs ≤ 100000 := by
  obtain ⟨htime, hft⟩ := tsMeasure_sync_frame offset delay s
  rw [htime, hft, tsCounted_time, tsMoved_of_slew h]
  refine ⟨(slewBy_ft _ _).trans (tsShown_ft _ _ _), ?_, slewBy_rate offset _⟩
  rw [slewBy_record]

theorem tsMeasure_stepped (hs : s.regs.canon = true) {offset : Int} (h : 1000 < offset.natAbs) (delay : Int) :
    (tsMeasure offset delay true s).ft = ((s.ft : Int) + offset).toNat % 2 ^ 64 ∧
    (tsMeasure offset delay true s).dp.time.slew = 0 ∧
    (tsMeasure offset delay true s).livF Reg.GLB_FT_STAT Fld.GLB_FT_STAT_STEP = 1 ∧
    (tsMeasure offset delay true s).dp.time.good = 0 := by
  obtain ⟨htime, hft⟩ := tsMeasure_sync_frame offset delay s
  have hgood : tsGood offset true (tsMoved offset delay s) = 0 := if_neg (by omega)
  refine ⟨?_, ?_, tsMeasure_step hs h delay, ?_⟩
  · rw [hft, tsMoved_of_step h, tsStepped_ft, tsShown_ft]
  · rw [htime, tsCounted_slew, tsMoved_of_step h]
    exact tsStepped_slew offset _
  · rw [htime, tsCounted_time]
    exact hgood

theorem tsMeasure_misses (offset delay : Int) (s : State) : (tsMeasure offset delay true s).dp.time.misses = 0 := by
  rw [(tsMeasure_sync_frame offset delay s).1]
  exact congrArg TimeSync.misses (tsCounted_time offset true _)

theorem tsMeasure_words (hs : s.regs.canon = true) (offset delay : Int) :
    ((tsMeasure offset delay true s).liv Reg.GLB_FT_OFFSET).toNat = unsigned 32 (sat32 offset) ∧
    ((tsMeasure offset delay true s).liv Reg.GLB_FT_DELAY).toNat = unsigned 32 delay := by
  obtain ⟨hc, hoffset, hdelay⟩ := liv_tsShown hs offset delay
  rw [(keepsWord_tsMeasure quiet_ft.1 (by decide) (by decide) offset delay s hc).2,
    (keepsWord_tsMeasure quiet_ft.2.1 (by decide) (by decide) offset delay s hc).2]
  exact ⟨hoffset, hdelay⟩

/-! ## Requests and responses -/

/-- A response: its time figures measured, where it answers the request sent (R250, R251). -/
def tsAnswered (n f : Nat) (tag psync : Bool) (time turn : Nat) (s : State) : State :=
  match (s.lnk n f).tsT1 with
  | none => s
  | some t1 =>
    if isParent s n f && tag == (s.lnk n f).tsTag && turn != 0xFFFF then
      tsMeasure ((((time : Int) - t1) - ((s.ft : Int) - (time + turn : Nat))) / 2 +
        signed 16 ((s.setLnk n f { s.lnk n f with tsT1 := none }).actF (Reg.FT_ASYM n) Fld.FT_ASYM_ASYM))
        ((((time : Int) - t1) + ((s.ft : Int) - (time + turn : Nat))) / 2) psync
        (s.setLnk n f { s.lnk n f with tsT1 := none })
    else s

theorem execTimeSyncResponseReceive_of_up {n : Fin 24} {f : Fin 2} (hp : fabPort s.act n.val f.val = true)
    (hup : 1 ≤ s.flState n.val f.val) (tag psync : Bool) (time turn : Nat) :
    execTimeSyncResponseReceive n f h tag psync time turn s =
      .next (tsAnswered n.val f.val tag psync time turn (ackedBy n.val f.val h s)) :=
  congrArg Host.Outcome.next (shortIn_of_up hp hup false (tsAnswered n.val f.val tag psync time turn))

theorem isParent_congr (h : u.regs = s.regs) (n f : Nat) : isParent u n f = isParent s n f := by
  rw [isParent, isParent, act_congr h]

theorem actF_setLnk (n f : Nat) (x : Link) (s : State) (a : Nat) (g : Fld) : (s.setLnk n f x).actF a g = s.actF a g := rfl

theorem actF_congr (h : u.regs = s.regs) (a : Nat) (g : Fld) : u.actF a g = s.actF a g := by
  rw [State.actF, State.actF, act_congr h]

theorem tsAnswered_of_answer {tag : Bool} {t1 turn : Nat} (ht : (s.lnk n f).tsT1 = some t1) (hp : isParent s n f = true)
    (htag : tag = (s.lnk n f).tsTag) (hturn : turn ≠ 0xFFFF) (psync : Bool) (time : Nat) :
    tsAnswered n f tag psync time turn s =
      tsMeasure ((((time : Int) - t1) - ((s.ft : Int) - (time + turn : Nat))) / 2 + signed 16 (s.actF (Reg.FT_ASYM n) Fld.FT_ASYM_ASYM))
        ((((time : Int) - t1) + ((s.ft : Int) - (time + turn : Nat))) / 2) psync
        (s.setLnk n f { s.lnk n f with tsT1 := none }) := by
  unfold tsAnswered
  rw [ht]
  dsimp only
  rw [if_pos (by rw [hp, htag, bne_iff_ne.2 hturn, beq_self_eq_true]; rfl), actF_setLnk]

theorem tsAnswered_of_not {tag : Bool} {turn : Nat}
    (h : (s.lnk n f).tsT1 = none ∨ isParent s n f = false ∨ tag ≠ (s.lnk n f).tsTag ∨ turn = 0xFFFF) (psync : Bool) (time : Nat) :
    tsAnswered n f tag psync time turn s = s := by
  unfold tsAnswered
  cases ht : (s.lnk n f).tsT1 with
  | none => rfl
  | some t1 =>
    refine if_neg ?_
    simp only [Bool.and_eq_true, beq_iff_eq, bne_iff_ne]
    rintro ⟨⟨hp, htag⟩, hturn⟩
    rcases h with h | h | h | h
    · rw [ht] at h
      cases h
    · rw [h] at hp
      cases hp
    · exact h htag
    · exact hturn h

/-- A request noted with its arrival time, in UP (R250). -/
def tsNoted (n f : Nat) (tag : Bool) (s : State) : State :=
  if s.flState n f = 3 then s.onLnk n f (fun l => { l with tsResp := l.tsResp ++ [{ tag := tag, t2 := s.ft }] }) else s

theorem execTimeSyncRequestReceive_of_up {n : Fin 24} {f : Fin 2} (hp : fabPort s.act n.val f.val = true)
    (hup : 1 ≤ s.flState n.val f.val) (tag : Bool) (time : Nat) :
    execTimeSyncRequestReceive n f h tag time s = .next (tsNoted n.val f.val tag (ackedBy n.val f.val h s)) :=
  congrArg Host.Outcome.next (shortIn_of_up hp hup false (tsNoted n.val f.val tag))

theorem tsNoted_of_up (h3 : s.flState n f = 3) (tag : Bool) : tsNoted n f tag s =
    s.onLnk n f (fun l => { l with tsResp := l.tsResp ++ [{ tag := tag, t2 := s.ft }] }) := if_pos h3

/-- Settles O48: what a request and a response do, and what a measurement leaves. -/
theorem timeExchanges : Obligations.TimeExchanges := by
  unfold Obligations.TimeExchanges
  refine ⟨fun s n f h tag hp hup => ⟨fun h3 time => ?_, fun h3 time => ?_, fun t1 psync time turn ht hpar htag hturn => ?_,
      fun psync time turn hno => ?_⟩, fun s offset delay hs => ⟨fun h => tsMeasure_slewed h delay s, (tsMeasure_words hs offset delay).1,
      (tsMeasure_words hs offset delay).2, tsMeasure_nosync hs offset delay, fun h => tsMeasure_stepped hs h delay,
      tsMeasure_valid hs offset delay, tsMeasure_misses offset delay s, fun h => tsMeasure_good h delay s,
      fun h h3 => tsMeasure_fourth hs h delay h3⟩⟩
  all_goals obtain ⟨hregs, hft⟩ := ackedBy_frame n.val f.val h s
  · refine (execTimeSyncRequestReceive_of_up hp hup tag time).trans ?_
    rw [tsNoted_of_up ((flState_congr hregs _ _).trans h3), hft]
    rfl
  · exact (execTimeSyncRequestReceive_of_up hp hup tag time).trans
      (congrArg Host.Outcome.next (if_neg (by rw [flState_congr hregs]; exact h3)))
  · refine (execTimeSyncResponseReceive_of_up hp hup tag psync time turn).trans ?_
    refine congrArg Host.Outcome.next ((tsAnswered_of_answer (s := ackedBy n.val f.val h s) ht
      ((isParent_congr hregs _ _).trans hpar) htag hturn psync time).trans ?_)
    rw [hft, actF_congr hregs]
    rfl
  · exact (execTimeSyncResponseReceive_of_up hp hup tag psync time turn).trans (congrArg Host.Outcome.next
      (tsAnswered_of_not (s := ackedBy n.val f.val h s)
        (hno.imp_right (fun h => h.imp_left (fun h => (isParent_congr hregs _ _).trans h))) psync time))

end Sys2Proof.Machine
end

section
/-! PROOFS. Queues and their descriptors, event rings and host completions (R411 to R432, R616). -/

namespace Sys2Proof.Machine

variable {s u z : State} {t : Take} {w i j n origin op : Nat} {v : Word}

/-! ## What doorbells are tested against -/

theorem q_congr (h : u.eng.qs = s.eng.qs) (i : Nat) : u.q i = s.q i := by
  rw [State.q, State.q, h]

theorem act_of_active (h : u.regs.active = s.regs.active) : u.act = s.act := by
  funext a
  rw [State.act, State.act, h]

theorem ownerPart_congr (h : u.regs.active = s.regs.active) (o : Owner) : ownerPart u o = ownerPart s o := by
  rw [ownerPart, ownerPart, sliceBound, sliceBound, slicePart, slicePart, act_of_active h]

theorem holdsQueue_congr (hq : u.eng.qs = s.eng.qs) (h : u.regs.active = s.regs.active) (origin i : Nat) :
    holdsQueue u origin i = holdsQueue s origin i := by
  rw [holdsQueue, holdsQueue, originOwns, originOwns, act_of_active h, q_congr hq, ownerPart_congr h]

theorem dbTest_congr (hq : u.eng.qs = s.eng.qs) (h : u.regs.active = s.regs.active) (origin i k old size x : Nat) :
    dbTest u origin i k old size x = dbTest s origin i k old size x := by
  rw [dbTest, dbTest, holdsQueue_congr hq h, q_congr hq]

/-- What a doorbell does once the register stands as in `k`. -/
def doorbell (origin i x : Nat) (k : State) : State :=
  if dbTest k origin i (k.q i).ccnt (k.q i).pi (2 ^ (k.q i).rlog) x = 0 then
    settle (pumpRing i (k.onQ i (fun q => { q with pi := x })))
  else dbRefuse (dbTest k origin i (k.q i).ccnt (k.q i).pi (2 ^ (k.q i).rlog) x) k

/-- What a notification doorbell does once the register stands as in `k`. -/
def notifyBell (origin i x : Nat) (k : State) : State :=
  if dbTest k origin i (k.q i).ncnt (k.q i).nci (2 ^ (k.q i).nrlog) x = 0 then
    settle (retryNotify i (k.onQ i (fun q => { q with nci := x })))
  else dbRefuse (dbTest k origin i (k.q i).ncnt (k.q i).nci (2 ^ (k.q i).nrlog) x) k

theorem qdbRule_eff (s : State) (t : Take) (a : Nat) (v : Word) : qdbRule.eff s t a v = command (fun z =>
    doorbell t.origin (fget v Fld.GLB_QDB_QUEUE) (fget v Fld.GLB_QDB_VALUE) (z.setLiv a v)) := rfl

theorem qndbRule_eff (s : State) (t : Take) (a : Nat) (v : Word) : qndbRule.eff s t a v = command (fun z =>
    notifyBell t.origin (fget v Fld.GLB_QDB_QUEUE) (fget v Fld.GLB_QDB_VALUE) (z.setLiv a v)) := rfl

theorem doorbell_spec (hq : u.eng.qs = s.eng.qs) (h : u.regs.active = s.regs.active) (x : Nat) :
    (dbTest s origin i (s.q i).ccnt (s.q i).pi (2 ^ (s.q i).rlog) x = 0 →
      doorbell origin i x u = settle (pumpRing i (u.onQ i (fun q => { q with pi := x })))) ∧
    (dbTest s origin i (s.q i).ccnt (s.q i).pi (2 ^ (s.q i).rlog) x ≠ 0 →
      doorbell origin i x u = dbRefuse (dbTest s origin i (s.q i).ccnt (s.q i).pi (2 ^ (s.q i).rlog) x) u) := by
  unfold doorbell
  rw [q_congr hq, dbTest_congr hq h]
  exact ⟨fun h0 => if_pos h0, fun h0 => if_neg h0⟩

theorem notifyBell_spec (hq : u.eng.qs = s.eng.qs) (h : u.regs.active = s.regs.active) (x : Nat) :
    (dbTest s origin i (s.q i).ncnt (s.q i).nci (2 ^ (s.q i).nrlog) x = 0 →
      notifyBell origin i x u = settle (retryNotify i (u.onQ i (fun q => { q with nci := x })))) ∧
    (dbTest s origin i (s.q i).ncnt (s.q i).nci (2 ^ (s.q i).nrlog) x ≠ 0 →
      notifyBell origin i x u = dbRefuse (dbTest s origin i (s.q i).ncnt (s.q i).nci (2 ^ (s.q i).nrlog) x) u) := by
  unfold notifyBell
  rw [q_congr hq, dbTest_congr hq h]
  exact ⟨fun h0 => if_pos h0, fun h0 => if_neg h0⟩

/-! ## Queue commands -/

/-- What a queue command does once it is stored as in `k`. -/
def queueAct (origin i op : Nat) (k : State) : State :=
  if qcmdCode k origin i op ≠ 0 then k.setLivF Reg.GLB_QSTAT Fld.GLB_QSTAT_CMDCODE (qcmdCode k origin i op)
  else settle (
    if op = 1 then startQueue i (k.setLivF Reg.GLB_QSTAT Fld.GLB_QSTAT_CMDCODE (qcmdCode k origin i op))
    else if op = 2 then stopQueue i false (k.setLivF Reg.GLB_QSTAT Fld.GLB_QSTAT_CMDCODE (qcmdCode k origin i op))
    else setSt i .free (k.setLivF Reg.GLB_QSTAT Fld.GLB_QSTAT_CMDCODE (qcmdCode k origin i op)))

/-- The effect of a write of GLB_QCMD. -/
def qcmdAct (origin op : Nat) (v : Word) (z : State) : State :=
  queueAct origin (fget v Fld.GLB_QCMD_QUEUE) op (storeCmd Reg.GLB_QCMD v [Fld.GLB_QCMD_OP] z)

theorem qcmdStep (h : AtLive (qcmdRule [op]) s t w Reg.GLB_QCMD v) :
    liveStep (qcmdRule [op]) s = .next (liveDone t Reg.GLB_QCMD v (qcmdAct t.origin op v) s) := by
  have hsel : (Reg.GLB_QCMD == Reg.GLB_QCMD && [op].contains (fget v Fld.GLB_QCMD_OP)) = true := h.2.2.2.1
  simp only [Bool.and_eq_true] at hsel
  have hop : fget v Fld.GLB_QCMD_OP = op := by simpa using hsel.2
  refine liveStep_done h ?_
  rw [← hop]
  rfl

theorem qcmdCode_of_foreign (h : holdsQueue s origin i = false) (op : Nat) : qcmdCode s origin i op = 1 := by
  unfold qcmdCode
  exact if_pos (by rw [h]; rfl)

theorem qcmdCode_of_noRow (h : holdsQueue s origin i = true) (hr : hasRow op (s.q i).st = false) :
    qcmdCode s origin i op = 2 := by
  unfold qcmdCode
  exact (if_neg (by rw [h]; decide)).trans (if_pos (by rw [hr]; rfl))

theorem qcmdCode_of_row (h : holdsQueue s origin i = true) (hr : hasRow op (s.q i).st = true) (hop : op ≠ 1) :
    qcmdCode s origin i op = 0 := by
  unfold qcmdCode
  exact (if_neg (by rw [h]; decide)).trans ((if_neg (by rw [hr]; decide)).trans (if_pos hop))

theorem hasRow_iff (h : op = 1 ∨ op = 2 ∨ op = 3) (st : QState) : hasRow op st = true ↔
    (op = 1 ∧ (st = .free ∨ st = .stopped ∨ st = .error)) ∨ (op = 2 ∧ st = .active) ∨
    (op = 3 ∧ (st = .stopped ∨ st = .error)) := by
  rcases h with rfl | rfl | rfl <;> cases st <;> decide

theorem q_setQ_self (hr : Tab.rises s.eng.qs = true) (i : Nat) (x : Queue) : (s.setQ i x).q i = x :=
  Tab.get_set_self _ _ hr

theorem q_setQ_ne (hr : Tab.rises s.eng.qs = true) (h : j ≠ i) (x : Queue) : (s.setQ i x).q j = s.q j := by
  show (Tab.find (Tab.set _ _ _ _) j).getD _ = (Tab.find _ j).getD _
  rw [Tab.find_set_ne _ h hr]

/-- The counts of a queue's state, before the state changes. -/
def countedSt (i : Nat) (st : QState) (s : State) : State :=
  let k := if (s.q i).st.counts = st.counts then s else addLiv (Reg.QACT (s.q i).fme) (if st.counts then 1 else -1) s
  if ((s.q i).st = .free) = (st = .free) then k else addLiv Reg.GLB_QFREE (if st = .free then 1 else -1) k

theorem countedSt_eng (i : Nat) (st : QState) (s : State) : (countedSt i st s).eng = s.eng := by
  unfold countedSt
  extract_lets k
  have hk : k.eng = s.eng := by
    simp only [k]
    split
    · rfl
    · rfl
  split
  · exact hk
  · exact hk

theorem setSt_eq (i : Nat) (st : QState) (s : State) : setSt i st s = (countedSt i st s).onQ i (fun q => { q with st := st }) := rfl

/-- Only the state of the one queue changes. -/
theorem setSt_spec (hr : Tab.rises s.eng.qs = true) (i : Nat) (st : QState) :
    ((setSt i st s).q i) = { s.q i with st := st } ∧ ∀ j, j ≠ i → (setSt i st s).q j = s.q j := by
  have heng := countedSt_eng i st s
  have hq (j : Nat) : (countedSt i st s).q j = s.q j := q_congr (by rw [heng]) j
  have hrises : Tab.rises (countedSt i st s).eng.qs = true := by
    rw [heng]
    exact hr
  rw [setSt_eq, State.onQ, hq]
  exact ⟨q_setQ_self hrises _ _, fun j hj => (q_setQ_ne hrises hj _).trans (hq j)⟩

/-! ## Descriptors -/

theorem execDescStart_of_queue {e : Fin 48} (hroom : engineRoom s (e.val / 2) = true) (hq : nextQueue s e.val = some i) :
    execDescStart e s = .next (settle (startDesc i s)) := by
  simp only [execDescStart, hroom, if_true, hq]

theorem execDescStart_of_none {e : Fin 48} (h : engineRoom s (e.val / 2) = false ∨ nextQueue s e.val = none) :
    execDescStart e s = .next (settle s) := by
  by_cases hroom : engineRoom s (e.val / 2) = true
  · have hq := h.resolve_left (by rw [hroom]; decide)
    simp only [execDescStart, hroom, if_true, hq]
  · exact congrArg (fun k => Host.Outcome.next (settle k)) (if_neg hroom)

theorem nextQueue_of_held (h : s.holds = true) (e : Nat) : nextQueue s e = none := if_pos (.inl h)

theorem endDesc_of_unknown (h : (s.q i).descs.find? (fun d => d.n == n) = none) : endDesc i n s = s := by
  unfold endDesc
  rw [h]

theorem endDesc_of_running {d : Desc} (h : (s.q i).descs.find? (fun d => d.n == n) = some d) (hd : d.status = none) :
    endDesc i n s = s := by
  unfold endDesc
  rw [h]
  dsimp only
  rw [hd]

theorem setStatus_descs (hr : Tab.rises s.eng.qs = true) (i n code : Nat) : ((setStatus i n code s).q i).descs =
    (s.q i).descs.map (fun d => if d.n = n ∧ d.status.isNone then { d with status := some code } else d) :=
  congrArg Queue.descs (q_setQ_self hr i _)

theorem execNotifyFullTimeout_of_not {m : Fin 24} {a b c : Nat} {r : Reasm} (h : findReasm s m.val a b c = some r)
    (hr : r.full = none ∨ r.st ≠ .notify ∨ r.recording = true) : execNotifyFullTimeout m a b c s = .next (settle s) := by
  unfold execNotifyFullTimeout
  simp only [h]
  cases hfull : r.full with
  | none => rfl
  | some t =>
    refine congrArg (fun k => Host.Outcome.next (settle k)) (if_neg ?_)
    rw [Bool.not_eq_true']
    rintro ⟨hst, hrec⟩
    rcases hr with h1 | h1 | h1
    · rw [hfull] at h1
      cases h1
    · exact h1 hst
    · rw [h1] at hrec
      cases hrec

theorem execNotifyFullTimeout_of_full {m : Fin 24} {a b c k : Nat} {r : Reasm} (h : findReasm s m.val a b c = some r)
    (hfull : r.full = some k) (hst : r.st = .notify) (hrec : r.recording = false) : execNotifyFullTimeout m a b c s =
      .next (settle (messageEnd (keyFme r.rkey) m.val r 0x15 ((s.reach (k + 1000000)).bump (Reg.NFULLCNT (keyFme r.rkey))))) := by
  unfold execNotifyFullTimeout
  simp only [h, hfull, hst, hrec, Bool.not_false, and_true, if_true]

/-! ## Event rings -/

/-- What a write of the CI of partition `q`'s ring, at producer index `pi`, does. -/
def ciAct (pi q : Nat) (v : Word) (z : State) : State :=
  if (pi + 2 ^ 16 - v.toNat % 2 ^ 16) % 2 ^ 16 ≤ 2 ^ evrLog (z.liv (Reg.GLB_EVR q 0)).toNat then
    (z.setLivF (Reg.GLB_EVR q 3) ⟨0, 16⟩ (v.toNat % 2 ^ 16)).intx
  else z

theorem evrOf_ci (q : Nat) : evrOf (Reg.GLB_EVR q 3) = q := by
  unfold evrOf Reg.GLB_EVR
  omega

theorem evrRule_eff (s : State) (t : Take) (q : Nat) (v : Word) : evrRule.eff s t (Reg.GLB_EVR q 3) v =
    command (ciAct ((s.liv (Reg.GLB_EVR q 2)).toNat % 2 ^ 16) q v) := by
  refine (if_pos (by unfold Reg.GLB_EVR; omega)).trans ?_
  rw [evrOf_ci]
  rfl

theorem liv_congr (h : u.regs = s.regs) (a : Nat) : u.liv a = s.liv a := by
  rw [State.liv, State.liv, h]

/-! ## Host completions -/

theorem execHostCompletion_of_sub {id : Nat} {j : Job} {u : Sub} {k : Nat} (h : subOf s id = some (j, u))
    (hs : u.sent = some k) (hr : u.res = none) (ok ep : Bool) (d : List Byte) : execHostCompletion id ok ep d s =
      .next (settle (if !ok ∨ d.length = u.len then subEnd id (if ok then .ok d ep else .fail) s else s)) := by
  unfold execHostCompletion
  simp only [h, hs, hr, Option.isSome_some, Option.isNone_none, true_and]

theorem execHostCompletionTimeout_of_sub {id : Nat} {j : Job} {u : Sub} {k : Nat} (h : subOf s id = some (j, u))
    (hs : u.sent = some k) (hr : u.res = none) :
    execHostCompletionTimeout id s = .next (settle (subEnd id .fail (s.reach (k + 50000000)))) := by
  unfold execHostCompletionTimeout
  simp only [h, hs, hr, Option.isNone_none, if_true]

/-- No TLP waits for a completion with this number. -/
def NoneAwaited (s : State) (id : Nat) : Prop :=
  subOf s id = none ∨ ∃ j u, subOf s id = some (j, u) ∧ (u.sent = none ∨ u.res.isSome = true)

theorem execHostCompletion_of_none {id : Nat} (h : NoneAwaited s id) (ok ep : Bool) (d : List Byte) :
    execHostCompletion id ok ep d s = .next (settle s) := by
  unfold execHostCompletion
  rcases h with h | ⟨j, u, h, hu⟩
  · simp only [h]
  · simp only [h]
    refine congrArg (fun k => Host.Outcome.next (settle k)) (if_neg ?_)
    rintro ⟨hs, hr, -⟩
    rcases hu with hu | hu
    · rw [hu] at hs
      cases hs
    · rw [Option.isNone_iff_eq_none] at hr
      rw [hr] at hu
      cases hu

theorem execHostCompletionTimeout_of_none {id : Nat} (h : NoneAwaited s id) :
    execHostCompletionTimeout id s = .next (settle s) := by
  unfold execHostCompletionTimeout
  rcases h with h | ⟨j, u, h, hu⟩
  · simp only [h]
  · simp only [h]
    cases hs : u.sent with
    | none => rfl
    | some k =>
      have hres := hu.resolve_left (by rw [hs]; exact nofun)
      refine congrArg (fun k => Host.Outcome.next (settle k)) (if_neg ?_)
      rw [Option.isNone_iff_eq_none]
      intro hr
      rw [hr] at hres
      cases hres

theorem npDone_eng (via req tag : Nat) (s : State) : (npDone via req tag s).eng = s.eng := rfl

theorem ended_ready (work : Work) (r : HostRes) (s : State) :
    (ended work r s).eng.io.ready = s.eng.io.ready ++ [(work, r)] := rfl

/-- The last TLP of a job ends it. -/
theorem subEnd_ready {id : Nat} {j : Job} {u : Sub} (h : subOf s id = some (j, u)) (hr : u.res = none) (hj : j.subs = [u])
    (hid : id % 64 = 0) (r : HostRes) : (subEnd id r s).eng.io.ready =
      s.eng.io.ready ++ [(j.work, joinRes [{ u with res := some r }])] := by
  have hsub : subEnd id r s = putSub id j { u with res := some r } (npDone j.port j.req id s) := by
    unfold subEnd
    simp only [h, hr, Option.isNone_none, if_true]
  have hput (z : State) : putSub id j { u with res := some r } z = ended j.work (joinRes [{ u with res := some r }])
      (z.onIo (fun i => { i with jobs := Tab.del i.jobs (id / 64) })) := by
    unfold putSub
    rw [hj, hid]
    rfl
  rw [hsub, hput, ended_ready]
  rfl

/-- Settles O53: doorbells and queue commands, descriptors, rings and completions, in this order. -/
theorem queuesAndDescriptors : Obligations.QueuesAndDescriptors := by
  unfold Obligations.QueuesAndDescriptors
  refine ⟨⟨fun s t w v => ⟨fun h => ⟨_, liveStep_done h (qdbRule_eff s t _ v), fun z hq ha =>
        doorbell_spec (u := z.setLiv Reg.GLB_QDB v) hq ha _⟩,
      fun h => ⟨_, liveStep_done h (qndbRule_eff s t _ v), fun z hq ha =>
        notifyBell_spec (u := z.setLiv Reg.GLB_QNDB v) hq ha _⟩⟩,
    fun s t w v op c hop h => ⟨qcmdAct t.origin op v, ?_, fun z => ⟨fun hc => if_pos hc, fun hc => if_neg (by rw [hc]; decide)⟩⟩,
    fun s origin i op hop => ⟨fun h => qcmdCode_of_foreign h op, fun h hr => qcmdCode_of_noRow h ?_,
      fun h hr h1 => qcmdCode_of_row h ((hasRow_iff hop _).2 hr) h1⟩, fun s i st hr => ?_⟩,
    ⟨fun s e => ⟨fun i h1 h2 => execDescStart_of_queue h1 h2, execDescStart_of_none, fun h => nextQueue_of_held h e.val⟩,
      fun s q n => ⟨rfl, endDesc_of_unknown, fun d => endDesc_of_running⟩,
      fun s q n => ⟨fun d h => ?_, fun h => ?_⟩,
      fun s n a b c => ⟨fun r t h1 h2 h3 h4 => execNotifyFullTimeout_of_full h1 h2 h3 h4,
        fun r h1 h2 => execNotifyFullTimeout_of_not h1 h2, fun h => ?_⟩,
      fun s i n code hr => ⟨setStatus_descs hr i n code, rfl⟩⟩,
    fun s t w q v hq h => ⟨fun ho => ?_, _, liveStep_done h (evrRule_eff s t q v), fun z hz => ?_⟩,
    fun s id j u t h hs hr => ⟨fun ep d hd => ?_, fun ep d hd => ?_, fun ep d => ?_, execHostCompletionTimeout_of_sub h hs hr,
      fun hj hid r => subEnd_ready h hr hj hid r⟩,
    fun s id h => ⟨execHostCompletion_of_none h, execHostCompletionTimeout_of_none h⟩⟩
  · rcases hop with ⟨rfl, rfl⟩ | ⟨rfl, rfl⟩ | ⟨rfl, rfl⟩
    · exact qcmdStep h
    · exact qcmdStep h
    · exact qcmdStep h
  · exact Bool.eq_false_iff.2 (fun hrow => hr ((hasRow_iff hop _).1 hrow))
  · obtain ⟨hself, hother⟩ := setSt_spec hr i st
    rw [hself]
    exact ⟨rfl, rfl, rfl, hother⟩
  · show execWaitTimeout q n s = _
    simp only [execWaitTimeout, h]
  · show execWaitTimeout q n s = _
    simp only [execWaitTimeout, h]
  · show execNotifyFullTimeout n a b c s = _
    simp only [execNotifyFullTimeout, h]
  · have hdeny : (decide (t.origin < 48) && t.origin != evrOf (Reg.GLB_EVR q 3)) = false := h.2.2.2.2.2.2.1
    rw [evrOf_ci, decide_eq_true ho, Bool.true_and, bne_eq_false_iff_eq] at hdeny
    exact hdeny
  · unfold ciAct
    rw [liv_congr hz]
    exact ⟨fun h => if_pos h, fun h => if_neg (Nat.not_le.2 h)⟩
  · exact (execHostCompletion_of_sub h hs hr true ep d).trans
      (congrArg (fun k => Host.Outcome.next (settle k)) (if_pos (.inr hd)))
  · refine (execHostCompletion_of_sub h hs hr true ep d).trans
      (congrArg (fun k => Host.Outcome.next (settle k)) (if_neg ?_))
    rintro (h | h)
    · cases h
    · exact hd h
  · exact (execHostCompletion_of_sub h hs hr false ep d).trans
      (congrArg (fun k => Host.Outcome.next (settle k)) (if_pos (.inl rfl)))

end Sys2Proof.Machine
end

section
/-! PROOFS. FME packets and the timers of messages (R421 to R452). -/

namespace Sys2Proof.Machine

variable {s z : State} {e : Fin 48} {n : Fin 24} {pt mid pidx a b c : Nat} {p : Packet}

theorem settled {u : State} (h : z = u) : (.next (settle z) : Host.Outcome State Fault Refusal) = .next (settle u) :=
  congrArg (fun k => Host.Outcome.next (settle k)) h

theorem next_eq {u : State} (h : z = u) : (.next z : Host.Outcome State Fault Refusal) = .next u :=
  congrArg Host.Outcome.next h

/-! ## Packets -/

theorem receive_of_some {k : Nat} (f : Packet → State → State) (h : takeFme k pt s = some (p, z)) :
    receive k pt f s = .next (settle (f p z)) := by
  unfold receive
  rw [h]

theorem receive_of_none {k : Nat} (f : Packet → State → State) (h : takeFme k pt s = none) :
    receive k pt f s = .next (settle s) := by
  unfold receive
  rw [h]

theorem takeFirst_holds {α : Type} {q : α → Bool} {l : List α} {r : α × List α} (h : takeFirst q l = some r) : q r.1 = true := by
  induction l generalizing r with
  | nil => exact nomatch h
  | cons x l ih =>
    unfold takeFirst at h
    split at h
    · next hx => exact Option.some.inj h ▸ hx
    · split at h
      · exact nomatch h
      · next y rest hrest =>
        cases h
        exact ih (r := (y, rest)) hrest

/-- A packet that is taken is of its kind, and only the queue it waited in changes. -/
theorem takeFme_spec {k : Nat} (h : takeFme k pt s = some (p, z)) : (hdrOf p).pt = pt ∧ z.regs = s.regs ∧ z.eng = s.eng := by
  obtain ⟨r, hr, he⟩ := Option.map_eq_some_iff.1 h
  cases he
  exact ⟨beq_iff_eq.1 (takeFirst_holds hr), rfl, rfl⟩

theorem reqIn_of_held {k : Nat} (h : s.holdsAt (k / 2) = true) (hn : p.snode ≠ s.node) :
    reqIn k p s = sendNak k p (hdrOf p) 0x81 s := if_pos (by rw [h, bne_iff_ne.2 hn]; rfl)

theorem ackIn_of_unknown {k : Nat} {h : FmeHdr} (ha : answers s k h.mid h.pidx (h.arg % 2 ^ 16) = none) :
    ackIn k h s = s ∧ nakIn k h s = s := by
  constructor
  · simp only [ackIn, ha]
  · simp only [nakIn, ha]

/-! ## Timers of packets and messages -/

theorem execFmeRtoExpire_of_out {m : Msg} {t : Track} (h : trackOf s e.val mid pidx = some (m, t)) (hst : t.st = .out ∨ t.st = .pend) :
    execFmeRtoExpire e mid pidx s = .next (settle (sendCopy e.val m t (if t.pended then s.reach (t.at_ + rtoNs s)
      else ((s.reach (t.at_ + rtoNs s)).bump (Reg.RTOCNT e.val)).onDest e.val m.dnode
        (setback (s.reach (t.at_ + rtoNs s)) true)))) := by
  simp only [execFmeRtoExpire, h, if_pos hst]

theorem execFmeRtoExpire_of_not {m : Msg} {t : Track} (h : trackOf s e.val mid pidx = some (m, t)) (ho : t.st ≠ .out)
    (hp : t.st ≠ .pend) : execFmeRtoExpire e mid pidx s = .next (settle s) := by
  simp only [execFmeRtoExpire, h, if_neg (not_or.2 ⟨ho, hp⟩)]

theorem execNakwaitExpire_of_wait {m : Msg} {t : Track} {d : Nat} (h : trackOf s e.val mid pidx = some (m, t))
    (hst : t.st = .nakWait d) : execNakwaitExpire e mid pidx s = .next (settle (sendCopy e.val m t (s.reach d))) := by
  simp only [execNakwaitExpire, h, hst]

theorem execNakwaitExpire_of_not {m : Msg} {t : Track} (h : trackOf s e.val mid pidx = some (m, t))
    (hst : ∀ d, t.st ≠ .nakWait d) : execNakwaitExpire e mid pidx s = .next (settle s) := by
  unfold execNakwaitExpire
  simp only [h]

theorem execFmeMessageTimeout_of_started {m : Msg} {t : Nat} (h : s.msg e.val mid = some m) (ht : m.started = some t) :
    execFmeMessageTimeout e mid s =
      .next (settle (closeMsg e.val { m with fail := some 0x16 } (s.reach (t + 2000000)))) := by
  simp only [execFmeMessageTimeout, h, ht]

theorem execFmeMessageTimeout_of_not (h : (s.msg e.val mid).bind (fun m => m.started) = none) :
    execFmeMessageTimeout e mid s = .next (settle s) := by
  unfold execFmeMessageTimeout
  cases hm : s.msg e.val mid with
  | none => rfl
  | some m =>
    rw [hm] at h
    have hstarted : m.started = none := h
    simp only [hstarted]

/-! ## Timers of reassemblies -/

/-- An unfinished reassembly held with the result of a timeout. -/
def reasmHeld (n : Fin 24) (a b c : Nat) (r : Reasm) (s : State) : State :=
  onReasm n.val a b c (fun r => { r with st := .held, result := some 0x16 })
    ((s.reach (r.since + 2000000)).bump (Reg.REASM_TOCNT n.val))

/-- The owner of the region that a reassembly writes to. -/
def reasmOwner (k : State) (i : Nat) : Option Nat := if keyState k i = 0 then none else ownerPart k (keyOwner k i)

/-- The ring of that owner is told. -/
def reasmTold (o : Option Nat) (a : Nat) (r : Reasm) (k : State) : State :=
  match o with
  | some q => if q < 48 then ringWrite q 5 a r.rkey r.roff k else k
  | none => k

theorem execReasmTimeout_of_owner {r : Reasm} {o : Option Nat} (h : findReasm s n.val a b c = some r) (hst : r.st = .open_)
    (ho : reasmOwner (reasmHeld n a b c r s) (r.rkey % 2 ^ 20) = o) : execReasmTimeout n a b c s = .next (settle
      ((reasmTold o a r (reasmHeld n a b c r s)).raiseLimited (gEvt 18) none (512 + n.val)).intx) := by
  unfold reasmOwner reasmHeld at ho
  simp only [execReasmTimeout, h, if_pos hst, ho]
  cases o with
  | none => rfl
  | some q => rfl

/-- Without an owner no ring is told. -/
theorem execReasmTimeout_of_none {r : Reasm} {k : State} (h : findReasm s n.val a b c = some r) (hst : r.st = .open_)
    (hk : reasmHeld n a b c r s = k)
    (ho : keyState k (r.rkey % 2 ^ 20) = 0 ∨ ownerPart k (keyOwner k (r.rkey % 2 ^ 20)) = none) :
    execReasmTimeout n a b c s = .next (settle (k.raiseLimited (gEvt 18) none (512 + n.val)).intx) := by
  subst hk
  refine execReasmTimeout_of_owner h hst (o := none) ?_
  unfold reasmOwner
  split
  · rfl
  · next hne => exact ho.resolve_left hne

/-- The ring of the region's owner is told. -/
theorem execReasmTimeout_of_some {r : Reasm} {k : State} {q : Nat} (h : findReasm s n.val a b c = some r) (hst : r.st = .open_)
    (hk : reasmHeld n a b c r s = k) (hne : keyState k (r.rkey % 2 ^ 20) ≠ 0)
    (ho : ownerPart k (keyOwner k (r.rkey % 2 ^ 20)) = some q) (hq : q < 48) : execReasmTimeout n a b c s =
      .next (settle ((ringWrite q 5 a r.rkey r.roff k).raiseLimited (gEvt 18) none (512 + n.val)).intx) := by
  subst hk
  have htold : reasmTold (some q) a r (reasmHeld n a b c r s) = ringWrite q 5 a r.rkey r.roff (reasmHeld n a b c r s) := if_pos hq
  rw [← htold]
  exact execReasmTimeout_of_owner h hst ((if_neg hne).trans ho)

theorem execReasmTimeout_of_not {r : Reasm} (h : findReasm s n.val a b c = some r) (hst : r.st ≠ .open_) :
    execReasmTimeout n a b c s = .next (settle s) := by
  simp only [execReasmTimeout, h, if_neg hst]

theorem execReasmHeldExpire_of_held {r : Reasm} (h : findReasm s n.val a b c = some r) (hst : r.st = .held)
    (hres : r.result.isSome = true) : execReasmHeldExpire n a b c s =
      .next (setReasm n.val ((reasmOf (s.reach (r.last + 2 * rtoNs s)) n.val).filter (fun r => !r.is a b c))
        (s.reach (r.last + 2 * rtoNs s))) := by
  simp only [execReasmHeldExpire, h, if_pos (And.intro hst hres)]

theorem execReasmHeldExpire_of_not {r : Reasm} (h : findReasm s n.val a b c = some r) (hr : r.st ≠ .held ∨ r.result = none) :
    execReasmHeldExpire n a b c s = .next s := by
  have hnot : ¬(r.st = .held ∧ r.result.isSome = true) := by
    rintro ⟨hst, hres⟩
    rcases hr with hr | hr
    · exact hr hst
    · rw [hr] at hres
      cases hres
  simp only [execReasmHeldExpire, h, if_neg hnot]

/-! ## Timers of destinations -/

theorem execCcRoundEnd_of_round {node : Fin 4096} {d : Dest} {t r : Nat} (h : s.dest e.val node.val = some d)
    (ht : d.round = some t) (hr : d.rtt = some r) : execCcRoundEnd e node s =
      .next ((s.reach (t + r)).onDest e.val node.val (endRound (s.reach (t + r)))) := by
  simp only [execCcRoundEnd, h, ht, hr]

theorem execCcRoundEnd_of_not {node : Fin 4096} {d : Dest} (h : s.dest e.val node.val = some d)
    (hr : d.round = none ∨ d.rtt = none) : execCcRoundEnd e node s = .next s := by
  unfold execCcRoundEnd
  simp only [h]
  split
  · next t r ht hrtt =>
    rcases hr with hr | hr
    · rw [hr] at ht
      cases ht
    · rw [hr] at hrtt
      cases hrtt
  · rfl

/-- Settles O54: packets, then the timers of messages, of reassemblies and of destinations. -/
theorem fmeMessages : Obligations.FmeMessages := by
  unfold Obligations.FmeMessages
  refine ⟨fun s e => ⟨fun h => settled (if_pos h), fun h => settled (if_neg (by rw [h]; decide)),
      fun p z h => receive_of_some _ h, fun p z h => receive_of_some _ h, fun p z h => receive_of_some _ h,
      fun p z h => receive_of_some _ h, fun p z h => receive_of_some _ h, fun p z h => receive_of_some _ h,
      fun p z h => receive_of_some _ h, receive_of_none _, receive_of_none _, receive_of_none _, receive_of_none _,
      receive_of_none _, receive_of_none _, receive_of_none _, fun pt p z => takeFme_spec, fun p => reqIn_of_held,
      fun h => ackIn_of_unknown⟩,
    fun s e mid pidx => ⟨fun m t h => ⟨fun hst hp => ?_, fun hst hp => ?_, fun ho hp => execFmeRtoExpire_of_not h ho hp,
        fun d hd => execNakwaitExpire_of_wait h hd, fun hd => execNakwaitExpire_of_not h hd⟩, fun h => ⟨?_, ?_⟩,
      fun m t h ht => execFmeMessageTimeout_of_started h ht, execFmeMessageTimeout_of_not⟩,
    fun s n a b c => ⟨fun r h hst => ⟨fun hk => ?_, fun q hk ho hq => ?_⟩,
      fun r h hst hres => execReasmHeldExpire_of_held h hst hres, fun r h hst => execReasmTimeout_of_not h hst,
      fun r h hr => execReasmHeldExpire_of_not h hr, fun h => ⟨?_, ?_⟩⟩,
    fun s e node => ⟨fun d h => ⟨fun t ht => ?_, fun ht => ?_, fun t r ht hr => execCcRoundEnd_of_round h ht hr,
      fun hr => execCcRoundEnd_of_not h hr, fun t ht => ?_, fun ht => ?_⟩, fun h => ⟨?_, ?_, ?_⟩⟩⟩
  · exact (execFmeRtoExpire_of_out h hst).trans (by rw [hp]; rfl)
  · exact (execFmeRtoExpire_of_out h hst).trans (by rw [hp]; rfl)
  · show execFmeRtoExpire e mid pidx s = _
    simp only [execFmeRtoExpire, h]
  · show execNakwaitExpire e mid pidx s = _
    simp only [execNakwaitExpire, h]
  · exact execReasmTimeout_of_none h hst rfl hk
  · exact execReasmTimeout_of_some h hst rfl hk ho hq
  · show execReasmTimeout n a b c s = _
    simp only [execReasmTimeout, h]
  · show execReasmHeldExpire n a b c s = _
    simp only [execReasmHeldExpire, h]
  · show execDestContextRelease e node s = _
    simp only [execDestContextRelease, h, Option.bind_some, ht]
  · show execDestContextRelease e node s = _
    simp only [execDestContextRelease, h, Option.bind_some, ht]
  · show execPacingWaitEnd e node s = _
    simp only [execPacingWaitEnd, h, Option.bind_some, ht]
  · show execPacingWaitEnd e node s = _
    simp only [execPacingWaitEnd, h, Option.bind_some, ht]
  · show execDestContextRelease e node s = _
    simp only [execDestContextRelease, h, Option.bind_none]
  · show execCcRoundEnd e node s = _
    simp only [execCcRoundEnd, h]
  · show execPacingWaitEnd e node s = _
    simp only [execPacingWaitEnd, h, Option.bind_none]

end Sys2Proof.Machine
end

section
/-! PROOFS. TLPs at the PCI Express ports (R17, R147, R204, R207, R317). -/

namespace Sys2Proof.Machine

variable {s : State} {x c : Nat} {n : Fin 24} {p : Fin 4} {t : Tlp}

/-- A TLP that a port takes, counted and logged when poisoned, with its credits spent. -/
def tlpTaken (x : Nat) (t : Tlp) (s : State) : State :=
  pcieSpend x t (if t.ep then
    aerPoison (bridgeFn s x).1 (bridgeFn s x).2 ((s.bump (Reg.PORT_POISCNT (x / 4) (x % 4))).raiseStn (x / 4) 15 (x % 4))
  else s)

theorem tlpIn_eq (hc : t.isCpl = false) : tlpIn x t s =
    if flowOf (tlpTaken x t s) x = [] ∨ (t.isCpl ∧ !heldRed (tlpTaken x t s) x) then
      (match letIn x t (tlpTaken x t s) with
        | (true, k) => k
        | (false, k) => setFlow x (flowOf (tlpTaken x t s) x ++ [t]) k)
    else setFlow x (flowOf (tlpTaken x t s) x ++ [t]) (tlpTaken x t s) := by
  unfold tlpIn
  simp only [hc]
  rfl

/-- Behind a TLP that waits, another request waits (R207). -/
theorem tlpIn_of_waiting (hc : t.isCpl = false) (h : flowOf (tlpTaken x t s) x ≠ []) :
    tlpIn x t s = setFlow x (flowOf (tlpTaken x t s) x ++ [t]) (tlpTaken x t s) := by
  rw [tlpIn_eq hc, if_neg]
  rintro (hnil | ⟨hcpl, -⟩)
  · exact h hnil
  · rw [hc] at hcpl
    cases hcpl

theorem tlpIn_of_stays (hc : t.isCpl = false) (h : flowOf (tlpTaken x t s) x = []) {k : State}
    (hl : letIn x t (tlpTaken x t s) = (false, k)) : tlpIn x t s = setFlow x [t] k := by
  rw [tlpIn_eq hc, if_pos (.inl h), hl, h]
  dsimp only [List.nil_append]

theorem tlpIn_of_passes (hc : t.isCpl = false) (h : flowOf (tlpTaken x t s) x = []) {k : State}
    (hl : letIn x t (tlpTaken x t s) = (true, k)) : tlpIn x t s = k := by
  rw [tlpIn_eq hc, if_pos (.inl h), hl]

theorem letIn_of_held (hc : t.isCpl = false) (h : s.holdsAt (x / 4) = true) : letIn x t s = (false, s) :=
  if_pos (by rw [h, hc]; rfl)

theorem letIn_of_unmetered (h : s.holdsAt (x / 4) = false) (hm : meteredAs s x = none) :
    letIn x t s = (true, admitted x t (admitTlp x 0 t) s) := by
  unfold letIn
  rw [if_neg (by rw [h, Bool.false_and]; decide), hm]

/-- What a receiving port does with a request (R204, R207, R317). -/
theorem tlpIn_spec (hc : t.isCpl = false) :
    (flowOf (tlpTaken x t s) x ≠ [] → tlpIn x t s = setFlow x (flowOf (tlpTaken x t s) x ++ [t]) (tlpTaken x t s)) ∧
    (flowOf (tlpTaken x t s) x = [] → (tlpTaken x t s).holdsAt (x / 4) = true →
      tlpIn x t s = setFlow x [t] (tlpTaken x t s)) ∧
    (flowOf (tlpTaken x t s) x = [] → (tlpTaken x t s).holdsAt (x / 4) = false → meteredAs (tlpTaken x t s) x = none →
      tlpIn x t s = admitted x t (admitTlp x 0 t) (tlpTaken x t s)) :=
  ⟨tlpIn_of_waiting hc, fun h hh => tlpIn_of_stays hc h (letIn_of_held hc hh),
    fun h hh hm => tlpIn_of_passes hc h (letIn_of_unmetered hh hm)⟩

/-- A red TLP at the head of a flow that leaves when the buckets hold enough (R317). -/
theorem execHeldTlpRedecide_of_red {l : List Tlp} {q : Nat} (hf : flowOf s (4 * n.val + p.val) = t :: l)
    (hm : meteredAs s (4 * n.val + p.val) = some q) (hr : heldRed s (4 * n.val + p.val) = true)
    (hen : (policerAt s.act (Reg.GLB_PPOL q 0)).en = true ∧
      (meter (policerAt s.act (Reg.GLB_PPOL q 0)) (refill (policerAt s.act (Reg.GLB_PPOL q 0)) (Tab.find s.dp.ppol q) s.now)
        (t.length + (policerAt s.act (Reg.GLB_PPOL q 0)).ovh) (preColour (policerAt s.act (Reg.GLB_PPOL q 0)) t.tc)).1 = .red) :
    execHeldTlpRedecide n p s = .next (runFlow (4 * n.val + p.val) (t :: l) (s.advance (waitNs
      (policerAt s.act (Reg.GLB_PPOL q 0)) (refill (policerAt s.act (Reg.GLB_PPOL q 0)) (Tab.find s.dp.ppol q) s.now)
      (t.length + (policerAt s.act (Reg.GLB_PPOL q 0)).ovh) (preColour (policerAt s.act (Reg.GLB_PPOL q 0)) t.tc)))) := by
  simp only [execHeldTlpRedecide, hf, hm, hr, if_true, if_pos hen]

theorem admitTlp_of_unlock (hk : t.kind = .unlock) (hu : isUpstream s.act (x / 4) (x % 4) = true) (c : Nat) :
    admitTlp x c t s = unlockIn x t s := by
  unfold admitTlp
  refine (if_neg ?_).trans (if_pos ⟨hk, hu⟩)
  rw [hk]
  rintro (h | ⟨h, -⟩)
  · cases h
  · cases h

/-- Credits of type `i` granted to an egress port. -/
def credited (i hdr data : Nat) (e : EPort) : EPort := { e with
  fc := Tab.set (0, 0) e.fc i ((Tab.get (0, 0) e.fc i).1 + hdr, (Tab.get (0, 0) e.fc i).2 + data) }

theorem eport_onEport (hr : Tab.rises s.dp.eport = true) (x : Nat) (g : EPort → EPort) :
    (s.onEport x g).eport x = g (s.eport x) := Tab.get_set_self _ _ hr

/-- The credits that are added, and what waited for them (R207). -/
theorem fcUpdate_spec (hr : Tab.rises s.dp.eport = true) (hfc : Tab.rises (s.eport x).fc = true) (i hdr data : Nat) :
    Tab.get (0, 0) ((s.onEport x (credited i hdr data)).eport x).fc i =
      ((Tab.get (0, 0) (s.eport x).fc i).1 + hdr, (Tab.get (0, 0) (s.eport x).fc i).2 + data) := by
  rw [eport_onEport hr]
  exact Tab.get_set_self _ _ hfc

/-- The index of a credit type. -/
def fcIndex : FcType → Nat
  | .posted => 0
  | .nonPosted => 1
  | .cpl => 2

theorem execPcieFcUpdate_of_up (hp : pciePort s.act n.val p.val = true) (hup : s.dlUp n.val p.val = true) (ty : FcType)
    (hdr data : Nat) : execPcieFcUpdate n p ty hdr data s = .next (settle (wake n.val (drainAside (4 * n.val + p.val) 17
      (s.onEport (4 * n.val + p.val) (credited (fcIndex ty) hdr data))))) := by
  have hboth : (pciePort s.act n.val p.val && s.dlUp n.val p.val) = true := by
    rw [hp, hup]
    rfl
  cases ty with
  | posted => exact settled (if_pos hboth)
  | nonPosted => exact settled (if_pos hboth)
  | cpl => exact settled (if_pos hboth)

theorem port_div (n : Fin 24) (p : Fin 4) : (4 * n.val + p.val) / 4 = n.val ∧ (4 * n.val + p.val) % 4 = p.val := by
  omega

theorem tlpTaken_port (n : Fin 24) (p : Fin 4) (t : Tlp) (s : State) : tlpTaken (4 * n.val + p.val) t s =
    pcieSpend (4 * n.val + p.val) t (if t.ep then
      aerPoison (bridgeFn s (4 * n.val + p.val)).1 (bridgeFn s (4 * n.val + p.val)).2
        ((s.bump (Reg.PORT_POISCNT n.val p.val)).raiseStn n.val 15 p.val) else s) := by
  obtain ⟨hn, hp⟩ := port_div n p
  rw [tlpTaken, hn, hp]

/-- Settles O45: a TLP in its flow, the flow of a policed port, Unlock and credits. -/
theorem tlpsAtPorts : Obligations.TlpsAtPorts := by
  unfold Obligations.TlpsAtPorts
  intro s n p
  obtain ⟨hn, hp⟩ := port_div n p
  refine ⟨fun h t => next_eq (if_pos h), fun h t => next_eq (if_neg (by rw [h]; decide)), fun t hc => ?_,
    fun t l q hf hm hr hen hred => execHeldTlpRedecide_of_red hf hm hr ⟨hen, hred⟩,
    fun h hu => next_eq (if_pos (by rw [h, hu]; rfl)), fun t c hk hu => admitTlp_of_unlock hk (by rw [hn, hp]; exact hu) c,
    fun ty hdr data h hup hr hfc => ⟨_, execPcieFcUpdate_of_up h hup ty hdr data, ?_, rfl⟩⟩
  · have hspec := tlpIn_spec (x := 4 * n.val + p.val) (s := s) hc
    rw [tlpTaken_port, hn] at hspec
    exact hspec
  · cases ty with
    | posted => exact fcUpdate_spec hr hfc 0 hdr data
    | nonPosted => exact fcUpdate_spec hr hfc 1 hdr data
    | cpl => exact fcUpdate_spec hr hfc 2 hdr data

end Sys2Proof.Machine
end

section
/-! PROOFS. Regions: registration, revocation, purge and the access check (R386 to R404). -/

namespace Sys2Proof.Machine

variable {s u v : State} {t : Take} {w i j : Nat}

/-! ## What stays of the key table -/

/-- The key table and the revocations stay. -/
structure KeysSame (s u : State) : Prop where
  tab : u.eng.keys.tab = s.eng.keys.tab
  revs : u.eng.keys.revs = s.eng.keys.revs

theorem KeysSame.refl (s : State) : KeysSame s s := ⟨rfl, rfl⟩

theorem KeysSame.trans (h : KeysSame s u) (k : KeysSame u v) : KeysSame s v :=
  ⟨k.tab.trans h.tab, k.revs.trans h.revs⟩

theorem KeysSame.of_eng (h : u.eng = s.eng) : KeysSame s u := ⟨by rw [h], by rw [h]⟩

theorem KeysSame.ite {c : Prop} {_ : Decidable c} (h : KeysSame s u) (k : KeysSame s v) : KeysSame s (if c then u else v) := by
  split
  · exact h
  · exact k

theorem KeysSame.keyWord (h : KeysSame s u) (i w : Nat) : keyWord u i w = keyWord s i w := by
  rw [Machine.keyWord, Machine.keyWord, h.tab]

theorem KeysSame.keyGen (h : KeysSame s u) (i : Nat) : keyGen u i = keyGen s i := by
  rw [Machine.keyGen, Machine.keyGen, h.keyWord]

theorem OnlyLog.eng (h : OnlyLog s u) : u.eng = s.eng := by
  obtain ⟨_, _, _, _, _, _, rfl⟩ := h
  rfl

theorem OnlyLive.eng (h : OnlyLive s u) : u.eng = s.eng := by
  obtain ⟨_, rfl⟩ := h
  rfl

theorem keysSame_setLivN (a x : Nat) (s : State) : KeysSame s (s.setLivN a x) := ⟨rfl, rfl⟩

/-- A change of the keys' record that leaves the table and the revocations. -/
theorem keysSame_onKeys (s : State) {f : Keys → Keys} (ht : ∀ k, (f k).tab = k.tab) (hr : ∀ k, (f k).revs = k.revs) :
    KeysSame s (s.onKeys f) := ⟨ht _, hr _⟩

theorem keysSame_countFree (d : Int) (s : State) : KeysSame s (countFree d s) := keysSame_setLivN _ _ s

theorem keysSame_noteFreed (i : Nat) (s : State) : KeysSame s (noteFreed i s) :=
  keysSame_onKeys s (fun _ => rfl) (fun _ => rfl)

theorem keysSame_countRegion (o : Owner) (d : Int) (s : State) : KeysSame s (countRegion o d s) := by
  unfold countRegion
  extract_lets k
  have hk : KeysSame s k := by
    simp only [k]
    split
    · exact .ite (keysSame_setLivN _ _ s) (.refl s)
    · exact .refl s
  exact .ite (hk.trans (keysSame_onKeys k (fun _ => rfl) (fun _ => rfl))) hk

theorem keysSame_recount (i old new : Nat) (s : State) : KeysSame s (recount i old new s) := by
  unfold recount
  extract_lets k1 k2
  have h1 : KeysSame s k1 := .ite (keysSame_countRegion _ _ s) (.refl s)
  have h2 : KeysSame s k2 := h1.trans (.ite (keysSame_countRegion _ _ k1) (.refl k1))
  refine h2.trans (.ite ((keysSame_countFree 1 k2).trans (keysSame_noteFreed i _)) (.ite ?_ (.refl k2)))
  exact (keysSame_countFree (-1) k2).trans (keysSame_onKeys _ (fun _ => rfl) (fun _ => rfl))

theorem keysSame_setWays (i : Nat) (l : List Nat) (s : State) : KeysSame s (setWays i l s) :=
  keysSame_onKeys s (fun _ => rfl) (fun _ => rfl)

theorem keysSame_takeWay {k : State} (h : takeWay i s = some k) : KeysSame s k := by
  unfold takeWay at h
  extract_lets l at h
  split at h
  · exact Option.some.inj h ▸ keysSame_setWays i _ s
  · split at h
    · exact Option.some.inj h ▸ keysSame_setWays i _ s
    · obtain ⟨x, -, hx⟩ := Option.map_eq_some_iff.1 h
      exact hx ▸ keysSame_setWays i _ s

theorem driftMove_eng (q : Bool) (k : Nat) (s : State) : (driftMove q k s).eng = s.eng :=
  (onlyLive_perf 73 8 none k {} _).eng

theorem keysSame_writeWay (i : Nat) (s : State) : KeysSame s (writeWay i s) := by
  have hd : KeysSame s (driftMove false 32 s) := .of_eng (driftMove_eng false 32 s)
  unfold writeWay
  extract_lets k
  cases h : takeWay i k with
  | none => exact hd
  | some x => exact hd.trans (keysSame_takeWay h)

theorem logTable_eng (origin serial pc t i w : Nat) (old new : DWord) (s : State) :
    (logTable origin serial pc t i w old new s).eng = s.eng := (onlyLog_log s _).eng

/-! ## Words of the key table -/

theorem keyWord_setKeyWord_self (hr : Tab.rises s.eng.keys.tab = true) (i w : Nat) (x : DWord) :
    keyWord (setKeyWord i w x s) i w = x := Tab.get_set_self _ _ hr

theorem keyWord_setKeyWord_ne (hr : Tab.rises s.eng.keys.tab = true) {k : Nat} (h : k ≠ w) (i : Nat) (x : DWord) :
    keyWord (setKeyWord i w x s) i k = keyWord s i k := by
  show (Tab.find (Tab.set _ _ _ _) _).getD _ = (Tab.find _ _).getD _
  rw [Tab.find_set_ne _ (by omega) hr]

theorem rises_setKeyWord (hr : Tab.rises s.eng.keys.tab = true) (i w : Nat) (x : DWord) :
    Tab.rises (setKeyWord i w x s).eng.keys.tab = true := by
  show Tab.rises (Tab.set _ _ _ _) = true
  unfold Tab.set
  split
  · exact Tab.rises_del _ hr
  · exact Tab.rises_put _ _ hr

/-- A word of the entry written and logged. -/
def wordWritten (origin serial pc i : Nat) (s : State) (e : DWord × Nat) : State :=
  logTable origin serial pc 0 i e.2 (keyWord s i e.2) e.1 (setKeyWord i e.2 e.1 s)

theorem wordWritten_spec (hr : Tab.rises s.eng.keys.tab = true) (origin serial pc i : Nat) (e : DWord × Nat) :
    Tab.rises (wordWritten origin serial pc i s e).eng.keys.tab = true ∧
    ∀ k, keyWord (wordWritten origin serial pc i s e) i k = if k = e.2 then e.1 else keyWord s i k := by
  have hsame : KeysSame (setKeyWord i e.2 e.1 s) (wordWritten origin serial pc i s e) := .of_eng (logTable_eng ..)
  refine ⟨hsame.tab ▸ rises_setKeyWord hr i e.2 e.1, fun k => ?_⟩
  rw [hsame.keyWord]
  split
  · next h =>
    subst h
    exact keyWord_setKeyWord_self hr i _ e.1
  · next h => exact keyWord_setKeyWord_ne hr h i e.1

/-- The four words of an entry written one after another by `wr`. -/
def fourWritten (wr : State → DWord × Nat → State) (x0 x1 x2 x3 : DWord) (s : State) : State :=
  wr (wr (wr (wr s (x0, 0)) (x1, 1)) (x2, 2)) (x3, 3)

theorem foldl_zipIdx_four (wr : State → DWord × Nat → State) (x0 x1 x2 x3 : DWord) (s : State) :
    [x0, x1, x2, x3].zipIdx.foldl wr s = fourWritten wr x0 x1 x2 x3 s := rfl

/-- What every write of a word keeps, the four keep. -/
theorem fourWritten_keeps {wr : State → DWord × Nat → State} {R : State → Prop} (h : ∀ z e, R z → R (wr z e))
    (x0 x1 x2 x3 : DWord) (hs : R s) : R (fourWritten wr x0 x1 x2 x3 s) :=
  h _ _ (h _ _ (h _ _ (h _ _ hs)))

/-- Where each write changes its own word, the words read as written. -/
theorem fourWritten_reads {wr : State → DWord × Nat → State} {R : State → Prop} {f : State → Nat → DWord}
    (h : ∀ z e, R z → R (wr z e) ∧ ∀ k, f (wr z e) k = if k = e.2 then e.1 else f z k)
    (x0 x1 x2 x3 : DWord) (hs : R s) :
    f (fourWritten wr x0 x1 x2 x3 s) 0 = x0 ∧ f (fourWritten wr x0 x1 x2 x3 s) 2 = x2 := by
  obtain ⟨hr0, h0⟩ := h s (x0, 0) hs
  obtain ⟨hr1, h1⟩ := h _ (x1, 1) hr0
  obtain ⟨hr2, h2⟩ := h _ (x2, 2) hr1
  obtain ⟨-, h3⟩ := h _ (x3, 3) hr2
  constructor
  · exact (h3 0).trans ((if_neg (show ¬(0 = 3) by decide)).trans ((h2 0).trans ((if_neg (show ¬(0 = 2) by decide)).trans
      ((h1 0).trans ((if_neg (show ¬(0 = 1) by decide)).trans ((h0 0).trans (if_pos rfl)))))))
  · exact (h3 2).trans ((if_neg (show ¬(2 = 3) by decide)).trans ((h2 2).trans (if_pos rfl)))

theorem fourWritten_spec (hr : Tab.rises s.eng.keys.tab = true) (origin serial pc i : Nat) (x0 x1 x2 x3 : DWord) :
    keyWord (fourWritten (wordWritten origin serial pc i) x0 x1 x2 x3 s) i 0 = x0 ∧
    keyWord (fourWritten (wordWritten origin serial pc i) x0 x1 x2 x3 s) i 2 = x2 :=
  fourWritten_reads (R := fun z => Tab.rises z.eng.keys.tab = true) (f := fun z k => keyWord z i k)
    (fun _ e hz => wordWritten_spec hz origin serial pc i e) x0 x1 x2 x3 hr

/-! ## Registration (R386, R387) -/

/-- The words of the entry that is staged. -/
def stagedWord2 (s : State) (i : Nat) : Nat :=
  nextGen (keyGen s i) + 2 ^ 12 + bits (s.liv Reg.GLB_RGN_ATTR).toNat 0 6 * 2 ^ 14 +
    bits (s.liv Reg.GLB_RGN_ATTR).toNat 6 1 * 2 ^ 20 + bits (s.liv Reg.GLB_RGN_ATTR).toNat 7 12 * 2 ^ 21

/-- The staged entry written. -/
def stagedWritten (origin serial pc i : Nat) (s : State) : State :=
  fourWritten (wordWritten origin serial pc i) (BitVec.ofNat 64 (s.liv64 Reg.GLB_RGN_BASE_LO))
    (BitVec.ofNat 64 ((s.liv Reg.GLB_RGN_LEN_LO).toNat + bits (s.liv Reg.GLB_RGN_LEN_HI).toNat 0 16 * 2 ^ 32))
    (BitVec.ofNat 64 (stagedWord2 s i)) (BitVec.ofNat 64 ((s.liv Reg.GLB_RGN_ACL).toNat % 2 ^ 29)) s

/-- The counts and the cache after it. -/
def stagedCounted (origin serial pc i : Nat) (s : State) : State :=
  writeWay i (recount i (keyWord s i 2).toNat (keyWord (stagedWritten origin serial pc i s) i 2).toNat
    (stagedWritten origin serial pc i s))

/-- The key shown. -/
def keyShown (i : Nat) (s : State) : State :=
  (s.setLivN Reg.GLB_RGN_RES (i + keyGen s i * 2 ^ 20)).setLivN Reg.GLB_RGN_STAT 0

theorem register_of_refused (origin serial pc : Nat) (h : regTest s origin ≠ 0) : register origin serial pc s =
    (s.setLivN Reg.GLB_RGN_RES 0).setLivN Reg.GLB_RGN_STAT (regTest s origin) := by
  rw [register_eq, registerAs, if_neg h]

theorem regWords_eq (s : State) (i : Nat) : regWords s i = [BitVec.ofNat 64 (s.liv64 Reg.GLB_RGN_BASE_LO),
    BitVec.ofNat 64 ((s.liv Reg.GLB_RGN_LEN_LO).toNat + bits (s.liv Reg.GLB_RGN_LEN_HI).toNat 0 16 * 2 ^ 32),
    BitVec.ofNat 64 (stagedWord2 s i), BitVec.ofNat 64 ((s.liv Reg.GLB_RGN_ACL).toNat % 2 ^ 29)] := rfl

theorem foldl_regWords (origin serial pc i : Nat) (s : State) :
    (regWords s i).zipIdx.foldl (wordWritten origin serial pc i) s = stagedWritten origin serial pc i s := by
  rw [regWords_eq, foldl_zipIdx_four, stagedWritten]

theorem registerAs_of_free (origin serial pc : Nat) (i : Nat) (s : State) :
    registerAs 0 (some i) origin serial pc s = keyShown i (stagedCounted origin serial pc i s) := by
  unfold stagedCounted registerAs keyShown
  rw [← foldl_regWords, if_pos rfl]
  unfold wordWritten
  dsimp only

theorem register_of_free (origin serial pc : Nat) (h : regTest s origin = 0) (hf : freeEntry s = some i) :
    register origin serial pc s = keyShown i (stagedCounted origin serial pc i s) := by
  rw [register_eq, h, hf, registerAs_of_free]

theorem keysSame_stagedCounted (origin serial pc i : Nat) (s : State) :
    KeysSame (stagedWritten origin serial pc i s) (stagedCounted origin serial pc i s) :=
  (keysSame_recount _ _ _ _).trans (keysSame_writeWay _ _)

theorem keysSame_keyShown (i : Nat) (s : State) : KeysSame s (keyShown i s) :=
  (keysSame_setLivN _ _ s).trans (keysSame_setLivN _ _ _)

theorem bits_toNat_ofNat64 {lo k : Nat} (x : Nat) (h : lo + k ≤ 64) : bits (BitVec.ofNat 64 x).toNat lo k = bits x lo k := by
  rw [BitVec.toNat_ofNat]
  refine bits_eq_of_testBit fun j _ hj => ?_
  rw [Nat.testBit_mod_two_pow, decide_eq_true (by omega), Bool.true_and]

theorem nextGen_lt (g : Nat) : nextGen g < 4096 := by
  unfold nextGen
  split <;> omega

theorem bits_stagedWord2 (s : State) (i : Nat) : bits (stagedWord2 s i) 0 12 = nextGen (keyGen s i) ∧
    bits (stagedWord2 s i) 12 2 = 1 := by
  have hlt := nextGen_lt (keyGen s i)
  have hrights : bits (s.liv Reg.GLB_RGN_ATTR).toNat 0 6 < 64 := Nat.mod_lt _ (by decide)
  have h6 : bits (s.liv Reg.GLB_RGN_ATTR).toNat 6 1 < 2 := Nat.mod_lt _ (by decide)
  unfold stagedWord2
  generalize nextGen (keyGen s i) = g at *
  generalize bits (s.liv Reg.GLB_RGN_ATTR).toNat 0 6 = a at *
  generalize bits (s.liv Reg.GLB_RGN_ATTR).toNat 6 1 = b at *
  generalize bits (s.liv Reg.GLB_RGN_ATTR).toNat 7 12 = c
  unfold bits
  constructor <;> omega

theorem stagedWritten_spec (hr : Tab.rises s.eng.keys.tab = true) (origin serial pc i : Nat) :
    keyWord (stagedWritten origin serial pc i s) i 0 = BitVec.ofNat 64 (s.liv64 Reg.GLB_RGN_BASE_LO) ∧
    keyGen (stagedWritten origin serial pc i s) i = nextGen (keyGen s i) ∧
    stateIn (keyWord (stagedWritten origin serial pc i s) i 2).toNat = 1 := by
  obtain ⟨h0, h2⟩ := fourWritten_spec hr origin serial pc i (BitVec.ofNat 64 (s.liv64 Reg.GLB_RGN_BASE_LO))
    (BitVec.ofNat 64 ((s.liv Reg.GLB_RGN_LEN_LO).toNat + bits (s.liv Reg.GLB_RGN_LEN_HI).toNat 0 16 * 2 ^ 32))
    (BitVec.ofNat 64 (stagedWord2 s i)) (BitVec.ofNat 64 ((s.liv Reg.GLB_RGN_ACL).toNat % 2 ^ 29))
  obtain ⟨hgen, hstate⟩ := bits_stagedWord2 s i
  have hword : keyWord (stagedWritten origin serial pc i s) i 2 = BitVec.ofNat 64 (stagedWord2 s i) := h2
  refine ⟨h0, ?_, ?_⟩
  · rw [keyGen, hword, bits_toNat_ofNat64 _ (by decide), hgen]
  · rw [stateIn, hword, bits_toNat_ofNat64 _ (by decide), hstate]

theorem stagedCounted_canon (hs : s.regs.canon = true) (origin serial pc i : Nat) :
    (stagedCounted origin serial pc i s).regs.canon = true := by
  have hwords : Kept (· = .regs) s.pending (stagedWritten origin serial pc i s) :=
    fourWritten_keeps (fun _ _ hz => kept_logTable (kept_setKeyWord hz)) _ _ _ _ (kept_of_regs hs)
  exact (kept_writeWay (kept_recount hwords)).regs rfl

theorem keyShown_words (hs : s.regs.canon = true) (i : Nat) : (keyShown i s).liv Reg.GLB_RGN_STAT = 0 ∧
    ((keyShown i s).liv Reg.GLB_RGN_RES).toNat = (i + keyGen s i * 2 ^ 20) % 2 ^ 32 := by
  have h1 : (s.setLivN Reg.GLB_RGN_RES (i + keyGen s i * 2 ^ 20)).regs.canon = true := State.canon_setLiv _ _ hs
  refine ⟨State.liv_setLiv_self _ _ h1, ?_⟩
  rw [keyShown, State.setLivN, State.liv_setLiv_ne _ (by decide) h1, State.setLivN, State.liv_setLiv_self _ _ hs,
    BitVec.toNat_ofNat]

/-- An accepted registration (R386, R387). -/
theorem register_spec (origin serial pc : Nat) (h : regTest s origin = 0) (hf : freeEntry s = some i)
    (hr : Tab.rises s.eng.keys.tab = true) :
    keyWord (register origin serial pc s) i 0 = BitVec.ofNat 64 (s.liv64 Reg.GLB_RGN_BASE_LO) ∧
    keyGen (register origin serial pc s) i = nextGen (keyGen s i) ∧
    stateIn (keyWord (register origin serial pc s) i 2).toNat = 1 ∧
    (s.regs.canon = true → (register origin serial pc s).liv Reg.GLB_RGN_STAT = 0 ∧
      ((register origin serial pc s).liv Reg.GLB_RGN_RES).toNat =
        (i + keyGen (register origin serial pc s) i * 2 ^ 20) % 2 ^ 32) := by
  have hsame := (keysSame_stagedCounted origin serial pc i s).trans (keysSame_keyShown i _)
  obtain ⟨h0, hgen, hstate⟩ := stagedWritten_spec hr origin serial pc i
  rw [register_of_free origin serial pc h hf]
  refine ⟨(hsame.keyWord i 0).trans h0, (hsame.keyGen i).trans hgen, ?_, fun hs => ?_⟩
  · rw [hsame.keyWord]
    exact hstate
  · rw [(keysSame_keyShown i _).keyGen]
    exact keyShown_words (stagedCounted_canon hs origin serial pc i) i

/-! ## Revocation (R401, R402) -/

theorem setGenState_spec (hr : Tab.rises s.eng.keys.tab = true) (i : Nat) {gen st : Nat} (hg : gen < 4096) (hst : st < 3) :
    keyGen (setGenState i gen st s) i = gen ∧ stateIn (keyWord (setGenState i gen st s) i 2).toNat = st ∧
    (setGenState i gen st s).eng.keys.revs = s.eng.keys.revs := by
  have hsame : KeysSame (setKeyWord i 2 (BitVec.ofNat 64 (setBits (setBits (keyWord s i 2).toNat 0 12 gen) 12 2 st)) s)
      (setGenState i gen st s) := (keysSame_recount _ _ _ _).trans (keysSame_writeWay _ _)
  have hword := (hsame.keyWord i 2).trans (keyWord_setKeyWord_self hr i 2 _)
  have hgen : bits (setBits (setBits (keyWord s i 2).toNat 0 12 gen) 12 2 st) 0 12 = gen := by
    rw [bits_setBits_apart (f := ⟨12, 2⟩) (g := ⟨0, 12⟩) _ _ (by decide), bits_setBits_self, Nat.mod_eq_of_lt (by omega)]
  refine ⟨?_, ?_, hsame.revs.trans rfl⟩
  · rw [keyGen, hword, bits_toNat_ofNat64 _ (by decide), hgen]
  · rw [stateIn, hword, bits_toNat_ofNat64 _ (by decide), bits_setBits_self]
    omega

theorem revFinish_of_none {op : Nat} (h : (setGenState i (nextGen (keyGen s i)) (if op = 1 then 0 else 1) s).eng.keys.revs = []) :
    revFinish i op s = setGenState i (nextGen (keyGen s i)) (if op = 1 then 0 else 1) s := by
  unfold revFinish
  dsimp only
  rw [h, List.find?_nil]

theorem nextGen_eq {g : Nat} (h : g < 4096) : nextGen g = if g = 4095 then 1 else g + 1 := by
  unfold nextGen
  split <;> split <;> omega

theorem revFinish_spec (hr : Tab.rises s.eng.keys.tab = true) (hrevs : s.eng.keys.revs = []) (hg : keyGen s i < 4096) (op : Nat) :
    keyGen (revFinish i op s) i = (if keyGen s i = 4095 then 1 else keyGen s i + 1) ∧
    stateIn (keyWord (revFinish i op s) i 2).toNat = (if op = 1 then 0 else 1) := by
  obtain ⟨hgen, hstate, hr'⟩ := setGenState_spec hr i (nextGen_lt (keyGen s i)) (st := if op = 1 then 0 else 1)
    (by split <;> decide)
  rw [revFinish_of_none (hr'.trans hrevs)]
  exact ⟨hgen.trans (nextGen_eq hg), hstate⟩

/-- The command register of a revocation stored. -/
def revTold (v : Word) (z : State) : State := storeCmd Reg.GLB_KEYREV v [Fld.GLB_KEYREV_OP] z

theorem keyrev_refused {t : Take} {v : Word} {op : Nat} (h : AtLive (keyrevOp op) s t w Reg.GLB_KEYREV v)
    (hr : revRefused s t.origin v.toNat = true) :
    liveStep (keyrevOp op) s = .next (endTake .refused (revTold v (logLive t Reg.GLB_KEYREV v s))) :=
  liveStep_of_command h (act := revTold v) (fin := .stop .refused) (if_pos hr)

/-- What an accepted revocation begins. -/
def revBegin (t : Take) (v : Word) (z : State) : State := revStart t.origin t.serial t.pc v.toNat (revTold v z)

theorem keyrev_accepted {t : Take} {v : Word} {op : Nat} (h : AtLive (keyrevOp op) s t w Reg.GLB_KEYREV v)
    (hr : revRefused s t.origin v.toNat = false) : liveStep (keyrevOp op) s = .next (revBegin t v
      (startLong (.keyrev (bits v.toNat 0 20)) true ((logLive t Reg.GLB_KEYREV v s).setTake
        (some (t.mark (logLive t Reg.GLB_KEYREV v s).now))))) :=
  liveStep_of_command h (act := revBegin t v) (fin := .long (.keyrev (bits v.toNat 0 20)))
    (if_neg (by rw [hr]; decide))

theorem execKeyrevComplete_of_done {i : Fin 1048576} {r : Rev} (h : s.eng.keys.revs.find? (fun r => r.idx == i.val) = some r)
    (hd : heldCount s i.val = 0 ∧ stateIn (keyWord s i.val 2).toNat = 2) :
    execKeyrevComplete i s = .next (settle (revFinish i.val r.op s)) := by
  simp only [execKeyrevComplete, h, if_pos hd]

theorem execKeyrevComplete_of_not {i : Fin 1048576}
    (h : s.eng.keys.revs.find? (fun r => r.idx == i.val) = none ∨ heldCount s i.val ≠ 0) :
    execKeyrevComplete i s = .next (settle s) := by
  unfold execKeyrevComplete
  cases hf : s.eng.keys.revs.find? (fun r => r.idx == i.val) with
  | none => rfl
  | some r =>
    have hne := h.resolve_left (by rw [hf]; exact nofun)
    exact settled (if_neg fun hd => hne hd.1)

/-! ## Purges and cache fills (R403, R404, R392) -/

/-- The jobs that wait for an entry, served in order once a way has taken it. -/
theorem execKeyCacheFill_of_way {i : Fin 1048576} {bad : Bool} {k : State}
    (hj : s.eng.keys.wait.filter (fun w => w.1 == i.val) ≠ [])
    (hk : takeWay i.val (if bad then keyBadNow i.val s else s) = some k) : execKeyCacheFill i bad s =
      .next (settle ((s.eng.keys.wait.filter (fun w => w.1 == i.val)).foldl (fun s j => serveKeyJob j.2 s)
        (k.onKeys (fun k => { k with wait := k.wait.filter (fun w => w.1 != i.val) })))) := by
  simp only [execKeyCacheFill, if_neg hj, hk]

theorem execKeyCacheFill_of_none {i : Fin 1048576} (bad : Bool) (hj : s.eng.keys.wait.filter (fun w => w.1 == i.val) = []) :
    execKeyCacheFill i bad s = .next (settle s) := settled (if_pos hj)

/-! ## The access check (R395, R396) -/

theorem ite_code_eq_zero {c : Prop} {_ : Decidable c} {k x : Nat} (hk : k ≠ 0) : (if c then k else x) = 0 ↔ ¬c ∧ x = 0 := by
  split
  · next h => exact ⟨fun h0 => absurd h0 hk, fun h1 => absurd h h1.1⟩
  · next h => exact ⟨fun h0 => ⟨h, h0⟩, fun h1 => h1.2⟩

theorem ite_code_le {c : Prop} {_ : Decidable c} {k x m : Nat} (hk : k ≤ m) (hx : x ≤ m) : (if c then k else x) ≤ m := by
  split
  · exact hk
  · exact hx

/-- An access is admitted only when every test passes. -/
theorem accessCheck_eq_zero (s : State) (key off len : Nat) (a : Access) : accessCheck s key off len a = 0 ↔
    keyState s (key % 2 ^ 20) ≠ 0 ∧ keyState s (key % 2 ^ 20) ≠ 2 ∧ key / 2 ^ 20 = keyGen s (key % 2 ^ 20) ∧
    ownerTest s (key % 2 ^ 20) a = true ∧ a.high = false ∧ off + len ≤ keyLen s (key % 2 ^ 20) ∧ off + len < 2 ^ 64 ∧
    Nat.land (keyRights s (key % 2 ^ 20)) a.need = a.need ∧
    (a.atomic = true → (keyBase s (key % 2 ^ 20) + off) % 8 = 0 ∧ len = 8) := by
  rw [accessCheck, ite_code_eq_zero (by decide), ite_code_eq_zero (by decide), ite_code_eq_zero (by decide),
    ite_code_eq_zero (by decide), ite_code_eq_zero (by decide), ite_code_eq_zero (by decide), ite_code_eq_zero (by decide)]
  simp only [not_or, not_and, not_lt, not_le, Bool.not_eq_true, Bool.not_eq_false', ne_eq, not_not, and_true]
  constructor
  · rintro ⟨h1, h2, h3, h4, ⟨h5, h6, h7⟩, h8, h9⟩
    exact ⟨h1, h3, h2, h4, h5, h6, h7, h8, h9⟩
  · rintro ⟨h1, h3, h2, h4, h5, h6, h7, h8, h9⟩
    exact ⟨h1, h2, h3, h4, ⟨h5, h6, h7⟩, h8, h9⟩

theorem accessCheck_le (s : State) (key off len : Nat) (a : Access) : accessCheck s key off len a ≤ 7 :=
  ite_code_le (by decide) (ite_code_le (by decide) (ite_code_le (by decide) (ite_code_le (by decide)
    (ite_code_le (by decide) (ite_code_le (by decide) (ite_code_le (by decide) (by decide)))))))

theorem accessCheck_codes (s : State) (key off len : Nat) (a : Access) :
    (keyState s (key % 2 ^ 20) = 0 → accessCheck s key off len a = 1) ∧
    (keyState s (key % 2 ^ 20) ≠ 0 → key / 2 ^ 20 ≠ keyGen s (key % 2 ^ 20) → accessCheck s key off len a = 2) ∧
    (keyState s (key % 2 ^ 20) = 2 → key / 2 ^ 20 = keyGen s (key % 2 ^ 20) → accessCheck s key off len a = 3) :=
  ⟨fun h => if_pos h, fun h hg => (if_neg h).trans (if_pos hg), fun h hg =>
    (if_neg (by rw [h]; decide)).trans ((if_neg (not_not.2 hg)).trans (if_pos h))⟩

/-- Settles O52: registration, revocation, purge and cache fill by their equations, then the access check. -/
theorem regionCommands : Obligations.RegionCommands := by
  unfold Obligations.RegionCommands
  refine ⟨⟨fun s t w v h => liveStep_done h rfl, fun s origin serial pc => ⟨register_of_refused origin serial pc,
      fun i h hf hr => register_spec origin serial pc h hf hr⟩, fun s t w v op c hop h => ?_,
    fun s i => ⟨fun r h h0 h2 => execKeyrevComplete_of_done h ⟨h0, h2⟩, execKeyrevComplete_of_not⟩,
    fun s i op hr hrevs hg => revFinish_spec hr hrevs hg op,
    fun s p => ⟨fun h1 h2 => next_eq (if_pos (by rw [h1]; exact h2)), fun h => next_eq (if_neg ?_)⟩,
    fun s i bad => ⟨fun k hj hk => execKeyCacheFill_of_way hj hk, execKeyCacheFill_of_none bad⟩⟩,
    fun s key off len a => ?_⟩
  · rcases hop with ⟨rfl, rfl⟩ | ⟨rfl, rfl⟩
    · exact ⟨fun hr => keyrev_refused h hr, fun hr => keyrev_accepted h hr⟩
    · exact ⟨fun hr => keyrev_refused h hr, fun hr => keyrev_accepted h hr⟩
  · rw [Bool.and_eq_true]
    rintro ⟨h1, h2⟩
    rcases h with h | h
    · exact absurd h1 (by rw [h]; decide)
    · exact absurd h2 (by rw [h]; decide)
  · obtain ⟨h1, h2, h3⟩ := accessCheck_codes s key off len a
    exact ⟨h1, h2, h3, accessCheck_eq_zero s key off len a, accessCheck_le s key off len a⟩

end Sys2Proof.Machine
end

section
/-! PROOFS. Fabric packets, acknowledgements, NAKs, credits and replay (R226, R230 to R241). -/

namespace Sys2Proof.Machine

variable {s u : State} {n f a : Nat} {h : ShortHdr} {pkt : Packet}

/-! ## The record of a link -/

theorem lnk_setLnk (hr : Tab.rises s.dp.links = true) (n f : Nat) (x : Link) : (s.setLnk n f x).lnk n f = x :=
  Tab.get_set_self _ x hr

theorem lnk_setLnk_ne (hr : Tab.rises s.dp.links = true) {m g : Nat} (hne : 2 * m + g ≠ 2 * n + f) (x : Link) :
    (s.setLnk n f x).lnk m g = s.lnk m g := congrArg (fun x : Option Link => x.getD {}) (Tab.find_set_ne x hne hr)

theorem lnk_onLnk (hr : Tab.rises s.dp.links = true) (n f : Nat) (g : Link → Link) : (s.onLnk n f g).lnk n f = g (s.lnk n f) :=
  lnk_setLnk hr n f _

theorem links_setLnk (hr : Tab.rises s.dp.links = true) (n f : Nat) (x : Link) : Tab.rises (s.setLnk n f x).dp.links = true := by
  show Tab.rises (Tab.set {} s.dp.links (2 * n + f) x) = true
  unfold Tab.set
  split
  · exact Tab.rises_del _ hr
  · exact Tab.rises_put _ x hr

theorem lnk_setLivN (s : State) (a x n f : Nat) : (s.setLivN a x).lnk n f = s.lnk n f := rfl

theorem lnk_syncFl (s : State) (n f m g : Nat) : (syncFl n f s).lnk m g = s.lnk m g := by
  rw [syncFl, lnk_setLivN, lnk_setLivN]

theorem setLivN_frame (s : State) (a x : Nat) : (s.setLivN a x).regs.active = s.regs.active ∧ (s.setLivN a x).out = s.out := ⟨rfl, rfl⟩

theorem syncFl_frame (s : State) (n f : Nat) : (syncFl n f s).regs.active = s.regs.active ∧ (syncFl n f s).out = s.out := by
  rw [syncFl, (setLivN_frame _ _ _).1, (setLivN_frame _ _ _).2]
  exact setLivN_frame s _ _

/-! ## What a port reads in CHECK (R226) -/

theorem find_set_of_some {α : Type} [DecidableEq α] {d v : α} {t : Tab α} {i k : Nat} (hv : Tab.find t i = some v) (hne : i ≠ k) (w : α) :
    Tab.find (Tab.set d t k w) i = some v := by
  unfold Tab.set
  split
  · induction t with
    | nil => cases hv
    | cons e t ih =>
      obtain ⟨j, x⟩ := e
      rw [Tab.find] at hv
      rw [Tab.del]
      by_cases hj : j = i
      · rw [if_neg (fun h => hne (hj.symm.trans h)), Tab.find, if_pos hj]
        rwa [if_pos hj] at hv
      · rw [if_neg hj] at hv
        by_cases hlt : i < j
        · rw [if_pos hlt] at hv
          cases hv
        · rw [if_neg hlt] at hv
          by_cases hk : j = k
          · rwa [if_pos hk]
          · rw [if_neg hk, Tab.find, if_neg hj, if_neg hlt]
            exact ih hv
  · rw [Tab.find_put_ne t w hne]
    exact hv

/-- FL_STAT resets to DOWN. -/
theorem resetVal_flStat : ∀ (n : Fin 24) (f : Fin 2), fget (resetVal (Reg.FL_STAT n.val f.val)) Fld.FL_STAT_STATE = 0 := by
  decide +kernel

/-- A count leaves the state of a port in CHECK, whatever the live table holds. -/
theorem flState_bump_of_check {n : Fin 24} {f : Fin 2} (h2 : s.flState n.val f.val = 2) (hne : Reg.FL_STAT n.val f.val ≠ a) :
    (s.bump a).flState n.val f.val = 2 := by
  cases hfind : Tab.find s.regs.live (Reg.FL_STAT n.val f.val) with
  | none =>
    have hreset : s.flState n.val f.val = 0 := by
      rw [State.flState, State.livF, State.liv, hfind]
      exact resetVal_flStat n f
    rw [hreset] at h2
    cases h2
  | some v =>
    have hliv : (s.bump a).liv (Reg.FL_STAT n.val f.val) = s.liv (Reg.FL_STAT n.val f.val) := by
      rw [State.liv, State.liv, hfind, State.bump, State.setLivN, State.setLiv, find_set_of_some hfind hne]
    rw [State.flState, State.livF, hliv]
    exact h2

theorem flState_bump (hs : s.regs.canon = true) (hne : Reg.FL_STAT n f ≠ a) : (s.bump a).flState n f = s.flState n f :=
  (keepsWord_bump s 1 hne).livF hs _

theorem flStat_ne_flUncorr (n f : Nat) : Reg.FL_STAT n f ≠ Reg.FL_UNCORR n f := by
  unfold Reg.FL_STAT Reg.FL_UNCORR
  omega

/-! ## Packets that a port reads (R226, R238, R239) -/

/-- The acknowledgement that a packet carries, taken. -/
def ackTaken (n f : Nat) (pkt : Packet) (s : State) : State := if pkt.ackv then ackTo n f pkt.ack s else s

/-- The units of a packet given back. -/
def unitsFreed (n f : Nat) (pkt : Packet) (s : State) : State := if pkt.vc < 8 then giveBack n (pktOrigin f pkt none) s else s

/-- The packet whose number is NES. -/
def packetInOrder (n f : Nat) (rx : Reception) (pkt : Packet) (k : State) : State :=
  if rx = .stomped then unitsFreed n f pkt (dropFirst n f (nesUp n f (k.bump (Reg.FL_STOMPCNT n f))))
  else if headerError pkt then
    (unitsFreed n f pkt (dropFirst n f (nesUp n f (k.bump (Reg.FL_TYPEERR n f))))).raiseStn n 12 f
  else match rx with
    | .crcBad begun =>
      if begun then stompCopy n f pkt (nakDue n f (k.bump (Reg.FL_CRCERR n f))) else nakDue n f (k.bump (Reg.FL_CRCERR n f))
    | _ => goodPkt n f pkt (nesUp n f k)

/-- A packet of another number. -/
def packetOutOfOrder (n f : Nat) (pkt : Packet) (k : State) : State :=
  if 1 ≤ ((k.lnk n f).nes + 2 ^ 16 - pkt.seq % 2 ^ 16) % 2 ^ 16 ∧ ((k.lnk n f).nes + 2 ^ 16 - pkt.seq % 2 ^ 16) % 2 ^ 16 ≤ 32767 then
    k.bump (Reg.FL_DUPCNT n f)
  else nakDue n f (k.bump (Reg.FL_DUPCNT n f))

/-- A packet read whole, its acknowledgement taken. -/
def packetRead (n f : Nat) (rx : Reception) (pkt : Packet) (k : State) : State :=
  if pkt.seq = (k.lnk n f).nes then packetInOrder n f rx pkt k else packetOutOfOrder n f pkt k

/-- What a port from CHECK on does with a reception. -/
def receptionTaken (n f : Nat) (rx : Reception) (pkt : Packet) (s : State) : State :=
  match rx with
  | .groupBad =>
    if (s.bump (Reg.FL_UNCORR n f)).flState n f < 3 then s.bump (Reg.FL_UNCORR n f)
    else nakDue n f (s.bump (Reg.FL_UNCORR n f))
  | .framingLost =>
    if s.flState n f < 3 ∨ (s.lnk n f).lost then s
    else nakDue n f ((s.bump (Reg.FL_HCRCERR n f)).onLnk n f (fun l => { l with lost := true }))
  | rx => if s.flState n f < 3 ∨ (s.lnk n f).lost then s else packetRead n f rx pkt (ackTaken n f pkt s)

theorem execFabricPacketReceive_eq (n : Fin 24) (f : Fin 2) (rx : Reception) (pkt : Packet) (s : State) :
    execFabricPacketReceive n f rx pkt s = .next (if !fabPort s.act n.val f.val || decide (s.flState n.val f.val < 2) then s
      else receptionTaken n.val f.val rx pkt s) := by
  cases rx <;> rfl

theorem execFabricPacketReceive_of_check {n : Fin 24} {f : Fin 2} (hp : fabPort s.act n.val f.val = true)
    (h2 : 2 ≤ s.flState n.val f.val) (rx : Reception) (pkt : Packet) :
    execFabricPacketReceive n f rx pkt s = .next (receptionTaken n.val f.val rx pkt s) := by
  rw [execFabricPacketReceive_eq, hp, decide_eq_false (Nat.not_lt.2 h2)]
  rfl

theorem execFabricPacketReceive_of_below {n : Fin 24} {f : Fin 2} (h2 : s.flState n.val f.val < 2) (rx : Reception) (pkt : Packet) :
    execFabricPacketReceive n f rx pkt s = .next s := by
  rw [execFabricPacketReceive_eq, decide_eq_true h2, Bool.or_true]
  rfl

theorem receptionTaken_of_idle (h : s.flState n f < 3 ∨ (s.lnk n f).lost = true) {rx : Reception} (hrx : rx ≠ .groupBad) (pkt : Packet) :
    receptionTaken n f rx pkt s = s := by
  cases rx with
  | groupBad => exact absurd rfl hrx
  | framingLost => exact if_pos h
  | good => exact if_pos h
  | stomped => exact if_pos h
  | crcBad b => exact if_pos h

theorem not_idle (h3 : 3 ≤ s.flState n f) (hl : (s.lnk n f).lost = false) : ¬(s.flState n f < 3 ∨ (s.lnk n f).lost = true) := by
  rw [hl]
  rintro (h | h)
  · omega
  · cases h

theorem receptionTaken_of_up (h3 : 3 ≤ s.flState n f) (hl : (s.lnk n f).lost = false) {rx : Reception} (hg : rx ≠ .groupBad)
    (hf : rx ≠ .framingLost) (pkt : Packet) : receptionTaken n f rx pkt s = packetRead n f rx pkt (ackTaken n f pkt s) := by
  cases rx with
  | groupBad => exact absurd rfl hg
  | framingLost => exact absurd rfl hf
  | good => exact if_neg (not_idle h3 hl)
  | stomped => exact if_neg (not_idle h3 hl)
  | crcBad b => exact if_neg (not_idle h3 hl)

theorem packetInOrder_of_headerError (he : headerError pkt = true) {rx : Reception} (hrx : rx = .good ∨ ∃ b, rx = .crcBad b) (k : State) :
    packetInOrder n f rx pkt k = (unitsFreed n f pkt (dropFirst n f (nesUp n f (k.bump (Reg.FL_TYPEERR n f))))).raiseStn n 12 f := by
  have hns : rx ≠ .stomped := by
    rcases hrx with rfl | ⟨b, rfl⟩
    · exact Reception.noConfusion
    · exact Reception.noConfusion
  exact (if_neg hns).trans (if_pos he)

theorem packetInOrder_of_good (he : headerError pkt = false) (k : State) :
    packetInOrder n f .good pkt k = goodPkt n f pkt (nesUp n f k) :=
  (if_neg Reception.noConfusion).trans (if_neg (by rw [he]; decide))

theorem packetInOrder_of_crcBad (he : headerError pkt = false) (b : Bool) (k : State) : packetInOrder n f (.crcBad b) pkt k =
    if b then stompCopy n f pkt (nakDue n f (k.bump (Reg.FL_CRCERR n f))) else nakDue n f (k.bump (Reg.FL_CRCERR n f)) :=
  (if_neg Reception.noConfusion).trans (if_neg (by rw [he]; decide))

/-! ## NES and a NAK that is due (R238) -/

theorem lnk_nesUp (hr : Tab.rises s.dp.links = true) (n f : Nat) :
    (nesUp n f s).lnk n f = { s.lnk n f with nes := ((s.lnk n f).nes + 1) % 2 ^ 16, nak := false } :=
  (lnk_syncFl _ n f n f).trans (lnk_onLnk hr n f _)

/-- The NAK of this NES has been sent, and its time has not passed. -/
def nakStands (n f : Nat) (s : State) : Bool :=
  match (s.lnk n f).nakSent with
  | some (v, t) => v == (s.lnk n f).nes && decide (s.now < t + max 1 (s.actF (Reg.FL_CFG n f) Fld.FL_CFG_RPLTIME) * 100)
  | none => false

theorem nakDue_eq (n f : Nat) (s : State) :
    nakDue n f s = if nakStands n f s then s else s.setLnk n f { s.lnk n f with nak := true } := rfl

theorem nes_nakDue (hr : Tab.rises s.dp.links = true) (n f : Nat) : ((nakDue n f s).lnk n f).nes = (s.lnk n f).nes := by
  rw [nakDue_eq]
  split
  · rfl
  · rw [lnk_setLnk hr]

theorem nak_nakDue (hr : Tab.rises s.dp.links = true) (h : (s.lnk n f).nakSent = none) : ((nakDue n f s).lnk n f).nak = true := by
  have hno : nakStands n f s = false := by
    unfold nakStands
    rw [h]
  rw [nakDue_eq, hno, if_neg (by decide), lnk_setLnk hr]

/-! ## Acknowledgements (R237) -/

/-- A number lies ahead of another one. -/
def seqAhead (x y : Nat) : Bool := decide (1 ≤ (x + 2 ^ 16 - y) % 2 ^ 16) && decide ((x + 2 ^ 16 - y) % 2 ^ 16 ≤ 32767)

/-- What an acknowledgement leaves in the replay buffer. -/
def notAcked (a : Nat) (l : Link) : List Sent := l.replay.filter (fun x => !seqAhead a x.pkt.seq)

theorem ackTo_eq (n f a : Nat) (s : State) : ackTo n f a s =
    if seqAhead a (s.lnk n f).seq then s.raiseStn n 14 f
    else if (notAcked a (s.lnk n f)).length = (s.lnk n f).replay.length then s
    else syncFl n f (s.setLnk n f { s.lnk n f with replay := notAcked a (s.lnk n f), inRow := 0, rplAt := s.now }) := rfl

theorem ackTo_spec (hr : Tab.rises s.dp.links = true) (h : seqAhead a (s.lnk n f).seq = false) :
    ((ackTo n f a s).lnk n f).replay = notAcked a (s.lnk n f) ∧ ((ackTo n f a s).lnk n f).seq = (s.lnk n f).seq ∧
    ((ackTo n f a s).lnk n f).nes = (s.lnk n f).nes ∧ (ackTo n f a s).regs.active = s.regs.active ∧
    (ackTo n f a s).out = s.out ∧ ∀ m g, 2 * m + g ≠ 2 * n + f → (ackTo n f a s).lnk m g = s.lnk m g := by
  rw [ackTo_eq, h, if_neg (by decide)]
  split
  · next hlen =>
    exact ⟨(List.filter_eq_self.2 (List.length_filter_eq_length_iff.1 hlen)).symm, rfl, rfl, rfl, rfl, fun _ _ _ => rfl⟩
  · simp only [lnk_syncFl, lnk_setLnk hr]
    exact ⟨trivial, trivial, trivial, (syncFl_frame _ n f).1, (syncFl_frame _ n f).2, fun m g hne => lnk_setLnk_ne hr hne _⟩

/-! ## Link-level short packets (R230, R231) -/

theorem takeBound_of_bound (hb : h.slot = 0 ∧ h.bound ≠ 0x1FF) (s : State) :
    takeBound n f h s = s.onLnk n f (fun l => { l with lost := false }) := if_pos hb

/-- A NAK, BOUND and BACK taken. -/
def nakTaken (n f nes : Nat) (err : CellErr) (s : State) : State :=
  if carries (ackTo n f nes s) n f && ((ackTo n f nes s).lnk n f).replay.any (fun x => x.pkt.seq == nes) &&
      !((ackTo n f nes s).lnk n f).rplRun.any (fun e => e.1 == nes) then
    replayFrom n f nes err (ackTo n f nes s)
  else ackTo n f nes s

theorem execNakReceive_of_up {n : Fin 24} {f : Fin 2} (hp : fabPort s.act n.val f.val = true) (hup : 1 ≤ s.flState n.val f.val)
    (nes : Nat) (err : CellErr) : execNakReceive n f h nes err s = .next (settle (nakTaken n.val f.val nes err (ackedBy n.val f.val h s))) :=
  settled (shortIn_of_up hp hup false (nakTaken n.val f.val nes err))

/-- A CUM runs ahead of what was sent on one of its four channels. -/
def creditsFar (half c0 c1 c2 c3 : Nat) (sent : Tab Nat) : Bool :=
  [c0, c1, c2, c3].zipIdx.any (fun c => decide (32767 < (c.1 + 2 ^ 16 - Tab.get 0 sent (4 * half + c.2)) % 2 ^ 16))

/-- The four counts of a half renewed. -/
def cumsTaken (half c0 c1 c2 c3 : Nat) (t : Tab (Option Nat)) : Tab (Option Nat) :=
  [c0, c1, c2, c3].zipIdx.foldl (fun t c => Tab.put t (4 * half + c.2) (some (c.1 % 2 ^ 16))) t

theorem nakTaken_of_again {nes : Nat} (hc : carries (ackTo n f nes s) n f = true)
    (hagain : (((ackTo n f nes s).lnk n f).replay.any (fun x => x.pkt.seq == nes) &&
      !((ackTo n f nes s).lnk n f).rplRun.any (fun e => e.1 == nes)) = true) (err : CellErr) :
    nakTaken n f nes err s = replayFrom n f nes err (ackTo n f nes s) := by
  refine if_pos ?_
  rw [Bool.and_assoc, hc, hagain]
  rfl

theorem nakTaken_of_not {nes : Nat} (h : carries (ackTo n f nes s) n f = false ∨
    (((ackTo n f nes s).lnk n f).replay.any (fun x => x.pkt.seq == nes) &&
      !((ackTo n f nes s).lnk n f).rplRun.any (fun e => e.1 == nes)) = false) (err : CellErr) :
    nakTaken n f nes err s = ackTo n f nes s := by
  refine if_neg ?_
  rw [Bool.and_assoc, Bool.not_eq_true, Bool.and_eq_false_iff]
  exact h

/-- A CREDIT, BOUND and BACK taken. -/
def creditTaken (n f half c0 c1 c2 c3 : Nat) (s : State) : State :=
  if creditsFar half c0 c1 c2 c3 (s.lnk n f).sent then s.raiseStn n 14 f
  else resched (4 * n + f) (s.setLnk n f { s.lnk n f with cumRx := cumsTaken half c0 c1 c2 c3 (s.lnk n f).cumRx })

theorem execCreditReceive_of_up {n : Fin 24} {f half : Fin 2} (hp : fabPort s.act n.val f.val = true)
    (hup : 1 ≤ s.flState n.val f.val) (c0 c1 c2 c3 : Nat) :
    execCreditReceive n f h half c0 c1 c2 c3 s = .next (creditTaken n.val f.val half.val c0 c1 c2 c3 (ackedBy n.val f.val h s)) :=
  congrArg Host.Outcome.next (shortIn_of_up hp hup false (creditTaken n.val f.val half.val c0 c1 c2 c3))

theorem creditsFar_iff (half c0 c1 c2 c3 : Nat) (sent : Tab Nat) : creditsFar half c0 c1 c2 c3 sent = true ↔
    32767 < (c0 + 2 ^ 16 - Tab.get 0 sent (4 * half + 0)) % 2 ^ 16 ∨ 32767 < (c1 + 2 ^ 16 - Tab.get 0 sent (4 * half + 1)) % 2 ^ 16 ∨
    32767 < (c2 + 2 ^ 16 - Tab.get 0 sent (4 * half + 2)) % 2 ^ 16 ∨ 32767 < (c3 + 2 ^ 16 - Tab.get 0 sent (4 * half + 3)) % 2 ^ 16 := by
  simp only [creditsFar, List.zipIdx_cons, List.zipIdx_nil, List.any_cons, List.any_nil, Bool.or_false, Bool.or_eq_true,
    decide_eq_true_eq, Nat.zero_add, Nat.reduceAdd]

theorem find_cumsTaken (half c0 c1 c2 c3 : Nat) (t : Tab (Option Nat)) :
    Tab.find (cumsTaken half c0 c1 c2 c3 t) (4 * half) = some (some (c0 % 2 ^ 16)) ∧
    Tab.find (cumsTaken half c0 c1 c2 c3 t) (4 * half + 1) = some (some (c1 % 2 ^ 16)) ∧
    Tab.find (cumsTaken half c0 c1 c2 c3 t) (4 * half + 2) = some (some (c2 % 2 ^ 16)) ∧
    Tab.find (cumsTaken half c0 c1 c2 c3 t) (4 * half + 3) = some (some (c3 % 2 ^ 16)) := by
  have heq : cumsTaken half c0 c1 c2 c3 t = Tab.put (Tab.put (Tab.put (Tab.put t (4 * half) (some (c0 % 2 ^ 16)))
    (4 * half + 1) (some (c1 % 2 ^ 16))) (4 * half + 2) (some (c2 % 2 ^ 16))) (4 * half + 3) (some (c3 % 2 ^ 16)) := rfl
  rw [heq]
  refine ⟨?_, ?_, ?_, Tab.find_put_self _ _ _⟩
  · rw [Tab.find_put_ne _ _ (by omega), Tab.find_put_ne _ _ (by omega), Tab.find_put_ne _ _ (by omega), Tab.find_put_self]
  · rw [Tab.find_put_ne _ _ (by omega), Tab.find_put_ne _ _ (by omega), Tab.find_put_self]
  · rw [Tab.find_put_ne _ _ (by omega), Tab.find_put_self]

theorem lnk_resched (s : State) (x n f : Nat) : (resched x s).lnk n f = s.lnk n f := rfl

theorem links_takeBound (hr : Tab.rises s.dp.links = true) (n f : Nat) (h : ShortHdr) :
    Tab.rises (takeBound n f h s).dp.links = true := by
  unfold takeBound
  split
  · exact links_setLnk hr n f _
  · exact hr

theorem links_backTo (hr : Tab.rises s.dp.links = true) (n f b : Nat) : Tab.rises (backTo n f b s).dp.links = true := by
  unfold backTo
  extract_lets l acked rest
  split
  · exact hr
  · exact links_setLnk hr n f _

/-! ## Reserved positions (R230, R231) -/

/-- The pause that a RETRAIN_ACK in slot 1 begins. -/
def pausedBy (n f : Nat) (x : Option (Nat × Nat × Nat)) (b : ShortBody) (s : State) : State :=
  match x, b with
  | some (op, tw, sel), .retrainAck .. => enterPause n f op tw sel s
  | _, _ => s

theorem pausedBy_of_none {x : Option (Nat × Nat × Nat)} {b : ShortBody} (h : x = none) : pausedBy n f x b s = s := by
  rw [h]
  rfl

theorem pausedBy_of_ack {x : Option (Nat × Nat × Nat)} {b : ShortBody} {op tw sel p q r t : Nat} (h : x = some (op, tw, sel))
    (hb : b = .retrainAck p q r t) : pausedBy n f x b s = enterPause n f op tw sel s := by
  rw [h, hb]
  rfl

/-- The two short packets of a reserved position sent. -/
def reservedSent (n f bound : Nat) (p0 : Short) (p : Short × State) : State := p.2.emit (.reserved n f bound p0 p.1)

/-- Slot 1 after slot 0, and the two packets sent. -/
def slotsSent (n f bound : Nat) (credit0 : Bool) (r : ShortBody × State) : State :=
  pausedBy n f ((slot1 n f credit0 r.2).2.lnk n f).pausing (slot1 n f credit0 r.2).1.body
    (reservedSent n f bound ⟨0, (r.2.lnk n f).bnes, r.1⟩ (slot1 n f credit0 r.2))

theorem execReservedPositionSend_eq (n : Fin 24) (f : Fin 2) (s : State) : execReservedPositionSend n f s =
    .next (if fabPort s.act n.val f.val && decide (2 ≤ s.flState n.val f.val) && decide (s.flState n.val f.val ≤ 4) then
      slotsSent n.val f.val (boundOf ((toReserved n.val f.val s).lnk n.val f.val).stream)
        (((toReserved n.val f.val s).lnk n.val f.val).rot % 2 == 1) (rotation n.val f.val (toReserved n.val f.val s))
      else s) := by
  unfold execReservedPositionSend slotsSent
  dsimp only
  generalize rotation n.val f.val (toReserved n.val f.val s) = r
  obtain ⟨b0, z⟩ := r
  dsimp only
  generalize slot1 n.val f.val (((toReserved n.val f.val s).lnk n.val f.val).rot % 2 == 1) z = p
  obtain ⟨p1, y⟩ := p
  rfl

theorem links_toReserved (hr : Tab.rises s.dp.links = true) (n f : Nat) : Tab.rises (toReserved n f s).dp.links = true :=
  links_setLnk hr n f _

theorem lnk_toReserved (hr : Tab.rises s.dp.links = true) (n f : Nat) : (toReserved n f s).lnk n f =
    { s.lnk n f with
      upn := ((s.lnk n f).upn / 64 + 1) * 64
      stream := pass 2016 (s.lnk n f).stream
      rplRun := (s.lnk n f).rplRun.bind (fun e => if e.2 ≤ 2016 then none else some (e.1, e.2 - 2016)) } :=
  lnk_onLnk hr n f _

/-- The rotation moved on. -/
def rotated (n f : Nat) (s : State) : State := s.setLnk n f { s.lnk n f with rot := ((s.lnk n f).rot + 1) % 4 }

theorem rotation_of_even (he : (s.lnk n f).rot % 2 = 0) : rotation n f s = rotation.ackItem n f (rotated n f s) := if_pos he

theorem rotation_of_odd (ho : (s.lnk n f).rot % 2 = 1) : rotation n f s =
    (.credit ((s.lnk n f).rot / 2) ((List.range 4).map (fun v => Tab.get 0
      ((if (rotated n f s).holdsAt n || (rotated n f s).livB Reg.GLB_CORE_STAT Fld.GLB_CORE_STAT_DOWN then rotated n f s
        else (rotated n f s).onLnk n f (fun l => { l with cumAdv := l.cum })).lnk n f).cumAdv (4 * ((s.lnk n f).rot / 2) + v))),
      if (rotated n f s).holdsAt n || (rotated n f s).livB Reg.GLB_CORE_STAT Fld.GLB_CORE_STAT_DOWN then rotated n f s
      else (rotated n f s).onLnk n f (fun l => { l with cumAdv := l.cum })) :=
  if_neg (by omega)

theorem bnes_ackItem (hr : Tab.rises s.dp.links = true) (n f : Nat) :
    ((rotation.ackItem n f s).2.lnk n f).bnes = (s.lnk n f).bnes := by
  unfold rotation.ackItem
  dsimp only
  split
  · rw [State.bump, lnk_setLivN, lnk_setLnk hr]
  · rfl

theorem lnk_rotated (hr : Tab.rises s.dp.links = true) (n f : Nat) :
    (rotated n f s).lnk n f = { s.lnk n f with rot := ((s.lnk n f).rot + 1) % 4 } := lnk_setLnk hr n f _

theorem rotation_bnes (hr : Tab.rises s.dp.links = true) (n f : Nat) : ((rotation n f s).2.lnk n f).bnes = (s.lnk n f).bnes := by
  have hr' : Tab.rises (rotated n f s).dp.links = true := links_setLnk hr n f _
  rcases Nat.mod_two_eq_zero_or_one (s.lnk n f).rot with he | ho
  · rw [rotation_of_even he, bnes_ackItem hr', lnk_rotated hr]
  · rw [rotation_of_odd ho]
    dsimp only
    split
    · rw [lnk_rotated hr]
    · rw [lnk_onLnk hr', lnk_rotated hr]

theorem rotation_ack (hr : Tab.rises s.dp.links = true) (he : (s.lnk n f).rot % 2 = 0) :
    (rotation n f s).1 = .ack (s.lnk n f).nes (s.lnk n f).nak := by
  rw [rotation_of_even he, rotation.ackItem, lnk_rotated hr]

theorem rotation_credit (ho : (s.lnk n f).rot % 2 = 1) : ∃ c, (rotation n f s).1 = .credit ((s.lnk n f).rot / 2) c := by
  rw [rotation_of_odd ho]
  exact ⟨_, rfl⟩

theorem execReservedPositionSend_of_up {n : Fin 24} {f : Fin 2} (hp : fabPort s.act n.val f.val = true)
    (h2 : 2 ≤ s.flState n.val f.val) (h4 : s.flState n.val f.val ≤ 4) (hr : Tab.rises s.dp.links = true) :
    execReservedPositionSend n f s = .next (pausedBy n.val f.val
      ((slot1 n.val f.val ((s.lnk n.val f.val).rot % 2 == 1) (rotation n.val f.val (toReserved n.val f.val s)).2).2.lnk n.val f.val).pausing
      (slot1 n.val f.val ((s.lnk n.val f.val).rot % 2 == 1) (rotation n.val f.val (toReserved n.val f.val s)).2).1.body
      (reservedSent n.val f.val (boundOf (pass 2016 (s.lnk n.val f.val).stream))
        ⟨0, (s.lnk n.val f.val).bnes, (rotation n.val f.val (toReserved n.val f.val s)).1⟩
        (slot1 n.val f.val ((s.lnk n.val f.val).rot % 2 == 1) (rotation n.val f.val (toReserved n.val f.val s)).2))) := by
  rw [execReservedPositionSend_eq, hp, decide_eq_true h2, decide_eq_true h4, slotsSent, rotation_bnes (links_toReserved hr _ _),
    lnk_toReserved hr]
  rfl

theorem execReservedPositionSend_of_not {n : Fin 24} {f : Fin 2} (h : s.flState n.val f.val = 1 ∨ 5 ≤ s.flState n.val f.val) :
    execReservedPositionSend n f s = .next s := by
  rw [execReservedPositionSend_eq]
  refine congrArg _ (if_neg ?_)
  simp only [Bool.and_eq_true, decide_eq_true_eq]
  omega

/-! ## The replay timers (R237, R241) -/

/-- The replay timer of a port that has packets to send again. -/
def replayTimed (n f : Nat) (err : CellErr) (s : State) : State :=
  match (s.lnk n f).replay with
  | [] => s
  | x :: _ => replayFrom n f x.pkt.seq err ((s.reach ((s.lnk n f).rplAt +
      max 1 (s.actF (Reg.FL_CFG n f) Fld.FL_CFG_RPLTIME) * 100)).onLnk n f (fun l => { l with rplAt :=
        (s.reach ((s.lnk n f).rplAt + max 1 (s.actF (Reg.FL_CFG n f) Fld.FL_CFG_RPLTIME) * 100)).now }))

theorem execReplayTimerExpire_of_first {n : Fin 24} {f : Fin 2} {x : Sent} {r : List Sent} (hx : (s.lnk n.val f.val).replay = x :: r)
    (hc : carries s n.val f.val = true) (err : CellErr) :
    execReplayTimerExpire n f err s = .next (settle (replayTimed n.val f.val err s)) := by
  have hne : (s.lnk n.val f.val).replay ≠ [] := by
    rw [hx]
    exact List.cons_ne_nil x r
  refine settled ((if_pos ⟨hne, hc⟩).trans ?_)
  unfold replayTimed
  rw [hx]

theorem replayTimed_of_first {x : Sent} {r : List Sent} (hx : (s.lnk n f).replay = x :: r) (err : CellErr) :
    replayTimed n f err s = replayFrom n f x.pkt.seq err ((s.reach ((s.lnk n f).rplAt +
      max 1 (s.actF (Reg.FL_CFG n f) Fld.FL_CFG_RPLTIME) * 100)).onLnk n f (fun l => { l with rplAt :=
        (s.reach ((s.lnk n f).rplAt + max 1 (s.actF (Reg.FL_CFG n f) Fld.FL_CFG_RPLTIME) * 100)).now })) := by
  unfold replayTimed
  rw [hx]

theorem execReplayTimerExpire_of_not {n : Fin 24} {f : Fin 2}
    (h : (s.lnk n.val f.val).replay = [] ∨ carries s n.val f.val = false) (err : CellErr) :
    execReplayTimerExpire n f err s = .next (settle s) := by
  refine settled (if_neg ?_)
  rintro ⟨hne, hc⟩
  rcases h with h | h
  · exact hne h
  · rw [h] at hc
    cases hc

/-- The bypass replay timer of a port with a short packet to send again. -/
def bypassTimed (n f bseq : Nat) (k : State) : State :=
  (k.bump (Reg.FL_BPLCNT n f)).onLnk n f (fun l => { l with bResend := some bseq, bAt := k.now })

theorem execBypassReplayExpire_of_first {n : Fin 24} {f : Fin 2} {x : Short} {r : List Short} (hx : (s.lnk n.val f.val).bypass = x :: r) :
    execBypassReplayExpire n f s .none = .next (settle (bypassTimed n.val f.val x.bseq
      (s.reach ((s.lnk n.val f.val).bAt + max 1 (s.actF (Reg.FL_CFG n.val f.val) Fld.FL_CFG_BTIME) * 100)))) := by
  unfold execBypassReplayExpire
  dsimp only
  rw [hx]
  rfl

theorem execBypassReplayExpire_of_empty {n : Fin 24} {f : Fin 2} (hx : (s.lnk n.val f.val).bypass = []) (err : CellErr) :
    execBypassReplayExpire n f s err = .next (settle s) := by
  unfold execBypassReplayExpire
  dsimp only
  rw [hx]

/-! ## The obligation -/

/-- A packet that a port from TRAINED on reads whole. -/
theorem execFabricPacketReceive_of_up {n : Fin 24} {f : Fin 2} (hp : fabPort s.act n.val f.val = true)
    (hup : 3 ≤ s.flState n.val f.val ∧ (s.lnk n.val f.val).lost = false) {rx : Reception} (hg : rx ≠ .groupBad) (hf : rx ≠ .framingLost)
    (pkt : Packet) : execFabricPacketReceive n f rx pkt s =
      .next (packetRead n.val f.val rx pkt (ackTaken n.val f.val pkt s)) :=
  (execFabricPacketReceive_of_check hp (Nat.le_of_succ_le hup.1) rx pkt).trans
    (congrArg Host.Outcome.next (receptionTaken_of_up hup.1 hup.2 hg hf pkt))

theorem packetRead_of_order {k : State} (h : pkt.seq = (k.lnk n f).nes) (rx : Reception) :
    packetRead n f rx pkt k = packetInOrder n f rx pkt k := if_pos h

theorem packetRead_of_duplicate {k : State} (h : pkt.seq ≠ (k.lnk n f).nes)
    (h1 : 1 ≤ ((k.lnk n f).nes + 2 ^ 16 - pkt.seq % 2 ^ 16) % 2 ^ 16)
    (h2 : ((k.lnk n f).nes + 2 ^ 16 - pkt.seq % 2 ^ 16) % 2 ^ 16 ≤ 32767) (rx : Reception) :
    packetRead n f rx pkt k = k.bump (Reg.FL_DUPCNT n f) := (if_neg h).trans (if_pos ⟨h1, h2⟩)

theorem packetRead_of_beyond {k : State} (h : pkt.seq ≠ (k.lnk n f).nes)
    (h1 : ¬(1 ≤ ((k.lnk n f).nes + 2 ^ 16 - pkt.seq % 2 ^ 16) % 2 ^ 16 ∧
      ((k.lnk n f).nes + 2 ^ 16 - pkt.seq % 2 ^ 16) % 2 ^ 16 ≤ 32767)) (rx : Reception) :
    packetRead n f rx pkt k = nakDue n f (k.bump (Reg.FL_DUPCNT n f)) := (if_neg h).trans (if_neg h1)

/-- The clauses of a reception (R226, R238, R239). -/
theorem linkPackets_receive (n : Fin 24) (f : Fin 2) (pkt : Packet) (hp : fabPort s.act n.val f.val = true) :
    let up := 3 ≤ s.flState n.val f.val ∧ (s.lnk n.val f.val).lost = false
    let k := ackTaken n.val f.val pkt s
    let nes := (k.lnk n.val f.val).nes
    let behind := (nes + 2 ^ 16 - pkt.seq % 2 ^ 16) % 2 ^ 16
    let bad := nakDue n.val f.val (k.bump (Reg.FL_CRCERR n.val f.val))
    (s.flState n.val f.val = 2 → execFabricPacketReceive n f .groupBad pkt s = .next (s.bump (Reg.FL_UNCORR n.val f.val))) ∧
    (up → execFabricPacketReceive n f .framingLost pkt s =
       .next (nakDue n.val f.val ((s.bump (Reg.FL_HCRCERR n.val f.val)).onLnk n.val f.val (fun l => { l with lost := true })))) ∧
    (up → s.regs.canon = true → execFabricPacketReceive n f .groupBad pkt s =
       .next (nakDue n.val f.val (s.bump (Reg.FL_UNCORR n.val f.val)))) ∧
    (up → pkt.seq = nes → headerError pkt = false → execFabricPacketReceive n f .good pkt s =
       .next (goodPkt n.val f.val pkt (nesUp n.val f.val k))) ∧
    (up → pkt.seq = nes → headerError pkt = false →
       execFabricPacketReceive n f (.crcBad false) pkt s = .next bad ∧
       execFabricPacketReceive n f (.crcBad true) pkt s = .next (stompCopy n.val f.val pkt bad)) ∧
    (up → pkt.seq = nes → headerError pkt = true → ∀ rx, rx = .good ∨ (∃ b, rx = .crcBad b) →
       execFabricPacketReceive n f rx pkt s = .next ((unitsFreed n.val f.val pkt
         (dropFirst n.val f.val (nesUp n.val f.val (k.bump (Reg.FL_TYPEERR n.val f.val))))).raiseStn n.val 12 f.val)) ∧
    (up → pkt.seq = nes → execFabricPacketReceive n f .stomped pkt s =
       .next (unitsFreed n.val f.val pkt (dropFirst n.val f.val (nesUp n.val f.val (k.bump (Reg.FL_STOMPCNT n.val f.val)))))) ∧
    (up → pkt.seq ≠ nes → 1 ≤ behind → behind ≤ 32767 → ∀ rx, rx ≠ .groupBad → rx ≠ .framingLost →
       execFabricPacketReceive n f rx pkt s = .next (k.bump (Reg.FL_DUPCNT n.val f.val))) ∧
    (up → pkt.seq ≠ nes → ¬(1 ≤ behind ∧ behind ≤ 32767) → ∀ rx, rx ≠ .groupBad → rx ≠ .framingLost →
       execFabricPacketReceive n f rx pkt s = .next (nakDue n.val f.val (k.bump (Reg.FL_DUPCNT n.val f.val)))) := by
  intro up k nes behind bad
  have read {rx : Reception} (hup : up) (hg : rx ≠ .groupBad) (hf : rx ≠ .framingLost) {z : State}
      (hz : packetRead n.val f.val rx pkt k = z) : execFabricPacketReceive n f rx pkt s = .next z :=
    (execFabricPacketReceive_of_up hp hup hg hf pkt).trans (congrArg _ hz)
  have ordered {rx : Reception} (hup : up) (hseq : pkt.seq = nes) (hg : rx ≠ .groupBad) (hf : rx ≠ .framingLost) {z : State}
      (hz : packetInOrder n.val f.val rx pkt k = z) : execFabricPacketReceive n f rx pkt s = .next z :=
    read hup hg hf ((packetRead_of_order hseq rx).trans hz)
  refine ⟨fun h2 => ?_, fun hup => ?_, fun hup hs => ?_, fun hup hseq he => ?_, fun hup hseq he => ⟨?_, ?_⟩,
    fun hup hseq he rx hrx => ?_, fun hup hseq => ?_, fun hup hne h1 h2 rx hg hf => read hup hg hf (packetRead_of_duplicate hne h1 h2 rx),
    fun hup hne hb rx hg hf => read hup hg hf (packetRead_of_beyond hne hb rx)⟩
  · exact (execFabricPacketReceive_of_check hp (Nat.le_of_eq h2.symm) _ pkt).trans (congrArg _
      (if_pos (by rw [flState_bump_of_check h2 (flStat_ne_flUncorr _ _)]; decide)))
  · exact (execFabricPacketReceive_of_check hp (Nat.le_of_succ_le hup.1) _ pkt).trans (congrArg _ (if_neg (not_idle hup.1 hup.2)))
  · exact (execFabricPacketReceive_of_check hp (Nat.le_of_succ_le hup.1) _ pkt).trans (congrArg _
      (if_neg (by rw [flState_bump hs (flStat_ne_flUncorr _ _)]; exact Nat.not_lt.2 hup.1)))
  · exact ordered hup hseq Reception.noConfusion Reception.noConfusion (packetInOrder_of_good he k)
  · exact ordered hup hseq Reception.noConfusion Reception.noConfusion
      ((packetInOrder_of_crcBad he false k).trans (if_neg Bool.false_ne_true))
  · exact ordered hup hseq Reception.noConfusion Reception.noConfusion ((packetInOrder_of_crcBad he true k).trans (if_pos rfl))
  · have hg : rx ≠ .groupBad := by
      rcases hrx with rfl | ⟨b, rfl⟩ <;> exact Reception.noConfusion
    have hf : rx ≠ .framingLost := by
      rcases hrx with rfl | ⟨b, rfl⟩ <;> exact Reception.noConfusion
    exact ordered hup hseq hg hf (packetInOrder_of_headerError he hrx k)
  · exact ordered hup hseq Reception.noConfusion Reception.noConfusion (if_pos rfl)

theorem creditTaken_of_near {c0 c1 c2 c3 : Nat} (hr : Tab.rises s.dp.links = true) (hfar : creditsFar a c0 c1 c2 c3 (s.lnk n f).sent = false) :
    ∃ u, creditTaken n f a c0 c1 c2 c3 s = u ∧ (u.lnk n f).cumRx = cumsTaken a c0 c1 c2 c3 (s.lnk n f).cumRx ∧ u.regs = s.regs := by
  refine ⟨_, if_neg (by rw [hfar]; decide), ?_, rfl⟩
  rw [lnk_resched, lnk_setLnk hr]

/-- Settles O46: receptions, acknowledgements, link-level short packets, and the replay timers. -/
theorem linkPackets : Obligations.LinkPackets := by
  unfold Obligations.LinkPackets
  refine ⟨fun s n f pkt hp => ?_, fun s n f a hr => ⟨fun hc => (ackTo_eq n f a s).trans (if_pos hc), fun hc => ?_⟩,
    fun s n f h hp hup => ?_, fun s n f => ⟨fun x r hx hc => ?_, fun hno err => execReplayTimerExpire_of_not hno err,
      fun x r hx => execBypassReplayExpire_of_first hx, fun hx err => execBypassReplayExpire_of_empty hx err⟩⟩
  · obtain ⟨hcheck, hlost, hgroup, hgood, hcrc, hheader, hstomped, hdup, hbeyond⟩ := linkPackets_receive (s := s) n f pkt hp
    exact ⟨fun h2 rx => execFabricPacketReceive_of_below h2 rx pkt, hcheck,
      fun h2 rx hrx => (execFabricPacketReceive_of_check hp (Nat.le_of_eq h2.symm) rx pkt).trans
        (congrArg _ (receptionTaken_of_idle (.inl (by rw [h2]; decide)) hrx pkt)),
      fun h3 hl rx hrx => (execFabricPacketReceive_of_check hp (Nat.le_of_succ_le h3) rx pkt).trans
        (congrArg _ (receptionTaken_of_idle (.inr hl) hrx pkt)),
      hlost, hgroup, hgood, hcrc, hheader, hstomped, hdup, hbeyond,
      fun hr => ⟨congrArg Link.nes (lnk_nesUp hr _ _), congrArg Link.nak (lnk_nesUp hr _ _), by rw [lnk_nesUp hr],
        nes_nakDue hr _ _, nak_nakDue hr⟩⟩
  · obtain ⟨hreplay, hseq, hnes, hact, hout, hother⟩ := ackTo_spec hr hc
    exact ⟨hreplay, hseq, hnes, hact, hout, fun m g hg hf hne => hother m g
      (fun heq => hne (Prod.ext (by omega) (by omega)))⟩
  · intro z b
    obtain ⟨hregs, -⟩ := ackedBy_frame n.val f.val h s
    have hnak (nes : Nat) (err : CellErr) := execNakReceive_of_up (h := h) hp hup nes err
    refine ⟨fun hr hslot hbound => ?_, fun hno => if_neg (fun hb => hno.elim (fun h => h hb.1) hb.2), fun nes => congrArg Host.Outcome.next (shortIn_of_up hp hup false (ackTo n.val f.val nes)),
      fun nes => ⟨fun hc hagain => ?_, fun hno err => ?_⟩, fun half c0 c1 c2 c3 => ⟨fun h0 h1 h2 h3 hr hcr => ?_, fun hfar => ?_⟩,
      fun sub hsub => ?_, fun h2 h4 => ?_, execReservedPositionSend_of_not⟩
    · rw [show z = _ from takeBound_of_bound ⟨hslot, hbound⟩ s, lnk_onLnk hr]
    · exact (hnak nes .none).trans (congrArg (fun z => Host.Outcome.next (settle z)) (nakTaken_of_again hc hagain .none))
    · exact (hnak nes err).trans (congrArg (fun z => Host.Outcome.next (settle z)) (nakTaken_of_not hno err))
    · have hfar : creditsFar half.val c0 c1 c2 c3 (b.lnk n.val f.val).sent = false := by
        rw [← Bool.not_eq_true, creditsFar_iff]
        rintro (hgap | hgap | hgap | hgap)
        · exact absurd hgap (Nat.not_lt.2 h0)
        · exact absurd hgap (Nat.not_lt.2 h1)
        · exact absurd hgap (Nat.not_lt.2 h2)
        · exact absurd hgap (Nat.not_lt.2 h3)
      obtain ⟨u, hu, hcum, hu'⟩ := creditTaken_of_near (links_backTo (links_takeBound hr n.val f.val h) n.val f.val h.back) hfar
      obtain ⟨f0, f1, f2, f3⟩ := find_cumsTaken half.val c0 c1 c2 c3 (b.lnk n.val f.val).cumRx
      refine ⟨u, (execCreditReceive_of_up hp hup c0 c1 c2 c3).trans (congrArg _ hu), ?_⟩
      rw [hcum]
      exact ⟨f0, f1, f2, f3, hu'.trans hregs⟩
    · exact (execCreditReceive_of_up hp hup c0 c1 c2 c3).trans (congrArg _
        (if_pos ((creditsFar_iff half.val c0 c1 c2 c3 (b.lnk n.val f.val).sent).2 hfar)))
    · exact congrArg Host.Outcome.next (if_pos (by simpa [hp, hup] using hsub))
    · intro l r p sent hr
      have hl := lnk_toReserved hr n.val f.val
      have hsent := execReservedPositionSend_of_up hp h2 h4 hr
      refine ⟨fun hno => hsent.trans (congrArg _ (pausedBy_of_none hno)),
        fun op tw sel a b c d hpause hbody => hsent.trans (congrArg _ (pausedBy_of_ack hpause hbody)), fun he => ?_, fun ho => ?_⟩
      · refine (rotation_ack (links_toReserved hr _ _) ?_).trans ?_
        · rw [hl]
          exact he
        · rw [hl]
      · have hcredit := rotation_credit (s := toReserved n.val f.val s) (n := n.val) (f := f.val) (by rw [hl]; exact ho)
        rwa [hl] at hcredit
  · exact (execReplayTimerExpire_of_first hx hc .none).trans (congrArg (fun z => Host.Outcome.next (settle z)) (replayTimed_of_first hx .none))

end Sys2Proof.Machine
end

section
/-! PROOFS. RETRAIN_REQ, RETRAIN_ACK, WIDTH and their time limits (R231, R242 to R248). -/

namespace Sys2Proof.Machine

variable {s u : State} {n f : Nat} {h : ShortHdr}

/-- A sequenced short packet in order, BOUND and BACK taken. -/
def seqTaken (n f : Nat) (h : ShortHdr) (s : State) : State :=
  (ackedBy n f h s).onLnk n f (fun l => { l with bnes := (l.bnes + 1) % 256 })

theorem shortIn_of_order (hp : fabPort s.act n f = true) (hup : 1 ≤ s.flState n f)
    (hb : h.bseq = ((ackedBy n f h s).lnk n f).bnes) (k : State → State) :
    shortIn n f h true false k s = k (seqTaken n f h s) := by
  unfold shortIn
  rw [hp, decide_eq_true hup]
  exact (if_pos rfl).trans ((if_neg (show ¬(!true) = true by decide)).trans ((if_neg Bool.false_ne_true).trans (if_pos hb)))

theorem shortIn_of_disorder (hp : fabPort s.act n f = true) (hup : 1 ≤ s.flState n f)
    (hb : h.bseq ≠ ((ackedBy n f h s).lnk n f).bnes) (k : State → State) :
    shortIn n f h true false k s = ackedBy n f h s := by
  unfold shortIn
  rw [hp, decide_eq_true hup]
  exact (if_pos rfl).trans ((if_neg (show ¬(!true) = true by decide)).trans ((if_neg Bool.false_ne_true).trans (if_neg hb)))

theorem seqTaken_regs (n f : Nat) (h : ShortHdr) (s : State) : (seqTaken n f h s).regs = s.regs := (ackedBy_frame n f h s).1

theorem node_congr (h : u.regs = s.regs) : u.node = s.node := by
  rw [State.node, State.node, act_congr h]

/-! ## RETRAIN_REQ and RETRAIN_ACK (R242, R244) -/

/-- A RETRAIN_REQ in order. -/
def retrainAsked (n f op tw sel node : Nat) (s : State) : State :=
  match s.flState n f with
  | 3 => ackRequest n f op tw sel s
  | 4 => if s.node < node then ackRequest n f op tw sel (s.setLivF (Reg.FL_STAT n f) Fld.FL_STAT_WITHDRAWN 1) else s
  | _ => s

/-- A RETRAIN_ACK in order. -/
def retrainAcked (n f op tw sel node : Nat) (s : State) : State :=
  if s.flState n f = 4 ∧ node ≠ s.node then enterPause n f op tw sel s else s

section
variable {op tw sel node : Nat}

theorem retrainAsked_of_up (h3 : s.flState n f = 3) : retrainAsked n f op tw sel node s = ackRequest n f op tw sel s := by
  rw [retrainAsked, h3]
  rfl

theorem retrainAsked_of_req (h4 : s.flState n f = 4) : retrainAsked n f op tw sel node s =
    if s.node < node then ackRequest n f op tw sel (s.setLivF (Reg.FL_STAT n f) Fld.FL_STAT_WITHDRAWN 1) else s := by
  rw [retrainAsked, h4]
  rfl

theorem retrainAsked_of_other (h3 : s.flState n f ≠ 3) (h4 : s.flState n f ≠ 4) : retrainAsked n f op tw sel node s = s := by
  unfold retrainAsked
  split
  · next h => exact absurd h h3
  · next h => exact absurd h h4
  · rfl

end

theorem ackRequest_of_pausing (h : (s.lnk n f).pausing.isSome = true) (op tw sel : Nat) : ackRequest n f op tw sel s = s := if_pos h

theorem ackRequest_lnk (h : (s.lnk n f).pausing = none) (hr : Tab.rises s.dp.links = true) (op tw sel : Nat) :
    ((ackRequest n f op tw sel s).lnk n f).pausing = some (op, tw, sel) ∧
    ((ackRequest n f op tw sel s).lnk n f).ctrl = (s.lnk n f).ctrl ++ [.retrainAck op tw sel s.node] := by
  have heq : ackRequest n f op tw sel s = (ctrlSend n f (.retrainAck op tw sel s.node) s).onLnk n f
      (fun l => { l with pausing := some (op, tw, sel) }) := if_neg (by rw [h]; decide)
  have hsend : (ctrlSend n f (.retrainAck op tw sel s.node) s).lnk n f =
      { s.lnk n f with ctrl := (s.lnk n f).ctrl ++ [.retrainAck op tw sel s.node] } := lnk_onLnk hr n f _
  have hr' : Tab.rises (ctrlSend n f (.retrainAck op tw sel s.node) s).dp.links = true := links_setLnk hr n f _
  rw [heq, lnk_onLnk hr', hsend]
  exact ⟨rfl, rfl⟩

theorem carries_of_pausing {x : Nat × Nat × Nat} (h : (s.lnk n f).pausing = some x) : carries s n f = false := by
  rw [carries, h]
  exact Bool.and_false _

/-! ## WIDTH (R243, R245, R246) -/

/-- The partner shown. -/
def partnerShown (n f node stn port : Nat) (s : State) : State :=
  ((s.setLivF (Reg.FL_STAT n f) Fld.FL_STAT_PNODE node).setLivF (Reg.FL_STAT n f) Fld.FL_STAT_PSTN stn).setLivF
    (Reg.FL_STAT n f) Fld.FL_STAT_PPORT port

/-- A WIDTH in order, its partner shown. -/
def widthTaken (n f node stn port w nes : Nat) (ini : Bool) (z : State) : State :=
  if z.flState n f = 1 ∧ w < 4 then z.onLnk n f (fun l => { l with peer := some (node, stn, port, nes, ini) })
  else applyWidth n f node stn port nes ini z

theorem flState_partnerShown (hs : s.regs.canon = true) (n f node stn port : Nat) :
    (partnerShown n f node stn port s).flState n f = s.flState n f := by
  have h1 := canon_setLivF (f := Fld.FL_STAT_PNODE) hs (Reg.FL_STAT n f) node
  have h2 := canon_setLivF (f := Fld.FL_STAT_PSTN) h1 (Reg.FL_STAT n f) stn
  rw [State.flState, partnerShown, livF_setLivF_apart h2 _ _ (by decide) (by decide),
    livF_setLivF_apart h1 _ _ (by decide) (by decide), livF_setLivF_apart hs _ _ (by decide) (by decide), State.flState]

theorem stnRec_congr (h : u.env = s.env) (n : Nat) : u.stnRec n = s.stnRec n := by
  rw [State.stnRec, State.stnRec, h]

/-- A WIDTH in CHECK: the partner declared, or another. -/
def partnerChecked (n f node stn port : Nat) (y : State) : State :=
  if node = (y.stnRec n).pnode ∧ stn = (y.stnRec n).pstn ∧ port = f then
    linkUp n f (y.setLivF (Reg.FL_STAT n f) Fld.FL_STAT_PEERBAD 0)
  else (y.setLivF (Reg.FL_STAT n f) Fld.FL_STAT_PEERBAD 1).raiseStn n 13 f

theorem applyWidth_of_check {nes : Nat} {z : State} (h2 : (ackTo n f nes z).flState n f = 2) (node stn port : Nat) :
    applyWidth n f node stn port nes false z = partnerChecked n f node stn port (ackTo n f nes z) := if_pos h2

/-! ## The obligation -/

section
variable {n : Fin 24} {f : Fin 2} (hp : fabPort s.act n.val f.val = true) (hup : 1 ≤ s.flState n.val f.val)
include hp hup

theorem execRetrainReqReceive_of_order (hb : h.bseq = ((ackedBy n.val f.val h s).lnk n.val f.val).bnes)
    (op : Fin 2) (tw : Fin 8) (sel : Fin 2) (node : Nat) : execRetrainReqReceive n f h op tw sel node s =
      .next (retrainAsked n.val f.val op.val tw.val sel.val node (seqTaken n.val f.val h s)) :=
  congrArg Host.Outcome.next (shortIn_of_order hp hup hb (retrainAsked n.val f.val op.val tw.val sel.val node))

theorem execRetrainAckReceive_of_order (hb : h.bseq = ((ackedBy n.val f.val h s).lnk n.val f.val).bnes)
    (op : Fin 2) (tw : Fin 8) (sel : Fin 2) (node : Nat) : execRetrainAckReceive n f h op tw sel node s =
      .next (retrainAcked n.val f.val op.val tw.val sel.val node (seqTaken n.val f.val h s)) :=
  congrArg Host.Outcome.next (shortIn_of_order hp hup hb (retrainAcked n.val f.val op.val tw.val sel.val node))

theorem execWidthReceive_of_order (hb : h.bseq = ((ackedBy n.val f.val h s).lnk n.val f.val).bnes) (node stn port w nes : Nat) :
    execWidthReceive n f h node stn port w nes false s = .next (settle (widthTaken n.val f.val node stn port w nes false
      (partnerShown n.val f.val node stn port (seqTaken n.val f.val h s)))) :=
  settled (shortIn_of_order hp hup hb
    (fun s => widthTaken n.val f.val node stn port w nes false (partnerShown n.val f.val node stn port s)))

end

/-- Settles O47: the sequenced short packets of a port, in order and out of it, and the time limits of REQ and PAUSE. -/
theorem retrainAndWidth : Obligations.RetrainAndWidth := by
  unfold Obligations.RetrainAndWidth
  intro s n f h hp b k st
  have hk : k.regs = s.regs := seqTaken_regs n.val f.val h s
  have hst : k.flState n.val f.val = st := flState_congr hk _ _
  have hnode : k.node = s.node := node_congr hk
  refine ⟨fun hup hb op tw sel node => ?_, fun hup hb op tw sel node => ⟨?_, ?_⟩,
    fun op tw sel => ⟨fun hpause => ackRequest_of_pausing hpause op tw sel, fun hpause hr => ?_⟩,
    fun hup hb hs node stn port w nes => ?_, fun hup hb node stn port w nes => ?_,
    fun h4 => settled (if_pos h4), fun h4 => settled (if_neg h4), fun h5 => settled (if_pos h5), fun h5 => settled (if_neg h5)⟩
  · have hreq := execRetrainReqReceive_of_order hp hup hb op tw sel node
    have hack := execRetrainAckReceive_of_order hp hup hb op tw sel node
    refine ⟨fun h3 => hreq.trans (congrArg _ (retrainAsked_of_up (hst.trans h3))),
      fun h4 hlt => hreq.trans (congrArg _ ((retrainAsked_of_req (hst.trans h4)).trans (if_pos (hnode.symm ▸ hlt)))),
      fun h4 hle => hreq.trans (congrArg _ ((retrainAsked_of_req (hst.trans h4)).trans (if_neg (hnode.symm ▸ Nat.not_lt.2 hle)))),
      fun h3 h4 => hreq.trans (congrArg _ (retrainAsked_of_other (fun h => h3 (hst.symm.trans h)) (fun h => h4 (hst.symm.trans h)))),
      fun h4 hne => hack.trans (congrArg _ (if_pos ⟨hst.trans h4, hnode.symm ▸ hne⟩)),
      fun hno => hack.trans (congrArg _ (if_neg ?_))⟩
    rintro ⟨h4, hne⟩
    exact hno.elim (fun h => h (hst.symm.trans h4)) (fun h => hne (h.trans hnode.symm))
  · exact congrArg Host.Outcome.next (shortIn_of_disorder hp hup hb _)
  · exact congrArg Host.Outcome.next (shortIn_of_disorder hp hup hb _)
  · obtain ⟨hpausing, hctrl⟩ := ackRequest_lnk hpause hr op tw sel
    exact ⟨hpausing, hctrl, carries_of_pausing hpausing⟩
  · have hwidth := execWidthReceive_of_order hp hup hb node stn port w nes
    have hz : (partnerShown n.val f.val node stn port k).flState n.val f.val = st :=
      (flState_partnerShown (by rw [hk]; exact hs) _ _ _ _ _).trans hst
    intro z
    refine ⟨fun h1 hw => hwidth.trans (congrArg (fun z => Host.Outcome.next (settle z)) (if_pos ⟨hz.trans h1, hw⟩)),
      fun h2 => hwidth.trans (congrArg (fun z => Host.Outcome.next (settle z)) (if_neg ?_)), ?_⟩
    · rintro ⟨h1, -⟩
      exact absurd (hz.symm.trans h1) (by omega)
    · intro y h2 henv
      have happly := applyWidth_of_check h2 node stn port
      have hrec := stnRec_congr henv n.val
      refine ⟨fun hnd hstn hport => happly.trans (if_pos ?_), fun hno => happly.trans (if_neg ?_)⟩
      · exact hrec.symm ▸ ⟨hnd, hstn, hport⟩
      · exact hrec.symm ▸ hno
  · exact settled (shortIn_of_disorder hp hup hb _)

end Sys2Proof.Machine
end

section
/-! PROOFS. PCI Express ports come up and go down; a failed lane and recovery (R186, R188, R206, R208 to R214). -/

namespace Sys2Proof.Machine

variable {s u : State} {x : Nat} {f g : Fld}

/-! ## Fields of PORT_STAT -/

section
variable (hc : s.regs.canon = true)
include hc

theorem canon_setP (x : Nat) (f : Fld) (v : Nat) : (setP x f v s).regs.canon = true := canon_setLivF hc _ v

theorem pStat_setP_self (x v : Nat) (h : f.lo + f.w ≤ 32) : pStat (setP x f v s) x f = v % 2 ^ f.w := livF_setLivF_self hc _ v h

theorem pStat_setP_apart (x v : Nat) (h : f.Apart g) (hg : g.lo + g.w ≤ 32) : pStat (setP x f v s) x g = pStat s x g :=
  livF_setLivF_apart hc _ v h hg

end

theorem pStat_congr (h : u.regs = s.regs) (x : Nat) (g : Fld) : pStat u x g = pStat s x g := by
  rw [pStat, pStat, State.livF, State.livF, State.liv, State.liv, h]

theorem pStat_port (s : State) (n : Fin 24) (p : Fin 4) (g : Fld) :
    pStat s (4 * n.val + p.val) g = s.livF (Reg.PORT_STAT n.val p.val) g := by
  obtain ⟨hn, hp⟩ := port_div n p
  rw [pStat, hn, hp]

theorem dlUp_port (s : State) (n : Fin 24) (p : Fin 4) :
    s.dlUp n.val p.val = (pStat s (4 * n.val + p.val) Fld.PORT_STAT_DLUP == 1) := by
  rw [pStat_port]
  rfl

theorem setP_frame (x : Nat) (f : Fld) (v : Nat) (s : State) :
    (setP x f v s).regs.active = s.regs.active ∧ (setP x f v s).dp = s.dp := ⟨rfl, rfl⟩

/-! ## The lanes of a port that trains -/

theorem layout_le (w p : Nat) : (nth (0, 0) (layout w) p).1 + (nth (0, 0) (layout w) p).2 ≤ 8 := by
  unfold layout
  split <;> rcases p with _ | _ | _ | _ | p <;> simp [nth]

theorem pcieLanes_lt {v : View} {n p : Nat} {e : Nat × Nat} (h : e ∈ pcieLanes v n p) : e.2 < 8 := by
  unfold pcieLanes at h
  split at h
  · obtain ⟨i, -, rfl⟩ := List.mem_map.1 h
    exact Nat.mod_lt _ (by decide)
  · obtain ⟨i, hi, rfl⟩ := List.mem_map.1 h
    have hle := layout_le (stnWidth v n) p
    have hlt := List.mem_range.1 hi
    dsimp only
    omega

/-- The words of ports, and the egress ports and the Active Set beside them. -/
def PortsSame (a : Nat) (s u : State) : Prop := KeepsWord a s u ∧ u.regs.active = s.regs.active ∧ u.dp.eport = s.dp.eport

theorem PortsSame.refl (a : Nat) (s : State) : PortsSame a s s := ⟨.refl s, rfl, rfl⟩

theorem PortsSame.trans {a : Nat} {v : State} (h : PortsSame a s u) (k : PortsSame a u v) : PortsSame a s v :=
  ⟨h.1.trans k.1, k.2.1.trans h.2.1, k.2.2.trans h.2.2⟩

theorem portsSame_setLivN {a b : Nat} (h : a ≠ b) (y : Nat) (s : State) : PortsSame a s (s.setLivN b y) :=
  ⟨keepsWord_setLivN s y h, rfl, rfl⟩

theorem portsSame_putRec {a n l : Nat} (h : a ≠ Reg.LN_REC n l) (ctle temp droop : Nat) (r : LaneRec) (s : State) :
    PortsSame a s (putRec n l ctle temp droop r s) := by
  unfold putRec
  exact .trans ⟨.of_regs rfl, rfl, rfl⟩ (portsSame_setLivN h _ _)

theorem portsSame_draw (a : Nat) (s : State) : PortsSame a s s.draw := ⟨.of_regs rfl, rfl, rfl⟩

theorem portsSame_ite {a : Nat} {c : Prop} {_ : Decidable c} {v : State} (h : PortsSame a s u) (k : PortsSame a s v) :
    PortsSame a s (if c then u else v) := by
  split
  · exact h
  · exact k

theorem portsSame_laneTrained {a : Nat} {e : Nat × Nat} (hstat : a ≠ Reg.LN_STAT e.1 e.2) (hrec : a ≠ Reg.LN_REC e.1 e.2)
    (rate : Nat) (j : Option Nat) (s : State) : PortsSame a s (laneTrained rate e j s) := by
  unfold laneTrained
  extract_lets f pre b
  cases j with
  | none => exact portsSame_setLivN hstat _ s
  | some j =>
    exact (portsSame_ite ((portsSame_setLivN hstat _ s).trans (portsSame_putRec hrec _ _ _ _ _)) (portsSame_setLivN hstat _ s)).trans
      (portsSame_draw a _)

theorem portsSame_foldl {α : Type} {a : Nat} {k : State → α → State} (l : List α)
    (h : ∀ s, ∀ y ∈ l, PortsSame a s (k s y)) (s : State) : PortsSame a s (l.foldl k s) := by
  induction l generalizing s with
  | nil => exact .refl a s
  | cons y l ih => exact (h s y List.mem_cons_self).trans (ih (fun s y hy => h s y (List.mem_cons_of_mem _ hy)) _)

theorem portsSame_lanesTrained (n p x rate : Nat) (use : List Nat) (hp : p < 4) (s : State) :
    PortsSame (Reg.PORT_STAT n p) s (lanesTrained x rate use s) := by
  unfold lanesTrained
  refine portsSame_foldl (k := fun s (e : (Nat × Nat) × Nat) => laneTrained rate e.1 (use.idxOf? e.2) s) _ (fun s e he => ?_) s
  have hlt := pcieLanes_lt (List.fst_mem_of_mem_zipIdx he)
  refine portsSame_laneTrained ?_ ?_ _ _ s
  · unfold Reg.PORT_STAT Reg.LN_STAT
    omega
  · unfold Reg.PORT_STAT Reg.LN_REC
    omega

/-! ## A port that comes up (R186, R188, R206) -/

/-- PORT_STAT of a port that comes up. -/
def portShown (x rate flit : Nat) (use : List Nat) (rev : Bool) (s : State) : State :=
  showWidth x use rev (setP x Fld.PORT_STAT_FLIT flit (setP x Fld.PORT_STAT_DLUP 1
    (setP x Fld.PORT_STAT_LTSSM 3 (setP x Fld.PORT_STAT_RATE rate s))))

/-- The width and reversal shown, before the port's record. -/
def widthShown (x : Nat) (use : List Nat) (rev : Bool) (s : State) : State :=
  setP x Fld.PORT_STAT_DEGRADED
    (b2n (decide (use.length < lanesOf (setP x Fld.PORT_STAT_REVERSED (b2n rev) (setP x Fld.PORT_STAT_LWIDTH (widthCode use.length) s)) x)))
    (setP x Fld.PORT_STAT_REVERSED (b2n rev) (setP x Fld.PORT_STAT_LWIDTH (widthCode use.length) s))

theorem showWidth_eq (x : Nat) (use : List Nat) (rev : Bool) (s : State) :
    showWidth x use rev s = (widthShown x use rev s).onPp x (fun p => { p with use := use, rev := rev }) := rfl

theorem widthShown_frame (x : Nat) (use : List Nat) (rev : Bool) (s : State) :
    (widthShown x use rev s).regs.active = s.regs.active ∧ (widthShown x use rev s).dp = s.dp := by
  rw [widthShown]
  simp only [(setP_frame x _ _ _).1, (setP_frame x _ _ _).2, and_self]

theorem onPp_frame (x : Nat) (k : PPort → PPort) (s : State) : (s.onPp x k).regs = s.regs ∧ (s.onPp x k).dp.eport = s.dp.eport :=
  ⟨rfl, rfl⟩

theorem showWidth_frame (x : Nat) (use : List Nat) (rev : Bool) (s : State) :
    (showWidth x use rev s).regs = (widthShown x use rev s).regs ∧ (showWidth x use rev s).dp.eport = s.dp.eport := by
  rw [showWidth_eq, (onPp_frame x _ _).1, (onPp_frame x _ _).2, (widthShown_frame x use rev s).2]
  exact ⟨rfl, rfl⟩

theorem canon_widthShown (hc : s.regs.canon = true) (x : Nat) (use : List Nat) (rev : Bool) :
    (widthShown x use rev s).regs.canon = true := canon_setP (canon_setP (canon_setP hc _ _ _) _ _ _) _ _ _

theorem canon_showWidth (hc : s.regs.canon = true) (x : Nat) (use : List Nat) (rev : Bool) :
    (showWidth x use rev s).regs.canon = true := by
  rw [(showWidth_frame x use rev s).1]
  exact canon_widthShown hc x use rev

theorem pStat_showWidth (hc : s.regs.canon = true) (x : Nat) (use : List Nat) (rev : Bool) (hd : Fld.PORT_STAT_DEGRADED.Apart g)
    (hr : Fld.PORT_STAT_REVERSED.Apart g) (hg : g.lo + g.w ≤ 32) : pStat (showWidth x use rev s) x g =
      pStat (setP x Fld.PORT_STAT_LWIDTH (widthCode use.length) s) x g := by
  have h1 := canon_setP hc x Fld.PORT_STAT_LWIDTH (widthCode use.length)
  rw [pStat_congr (showWidth_frame x use rev s).1, widthShown, pStat_setP_apart (canon_setP h1 _ _ _) _ _ hd hg,
    pStat_setP_apart h1 _ _ hr hg]

theorem portShown_active (x rate flit : Nat) (use : List Nat) (rev : Bool) (s : State) :
    (portShown x rate flit use rev s).regs.active = s.regs.active := by
  rw [portShown, (showWidth_frame x use rev _).1, (widthShown_frame x use rev _).1]
  simp only [(setP_frame x _ _ _).1]

theorem portShown_spec (hc : s.regs.canon = true) (x : Nat) {rate flit w : Nat} {use : List Nat} (rev : Bool) (hrate : rate < 8)
    (hflit : flit < 2) (hw : widthCode use.length = w) (hw8 : w < 8) :
    let y := portShown x rate flit use rev s
    y.regs.active = s.regs.active ∧ y.dp.eport = s.dp.eport ∧ pStat y x Fld.PORT_STAT_DLUP = 1 ∧
    pStat y x Fld.PORT_STAT_LTSSM = 3 ∧ pStat y x Fld.PORT_STAT_RATE = rate ∧ pStat y x Fld.PORT_STAT_LWIDTH = w ∧
    pStat y x Fld.PORT_STAT_FLIT = flit := by
  have h1 := canon_setP hc x Fld.PORT_STAT_RATE rate
  have h2 := canon_setP h1 x Fld.PORT_STAT_LTSSM 3
  have h3 := canon_setP h2 x Fld.PORT_STAT_DLUP 1
  have h4 := canon_setP h3 x Fld.PORT_STAT_FLIT flit
  intro y
  have hy : y = showWidth x use rev (setP x Fld.PORT_STAT_FLIT flit (setP x Fld.PORT_STAT_DLUP 1
    (setP x Fld.PORT_STAT_LTSSM 3 (setP x Fld.PORT_STAT_RATE rate s)))) := rfl
  refine ⟨?_, ?_, ?_, ?_, ?_, ?_, ?_⟩
  · exact portShown_active x rate flit use rev s
  · rw [hy, (showWidth_frame x use rev _).2]
    simp only [(setP_frame x _ _ _).2]
  · rw [hy, pStat_showWidth h4 _ _ _ (by decide) (by decide) (by decide),
      pStat_setP_apart h4 _ _ (by decide) (by decide), pStat_setP_apart h3 _ _ (by decide) (by decide),
      pStat_setP_self h2 _ _ (by decide)]
    rfl
  · rw [hy, pStat_showWidth h4 _ _ _ (by decide) (by decide) (by decide),
      pStat_setP_apart h4 _ _ (by decide) (by decide), pStat_setP_apart h3 _ _ (by decide) (by decide),
      pStat_setP_apart h2 _ _ (by decide) (by decide), pStat_setP_self h1 _ _ (by decide)]
    rfl
  · rw [hy, pStat_showWidth h4 _ _ _ (by decide) (by decide) (by decide),
      pStat_setP_apart h4 _ _ (by decide) (by decide), pStat_setP_apart h3 _ _ (by decide) (by decide),
      pStat_setP_apart h2 _ _ (by decide) (by decide), pStat_setP_apart h1 _ _ (by decide) (by decide),
      pStat_setP_self hc _ _ (by decide)]
    exact Nat.mod_eq_of_lt hrate
  · rw [hy, pStat_showWidth h4 _ _ _ (by decide) (by decide) (by decide),
      pStat_setP_self h4 _ _ (by decide), hw]
    exact Nat.mod_eq_of_lt hw8
  · rw [hy, pStat_showWidth h4 _ _ _ (by decide) (by decide) (by decide),
      pStat_setP_apart h4 _ _ (by decide) (by decide), pStat_setP_self h3 _ _ (by decide)]
    exact Nat.mod_eq_of_lt hflit

/-- The credits of a port that comes up: advertised, granted, and the partner's counted afresh. -/
def creditsFresh (n p x : Nat) (c : Nat × Nat) (s : State) : State :=
  ((s.emit (.credits n p c.1 c.2)).onEport x (fun e => { e with fc := [] })).onPp x
    (fun u => { u with grant := (List.range 3).map (fun k => (k, c)) })

/-- What a link that comes up tells. -/
def upTold (x : Nat) (s : State) : State := (sendSlotLimit x (dllChanged x s)).intx

/-- The credits that a port advertises. -/
def creditsOf (n p rate : Nat) (flit : Bool) (s : State) : Nat × Nat :=
  expressible (decide (3 ≤ rate) || flit) (advertised (s.act (Reg.BUF_PCIR n p)).toNat / 16) (advertised (s.act (Reg.BUF_PCIR n p)).toNat)

/-- A port whose lanes have trained, its state taken afresh. -/
def portFresh (n p x rate : Nat) (use : List Nat) (s : State) : State :=
  (lanesTrained x rate use s).setLivN (Reg.PORT_STAT n p)
    (((lanesTrained x rate use s).liv (Reg.PORT_STAT n p)).toNat / 2 ^ 16 % 4 * 2 ^ 16)

theorem portFresh_spec (hc : s.regs.canon = true) (n : Nat) {p : Nat} (hp : p < 4) (x rate : Nat) (use : List Nat) :
    (portFresh n p x rate use s).regs.canon = true ∧ (portFresh n p x rate use s).regs.active = s.regs.active ∧
    (portFresh n p x rate use s).dp.eport = s.dp.eport := by
  obtain ⟨hk, ha, he⟩ := portsSame_lanesTrained n p x rate use hp s
  exact ⟨State.canon_setLiv _ _ (hk hc).1, ha, he⟩

/-- A port that has come up, before its host requests. -/
def portUp (n p x rate w : Nat) (rev flit : Bool) (s : State) : State :=
  upTold x (creditsFresh n p x (creditsOf n p rate flit
    (portShown x rate (b2n flit) (useOf (lanesOf s x) (2 ^ w) rev) rev (portFresh n p x rate (useOf (lanesOf s x) (2 ^ w) rev) s)))
    (portShown x rate (b2n flit) (useOf (lanesOf s x) (2 ^ w) rev) rev (portFresh n p x rate (useOf (lanesOf s x) (2 ^ w) rev) s)))

theorem maxRate_congr (h : u.regs.active = s.regs.active) (x : Nat) : maxRate u x = maxRate s x := by
  rw [maxRate, maxRate, State.actF, State.actF, State.act, State.act, h]

theorem dllChanged_frame (x : Nat) (s : State) : (dllChanged x s).regs = s.regs ∧ (dllChanged x s).dp = s.dp := by
  unfold dllChanged
  split
  · exact ⟨rfl, rfl⟩
  · exact ⟨rfl, rfl⟩

theorem sendSlotLimit_frame (x : Nat) (s : State) : (sendSlotLimit x s).regs = s.regs ∧ (sendSlotLimit x s).dp = s.dp := by
  unfold sendSlotLimit
  split
  · exact ⟨rfl, rfl⟩
  · exact ⟨rfl, rfl⟩

theorem OnlyIntx.dp (h : OnlyIntx s u) : u.dp = s.dp := by
  obtain ⟨_, _, rfl⟩ := h
  rfl

theorem upTold_frame (x : Nat) (s : State) : (upTold x s).regs = s.regs ∧ (upTold x s).dp = s.dp := by
  have hi := onlyIntx_intx (sendSlotLimit x (dllChanged x s))
  obtain ⟨hr, hd⟩ := sendSlotLimit_frame x (dllChanged x s)
  obtain ⟨hr', hd'⟩ := dllChanged_frame x s
  exact ⟨hi.regs.trans (hr.trans hr'), hi.dp.trans (hd.trans hd')⟩

theorem emit_frame (o : Out) (s : State) : (s.emit o).regs = s.regs ∧ (s.emit o).dp = s.dp := ⟨rfl, rfl⟩

theorem onEport_regs (x : Nat) (k : EPort → EPort) (s : State) : (s.onEport x k).regs = s.regs := rfl

theorem creditsFresh_spec (hr : Tab.rises s.dp.eport = true) (n p x : Nat) (c : Nat × Nat) :
    (creditsFresh n p x c s).regs = s.regs ∧ ((creditsFresh n p x c s).eport x).fc = [] := by
  obtain ⟨hregs, he⟩ := onPp_frame x (fun u => { u with grant := (List.range 3).map (fun k => (k, c)) })
    ((s.emit (.credits n p c.1 c.2)).onEport x (fun e => { e with fc := [] }))
  refine ⟨hregs, ?_⟩
  rw [creditsFresh, State.eport, he]
  exact congrArg EPort.fc (eport_onEport (s := s.emit (.credits n p c.1 c.2)) hr x _)

theorem eport_congr (h : u.dp = s.dp) (x : Nat) : u.eport x = s.eport x := by
  rw [State.eport, State.eport, h]

theorem useOf_length {lanes w : Nat} (h : w ≤ lanes) (rev : Bool) : (useOf lanes w rev).length = w := by
  unfold useOf
  cases rev with
  | false => exact List.length_range
  | true => exact (List.length_take_of_le (by simpa using h))

theorem widthCode_two_pow : ∀ w : Fin 5, widthCode (2 ^ w.val) = w.val := by decide

theorem b2n_lt (b : Bool) : b2n b < 2 := by
  cases b <;> decide

/-- What a port shows that has come up. -/
theorem portUp_spec (hc : s.regs.canon = true) (hr : Tab.rises s.dp.eport = true) (n : Nat) {p : Nat} (hp : p < 4) (x : Nat) {rate : Nat}
    (hrate : rate < 8) {w : Fin 5} (hw : 2 ^ w.val ≤ lanesOf s x) (rev flit : Bool) :
    let k := portUp n p x rate w.val rev flit s
    k.regs.active = s.regs.active ∧ (k.eport x).fc = [] ∧ pStat k x Fld.PORT_STAT_DLUP = 1 ∧ pStat k x Fld.PORT_STAT_LTSSM = 3 ∧
    pStat k x Fld.PORT_STAT_RATE = rate ∧ pStat k x Fld.PORT_STAT_LWIDTH = w.val ∧ pStat k x Fld.PORT_STAT_FLIT = b2n flit := by
  obtain ⟨hcf, haf, hef⟩ := portFresh_spec hc n hp x rate (useOf (lanesOf s x) (2 ^ w.val) rev)
  have hlen : widthCode (useOf (lanesOf s x) (2 ^ w.val) rev).length = w.val := by
    rw [useOf_length hw, widthCode_two_pow]
  obtain ⟨has, hes, hdl, hlt, hra, hlw, hfl⟩ := portShown_spec hcf x (flit := b2n flit) rev hrate (b2n_lt flit) hlen (by omega)
  intro k
  obtain ⟨hregs, hfc⟩ := creditsFresh_spec (s := portShown x rate (b2n flit) (useOf (lanesOf s x) (2 ^ w.val) rev) rev
    (portFresh n p x rate (useOf (lanesOf s x) (2 ^ w.val) rev) s)) (by rw [hes, hef]; exact hr) n p x (creditsOf n p rate flit
      (portShown x rate (b2n flit) (useOf (lanesOf s x) (2 ^ w.val) rev) rev (portFresh n p x rate (useOf (lanesOf s x) (2 ^ w.val) rev) s)))
  obtain ⟨htr, htd⟩ := upTold_frame x (creditsFresh n p x (creditsOf n p rate flit
    (portShown x rate (b2n flit) (useOf (lanesOf s x) (2 ^ w.val) rev) rev (portFresh n p x rate (useOf (lanesOf s x) (2 ^ w.val) rev) s)))
    (portShown x rate (b2n flit) (useOf (lanesOf s x) (2 ^ w.val) rev) rev (portFresh n p x rate (useOf (lanesOf s x) (2 ^ w.val) rev) s)))
  have hk : k.regs = _ := htr.trans hregs
  refine ⟨?_, (congrArg EPort.fc (eport_congr htd x)).trans hfc, (pStat_congr hk x _).trans hdl, (pStat_congr hk x _).trans hlt,
    (pStat_congr hk x _).trans hra, (pStat_congr hk x _).trans hlw, (pStat_congr hk x _).trans hfl⟩
  rw [hk]
  exact has.trans haf

/-- PORT_STAT of a port whose lanes have trained. -/
def portTrained (n p x rate w : Nat) (rev flit : Bool) (s : State) : State :=
  portShown x rate (b2n flit) (useOf (lanesOf s x) (2 ^ w) rev) rev (portFresh n p x rate (useOf (lanesOf s x) (2 ^ w) rev) s)

/-- Flit mode as a port that trains decides it from a state on the way. -/
def flitIn (peer : Bool) (x : Nat) (z : State) : Bool := peer && decide (5 ≤ maxRate z x)

theorem flitIn_congr (h : u.regs.active = s.regs.active) (peer : Bool) (x : Nat) : flitIn peer x u = flitIn peer x s := by
  rw [flitIn, flitIn, maxRate_congr h]

theorem execPcieLinkUp_eq {n : Fin 24} {p : Fin 4} {rate : Fin 7} {width : Fin 5}
    (hm : mayTrain s (4 * n.val + p.val) = true) (hd : s.dlUp n.val p.val = false) (hr : rate.val ≤ maxRate s (4 * n.val + p.val))
    (hw : 2 ^ width.val ≤ lanesOf s (4 * n.val + p.val)) (rev peer : Bool) :
    let x := 4 * n.val + p.val
    let z := portFresh n.val p.val x rate.val (useOf (lanesOf s x) (2 ^ width.val) rev) s
    let y := portTrained n.val p.val x rate.val width.val rev
      (flitIn peer x (setP x Fld.PORT_STAT_LTSSM 3 (setP x Fld.PORT_STAT_RATE rate.val z))) s
    execPcieLinkUp n p rate width rev peer s =
      .next (settle (upTold x (creditsFresh n.val p.val x (creditsOf n.val p.val rate.val (flitIn peer x y) y) y))) := by
  refine settled ((if_pos ?_).trans rfl)
  rw [hm, hd, decide_eq_true hr, decide_eq_true hw]
  rfl

theorem execPcieLinkUp_of_trains {n : Fin 24} {p : Fin 4} {rate : Fin 7} {width : Fin 5} (hc : s.regs.canon = true)
    (hm : mayTrain s (4 * n.val + p.val) = true) (hd : s.dlUp n.val p.val = false) (hr : rate.val ≤ maxRate s (4 * n.val + p.val))
    (hw : 2 ^ width.val ≤ lanesOf s (4 * n.val + p.val)) (rev peer : Bool) :
    execPcieLinkUp n p rate width rev peer s = .next (settle (portUp n.val p.val (4 * n.val + p.val) rate.val width.val rev
      (flitIn peer (4 * n.val + p.val) s) s)) := by
  obtain ⟨hcf, haf, hef⟩ := portFresh_spec hc n.val p.isLt (4 * n.val + p.val) rate.val
    (useOf (lanesOf s (4 * n.val + p.val)) (2 ^ width.val) rev)
  refine (execPcieLinkUp_eq hm hd hr hw rev peer).trans ?_
  rw [flitIn_congr (s := s) (((setP_frame _ _ _ _).1.trans (setP_frame _ _ _ _).1).trans haf), flitIn_congr (s := s)]
  · rfl
  · exact (portShown_active _ _ _ _ _ _).trans haf

/-! ## A lane that fails, and recovery (R208 to R210) -/

/-- A lane of a port in L0 counted as failed. -/
def laneCounted (n p k : Nat) (s : State) : State := (s.bump (Reg.LN_FAILCNT (n + k / 8) (k % 8))).raiseStn (n + k / 8) 0 p

/-- What the failure of a lane leads to: the port goes down, or to Recovery. -/
def laneFailed (x l : Nat) (u : PPort) (y : Option (List Nat × Bool)) (s : State) : State :=
  match y with
  | none => surpriseDown x s
  | some _ => setP x Fld.PORT_STAT_LTSSM 4 (s.onPp x (fun v => { v with bad := l :: u.bad, recAt := some s.now }))

theorem laneFailed_none (x l : Nat) (u : PPort) (s : State) : laneFailed x l u none s = surpriseDown x s := rfl

theorem laneFailed_some (x l : Nat) (u : PPort) (y : List Nat × Bool) (s : State) : laneFailed x l u (some y) s =
    setP x Fld.PORT_STAT_LTSSM 4 (s.onPp x (fun v => { v with bad := l :: u.bad, recAt := some s.now })) := rfl

theorem execPcieLaneFailure_of_used {n : Fin 24} {p : Fin 4} {l : Fin 16} {y : Option (List Nat × Bool)}
    (hp : isPcie s (4 * n.val + p.val) = true) (hd : s.dlUp n.val p.val = true) (h3 : ltssm s (4 * n.val + p.val) = 3)
    (hu : (s.pp (4 * n.val + p.val)).use.contains l.val = true)
    (hy : narrowTo (s.pp (4 * n.val + p.val)).use (s.pp (4 * n.val + p.val)).rev (l.val :: (s.pp (4 * n.val + p.val)).bad)
        (below (s.pp (4 * n.val + p.val)).use.length) = y) :
    execPcieLaneFailure n p l s = .next (settle (laneFailed (4 * n.val + p.val) l.val (s.pp (4 * n.val + p.val)) y
      (laneCounted n.val p.val ((nth (0, 0) (layout (stnWidth s.act n.val)) p.val).1 + l.val) s))) := by
  refine settled ((if_pos ?_).trans ?_)
  · rw [hp, hd, h3, hu]
    rfl
  · dsimp only
    rw [hy]
    cases y
    · rfl
    · rfl

theorem onPp_congr {k m : PPort → PPort} (h : k (s.pp x) = m (s.pp x)) : s.onPp x k = s.onPp x m :=
  congrArg (fun y => s.onDp (fun d => { d with pports := Tab.set {} s.dp.pports x y })) h

theorem laneCounted_pp (n p k x : Nat) (s : State) : (laneCounted n p k s).pp x = s.pp x := by
  have h : (laneCounted n p k s).dp = s.dp := (onlyEvents_raiseStn _ _ _ _).log.dp
  rw [State.pp, State.pp, h]

/-- The lanes that are left shown, in L0. -/
def narrowShown (x : Nat) (use : List Nat) (rev : Bool) (s : State) : State :=
  setP x Fld.PORT_STAT_DEGRADED 1 (setP x Fld.PORT_STAT_L0P 0 (setP x Fld.PORT_STAT_LTSSM 3
    (showWidth x use rev (s.onPp x (fun u => { u with recAt := none, narrow := 0 })))))

/-- A recovery counted. -/
def recoveryCounted (n p : Nat) (replay : Bool) (s : State) : State :=
  (if replay then s.bump (Reg.PORT_REPCNT n p) else s).bump (Reg.PORT_DEGCNT n p)

/-- A recovery told. -/
def recoveryTold (n p x : Nat) (down : Bool) (s : State) : State :=
  (((if down then bridgeSet x .linkCtl (2 ^ 31) else id) s).raiseStn n 10 p).logDevice (16 * n + 10)

theorem onPp_failed (n p k x l : Nat) (s : State) :
    (laneCounted n p k s).onPp x (fun v => { v with bad := l :: (s.pp x).bad, recAt := some (laneCounted n p k s).now }) =
    (laneCounted n p k s).onPp x (fun v => { v with bad := l :: v.bad, recAt := some (laneCounted n p k s).now }) := by
  refine onPp_congr ?_
  rw [laneCounted_pp]

/-- A port that returns from Recovery on the lanes that are left. -/
def recovered (n p x : Nat) (use : List Nat) (rev replay : Bool) (s : State) : State :=
  recoveryTold n p x (isDown (if replay then (narrowShown x use rev s).bump (Reg.PORT_REPCNT n p) else narrowShown x use rev s) x)
    (recoveryCounted n p replay (narrowShown x use rev s))

theorem execPcieRecoveryReturn_of_narrow {n : Fin 24} {p : Fin 4} {t : Nat} {y : List Nat} {rev : Bool}
    (ht : (s.pp (4 * n.val + p.val)).recAt = some t) (h4 : ltssm s (4 * n.val + p.val) = 4)
    (hy : narrowTo (s.pp (4 * n.val + p.val)).use (s.pp (4 * n.val + p.val)).rev (s.pp (4 * n.val + p.val)).bad
      (below (s.pp (4 * n.val + p.val)).use.length) = some (y, rev)) (replay : Bool) :
    execPcieRecoveryReturn n p replay s = .next (settle (recovered n.val p.val (4 * n.val + p.val) y rev replay s)) := by
  refine settled ((if_pos ?_).trans ?_)
  · rw [ht, h4]
    rfl
  · dsimp only
    rw [hy]
    rfl

theorem execPcieRecoveryLimit_of_recovery {n : Fin 24} {p : Fin 4} {t : Nat} (ht : (s.pp (4 * n.val + p.val)).recAt = some t)
    (h4 : ltssm s (4 * n.val + p.val) = 4) : execPcieRecoveryLimit n p s =
      .next (settle (surpriseDown (4 * n.val + p.val) (s.reach (t + 2000000)))) := by
  unfold execPcieRecoveryLimit
  dsimp only
  rw [ht]
  exact congrArg _ (if_pos h4)

/-! ## What a port shows that has returned -/

theorem pp_onPp (hr : Tab.rises s.dp.pports = true) (x : Nat) (k : PPort → PPort) : (s.onPp x k).pp x = k (s.pp x) :=
  Tab.get_set_self _ _ hr

theorem pports_onPp (hr : Tab.rises s.dp.pports = true) (x : Nat) (k : PPort → PPort) :
    Tab.rises (s.onPp x k).dp.pports = true := by
  show Tab.rises (Tab.set {} s.dp.pports x _) = true
  unfold Tab.set
  split
  · exact Tab.rises_del _ hr
  · exact Tab.rises_put _ _ hr

theorem pp_congr (h : u.dp = s.dp) (x : Nat) : u.pp x = s.pp x := by
  rw [State.pp, State.pp, h]

theorem showWidth_pp (hr : Tab.rises s.dp.pports = true) (x : Nat) (use : List Nat) (rev : Bool) :
    (showWidth x use rev s).pp x = { s.pp x with use := use, rev := rev } := by
  have hdp := (widthShown_frame x use rev s).2
  rw [showWidth_eq, pp_onPp (by rw [hdp]; exact hr), pp_congr hdp]

theorem keepsWord_setP {a : Nat} (h : a ≠ Reg.PORT_STAT (x / 4) (x % 4)) (f : Fld) (v : Nat) (s : State) :
    KeepsWord a s (setP x f v s) := keepsWord_setLivF s f v h

theorem keepsWord_onPp {a : Nat} (x : Nat) (k : PPort → PPort) (s : State) : KeepsWord a s (s.onPp x k) := .of_regs rfl

theorem keepsWord_showWidth {a : Nat} (h : a ≠ Reg.PORT_STAT (x / 4) (x % 4)) (use : List Nat) (rev : Bool) (s : State) :
    KeepsWord a s (showWidth x use rev s) := by
  rw [showWidth_eq]
  exact (((keepsWord_setP h _ _ _).trans (keepsWord_setP h _ _ _)).trans (keepsWord_setP h _ _ _)).trans (keepsWord_onPp x _ _)

theorem keepsWord_narrowShown {a : Nat} (h : a ≠ Reg.PORT_STAT (x / 4) (x % 4)) (use : List Nat) (rev : Bool) (s : State) :
    KeepsWord a s (narrowShown x use rev s) :=
  ((((keepsWord_onPp x _ s).trans (keepsWord_showWidth h use rev _)).trans (keepsWord_setP h _ _ _)).trans
    (keepsWord_setP h _ _ _)).trans (keepsWord_setP h _ _ _)

theorem narrowShown_dp (x : Nat) (use : List Nat) (rev : Bool) (s : State) : (narrowShown x use rev s).dp =
    (showWidth x use rev (s.onPp x (fun u => { u with recAt := none, narrow := 0 }))).dp := by
  rw [narrowShown, (setP_frame _ _ _ _).2, (setP_frame _ _ _ _).2, (setP_frame _ _ _ _).2]

theorem narrowShown_pp (hr : Tab.rises s.dp.pports = true) (x : Nat) (use : List Nat) (rev : Bool) :
    ((narrowShown x use rev s).pp x).use = use ∧ ((narrowShown x use rev s).pp x).recAt = none := by
  rw [pp_congr (narrowShown_dp x use rev s), showWidth_pp (pports_onPp hr x _), pp_onPp hr]
  exact ⟨rfl, rfl⟩

theorem narrowShown_stat (hc : s.regs.canon = true) (x : Nat) (use : List Nat) (rev : Bool) :
    (narrowShown x use rev s).regs.canon = true ∧ pStat (narrowShown x use rev s) x Fld.PORT_STAT_LTSSM = 3 ∧
    pStat (narrowShown x use rev s) x Fld.PORT_STAT_DEGRADED = 1 := by
  have h1 : (showWidth x use rev (s.onPp x (fun u => { u with recAt := none, narrow := 0 }))).regs.canon = true :=
    canon_showWidth (by rw [(onPp_frame x _ _).1]; exact hc) x use rev
  have h2 := canon_setP h1 x Fld.PORT_STAT_LTSSM 3
  have h3 := canon_setP h2 x Fld.PORT_STAT_L0P 0
  refine ⟨canon_setP h3 _ _ _, ?_, pStat_setP_self h3 _ _ (by decide)⟩
  rw [narrowShown, pStat_setP_apart h3 _ _ (by decide) (by decide), pStat_setP_apart h2 _ _ (by decide) (by decide),
    pStat_setP_self h1 _ _ (by decide)]
  rfl

theorem liv_bump_self (hc : s.regs.canon = true) (a : Nat) : (s.bump a).liv a = s.liv a + 1 := by
  rw [State.bump, State.setLivN, State.liv_setLiv_self _ _ hc]
  apply BitVec.eq_of_toNat_eq
  rw [BitVec.toNat_ofNat, BitVec.toNat_add]
  rfl

theorem recoveryCounted_liv (hc : s.regs.canon = true) (n p : Nat) (replay : Bool) :
    (recoveryCounted n p replay s).liv (Reg.PORT_REPCNT n p) = s.liv (Reg.PORT_REPCNT n p) + BitVec.ofNat 32 (b2n replay) ∧
    (recoveryCounted n p replay s).liv (Reg.PORT_DEGCNT n p) = s.liv (Reg.PORT_DEGCNT n p) + 1 := by
  have hne : Reg.PORT_REPCNT n p ≠ Reg.PORT_DEGCNT n p := by
    unfold Reg.PORT_REPCNT Reg.PORT_DEGCNT
    omega
  have hrep := keepsWord_bump s 1 hne.symm hc
  cases replay with
  | false => exact ⟨((keepsWord_bump s 1 hne hc).2).trans (BitVec.add_zero _).symm, liv_bump_self hc _⟩
  | true =>
    refine ⟨(keepsWord_bump _ 1 hne hrep.1).2.trans (liv_bump_self hc _), ?_⟩
    exact (liv_bump_self hrep.1 _).trans (congrArg (· + 1) hrep.2)

theorem keepsWord_recoveryCounted {a n p : Nat} (h1 : a ≠ Reg.PORT_REPCNT n p) (h2 : a ≠ Reg.PORT_DEGCNT n p) (replay : Bool) (s : State) :
    KeepsWord a s (recoveryCounted n p replay s) :=
  (KeepsWord.ite (keepsWord_bump s 1 h1) (.refl s)).trans (keepsWord_bump _ 1 h2)

theorem bridged_frame (x : Nat) (down : Bool) (s : State) :
    ((if down then bridgeSet x .linkCtl (2 ^ 31) else id) s).regs = s.regs ∧
    ((if down then bridgeSet x .linkCtl (2 ^ 31) else id) s).dp = s.dp := by
  cases down
  · exact ⟨rfl, rfl⟩
  · exact ⟨rfl, rfl⟩

theorem keepsWord_recoveryTold {a n : Nat} (hq : Quiet a) (hn : n < 24) (p x : Nat) (down : Bool) (s : State) :
    KeepsWord a s (recoveryTold n p x down s) :=
  ((KeepsWord.of_regs (bridged_frame x down s).1).trans (keepsWord_raiseStn hq hn (by decide) p _)).trans
    (keepsWord_logDevice hq _ _ _ _)

theorem recoveryTold_dp (n p x : Nat) (down : Bool) (s : State) : (recoveryTold n p x down s).dp = s.dp :=
  ((onlyEvents_raiseStn _ n 10 p).log.trans (onlyLog_log _ _)).dp.trans (bridged_frame x down s).2

theorem recoveryCounted_dp (n p : Nat) (replay : Bool) (s : State) : (recoveryCounted n p replay s).dp = s.dp := by
  unfold recoveryCounted
  cases replay
  · exact rfl
  · exact rfl

/-- The lanes that are left shown, the recovery counted and told. -/
def narrowTold (n p x : Nat) (use : List Nat) (rev replay down : Bool) (s : State) : State :=
  recoveryTold n p x down (recoveryCounted n p replay (narrowShown x use rev s))

theorem recovered_eq (n p x : Nat) (use : List Nat) (rev replay : Bool) (s : State) :
    ∃ down, recovered n p x use rev replay s = narrowTold n p x use rev replay down s := ⟨_, rfl⟩

theorem narrowTold_pp (hr : Tab.rises s.dp.pports = true) (n p x : Nat) (use : List Nat) (rev replay down : Bool) :
    ((narrowTold n p x use rev replay down s).pp x).use = use ∧ ((narrowTold n p x use rev replay down s).pp x).recAt = none := by
  have hdp : (narrowTold n p x use rev replay down s).dp = (narrowShown x use rev s).dp := by
    rw [narrowTold, recoveryTold_dp, recoveryCounted_dp]
  rw [pp_congr hdp]
  exact narrowShown_pp hr x use rev

theorem narrowTold_stat (hc : s.regs.canon = true) (n : Fin 24) (p : Fin 4) (x : Nat) (use : List Nat) (rev replay down : Bool)
    (hn : x / 4 = n.val) (hp : x % 4 = p.val) : pStat (narrowTold n.val p.val x use rev replay down s) x Fld.PORT_STAT_LTSSM = 3 ∧
    pStat (narrowTold n.val p.val x use rev replay down s) x Fld.PORT_STAT_DEGRADED = 1 := by
  obtain ⟨hcz, hlt, hdg⟩ := narrowShown_stat hc x use rev
  have hstat : KeepsWord (Reg.PORT_STAT (x / 4) (x % 4)) (narrowShown x use rev s) (narrowTold n.val p.val x use rev replay down s) := by
    rw [hn, hp]
    exact (keepsWord_recoveryCounted (by unfold Reg.PORT_STAT Reg.PORT_REPCNT; omega)
      (by unfold Reg.PORT_STAT Reg.PORT_DEGCNT; omega) replay _).trans
      (keepsWord_recoveryTold (by unfold Quiet Reg.PORT_STAT; omega) n.isLt _ _ _ _)
  exact ⟨(hstat.livF hcz _).trans hlt, (hstat.livF hcz _).trans hdg⟩

theorem narrowTold_counts (hc : s.regs.canon = true) (n : Fin 24) (p : Fin 4) (x : Nat) (use : List Nat) (rev replay down : Bool)
    (hn : x / 4 = n.val) (hp : x % 4 = p.val) :
    (narrowTold n.val p.val x use rev replay down s).liv (Reg.PORT_REPCNT n.val p.val) =
      s.liv (Reg.PORT_REPCNT n.val p.val) + BitVec.ofNat 32 (b2n replay) ∧
    (narrowTold n.val p.val x use rev replay down s).liv (Reg.PORT_DEGCNT n.val p.val) = s.liv (Reg.PORT_DEGCNT n.val p.val) + 1 := by
  obtain ⟨hcz, -, -⟩ := narrowShown_stat hc x use rev
  obtain ⟨hrep, hdeg⟩ := recoveryCounted_liv hcz n.val p.val replay
  have hcd := (keepsWord_recoveryCounted (a := 0) (n := n.val) (p := p.val) (by unfold Reg.PORT_REPCNT; omega)
    (by unfold Reg.PORT_DEGCNT; omega) replay _ hcz).1
  have hqrep : Quiet (Reg.PORT_REPCNT n.val p.val) := by
    unfold Quiet Reg.PORT_REPCNT
    omega
  have hqdeg : Quiet (Reg.PORT_DEGCNT n.val p.val) := by
    unfold Quiet Reg.PORT_DEGCNT
    omega
  have hrepne : Reg.PORT_REPCNT n.val p.val ≠ Reg.PORT_STAT (x / 4) (x % 4) := by
    rw [hn, hp]
    unfold Reg.PORT_REPCNT Reg.PORT_STAT
    omega
  have hdegne : Reg.PORT_DEGCNT n.val p.val ≠ Reg.PORT_STAT (x / 4) (x % 4) := by
    rw [hn, hp]
    unfold Reg.PORT_DEGCNT Reg.PORT_STAT
    omega
  rw [narrowTold, (keepsWord_recoveryTold hqrep n.isLt p.val x down _ hcd).2, hrep, (keepsWord_narrowShown hrepne use rev s hc).2,
    (keepsWord_recoveryTold hqdeg n.isLt p.val x down _ hcd).2, hdeg, (keepsWord_narrowShown hdegne use rev s hc).2]
  exact ⟨rfl, rfl⟩

/-- A port that goes down: as Surprise Down, or as asked. -/
def wentDown (x : Nat) (surprise : Bool) (s : State) : State :=
  if surprise then surpriseDown x s else dllChanged x (pcieDown x 0 s)

theorem execPcieLinkDown_of_up {n : Fin 24} {p : Fin 4} (hdown : isDown s (4 * n.val + p.val) = true) (hd : s.dlUp n.val p.val = true)
    (surprise : Bool) : execPcieLinkDown n p surprise s = .next (settle (wentDown (4 * n.val + p.val) surprise s)) := by
  refine settled ((if_pos ?_).trans rfl)
  rw [hdown, hd]
  rfl

/-- Settles O42: a port comes up, goes down, loses a lane, and returns from Recovery. -/
theorem pcieLinks : Obligations.PcieLinks := by
  unfold Obligations.PcieLinks
  intro s n p hc x u stat
  obtain ⟨hxn, hxp⟩ := port_div n p
  refine ⟨fun rate width rev peer hm hd hrate hw hr => ?_, fun hdown hd => ⟨?_, ?_⟩, fun l hp hd h3 hu => ?_,
    fun t y rev replay ht h4 hy hr => ?_, fun t ht h4 => execPcieRecoveryLimit_of_recovery ht h4⟩
  · obtain ⟨hact, hfc, hdl, hlt, hra, hlw, hfl⟩ := portUp_spec hc hr n.val p.isLt x (rate := rate.val) (by omega) hw rev
      (flitIn peer x s)
    refine ⟨_, execPcieLinkUp_of_trains hc hm hd hrate hw rev peer, ?_, ?_, ?_, ?_, ?_, hfc, hact⟩
    · rw [dlUp_port, hdl]
      rfl
    · exact (pStat_port _ n p _).symm.trans hlt
    · exact (pStat_port _ n p _).symm.trans hra
    · exact (pStat_port _ n p _).symm.trans hlw
    · exact (pStat_port _ n p _).symm.trans hfl
  · exact execPcieLinkDown_of_up hdown hd true
  · exact execPcieLinkDown_of_up hdown hd false
  · have hfail := fun {y} => execPcieLaneFailure_of_used (y := y) hp hd h3 hu
    intro k f
    refine ⟨fun hy => (hfail hy).trans ?_, fun y hy => (hfail hy).trans ?_⟩
    · rw [laneFailed_none]
      rfl
    · rw [laneFailed_some, onPp_failed]
      rfl
  · obtain ⟨down, hdown⟩ := recovered_eq n.val p.val x y rev replay s
    obtain ⟨hlt, hdg⟩ := narrowTold_stat hc n p x y rev replay down hxn hxp
    obtain ⟨huse, hrec⟩ := narrowTold_pp hr n.val p.val x y rev replay down
    obtain ⟨hrep, hdeg⟩ := narrowTold_counts hc n p x y rev replay down hxn hxp
    have hexec := execPcieRecoveryReturn_of_narrow ht h4 hy replay
    rw [hdown] at hexec
    exact ⟨_, hexec, hlt, huse, hrec, (pStat_port _ n p _).symm.trans hdg, hrep, hdeg⟩

end Sys2Proof.Machine
end

section
/-! PROOFS. The reset of a partition and its release (R203, R325, R338, R404, R412, R463, R482). -/

namespace Sys2Proof.Machine

variable {s u : State} {q x : Nat}

/-- The held configuration writes but those of a partition. -/
def heldElsewhere (q : Nat) (s : State) : State :=
  { s with parts := { s.parts with held := s.parts.held.filter (fun w => w.part != q) } }

theorem dropHeld_eq (q : Nat) (s : State) : dropHeld q s =
    let z := heldElsewhere q ((s.parts.held.filter (fun w => w.part == q)).foldl (fun s w => freeCfg w s) s)
    if z.parts.held = [] then endStall z else z := rfl

theorem endStall_parts (s : State) : (endStall s).parts = s.parts := by
  unfold endStall
  split
  · split
    · rfl
    · rfl
  · rfl

theorem heldElsewhere_spec (q : Nat) (s : State) : ∀ w ∈ (heldElsewhere q s).parts.held, w.part ≠ q := by
  intro w hw
  exact bne_iff_ne.1 (List.mem_filter.1 hw).2

theorem dropHeld_held (q : Nat) (s : State) : ∀ w ∈ (dropHeld q s).parts.held, w.part ≠ q := by
  rw [dropHeld_eq]
  dsimp only
  split
  · rw [endStall_parts]
    exact heldElsewhere_spec q _
  · exact heldElsewhere_spec q _

/-- A partition noted as in reset, with its time. -/
def resetNoted (q : Nat) (d : State) : State :=
  { d with parts := { d.parts with
    inReset := q :: d.parts.inReset.filter (fun r => r != q)
    rstAt := Tab.put d.parts.rstAt q d.now
    aerLog := Tab.del d.parts.aerLog q } }

theorem partReset_eq (q x : Nat) (hot : Bool) (s : State) : partReset q x hot s = resetEngines q (resetBridges q
    ((pcieDown x (if hot then 9 else 0) (resetNoted q (dropHeld q (resetLocks q x s)))).resetCfg q)) := rfl

theorem resetNoted_inReset (q : Nat) (d : State) : (resetNoted q d).parts.inReset.contains q = true :=
  List.contains_iff_mem.2 List.mem_cons_self

theorem resetNoted_held (q : Nat) (d : State) : (resetNoted q d).parts.held = d.parts.held := rfl

theorem partReset_spec {d : State} (q x : Nat) (hot : Bool) (hd : d = dropHeld q (resetLocks q x s)) :
    partReset q x hot s = resetEngines q (resetBridges q ((pcieDown x (if hot then 9 else 0) (resetNoted q d)).resetCfg q)) ∧
    (resetNoted q d).parts.inReset.contains q = true ∧ ∀ w ∈ (resetNoted q d).parts.held, w.part ≠ q := by
  refine ⟨?_, resetNoted_inReset q d, ?_⟩
  · rw [hd]
    exact partReset_eq q x hot s
  · rw [resetNoted_held q d, hd]
    exact dropHeld_held q (resetLocks q x s)

section
variable {p : Fin 48} {n m : Nat} (hup : upstreamOf s.act p.val = some (n, m))
include hup

theorem execPartitionReset_of_upstream {c : ResetBy} (hc : c = .perst → perstInput s n = true) :
    execPartitionReset p c s = .next (settle (partReset p.val (4 * n + m) (c == .hot) s)) := by
  unfold execPartitionReset
  rw [hup]
  refine settled (if_neg ?_)
  rintro ⟨hperst, hno⟩
  rw [hc hperst] at hno
  cases hno

theorem execPartitionReset_of_output (hno : perstInput s n = false) : execPartitionReset p .perst s = .next (settle s) := by
  unfold execPartitionReset
  rw [hup]
  exact settled (if_pos ⟨rfl, by rw [hno]; rfl⟩)

end

/-! ## The release (R203) -/

theorem now_reach_le (s : State) (t : Nat) : t ≤ (s.reach t).now := by
  unfold State.reach
  by_cases h : t - s.now = 0
  · rw [h]
    show t ≤ s.now
    omega
  · rw [now_advance h]
    omega

/-- A partition out of reset. -/
def released (q : Nat) (s : State) : State :=
  { s with parts := { s.parts with
    inReset := s.parts.inReset.filter (fun r => r != q)
    rstAt := Tab.del s.parts.rstAt q } }

theorem released_inReset (q : Nat) (s : State) : (released q s).parts.inReset.contains q = false := by
  rw [← Bool.not_eq_true, List.contains_iff_mem]
  intro h
  exact bne_iff_ne.1 (List.mem_filter.1 h).2 rfl

theorem released_now (q : Nat) (s : State) : (released q s).now = s.now := rfl

theorem execPartitionResetRelease_of_up {p : Fin 48} {n m : Nat} (hup : upstreamOf s.act p.val = some (n, m))
    (hin : s.parts.inReset.contains p.val = true) (hd : s.dlUp n m = true) : ∃ k : State,
    execPartitionResetRelease p s = .next (settle ((bridges k.regs.active p.val).foldl (fun s b => match b with
        | .imp i => sendMgmt (importOf s i).2.1 3 false (importOf s i).2.2.1 false [] s
        | _ => s) k)) ∧
    k = released p.val (s.reach (Tab.get 0 s.parts.rstAt p.val + 100000000)) := by
  refine ⟨_, ?_, rfl⟩
  unfold execPartitionResetRelease
  rw [hup]
  exact congrArg Host.Outcome.next (if_pos ⟨hin, hd⟩)

/-- Settles O44: what the reset of a partition does, by which cause, and its release. -/
theorem partitionResets : Obligations.PartitionResets := by
  unfold Obligations.PartitionResets
  intro s q n p hup
  refine ⟨fun c hc => execPartitionReset_of_upstream hup hc, fun hno => execPartitionReset_of_output hup hno,
    fun x hot => ?_, fun hin hd => ?_, fun hin => ?_⟩
  · intro d
    exact partReset_spec q.val x hot (d := d) rfl
  · obtain ⟨k, hexec, hk⟩ := execPartitionResetRelease_of_up hup hin hd
    refine ⟨k, hexec, ?_, ?_⟩
    · rw [hk]
      exact released_inReset q.val (s.reach (Tab.get 0 s.parts.rstAt q.val + 100000000))
    · rw [hk, released_now]
      exact now_reach_le s _
  · show execPartitionResetRelease q s = _
    unfold execPartitionResetRelease
    rw [hup]
    refine congrArg Host.Outcome.next (if_neg ?_)
    rw [hin]
    rintro ⟨h, -⟩
    cases h

end Sys2Proof.Machine
end

section
/-! PROOFS. The spare lane: failure, takeover, re-adaptation and release (R167 to R183). -/

namespace Sys2Proof.Machine

variable {s u : State} {t : Take} {w n f l a : Nat} {v : Word}

/-! ## The words of lanes and of the spare -/

theorem lnStat_ne_spareStat (n l : Nat) (hl : l < 9) (m : Nat) : Reg.SPARE_STAT m ≠ Reg.LN_STAT n l := by
  unfold Reg.SPARE_STAT Reg.LN_STAT
  omega

theorem spareState_congr (h : u.regs = s.regs) (n : Nat) : spareState u n = spareState s n := by
  rw [spareState, spareState, State.livF, State.livF, State.liv, State.liv, h]

theorem laneState_congr (h : u.regs = s.regs) (n l : Nat) : laneState u n l = laneState s n l := by
  rw [laneState, laneState, State.livF, State.livF, State.liv, State.liv, h]

theorem setLane_regs (n l : Nat) (x : Lane) (s : State) : (s.setLane n l x).regs = s.regs := rfl

theorem setLaneState_regs (n l st : Nat) (s : State) :
    (setLaneState n l st s).regs = (s.setLivF (Reg.LN_STAT n l) Fld.LN_STAT_STATE st).regs := rfl

theorem canon_setLaneState (hs : s.regs.canon = true) (n l st : Nat) : (setLaneState n l st s).regs.canon = true := by
  rw [setLaneState_regs]
  exact canon_setLivF hs _ _

theorem spareState_setLaneState (hs : s.regs.canon = true) (hl : l < 9) (n m st : Nat) :
    spareState (setLaneState n l st s) m = spareState s m :=
  (spareState_congr (setLaneState_regs n l st s) m).trans (livF_setLivF_ne hs st (lnStat_ne_spareStat n l hl m))

theorem canon_setSpareState (hs : s.regs.canon = true) (n st k : Nat) : (setSpareState n st k s).regs.canon = true :=
  canon_setLivF (canon_setLivF hs _ _) _ _

theorem spareState_setSpareState (hs : s.regs.canon = true) (n k : Nat) {st : Nat} (h : st < 8) :
    spareState (setSpareState n st k s) n = st := by
  refine (livF_setLivF_apart (canon_setLivF hs (Reg.SPARE_STAT n) st) _ k (by decide) (by decide)).trans ?_
  exact (livF_setLivF_self hs _ st (by decide)).trans (Nat.mod_eq_of_lt h)

theorem spareLane_setSpareState (hs : s.regs.canon = true) (n st : Nat) {k : Nat} (h : k < 16) :
    (setSpareState n st k s).livF (Reg.SPARE_STAT n) Fld.SPARE_STAT_LANE = k :=
  (livF_setLivF_self (canon_setLivF hs (Reg.SPARE_STAT n) st) _ k (by decide)).trans (Nat.mod_eq_of_lt h)

theorem laneState_setSpareState (hs : s.regs.canon = true) (hl : l < 9) (n m st k : Nat) :
    laneState (setSpareState m st k s) n l = laneState s n l :=
  (livF_setLivF_ne (canon_setLivF hs _ _) k (lnStat_ne_spareStat n l hl m).symm).trans
    (livF_setLivF_ne hs st (lnStat_ne_spareStat n l hl m).symm)

/-! ## Failures in their order (R173) -/

theorem laneLogical_lt (s : State) (n l : Nat) : laneLogical s n l < 16 := by
  rw [laneLogical, State.livF, fget, bits]
  exact Nat.mod_lt _ (by decide)

/-- One lane in the order of the logical lanes. -/
theorem flatMap_single {k : Nat} (hk : k < 16) (l : Nat) :
    (List.range 16).flatMap (fun i => [l].filter (fun _ => k == i)) = [l] := by
  interval_cases k <;> rfl

theorem lanesFail_single (s : State) (n l : Nat) : lanesFail n [l] s = laneFails n l s := by
  have horder : (List.range 16).flatMap (fun k => [l].filter (fun l => laneLogical s n l == k)) = [l] := by
    have hfilter (k : Nat) : [l].filter (fun l => laneLogical s n l == k) = [l].filter (fun _ => laneLogical s n l == k) := by
      rw [List.filter_singleton, List.filter_singleton]
    simp only [hfilter]
    exact flatMap_single (laneLogical_lt s n l) l
  rw [lanesFail, horder]
  rfl

/-- A lane that works, or the spare in use, whose failure counts. -/
def failureCounts (n l : Nat) (s : State) : Bool := isFab s n l && (laneState s n l == 7 || (l == 8 && laneState s n l == 8))

theorem laneFails_eq (n l : Nat) (s : State) : laneFails n l s = if failureCounts n l s then
      if l = 8 then spareFails n ((s.bump (Reg.LN_FAILCNT n l)).raiseStn n 0 (lanePort s n l))
      else portLaneFails n (lanePort s n l) l ((s.bump (Reg.LN_FAILCNT n l)).raiseStn n 0 (lanePort s n l))
    else s := rfl

/-! ## The spare takes a lane over (R173, R178) -/

/-- A lane marked as failed. -/
def laneMarked (n l : Nat) (s : State) : State :=
  (setLaneState n l 10 s).setLane n l { (setLaneState n l 10 s).lane n l with good := false }

theorem laneMarked_regs (n l : Nat) (s : State) : (laneMarked n l s).regs = (setLaneState n l 10 s).regs := setLane_regs _ _ _ _

/-- The spare with its record loaded, where it is in place. -/
def spareLoaded (n : Nat) (s : State) : State := if (s.spare n).inPlace then loadRec n 8 s else s

theorem spareLoaded_regs (n : Nat) (s : State) : (spareLoaded n s).regs = s.regs := by
  unfold spareLoaded
  split
  · unfold loadRec
    split
    · exact setLane_regs _ _ _ _
    · rfl
  · rfl

theorem request_regs (n k : Nat) (counts : Bool) (s : State) : (request n k counts s).regs = s.regs := rfl

theorem portLaneFails_of_standby (h : spareState (laneMarked n l s) n = 1) : portLaneFails n 0 l s =
    setSpareState n 2 (laneLogical s n l) (request n (laneLogical s n l) true (spareLoaded n (laneMarked n l s))) := by
  unfold laneMarked at h ⊢
  unfold portLaneFails
  refine (if_neg (not_not.2 rfl)).trans ?_
  rw [h]
  rfl

theorem portLaneFails_standby (hl : l < 8) (hs : s.regs.canon = true) (h1 : spareState s n = 1)
    (hk : laneLogical s n l < 8) : spareState (portLaneFails n 0 l s) n = 2 ∧
    (portLaneFails n 0 l s).livF (Reg.SPARE_STAT n) Fld.SPARE_STAT_LANE = laneLogical s n l ∧
    laneState (portLaneFails n 0 l s) n l = 10 := by
  have hmark : spareState (laneMarked n l s) n = 1 :=
    (spareState_congr (laneMarked_regs n l s) n).trans ((spareState_setLaneState hs (by omega) n n 10).trans h1)
  have hregs : (request n (laneLogical s n l) true (spareLoaded n (laneMarked n l s))).regs = (setLaneState n l 10 s).regs := by
    rw [request_regs, spareLoaded_regs, laneMarked_regs]
  have hc : (request n (laneLogical s n l) true (spareLoaded n (laneMarked n l s))).regs.canon = true := by
    rw [hregs]
    exact canon_setLaneState hs n l 10
  rw [portLaneFails_of_standby hmark]
  refine ⟨spareState_setSpareState hc n _ (by decide), spareLane_setSpareState hc n 2 (by omega), ?_⟩
  rw [laneState_setSpareState hc (by omega), laneState_congr hregs]
  exact laneState_setLaneState hs 10 (by decide)

/-- A spare in STANDBY that fails. -/
def spareLost (n : Nat) (s : State) : State := (setSpareState n 5 15 (s.setSpare n {})).raiseStn n 5 0

theorem spareFails_of_standby (h : spareState (setLaneState n 8 10 s) n = 1) :
    spareFails n s = spareLost n (setLaneState n 8 10 s) := by
  unfold spareFails
  dsimp only
  rw [h]
  rfl

theorem spareFails_standby (hn : n < 24) (hs : s.regs.canon = true) (h1 : spareState s n = 1) : spareState (spareFails n s) n = 5 := by
  have hmark : spareState (setLaneState n 8 10 s) n = 1 := (spareState_setLaneState hs (by decide) n n 10).trans h1
  have hc : ((setLaneState n 8 10 s).setSpare n {}).regs.canon = true := canon_setLaneState hs n 8 10
  have hq : Quiet (Reg.SPARE_STAT n) := by
    unfold Quiet Reg.SPARE_STAT
    omega
  rw [spareFails_of_standby hmark]
  exact ((keepsWord_raiseStn hq hn (by decide) 0 _).livF (canon_setSpareState hc n 5 15) _).trans
    (spareState_setSpareState hc n 15 (by decide))

/-! ## Re-adaptation (R167, R169, R171) -/

theorem mayPass_of {n l ctle : Nat} (hb : inBand s n ctle = true) (hc : cleanRun s n l = true) : mayPass s n l ctle = true := by
  rw [mayPass, hb, hc]
  rfl

/-- The lane that the spare holds. -/
def heldLane (s : State) (n : Nat) : Nat := s.livF (Reg.SPARE_STAT n) Fld.SPARE_STAT_LANE

/-- The search of the spare in place ends. -/
def spareSearched (n : Nat) (pass : Bool) (ctle temp droop : Nat) (taps : List Int) (s : State) : State :=
  if pass then
    if mayPass s n 8 ctle then adapted n 8 ctle temp droop taps (s.setSpare n { s.spare n with inPlace := false }) else s
  else ((setSpareState n 5 15 (setLaneState n 8 10 (s.setSpare n {}))).raiseStn n 0 0).raiseStn n 5 0

/-- The spare keeps the lane whose search has failed. -/
def spareKeeps (n held : Nat) (k : State) : State :=
  (((setSpareState n 2 held (k.setSpare n { k.spare n with counts := true, taken := true, carried := true })).bump
    (Reg.SPARE_TAKECNT n)).raiseStn n 1 0).logDevice (16 * n + 1)

/-- The search of a lane ends whose data is taken from the spare. -/
def laneSearched (n l : Nat) (pass : Bool) (ctle temp droop : Nat) (taps : List Int) (s : State) : State :=
  if pass then
    if mayPass s n l ctle then adapted n l ctle temp droop taps (setSpareState n 1 15 ((setLaneState n l 7 s).setSpare n {})) else s
  else spareKeeps n (heldLane s n) ((setLaneState n l 10 s).raiseStn n 0 0)

/-- A lane back in place of the spare. -/
def laneBack (n l : Nat) (s : State) : State := setSpareState n 1 15 ((setLaneState n l 7 s).setSpare n {})

/-- The search of a lane that is restored ends. -/
def laneRestored (n l : Nat) (pass : Bool) (ctle temp droop : Nat) (taps : List Int) (s : State) : State :=
  if pass then
    if mayPass s n l ctle then
      adapted n l ctle temp droop taps ((laneBack n l s).setLane n l { (laneBack n l s).lane n l with good := true })
    else s
  else (setSpareState n 2 (heldLane s n) (setLaneState n l 10 s)).raiseStn n 0 0

section
variable {n : Fin 24} {l : Nat}

theorem execReadaptComplete_of_inPlace (h1 : spareState s n.val = 1) (hin : (s.spare n.val).inPlace = true) (pass : Bool) (ctle : Fin 16)
    (temp droop : Byte) (taps : List Int) : execReadaptComplete n pass ctle temp droop s taps =
      .next (spareSearched n.val pass ctle.val temp.toNat droop.toNat taps s) :=
  congrArg Host.Outcome.next (if_pos ⟨h1, hin⟩)

theorem execReadaptComplete_of_taken (hl : physical s n.val (heldLane s n.val) = some l) (h3 : spareState s n.val = 3)
    (ht : (s.spare n.val).taken = true) (pass : Bool) (ctle : Fin 16) (temp droop : Byte) (taps : List Int) :
    execReadaptComplete n pass ctle temp droop s taps =
      .next (laneSearched n.val l pass ctle.val temp.toNat droop.toNat taps s) := by
  have h1 : ¬(spareState s n.val = 1 ∧ (s.spare n.val).inPlace = true) := by
    rw [h3]
    rintro ⟨h, -⟩
    cases h
  refine congrArg Host.Outcome.next ((if_neg h1).trans ((if_pos ⟨h3, ht⟩).trans ?_))
  unfold heldLane at hl
  dsimp only
  rw [hl]
  rfl

theorem execRestoreComplete_of_restoring (hl : physical s n.val (heldLane s n.val) = some l) (h4 : spareState s n.val = 4)
    (pass : Bool) (ctle : Fin 16) (temp droop : Byte) (taps : List Int) : execRestoreComplete n pass ctle temp droop s taps =
      .next (laneRestored n.val l pass ctle.val temp.toNat droop.toNat taps s) := by
  refine congrArg Host.Outcome.next ((if_pos h4).trans ?_)
  unfold heldLane at hl
  dsimp only
  rw [hl]
  rfl

end

section
variable {ctle temp droop : Nat} {taps : List Int} (hb : inBand s n ctle = true)
include hb

theorem spareSearched_pass (hc : cleanRun s n 8 = true) : spareSearched n true ctle temp droop taps s =
    adapted n 8 ctle temp droop taps (s.setSpare n { s.spare n with inPlace := false }) :=
  (if_pos rfl).trans (if_pos (mayPass_of hb hc))

theorem laneSearched_pass (hc : cleanRun s n l = true) : laneSearched n l true ctle temp droop taps s =
    adapted n l ctle temp droop taps (setSpareState n 1 15 ((setLaneState n l 7 s).setSpare n {})) :=
  (if_pos rfl).trans (if_pos (mayPass_of hb hc))

theorem laneRestored_pass (hc : cleanRun s n l = true) : laneRestored n l true ctle temp droop taps s =
    adapted n l ctle temp droop taps ((laneBack n l s).setLane n l { (laneBack n l s).lane n l with good := true }) :=
  (if_pos rfl).trans (if_pos (mayPass_of hb hc))

end

theorem spareSearched_fail (ctle temp droop : Nat) (taps : List Int) : spareSearched n false ctle temp droop taps s =
    ((setSpareState n 5 15 (setLaneState n 8 10 (s.setSpare n {}))).raiseStn n 0 0).raiseStn n 5 0 := if_neg Bool.false_ne_true

theorem laneSearched_fail (ctle temp droop : Nat) (taps : List Int) : laneSearched n l false ctle temp droop taps s =
    spareKeeps n (heldLane s n) ((setLaneState n l 10 s).raiseStn n 0 0) := if_neg Bool.false_ne_true

theorem laneRestored_fail (ctle temp droop : Nat) (taps : List Int) : laneRestored n l false ctle temp droop taps s =
    (setSpareState n 2 (heldLane s n) (setLaneState n l 10 s)).raiseStn n 0 0 := if_neg Bool.false_ne_true

/-! ## SPARE_CMD (R179) -/

theorem spareReadapt_of_none {k : Nat} (hk : k ≠ 8) (hp : physical s n k = none) :
    spareReadapt n k s = s.setLivF (Reg.SPARE_STAT n) Fld.SPARE_STAT_CMDREJ 1 := by
  unfold spareReadapt
  rw [if_neg hk, hp]
  rfl

theorem spareReadapt_of_lane {k : Nat} (hk : k ≠ 8) (hp : physical s n k = some l) (h7 : laneState s n l = 7) :
    spareReadapt n k s = setDue n l (2 ^ 20) s := by
  unfold spareReadapt
  rw [if_neg hk, hp, Option.filter_some, if_pos (beq_iff_eq.2 h7)]

theorem spareReadapt_of_spare {k : Nat} (hk : k = 8) : spareReadapt n k s = if spareState s n = 1 then setDue n 8 (2 ^ 20) s
    else s.setLivF (Reg.SPARE_STAT n) Fld.SPARE_STAT_CMDREJ 1 := by
  unfold spareReadapt
  rw [if_pos hk]
  split <;> rfl

theorem spareRelease_of_held {k : Nat} (hk : s.livF (Reg.SPARE_STAT n) Fld.SPARE_STAT_LANE = k) (h15 : k ≠ 15)
    (h2 : spareState s n = 2) (hp : physical s n k = some l) : spareRelease n k s = setSpareState n 4 k (setLaneState n l 9 s) := by
  unfold spareRelease
  rw [if_neg (not_or.2 ⟨not_not.2 hk, h15⟩), if_pos h2, hp]

/-- What a measurement of a lane makes due. -/
def measured (n l : Nat) (temp droop : Byte) (r : Bool × State) : State :=
  let k := r.2.setLiv (Reg.LN_NOW n l) ((r.2.liv (Reg.LN_NOW n l) &&& 0xFFFF0000) ||| BitVec.ofNat 32 (temp.toNat + droop.toNat * 256))
  let rt := fget (k.liv (Reg.LN_REC n l)) Fld.LN_REC_TEMP
  let byTemp := decide (2 * min 30 (max 5 (fget (k.act (Reg.SPARE_CTL n)) Fld.SPARE_CTL_DTEMP)) ≤ max (temp.toNat - rt) (rt - temp.toNat))
  let byDroop := decide (fget (k.liv (Reg.LN_REC n l)) Fld.LN_REC_DROOP + max 2 (fget (k.act (Reg.SPARE_CTL n)) Fld.SPARE_CTL_DDROOP) <
    droop.toNat)
  if byTemp || byDroop || r.1 then setDue n l (2 ^ 17 * b2n byTemp + 2 ^ 18 * b2n byDroop + 2 ^ 19 * b2n r.1) k else k

theorem execReadaptDue_eq (n : Fin 24) (l : Fin 9) (temp droop : Byte) (taps : List Int) (s : State) :
    execReadaptDue n l temp droop taps s = .next (measured n.val l.val temp droop (adaptTaps n.val l.val taps s)) := by
  unfold execReadaptDue
  generalize adaptTaps n.val l.val taps s = r
  obtain ⟨tap, y⟩ := r
  rfl

theorem execLaneFailure_eq (n : Fin 24) (ls : List (Fin 9)) (s : State) :
    execLaneFailure n ls s = .next (settle (lanesFail n.val (ls.map (fun l => l.val)) s)) := rfl

theorem adapted_eq (n l ctle temp droop : Nat) (taps : List Int) (s : State) : adapted n l ctle temp droop taps s =
    ((clearDue n l (writeRec n l ctle temp droop taps s)).raiseStn n 4 0).logDevice (16 * n + 4) := rfl

theorem spareReadaptRule_eff (s : State) (t : Take) (a : Nat) (v : Word) : spareReadaptRule.eff s t a v =
    command (fun z => spareReadapt (stnOf a) (fget v Fld.SPARE_CMD_LANE) (spareCmdWord a v z)) := rfl

theorem spareReleaseRule_eff (s : State) (t : Take) (a : Nat) (v : Word) : spareReleaseRule.eff s t a v =
    command (fun z => spareRelease (stnOf a) (fget v Fld.SPARE_CMD_LANE) (spareCmdWord a v z)) := rfl

/-- Settles O41: the failures of lanes, the takeover, re-adaptation, restoring, and SPARE_CMD. -/
theorem spareLane : Obligations.SpareLane := by
  unfold Obligations.SpareLane
  refine ⟨fun s n ls => execLaneFailure_eq n ls s, lanesFail_single, fun s n l => ⟨fun hf h7 h8 => ?_, fun hf h8 hst => ?_, fun hno => ?_⟩,
    fun s n l hn hl hs h1 hk => ?_, fun s n l temp droop taps => ?_, fun s n l ctle temp droop taps => adapted_eq n l ctle temp droop taps s,
    fun s n l ctle temp droop taps => ⟨fun h1 hin => ⟨fun hb hc => ?_, ?_⟩, fun hl h3 ht => ⟨fun hb hc => ?_, ?_⟩,
      fun hl h4 => ⟨fun hb hc => ?_, ?_⟩⟩,
    fun s t w a v => ⟨fun h => liveStep_done h (spareReadaptRule_eff s t a v), fun h => liveStep_done h (spareReleaseRule_eff s t a v), fun z hk hp => spareReadapt_of_none hk hp,
      fun z l hk hp h7 => spareReadapt_of_lane hk hp h7, fun z hk => spareReadapt_of_spare hk,
      fun z l hk h15 h2 hp => spareRelease_of_held hk h15 h2 hp, fun z hk => if_pos (.inl hk)⟩⟩
  · rw [laneFails_eq, if_pos, if_neg h8]
    rw [failureCounts, hf, h7]
    rfl
  · rw [laneFails_eq, if_pos, if_pos h8]
    subst h8
    rw [failureCounts, hf]
    rcases hst with h | h
    · rw [h]
      rfl
    · rw [h]
      rfl
  · rw [laneFails_eq, if_neg]
    simp only [failureCounts, Bool.and_eq_true, Bool.or_eq_true, beq_iff_eq]
    rintro ⟨hf, hst⟩
    rcases hno with h | ⟨h7, h8⟩
    · rw [h] at hf
      cases hf
    · rcases hst with h | ⟨hl, h⟩
      · exact h7 h
      · exact h8.elim (fun hne => hne hl) (fun hne => hne h)
  · obtain ⟨h2, hlane, h10⟩ := portLaneFails_standby hl hs h1 hk
    exact ⟨h2, hlane, h10, spareFails_standby hn hs h1⟩
  · exact execReadaptDue_eq n l temp droop taps s
  · exact (execReadaptComplete_of_inPlace h1 hin true ctle temp droop taps).trans (congrArg _ (spareSearched_pass hb hc))
  · exact (execReadaptComplete_of_inPlace h1 hin false ctle temp droop taps).trans (congrArg _ (spareSearched_fail _ _ _ taps))
  · exact (execReadaptComplete_of_taken hl h3 ht true ctle temp droop taps).trans (congrArg _ (laneSearched_pass hb hc))
  · exact (execReadaptComplete_of_taken hl h3 ht false ctle temp droop taps).trans (congrArg _ (laneSearched_fail _ _ _ taps))
  · exact (execRestoreComplete_of_restoring hl h4 true ctle temp droop taps).trans (congrArg _ (laneRestored_pass hb hc))
  · exact (execRestoreComplete_of_restoring hl h4 false ctle temp droop taps).trans (congrArg _ (laneRestored_fail _ _ _ taps))

end Sys2Proof.Machine
end

section
/-! PROOFS. The turns of refills read queues that no port has (R296, R297). -/

namespace Sys2Proof.Machine

/-- A queue whose oldest spilled block is to be read back. -/
def queueSpilled : EQueue := { mid := [{ cells := [] }] }

/-- Station 0 with a free segment, and one queue in egress port 0, under key 1024: a number that no queue of a port has. -/
def queueBeyond : State :=
  (State.reset.setLivF (Reg.BUF_SEG 0) Fld.BUF_SEG_FREE 1).onEport 0 (fun e => { e with queues := [(1024, queueSpilled)] })

/-- The refill's turn is the one of queue 0 of egress port 1. -/
theorem refillTurn_queueBeyond : refillTurn queueBeyond 0 = some (1024 * 1 + qKey 0 0) := by decide +kernel

/-- Queue 0 of egress port 1 is empty. -/
theorem wantsRefill_queueBeyond : wantsRefill (queueBeyond.eq (4 * 0 + 1) (qKey 0 0)) = false := by decide +kernel

/-- Refutes O49: nothing asks that the queues of an egress port have keys below 1024, and `refillTurn` numbers a queue by
1024 times its port plus its key. In `queueBeyond` port 0 has one queue, under key 1024; its turn is the one of queue 0 of
port 1, which is empty and wants no refill. -/
theorem not_cellsAndEgressQueues : ¬ Obligations.CellsAndEgressQueues := by
  unfold Obligations.CellsAndEgressQueues
  rintro ⟨-, -, -, -, hturns⟩
  obtain ⟨-, -, -, -, hnone, -⟩ := hturns queueBeyond 0 1 0 0
  exact hnone (.inr wantsRefill_queueBeyond) refillTurn_queueBeyond

end Sys2Proof.Machine
end

section
/-! PROOFS. LINK_CMD, L1, L0p and Downstream Port Containment (R199, R201, R206, R211, R212, R248). -/

namespace Sys2Proof.Machine

variable {s u : State} {t : Take} {w a x : Nat} {v : Word}

/-! ## LINK_CMD (R211, R248) -/

/-- What an accepted LINK_CMD does. -/
def linkBegin (op : Nat) (a : Nat) (v : Word) (z : State) : State :=
  linkCommand (stnOf a) op (fget v Fld.LINK_CMD_PORT) (fget v Fld.LINK_CMD_TWIDTH) (linkCmdWord a v z)

theorem linkStep_refused {op : Nat} (h : AtLive (linkRule op) s t w a v)
    (hr : linkRefused s (stnOf a) op (fget v Fld.LINK_CMD_PORT) (fget v Fld.LINK_CMD_TWIDTH) = true) :
    liveStep (linkRule op) s = .next (endTake .refused (linkCmdWord a v (logLive t a v s))) :=
  liveStep_of_command h (act := linkCmdWord a v) (fin := .stop .refused) (if_pos hr)

theorem linkStep_accepted {op : Nat} (h : AtLive (linkRule op) s t w a v)
    (hr : linkRefused s (stnOf a) op (fget v Fld.LINK_CMD_PORT) (fget v Fld.LINK_CMD_TWIDTH) = false) :
    liveStep (linkRule op) s = .next (linkBegin op a v (startLong
      (if op = 1 then .retrain (stnOf a) (fget v Fld.LINK_CMD_PORT) else .width (stnOf a) (fget v Fld.LINK_CMD_PORT)) true
      ((logLive t a v s).setTake (some (t.mark (logLive t a v s).now))))) :=
  liveStep_of_command h (act := linkBegin op a v)
    (fin := .long (if op = 1 then .retrain (stnOf a) (fget v Fld.LINK_CMD_PORT) else .width (stnOf a) (fget v Fld.LINK_CMD_PORT)))
    (if_neg (by rw [hr]; decide))

/-- The lanes that a port's command finds: of those in use, or of a width. -/
def lanesFound (s : State) (x : Nat) (u : PPort) (bad : List Nat) (c : Option Nat) : Option (List Nat × Bool) :=
  match c with
  | none => narrowTo u.use u.rev bad (u.use.length :: below u.use.length)
  | some tw => narrowTo (List.range (lanesOf s x)) false bad (below (2 * 2 ^ tw))

theorem lanesFound_none (s : State) (x : Nat) (u : PPort) (bad : List Nat) :
    lanesFound s x u bad none = narrowTo u.use u.rev bad (u.use.length :: below u.use.length) := rfl

theorem lanesFound_some (s : State) (x : Nat) (u : PPort) (bad : List Nat) (tw : Nat) :
    lanesFound s x u bad (some tw) = narrowTo (List.range (lanesOf s x)) false bad (below (2 * 2 ^ tw)) := rfl

/-- A port in L0 on the lanes found, its command done. -/
def cmdShown (x : Nat) (l : List Nat) (rev : Bool) (s : State) : State :=
  setP x Fld.PORT_STAT_L0P 0 (setP x Fld.PORT_STAT_LTSSM 3
    (showWidth x l rev (s.onPp x (fun u => { u with cmd := none, bad := [], recAt := none, narrow := 0 }))))

/-- The bandwidth change noted at a downstream port. -/
def bandwidthNoted (x : Nat) (s : State) : State := if isDown s x then bridgeSet x .linkCtl (2 ^ 30) s else s

theorem bandwidthNoted_frame (x : Nat) (s : State) :
    (bandwidthNoted x s).regs = s.regs ∧ (bandwidthNoted x s).dp = s.dp ∧ (bandwidthNoted x s).dir = s.dir := by
  unfold bandwidthNoted
  split
  · exact ⟨rfl, rfl, rfl⟩
  · exact ⟨rfl, rfl, rfl⟩

/-- The end of a command's long operation. -/
def cmdClosed (n p : Nat) (k : State) : State := if longOnPort k n p then endLong k else k

theorem longOnPort_congr (h : u.dir = s.dir) (n p : Nat) : longOnPort u n p = longOnPort s n p := by
  rw [longOnPort, longOnPort, h]

theorem setP_dir (x : Nat) (f : Fld) (k : Nat) (s : State) : (setP x f k s).dir = s.dir := rfl

theorem onPp_dir (x : Nat) (k : PPort → PPort) (s : State) : (s.onPp x k).dir = s.dir := rfl

theorem cmdShown_dir (x : Nat) (l : List Nat) (rev : Bool) (s : State) : (cmdShown x l rev s).dir = s.dir := by
  rw [cmdShown, setP_dir, setP_dir, showWidth_eq, onPp_dir, widthShown, setP_dir, setP_dir, setP_dir, onPp_dir]

section
variable {n : Fin 24} {p : Fin 4} {pass : Fin 65536} {c : Option Nat} (hc : (s.pp (4 * n.val + p.val)).cmd = some c)
include hc

theorem execLinkCmdEnd_of_found {l : List Nat} {rev : Bool}
    (hf : lanesFound s (4 * n.val + p.val) (s.pp (4 * n.val + p.val)) ((List.range 16).filter (fun i => !bit pass.val i)) c =
      some (l, rev)) : execLinkCmdEnd n p pass s =
      .next (settle (cmdClosed n.val p.val (bandwidthNoted (4 * n.val + p.val) (cmdShown (4 * n.val + p.val) l rev s)))) := by
  unfold execLinkCmdEnd
  dsimp only
  rw [hc]
  cases c with
  | none =>
    rw [lanesFound_none] at hf
    dsimp only
    rw [hf]
    rfl
  | some tw =>
    rw [lanesFound_some] at hf
    dsimp only
    rw [hf]
    rfl

theorem execLinkCmdEnd_of_none
    (hf : lanesFound s (4 * n.val + p.val) (s.pp (4 * n.val + p.val)) ((List.range 16).filter (fun i => !bit pass.val i)) c = none) :
    execLinkCmdEnd n p pass s = .next (settle (surpriseDown (4 * n.val + p.val) s)) := by
  unfold execLinkCmdEnd
  dsimp only
  rw [hc]
  cases c with
  | none =>
    rw [lanesFound_none] at hf
    dsimp only
    rw [hf]
  | some tw =>
    rw [lanesFound_some] at hf
    dsimp only
    rw [hf]

end

theorem widthCode_lt (k : Nat) : widthCode k < 8 := by
  unfold widthCode
  split_ifs <;> decide

theorem cmdShown_dp (x : Nat) (l : List Nat) (rev : Bool) (s : State) : (cmdShown x l rev s).dp =
    (showWidth x l rev (s.onPp x (fun u => { u with cmd := none, bad := [], recAt := none, narrow := 0 }))).dp := by
  rw [cmdShown, (setP_frame _ _ _ _).2, (setP_frame _ _ _ _).2]

theorem cmdShown_pp (hr : Tab.rises s.dp.pports = true) (x : Nat) (l : List Nat) (rev : Bool) :
    ((cmdShown x l rev s).pp x).use = l ∧ ((cmdShown x l rev s).pp x).cmd = none := by
  rw [pp_congr (cmdShown_dp x l rev s), showWidth_pp (pports_onPp hr x _), pp_onPp hr]
  exact ⟨rfl, rfl⟩

theorem cmdShown_stat (hs : s.regs.canon = true) (x : Nat) (l : List Nat) (rev : Bool) :
    pStat (cmdShown x l rev s) x Fld.PORT_STAT_LTSSM = 3 ∧
    pStat (cmdShown x l rev s) x Fld.PORT_STAT_LWIDTH = widthCode l.length := by
  have h0 : (s.onPp x (fun u => { u with cmd := none, bad := [], recAt := none, narrow := 0 })).regs.canon = true := by
    rw [(onPp_frame x _ _).1]
    exact hs
  have h1 := canon_showWidth h0 x l rev
  have h2 := canon_setP h1 x Fld.PORT_STAT_LTSSM 3
  constructor
  · rw [cmdShown, pStat_setP_apart h2 _ _ (by decide) (by decide), pStat_setP_self h1 _ _ (by decide)]
    rfl
  · rw [cmdShown, pStat_setP_apart h2 _ _ (by decide) (by decide), pStat_setP_apart h1 _ _ (by decide) (by decide),
      pStat_showWidth h0 _ _ _ (by decide) (by decide) (by decide), pStat_setP_self h0 _ _ (by decide)]
    exact Nat.mod_eq_of_lt (widthCode_lt _)

/-! ## L1 and L0p (R199) -/

theorem l1Sub_lt (s : State) (x : Nat) (clk : Bool) : l1Sub s x clk < 4 := by
  unfold l1Sub
  dsimp only
  split_ifs <;> decide

theorem enterL1_spec (hs : s.regs.canon = true) (x : Nat) (clk : Bool) : ltssm (enterL1 x clk s) x = 5 ∧
    pStat (enterL1 x clk s) x Fld.PORT_STAT_SUB = l1Sub s x clk ∧ (enterL1 x clk s).dp = s.dp ∧ (enterL1 x clk s).out = s.out := by
  have h1 := canon_setP hs x Fld.PORT_STAT_LTSSM 5
  refine ⟨?_, ?_, rfl, rfl⟩
  · rw [ltssm, enterL1, pStat_setP_apart h1 _ _ (by decide) (by decide), pStat_setP_self hs _ _ (by decide)]
    rfl
  · rw [enterL1, pStat_setP_self h1 _ _ (by decide)]
    exact Nat.mod_eq_of_lt (l1Sub_lt s x clk)

/-- A port whose width in use changes by L0p. -/
def l0pShown (x on : Nat) (k : PPort → PPort) (s : State) : State := setP x Fld.PORT_STAT_L0P on (s.onPp x k)

theorem l0pShown_spec (hs : s.regs.canon = true) (hr : Tab.rises s.dp.pports = true) (x : Nat) {on : Nat} (hon : on < 2)
    (k : PPort → PPort) : pStat (l0pShown x on k s) x Fld.PORT_STAT_L0P = on ∧ (l0pShown x on k s).pp x = k (s.pp x) := by
  have h0 : (s.onPp x k).regs.canon = true := by
    rw [(onPp_frame x _ _).1]
    exact hs
  constructor
  · rw [l0pShown, pStat_setP_self h0 _ _ (by decide)]
    exact Nat.mod_eq_of_lt hon
  · rw [l0pShown, pp_congr (setP_frame _ _ _ _).2, pp_onPp hr]

theorem execL0pIdleExpire_of_may {n : Fin 24} {p : Fin 4} (hp : isPcie s (4 * n.val + p.val) = true) (hd : s.dlUp n.val p.val = true)
    (h3 : ltssm s (4 * n.val + p.val) = 3) (hf : pStat s (4 * n.val + p.val) Fld.PORT_STAT_FLIT = 1)
    (hb : bit (bridgeR s (4 * n.val + p.val) .flitL0p) 3 = true) (he : s.actB (Reg.PORT_CFG n.val p.val) Fld.PORT_CFG_L0PEN = true)
    (hl : linkReleased s = true) (hn : (s.pp (4 * n.val + p.val)).narrow < pStat s (4 * n.val + p.val) Fld.PORT_STAT_LWIDTH) :
    execL0pIdleExpire n p s =
      .next (l0pShown (4 * n.val + p.val) 1 (fun u => { u with narrow := u.narrow + 1 }) s) := by
  refine congrArg Host.Outcome.next (if_pos ?_)
  rw [hp, hd, h3, hf, hb, he, hl, decide_eq_true hn]
  rfl

theorem execL0pReturn_of_narrow {n : Fin 24} {p : Fin 4} (hn : 0 < (s.pp (4 * n.val + p.val)).narrow) :
    execL0pReturn n p s = .next (l0pShown (4 * n.val + p.val) 0 (fun u => { u with narrow := 0 }) s) :=
  congrArg Host.Outcome.next (if_pos hn)

/-! ## Downstream Port Containment (R206) -/

theorem execDpcTrigger_of_enabled {n : Fin 24} {p : Fin 4} {fatal : Bool} (hd : isDown s (4 * n.val + p.val) = true)
    (he : bits (bridgeR s (4 * n.val + p.val) .dpcCtl) 16 2 = 2 ∨ bits (bridgeR s (4 * n.val + p.val) .dpcCtl) 16 2 = 1 ∧ fatal = true) :
    execDpcTrigger n p fatal s = .next (settle (dpcTrigger (4 * n.val + p.val) (if fatal then 2 else 1) s)) := by
  refine congrArg Host.Outcome.next (if_pos ?_)
  rw [hd, Bool.true_and, Bool.or_eq_true, Bool.and_eq_true, beq_iff_eq, beq_iff_eq]
  exact he

/-- Settles O43: LINK_CMD, L1, L0p, and Downstream Port Containment. -/
theorem linkCommandsAndPower : Obligations.LinkCommandsAndPower := by
  unfold Obligations.LinkCommandsAndPower
  refine ⟨⟨fun s t w a v op c hop h => ?_, fun s n p pass c => ?_⟩, fun s n p clk hs => ?_⟩
  · have hexec : exec c s = liveStep (linkRule op) s := by
      rcases hop with ⟨rfl, rfl⟩ | ⟨rfl, rfl⟩
      · rfl
      · rfl
    rw [hexec]
    exact ⟨linkStep_refused h, linkStep_accepted h⟩
  · intro x u bad found hc
    refine ⟨fun l rev hf hs hr => ⟨bandwidthNoted x (cmdShown x l rev s), (execLinkCmdEnd_of_found hc hf).trans ?_, ?_, ?_, ?_, ?_⟩,
      fun hf => execLinkCmdEnd_of_none hc hf⟩
    all_goals obtain ⟨hregs, hdp, hdir⟩ := bandwidthNoted_frame x (cmdShown x l rev s)
    · rw [← longOnPort_congr (hdir.trans (cmdShown_dir x l rev s))]
      rfl
    · exact (pStat_congr hregs x _).trans (cmdShown_stat hs x l rev).1
    · rw [pp_congr hdp]
      exact (cmdShown_pp hr x l rev).1
    · rw [pp_congr hdp]
      exact (cmdShown_pp hr x l rev).2
    · exact (pStat_congr hregs x _).trans (cmdShown_stat hs x l rev).2
  · intro x
    refine ⟨fun h1 hu hi => ⟨enterL1 x clk s, ?_, enterL1_spec hs x clk⟩, fun h1 hd => ⟨enterL1 x clk s, ?_, enterL1_spec hs x clk⟩,
      fun h1 => ⟨?_, ?_⟩, fun hp hd h3 hf hb he hl hn hr => ?_, fun hn hr => ?_, fun hd he => execDpcTrigger_of_enabled hd (.inl he),
      fun hd he => execDpcTrigger_of_enabled hd (he.symm.imp_right (fun h => ⟨h, rfl⟩)), fun hon r => if_pos hon, fun hno => ?_, fun hyes => ?_⟩
    · exact congrArg Host.Outcome.next (if_pos (by rw [h1, hu, hi]; rfl))
    · exact congrArg Host.Outcome.next (if_pos (by rw [h1, hd]; rfl))
    · exact congrArg Host.Outcome.next (if_neg (by rw [h1]; exact Bool.false_ne_true))
    · exact congrArg Host.Outcome.next (if_neg (by rw [h1]; exact Bool.false_ne_true))
    · obtain ⟨hl0p, hpp⟩ := l0pShown_spec hs hr x (on := 1) (by decide) (fun u => { u with narrow := u.narrow + 1 })
      exact ⟨_, execL0pIdleExpire_of_may hp hd h3 hf hb he hl hn, hl0p, congrArg PPort.narrow hpp⟩
    · obtain ⟨hl0p, hpp⟩ := l0pShown_spec hs hr x (on := 0) (by decide) (fun u => { u with narrow := 0 })
      exact ⟨_, execL0pReturn_of_narrow hn, hl0p, congrArg PPort.narrow hpp⟩
    · exact congrArg Host.Outcome.next (if_neg (by rw [hno]; exact Bool.false_ne_true))
    · exact congrArg Host.Outcome.next (if_pos hyes)

end Sys2Proof.Machine
end

section
/-! PROOFS. The states of a lane in bring-up, its commas and its timers (R156 to R168, R173, R218, R247). -/

namespace Sys2Proof.Machine

variable {s u v : State} {n f l a : Nat}

/-! ## The passing of time -/

section
variable (hq : Quiet a)
include hq

theorem keepsWord_tickWaits (k i : Nat) (s : State) : KeepsWord a s (tickWaits k i s) := by
  have hperf (code : Nat) (occs : List (Option Nat × Occ × Nat)) (s : State) : KeepsWord a s (perfAny i code occs s) := by
    unfold perfAny
    refine .ite (.refl s) (foldl_rel KeepsWord.refl KeepsWord.trans (fun s c => ?_) _ s)
    extract_lets x
    exact .ite (.refl s) (keepsWord_perfAdd hq i c _ s)
  unfold tickWaits
  refine .ite (.refl s) (.ite ?_ (.ite (hperf _ _ s) (.ite (keepsWord_perf hq i 3 none k {} s) (.refl s))))
  extract_lets ports s1
  exact (hperf _ _ s).trans (hperf _ _ s1)

theorem keepsWord_fixTick (k i : Nat) (s : State) : KeepsWord a s (fixTick k i s) := by
  have hlt : a < 0x780000 := by unfold Quiet at hq; omega
  have hfix : a < Reg.PC_FIX_LO i := by unfold Reg.PC_FIX_LO; omega
  have hovf : a ≠ Reg.PC_OVF i := by unfold Reg.PC_OVF; omega
  unfold fixTick
  refine .ite ?_ (.refl s)
  extract_lets c s1
  have h1 : KeepsWord a s s1 := keepsWord_setLiv64 s _ (by omega) (by omega)
  exact .ite (h1.trans (keepsWord_setLiv s1 _ hovf)) h1

omit hq in
theorem keepsWord_driftBw (hbw : a ≠ Reg.GLB_DRIFT_BW) (k : Nat) (s : State) : KeepsWord a s (driftBw k s) := by
  unfold driftBw
  extract_lets d rate
  exact .ite (.refl s) ((keepsWord_setLivN s _ hbw).trans (.of_regs rfl))

omit hq in
theorem keepsWord_clocks (k ft : Nat) (y : TimeSync) (s : State) :
    KeepsWord a s { s with now := s.now + k, ft := ft, dp := { s.dp with time := y } } := .of_regs rfl

theorem keepsWord_tickWaitsAll (k : Nat) (s : State) : KeepsWord a s (forUpto 74 (tickWaits k) s) :=
  forUpto_rel (R := KeepsWord a) KeepsWord.refl KeepsWord.trans (f := tickWaits k) (fun i z => keepsWord_tickWaits hq k i z) 74 s

theorem keepsWord_fixTickAll (k : Nat) (s : State) : KeepsWord a s (forUpto 74 (fixTick k) s) :=
  forUpto_rel (R := KeepsWord a) KeepsWord.refl KeepsWord.trans (f := fixTick k) (fun i z => keepsWord_fixTick hq k i z) 74 s

theorem keepsWord_advance (hbw : a ≠ Reg.GLB_DRIFT_BW) (k : Nat) (s : State) : KeepsWord a s (s.advance k) := by
  unfold State.advance
  refine .ite (.refl s) ?_
  extract_lets e ft s1
  have h1 : KeepsWord a s s1 := (keepsWord_tickWaitsAll hq k s).trans (keepsWord_driftBw hbw k _)
  exact (h1.trans (keepsWord_clocks k ft e.2 s1)).trans (keepsWord_fixTickAll hq k _)

theorem keepsWord_reach (hbw : a ≠ Reg.GLB_DRIFT_BW) (t : Nat) (s : State) : KeepsWord a s (s.reach t) :=
  keepsWord_advance hq hbw _ s

end

theorem OnlyTime.bring (h : OnlyTime s u) : u.dp.bring = s.dp.bring := by
  obtain ⟨_, _, _, _, _, rfl⟩ := h
  rfl

theorem onlyTime_reach (s : State) (t : Nat) : OnlyTime s (s.reach t) := onlyTime_advance s _

theorem flState_reach (hs : s.regs.canon = true) (hn : n < 24) (hf : f < 2) (t : Nat) : (s.reach t).flState n f = s.flState n f := by
  have hq : Quiet (Reg.FL_STAT n f) := by
    unfold Quiet Reg.FL_STAT
    omega
  exact (keepsWord_reach hq (by unfold Reg.FL_STAT Reg.GLB_DRIFT_BW; omega) t s).livF hs _

theorem lanePort_reach (s : State) (t n l : Nat) : lanePort (s.reach t) n l = lanePort s n l := by
  have hact : (s.reach t).act = s.act := by
    funext b
    rw [State.act, State.act, (onlyTime_reach s t).active]
  unfold lanePort fabLanes
  rw [hact]

theorem lanePort_lt (s : State) (n l : Nat) : lanePort s n l < 2 := by
  unfold lanePort
  split
  · decide
  · cases h : firstBelow 2 (fun f => (fabLanes s n f).contains l) with
    | none => decide
    | some f => exact firstBelow_lt h

/-! ## A timer that expires on a port that is not working (R164) -/

/-- The records of bring-up and the time stay. -/
def SameBring (s u : State) : Prop := u.dp.bring = s.dp.bring ∧ u.now = s.now

theorem SameBring.refl (s : State) : SameBring s s := ⟨rfl, rfl⟩

theorem SameBring.trans (h : SameBring s u) (k : SameBring u v) : SameBring s v := ⟨k.1.trans h.1, k.2.trans h.2⟩

theorem SameBring.ite {c : Prop} {_ : Decidable c} (h : SameBring s u) (k : SameBring s v) : SameBring s (if c then u else v) := by
  split
  · exact h
  · exact k

theorem sameBring_setLivF (b : Nat) (g : Fld) (x : Nat) (s : State) : SameBring s (s.setLivF b g x) := ⟨rfl, rfl⟩

theorem sameBring_setLane (n l : Nat) (x : Lane) (s : State) : SameBring s (s.setLane n l x) := ⟨rfl, rfl⟩

theorem sameBring_setSpare (n : Nat) (x : Spare) (s : State) : SameBring s (s.setSpare n x) := ⟨rfl, rfl⟩

theorem sameBring_onLnk (n f : Nat) (g : Link → Link) (s : State) : SameBring s (s.onLnk n f g) := ⟨rfl, rfl⟩

theorem sameBring_setLaneState (n l st : Nat) (s : State) : SameBring s (setLaneState n l st s) :=
  (sameBring_setLivF _ _ _ s).trans (sameBring_setLane n l _ _)

theorem sameBring_setSpareState (n st k : Nat) (s : State) : SameBring s (setSpareState n st k s) :=
  (sameBring_setLivF _ _ _ s).trans (sameBring_setLivF _ _ _ _)

theorem sameBring_spareTakes (n l : Nat) (s : State) : SameBring s (spareTakes n l s) := by
  unfold spareTakes
  exact (((sameBring_setLivF _ _ _ s).trans (sameBring_setLaneState n l 10 _)).trans (sameBring_setSpare n _ _)).trans
    (sameBring_setSpareState n 2 _ _)

theorem sameBring_twiceFailed (n f l : Nat) (s : State) : SameBring s (twiceFailed n f l s) := by
  unfold twiceFailed
  refine .ite (.ite (sameBring_spareTakes n l s) (.refl s)) ?_
  dsimp only
  split
  · exact ((sameBring_setLane n l _ s).trans (sameBring_setLivF _ _ _ _)).trans (sameBring_onLnk n f _ _)
  · exact sameBring_setLane n l _ s

/-- A lane's timer expired: the port's lanes in bring-up back to DETECT. -/
def lanesDetect (n f l : Nat) (s : State) : State :=
  (fabLanes s n f).foldl (fun s o => if o = l ∨ (3 ≤ laneState s n o ∧ laneState s n o ≤ 7) then setLaneState n o 1 s else s) s

theorem sameBring_lanesDetect (n f l : Nat) (s : State) : SameBring s (lanesDetect n f l s) :=
  foldl_rel (R := SameBring) SameBring.refl SameBring.trans
    (f := fun s o => if o = l ∨ (3 ≤ laneState s n o ∧ laneState s n o ≤ 7) then setLaneState n o 1 s else s)
    (fun s o => .ite (sameBring_setLaneState n o 1 s) (.refl s)) (fabLanes s n f) s

/-- A failure of the lane counted. -/
def failureCounted (n f l fails : Nat) (s : State) : State :=
  if 2 ≤ fails then twiceFailed n f l (s.setLane n l { s.lane n l with fails := fails })
  else s.setLane n l { s.lane n l with fails := fails }

theorem sameBring_failureCounted (n f l fails : Nat) (s : State) : SameBring s (failureCounted n f l fails s) :=
  .ite ((sameBring_setLane n l _ s).trans (sameBring_twiceFailed n f l _)) (sameBring_setLane n l _ s)

/-- A lane's expiry, before the port counts it. -/
def laneExpired (n f l st : Nat) (s : State) : State :=
  failureCounted n f l (if st ≤ 4 then ((lanesDetect n f l s).lane n l).fails + 1 else 0) (lanesDetect n f l s)

theorem sameBring_laneExpired (n f l st : Nat) (s : State) : SameBring s (laneExpired n f l st s) :=
  (sameBring_lanesDetect n f l s).trans (sameBring_failureCounted n f l _ _)

/-- The event of the eighth expiry. -/
def expiryTold (n f : Nat) (s : State) : State :=
  if ((s.bring n f).failed || decide (8 ≤ (s.bring n f).expiries + 1)) && !(s.bring n f).failed then s.raiseStn n 6 f else s

/-- An expiry counted at its port. -/
def expiryCounted (n f : Nat) (s : State) : State :=
  (expiryTold n f s).setBring n f { s.bring n f with
    expiries := (s.bring n f).expiries + 1
    failed := (s.bring n f).failed || decide (8 ≤ (s.bring n f).expiries + 1)
    waiting := (s.bring n f).failed || decide (8 ≤ (s.bring n f).expiries + 1)
    at_ := (expiryTold n f s).now }

theorem OnlyEvents.now (h : OnlyEvents s u) : u.now = s.now := by
  obtain ⟨_, _, _, _, rfl⟩ := h
  rfl

theorem sameBring_expiryTold (n f : Nat) (s : State) : SameBring s (expiryTold n f s) := by
  have hevt := onlyEvents_raiseStn s n 6 f
  exact .ite ⟨congrArg DataPath.bring hevt.log.dp, hevt.now⟩ (.refl s)

theorem bring_setBring (hr : Tab.rises s.dp.bring = true) (n f : Nat) (x : Bringup) : (s.setBring n f x).bring n f = x :=
  Tab.get_set_self _ x hr

theorem setBring_now (n f : Nat) (x : Bringup) (s : State) : (s.setBring n f x).now = s.now := rfl

theorem expiryCounted_spec (hr : Tab.rises s.dp.bring = true) (n f : Nat) :
    ((expiryCounted n f s).bring n f).expiries = (s.bring n f).expiries + 1 ∧
    ((expiryCounted n f s).bring n f).failed = ((s.bring n f).failed || decide (8 ≤ (s.bring n f).expiries + 1)) ∧
    ((expiryCounted n f s).bring n f).waiting = ((s.bring n f).failed || decide (8 ≤ (s.bring n f).expiries + 1)) ∧
    ((expiryCounted n f s).bring n f).at_ = (expiryCounted n f s).now ∧ (expiryCounted n f s).now = s.now := by
  obtain ⟨hb, hn⟩ := sameBring_expiryTold n f s
  have hself := fun x => bring_setBring (s := expiryTold n f s) (by rw [hb]; exact hr) n f x
  rw [expiryCounted, hself, setBring_now]
  exact ⟨rfl, rfl, rfl, rfl, hn⟩

theorem bring_congr (h : u.dp.bring = s.dp.bring) (n f : Nat) : u.bring n f = s.bring n f := by
  rw [State.bring, State.bring, h]

/-! ## Timers (R164) -/

/-- A timer that expires on a port that does not work, or whose lane the port uses. -/
def timerEnds (n f l st : Nat) (r : State) : State :=
  if decide (2 ≤ r.flState n f) then toTrain n f (expiryCounted n f (laneExpired n f l st r))
  else expiryCounted n f (laneExpired n f l st r)

/-- A timer that expires: the spare's, a working port's beside its use, or another. -/
def timerExpired (n l st : Nat) (r : State) : State :=
  if l = 8 then setSpareState n 5 15 ((setLaneState n 8 1 r).setSpare n {})
  else if decide (2 ≤ r.flState n (lanePort r n l)) && !(r.lnk n (lanePort r n l)).use.contains l then
    if st = 6 then r else setLaneState n l 1 r
  else timerEnds n (lanePort r n l) l st r

theorem execLaneTimerExpire_of_timer {n : Fin 24} {l : Fin 9} {d : Nat} (hf : isFab s n.val l.val = true)
    (hd : laneTimer (laneState s n.val l.val) = some d) : execLaneTimerExpire n l s =
      .next (settle (timerExpired n.val l.val (laneState s n.val l.val) (s.reach ((s.lane n.val l.val).since + d)))) := by
  unfold execLaneTimerExpire
  dsimp only
  rw [hd]
  exact settled (if_neg (by rw [hf]; decide))

/-- What an expiry on a port that does not work leaves (R164). -/
theorem timerExpired_notWorking (hs : s.regs.canon = true) (hr : Tab.rises s.dp.bring = true) (hn : n < 24) (hl : l ≠ 8) (st t : Nat)
    (h2 : s.flState n (lanePort s n l) < 2) :
    let u := timerExpired n l st (s.reach t)
    let f := lanePort s n l
    t ≤ u.now ∧ (u.bring n f).expiries = (s.bring n f).expiries + 1 ∧
    (u.bring n f).failed = ((s.bring n f).failed || decide (8 ≤ (s.bring n f).expiries + 1)) ∧
    (u.bring n f).waiting = ((s.bring n f).failed || decide (8 ≤ (s.bring n f).expiries + 1)) ∧ (u.bring n f).at_ = u.now := by
  have hport := lanePort_reach s t n l
  have hst : ¬2 ≤ (s.reach t).flState n (lanePort s n l) := by
    rw [flState_reach hs hn (lanePort_lt s n l)]
    omega
  have hu : timerExpired n l st (s.reach t) = expiryCounted n (lanePort s n l) (laneExpired n (lanePort s n l) l st (s.reach t)) := by
    rw [timerExpired, if_neg hl, hport, decide_eq_false hst, Bool.false_and, if_neg Bool.false_ne_true, timerEnds, decide_eq_false hst,
      if_neg Bool.false_ne_true]
  obtain ⟨hb, hnow⟩ := sameBring_laneExpired n (lanePort s n l) l st (s.reach t)
  have hbring : (laneExpired n (lanePort s n l) l st (s.reach t)).dp.bring = s.dp.bring := hb.trans (onlyTime_reach s t).bring
  obtain ⟨he, hf, hw, hat, hn'⟩ := expiryCounted_spec (s := laneExpired n (lanePort s n l) l st (s.reach t)) (by rw [hbring]; exact hr)
    n (lanePort s n l)
  rw [bring_congr hbring] at he hf hw
  rw [hu]
  refine ⟨?_, he, hf, hw, hat⟩
  rw [hn', hnow]
  exact now_reach_le s t

/-! ## Commas (R156 to R158, R173, R218) -/

/-- A comma taken in, or missed. -/
def commaTaken (n f l : Nat) (ok flip : Bool) (w : Nat) (k : State) : State :=
  if ok then commaIn n f l flip w (k.setLane n l { k.lane n l with missed := 0 })
  else k.setLane n l { k.lane n l with commas := 0, sreq := none, missed := (k.lane n l).missed + 1 }

/-- A lane that its commas make fail. -/
def commaJudged (n l : Nat) (r : State) : State := if commaFails r n l then laneFails n l r else r

/-- The polarity that a comma is read with. -/
def commaFlip (n l : Nat) (inv : Bool) (k : State) : Bool :=
  if laneState k n l = 3 then inv else k.livB (Reg.LN_STAT n l) Fld.LN_STAT_POLINV

/-- The identity word of a comma. -/
def commaRead (flip : Bool) (id : Word) : Nat := (if flip then id ^^^ 0xAAAAAAAA else id).toNat

/-- The symbols that a comma corrected counted. -/
def commaCounted (n l ser : Nat) (s : State) : State :=
  countSer n l ser (perf n 0x0E (some (lanePort s n l)) ser {} (s.bump (Reg.LN_SERCNT n l) ser))

theorem execCommaReceive_of_align {n : Fin 24} {l : Fin 9} (hf : isFab s n.val l.val = true) (h3 : 3 ≤ laneState s n.val l.val)
    (sync inv : Bool) (id : Word) (ser : Nat) : execCommaReceive n l sync inv id 48 ser s =
      .next (settle (commaJudged n.val l.val (commaTaken n.val (lanePort s n.val l.val) l.val
        (sync && commaCrcOk (commaRead (commaFlip n.val l.val inv (commaCounted n.val l.val ser s)) id))
        (commaFlip n.val l.val inv (commaCounted n.val l.val ser s))
        (commaRead (commaFlip n.val l.val inv (commaCounted n.val l.val ser s)) id) (commaCounted n.val l.val ser s)))) := by
  have hfill : ∀ q : Prop, ¬(48 < 48 ∧ q) := fun q h => absurd h.1 (by decide)
  refine settled ((if_pos (by rw [hf, decide_eq_true h3]; rfl)).trans ?_)
  dsimp only
  rw [if_neg (hfill _)]
  rfl

section
variable {inv : Bool} {w : Nat} (hl : l ≠ 8)

/-- The identity of a comma shown. -/
def identityShown (n l : Nat) (inv : Bool) (w : Nat) (z : State) : State :=
  (z.setLivF (Reg.LN_STAT n l) Fld.LN_STAT_POLINV (b2n inv)).setLivF (Reg.LN_STAT n l) Fld.LN_STAT_LOGICAL (bits w 0 4)

/-- A comma in ALIGN, its identity shown. -/
def alignJudged (n f l : Nat) (ok : Bool) (k : State) : State :=
  if ok then
    if (k.lane n l).commas + 1 < 3 then k.setLane n l { k.lane n l with commas := (k.lane n l).commas + 1 }
    else if k.flState n f = 5 then setLaneState n l 5 k
    else if l = 8 then spareReady n (beginEq n l k)
    else beginEq n l k
  else if l = 8 then (setSpareState n 5 15 (setLaneState n 8 0 k)).raiseStn n 5 0
  else (k.setLane n l { k.lane n l with commas := 0 }).raiseStn n 7 f

theorem alignComma_eq (n f l : Nat) (inv : Bool) (w : Nat) (z : State) :
    alignComma n f l inv w z = alignJudged n f l (identityOk z n f l (bits w 0 4)) (identityShown n l inv w z) := rfl

include hl

theorem alignJudged_third {k : State} (hc : 2 ≤ (k.lane n l).commas) (h5 : k.flState n f ≠ 5) :
    alignJudged n f l true k = beginEq n l k :=
  (if_pos rfl).trans ((if_neg (by omega)).trans ((if_neg h5).trans (if_neg hl)))

theorem alignJudged_refused (k : State) :
    alignJudged n f l false k = (k.setLane n l { k.lane n l with commas := 0 }).raiseStn n 7 f :=
  (if_neg Bool.false_ne_true).trans (if_neg hl)

omit hl in
theorem alignJudged_next {k : State} (hc : (k.lane n l).commas < 2) :
    alignJudged n f l true k = k.setLane n l { k.lane n l with commas := (k.lane n l).commas + 1 } :=
  (if_pos rfl).trans (if_pos (by omega))

end

/-! ## The other transitions -/

section
variable {n : Fin 24} {l : Fin 9} (hf : isFab s n.val l.val = true)
include hf

theorem execLaneEnergyDetect_of_detect (h1 : laneState s n.val l.val = 1)
    (hw : (s.bring n.val (lanePort s n.val l.val)).waiting = false) :
    execLaneEnergyDetect n l s = .next (setLaneState n.val l.val 2 s) :=
  congrArg Host.Outcome.next (if_pos (by rw [hf, h1, hw]; rfl))

theorem execLaneCdrLock_of_cdr (h2 : laneState s n.val l.val = 2) :
    execLaneCdrLock n l s = .next (setLaneState n.val l.val 3 s) :=
  congrArg Host.Outcome.next (if_pos (by rw [hf, h2]; rfl))

theorem execEqConverge_of_eq {ctle : Fin 16} (h4 : laneState s n.val l.val = 4)
    (h1 : (ctleBand (s.stnRec n.val).loss).1 ≤ ctle.val) (h2 : ctle.val ≤ (ctleBand (s.stnRec n.val).loss).2)
    (hc : cleanRun s n.val l.val = true) (temp droop : Byte) (taps : List Int) : execEqConverge n l ctle temp droop s taps =
      .next (setLaneState n.val l.val 5 (writeRec n.val l.val ctle.val temp.toNat droop.toNat taps s)) := by
  have hband : inBand s n.val ctle.val = true := by
    rw [inBand, decide_eq_true h1, decide_eq_true h2]
    rfl
  exact congrArg Host.Outcome.next (if_pos (by rw [hf, h4, hband, hc]; rfl))

theorem execFailedLaneRetry_of_failed {m : Fin 8} (hm : m.val = l.val)
    (hd : s.livB (Reg.FL_STAT n.val (lanePort s n.val l.val)) Fld.FL_STAT_DEGRADED = true)
    (hu : (s.lnk n.val (lanePort s n.val l.val)).use.contains l.val = false)
    (hbad : laneState s n.val l.val = 10 ∨ (s.lane n.val l.val).good = false) : execFailedLaneRetry n m s =
      .next (setLaneState n.val l.val 1 (s.reach ((s.lane n.val l.val).since + 100000000))) := by
  unfold execFailedLaneRetry
  rw [hm]
  refine congrArg Host.Outcome.next (if_pos ?_)
  rw [hf, hd, hu]
  rcases hbad with h | h
  · rw [h]
    rfl
  · rw [h]
    simp only [Bool.not_false, Bool.or_true, Bool.and_self]

end

/-- Settles O39: the transitions of a lane, its commas, and its timers. -/
theorem laneBringUp : Obligations.LaneBringUp := by
  unfold Obligations.LaneBringUp
  refine ⟨fun s n l hf hs => ?_, fun z n f l inv w hl => ⟨fun ho hc h5 => ?_, fun ho hc => ?_, fun ho => ?_⟩⟩
  · intro st f x b
    refine ⟨fun h1 hw => execLaneEnergyDetect_of_detect hf h1 hw, fun h2 => execLaneCdrLock_of_cdr hf h2,
      fun sync inv id ser h3 => execCommaReceive_of_align hf h3 sync inv id ser,
      fun ctle temp droop taps h4 hlo hhi hc => execEqConverge_of_eq hf h4 hlo hhi hc temp droop taps,
      fun d h8 hd => (execLaneTimerExpire_of_timer hf hd).trans (congrArg (fun z => Host.Outcome.next (settle z)) (if_pos h8)),
      fun d h8 hd h2 hr => ⟨_, execLaneTimerExpire_of_timer hf hd, timerExpired_notWorking hs hr n.isLt h8 st _ h2⟩,
      fun d h8 hd => ?_, fun m hm hd hu hbad => execFailedLaneRetry_of_failed hf hm hd hu hbad⟩
    intro r h2 hu
    refine (execLaneTimerExpire_of_timer hf hd).trans (congrArg (fun z => Host.Outcome.next (settle z)) ((if_neg h8).trans (if_pos ?_)))
    rw [decide_eq_true h2, hu]
    rfl
  · rw [alignComma_eq, ho]
    exact alignJudged_third hl hc h5
  · rw [alignComma_eq, ho]
    exact alignJudged_next hc
  · rw [alignComma_eq, ho]
    exact alignJudged_refused hl _

end Sys2Proof.Machine
end
